-- ==== Sys2Proof/Word.lean ====
section
/-! DEFINITION. The word types of the console link and the plainest pairs the spec's tables use. -/

namespace Sys2Proof

/-- One byte of the console link (R1). -/
abbrev Byte := BitVec 8
/-- A two-byte field of the console link. -/
abbrev Half := BitVec 16
/-- A four-byte field of the console link; also the seconds counter's width (00_scope, "Time"). -/
abbrev Word := BitVec 32

/-- NORTH or SOUTH: a leaf, a road approach, or a pump group (group 0 is NORTH, group 1 SOUTH). -/
inductive Leaf where
  | north
  | south
deriving DecidableEq, Repr

/-- SEAWARD or LANDWARD: a side of the channel. -/
inductive Side where
  | seaward
  | landward
deriving DecidableEq, Repr

/-- One value for each leaf. -/
structure PerLeaf (α : Type) where
  north : α
  south : α
deriving DecidableEq, Repr

/-- One value for each side of the channel. -/
structure PerSide (α : Type) where
  seaward : α
  landward : α
deriving DecidableEq, Repr

/-- The value held for leaf `l`. -/
def PerLeaf.get {α : Type} (p : PerLeaf α) : Leaf → α
  | .north => p.north
  | .south => p.south

/-- `p` with leaf `l`'s value replaced. -/
def PerLeaf.set {α : Type} (p : PerLeaf α) (l : Leaf) (x : α) : PerLeaf α :=
  match l with
  | .north => { p with north := x }
  | .south => { p with south := x }

/-- The value held for side `d`. -/
def PerSide.get {α : Type} (p : PerSide α) : Side → α
  | .seaward => p.seaward
  | .landward => p.landward

/-- `p` with side `d`'s value replaced. -/
def PerSide.set {α : Type} (p : PerSide α) (d : Side) (x : α) : PerSide α :=
  match d with
  | .seaward => { p with seaward := x }
  | .landward => { p with landward := x }

/-- The opposite side of the channel. -/
def Side.other : Side → Side
  | .seaward => .landward
  | .landward => .seaward

end Sys2Proof
end

