-- ==== Sys2Proof/Config.lean ====
section
/-! DEFINITION. What the manual leaves open as a value: constants with no body, so that every claim
holds whatever they are. -/

namespace Sys2Proof

/-- DESIGN CHOICE (note 16): the spec gives the seconds counter 32 bits and does not say what it holds
after the advance from 4294967295; that one value is free. -/
opaque Config.secondsAfterLast : Word

/-- DESIGN CHOICE (note 40): the current (mA) that ends a proving whose 20 ms a tick completes (R190, R191), one for each
such end. It comes from the circuit outside, and no command brought it; each of these values is free. -/
opaque Config.provingReading : Nat → Half

end Sys2Proof
end

