-- ==== Sys2Proof/Syntax.lean ====
section
/-! DEFINITION. The commands of the block: one constructor for each row of spec/opcode_table.json, with the
operands the row's rule gives it. A request row carries the request's fields at the widths they have on
the console link (so that a value out of range can be refused RANGE); an event row names the arm, zone, bolt or
leaf it happens to, and what the outside brings with it. -/

namespace Sys2Proof

/-- The three straps as sampled when start-up begins (R36 step 1). -/
structure Straps where
  baud0 : Bool
  baud1 : Bool
  maintEn : Bool
deriving DecidableEq, Repr

/-- What one encoder line holds at the end of an encoder period (R123). -/
inductive EncoderReply where
  /-- No reply has begun. -/
  | silent
  /-- A reply has begun but is incomplete, or its check does not match. -/
  | corrupt
  /-- A complete reply with a good check and this signed value in 0.01 degree. -/
  | reading (value : Half)
deriving DecidableEq, Repr

/-- The two position switches of a bolt (section 5.1). -/
inductive BoltSwitch where
  | driven
  | withdrawn
deriving DecidableEq, Repr

/-- The commands, in the order of spec/opcode_table.json. -/
inductive Instr where
  | powerOn (straps : Straps) (fieldSupply : Bool)
  | hardResetAssert
  | hardResetRelease (straps : Straps) (fieldSupply : Bool)
  | startupEnd
  | softResetEffect
  | frameComplete (check : Byte)
  | lengthByteError (length : Byte)
  | gapTimeout
  | replyEnd
  | identify
  | status
  | counters
  | logon (level : Byte) (code : Word)
  | logoff
  | freeze
  | paramRead (start count : Byte)
  | paramWrite (start : Byte) (values : List Word)
  | paramCommit
  | commitEnd (readBackGood : Bool)
  | paramDefaults
  | restart
  | closeRoad
  | openRoad
  | roadRead
  | armRetry (arm : Byte)
  | armServiceOut (arm : Byte)
  | armServiceReturn (arm : Byte)
  | zoneBypassSet (zone : Byte)
  | zoneBypassClear (zone : Byte)
  | pumpsStart
  | pumpsStop
  | lockRetry
  | raise
  | raiseExplicit (target : Half)
  | lower
  | stop
  | tripClear
  | leafRead
  | measureRead
  | vesselReport (identity : Word) (side : Byte) (airDraught : Half)
  | vesselRead (cursor : Byte)
  | vesselClear (mask : Byte)
  | join (identity : Word) (side cls : Byte) (airDraught : Half)
  | withdraw (identity : Word)
  | classFloor (floor : Byte)
  | tide (level : Half)
  | formBatch
  | abandonBatch
  | queueRead (side cls : Byte)
  | batchRead
  | vesselPassed (identity : Word)
  | channelRead
  | circuitRead
  | circuitTest (circuit : Byte)
  | healthRead
  | healthSet (actuator value : Byte)
  | armDownLimitMade (arm : Fin 8)
  | armUpLimitMade (arm : Fin 8)
  | armDownLimitReleased (arm : Fin 8)
  | armDisplaced (arm : Fin 8)
  | armUpLimitReleased (arm : Fin 8)
  | upLimitLost (arm : Fin 8)
  | armStrokeTimeout (arm : Fin 8)
  | obstructionEdgeActive (arm : Fin 8)
  | relowerWaitExpiry (arm : Fin 8)
  | armRelower (arm : Fin 8)
  | estopAsserted
  | zoneOccupancyInput (zone : Fin 6) (occupied : Bool)
  | zoneFilterExpiry (zone : Fin 6)
  | zoneFaultActive (zone : Fin 6)
  | zoneFaultInactive (zone : Fin 6)
  | zoneFaultEnd (zone : Fin 6)
  | dwellWaitExpiry
  | prewarnExpiry
  | entryDelayExpiry
  | clearanceLimitExpiry
  | runOnExpiry
  | redFlashChange
  | boltWithdrawnSwitchMade (bolt : Fin 4)
  | boltDrivenSwitchMade (bolt : Fin 4)
  | boltSwitchReleased (bolt : Fin 4) (switch : BoltSwitch)
  | boltNoPosition (bolt : Fin 4)
  | boltStrokeTimeout (bolt : Fin 4)
  | centreBoltAligned (bolt : Fin 4)
  | seatSwitchInput (leaf : Leaf) (made : Bool)
  | seatSwitchFilterExpiry (leaf : Leaf)
  | pressureOkMade (group : Leaf)
  | pressureOkReleased (group : Leaf)
  | pumpReady (group : Leaf)
  | pumpStartLimitExpiry (group : Leaf)
  | standbyExpiry
  | controlPeriod
  | encoderPeriodEnd (northPrimary northCheck southPrimary southCheck : EncoderReply)
  | anemoPulse
  | anemoIntervalEnd
  | epochEnd
  | tideStale
  | passageWindowExpiry
  | changeoverExpiry
  | channelSealed
  | hornExpiry
  | provingRequest
  | provingStart
  | provingEnd (current : Half)
  | estopReleased
  | obstructionEdgeInactive (arm : Fin 8)
  | consoleByteReceived (byte : Byte)
  | supplyLoss
deriving DecidableEq, Repr

/-- The constructors that are requests of the console link (section 1.6). -/
def Instr.isRequest : Instr → Bool
  | .identify | .status | .counters | .logon _ _ | .logoff | .freeze | .paramRead _ _ | .paramWrite _ _
  | .paramCommit | .paramDefaults | .restart | .closeRoad | .openRoad | .roadRead | .armRetry _
  | .armServiceOut _ | .armServiceReturn _ | .zoneBypassSet _ | .zoneBypassClear _ | .pumpsStart
  | .pumpsStop | .lockRetry | .raise | .raiseExplicit _ | .lower | .stop | .tripClear | .leafRead
  | .measureRead | .vesselReport _ _ _ | .vesselRead _ | .vesselClear _ | .join _ _ _ _ | .withdraw _
  | .classFloor _ | .tide _ | .formBatch | .abandonBatch | .queueRead _ _ | .batchRead
  | .vesselPassed _ | .channelRead | .circuitRead | .circuitTest _ | .healthRead | .healthSet _ _ => true
  | .powerOn _ _ | .hardResetAssert | .hardResetRelease _ _ | .startupEnd | .softResetEffect
  | .frameComplete _ | .lengthByteError _ | .gapTimeout | .replyEnd | .commitEnd _
  | .armDownLimitMade _ | .armUpLimitMade _ | .armDownLimitReleased _ | .armDisplaced _
  | .armUpLimitReleased _ | .upLimitLost _ | .armStrokeTimeout _ | .obstructionEdgeActive _
  | .relowerWaitExpiry _ | .armRelower _ | .estopAsserted | .zoneOccupancyInput _ _
  | .zoneFilterExpiry _ | .zoneFaultActive _ | .zoneFaultInactive _ | .zoneFaultEnd _ | .dwellWaitExpiry
  | .prewarnExpiry | .entryDelayExpiry | .clearanceLimitExpiry | .runOnExpiry | .redFlashChange
  | .boltWithdrawnSwitchMade _ | .boltDrivenSwitchMade _ | .boltSwitchReleased _ _ | .boltNoPosition _
  | .boltStrokeTimeout _ | .centreBoltAligned _ | .seatSwitchInput _ _ | .seatSwitchFilterExpiry _
  | .pressureOkMade _ | .pressureOkReleased _ | .pumpReady _ | .pumpStartLimitExpiry _ | .standbyExpiry
  | .controlPeriod | .encoderPeriodEnd _ _ _ _ | .anemoPulse | .anemoIntervalEnd | .epochEnd | .tideStale
  | .passageWindowExpiry | .changeoverExpiry | .channelSealed | .hornExpiry | .provingRequest
  | .provingStart | .provingEnd _ | .estopReleased | .obstructionEdgeInactive _
  | .consoleByteReceived _ | .supplyLoss => false

end Sys2Proof
end

