-- ==== Sys2Proof/Decode.lean ====
section
/-! DEFINITION. Reading a request from the body of a console frame, and writing one (section 1.6 and the field
layouts of the owning chapters), with the byte order of the link (high byte first), the check of R5, and
`decodeTableWord`. The opcode table gives no row any bits, so no word spells a command. -/

namespace Sys2Proof

/-- No row of spec/opcode_table.json has bits (spec/98_reader.md counts none with fixed bits and none with
fields), so no word spells a command. -/
def decodeTableWord (_nbits _w : Nat) : Option Instr := none

/-- A 16-bit field, high byte first (00_scope, "Byte layouts"). -/
def be16 (v : Half) : List Byte := [v.extractLsb' 8 8, v.extractLsb' 0 8]

/-- A 32-bit field, high byte first. -/
def be32 (v : Word) : List Byte :=
  [v.extractLsb' 24 8, v.extractLsb' 16 8, v.extractLsb' 8 8, v.extractLsb' 0 8]

/-- The 16-bit value of two bytes, high byte first. -/
def of16 (hi lo : Byte) : Half := hi ++ lo

/-- The 32-bit value of four bytes, high byte first. -/
def of32 (a b c d : Byte) : Word := a ++ b ++ c ++ d

/-- The values of a PARAM-WRITE, 4 bytes each (R29); none where the bytes do not divide by 4. -/
def valuesOf : List Byte → Option (List Word)
  | [] => some []
  | a :: b :: c :: d :: rest => (valuesOf rest).map (of32 a b c d :: ·)
  | _ => none

/-- One step of the check of R5: the bit shifted out at the top, then the generator x^16 + x^12 + x^5 + 1. -/
def crcStep (crc : Half) : Half :=
  if crc.getMsbD 0 then (crc <<< 1) ^^^ 0x1021 else crc <<< 1

/-- One byte entered into the check, most significant bit first (R5). -/
def crcByte (crc : Half) (b : Byte) : Half :=
  crcStep (crcStep (crcStep (crcStep (crcStep (crcStep (crcStep (crcStep
    (crc ^^^ (b.zeroExtend 16 <<< 8)))))))))

/-- The check of R5 over a list of bytes: initial value 0xFFFF, no reflection, no final inversion. -/
def crc16 (bytes : List Byte) : Half := bytes.foldl crcByte 0xFFFF

/-- What the CL reads in the body of a good frame (R8 steps 1 and 2). -/
inductive Decoded where
  /-- The code is not in the catalogue: REFUSED UNKNOWN. -/
  | unknown
  /-- The length is not allowed for the code: REFUSED LENGTH. -/
  | badLength
  /-- The body is this request. -/
  | command (i : Instr)
  /-- ARM-SERVICE with an action byte above 1 (R53 refuses it). -/
  | armServiceAction (arm action : Byte)
  /-- ZONE-BYPASS with an action byte above 1 (R57 refuses it). -/
  | zoneBypassAction (zone action : Byte)
  /-- PUMPS with an action byte above 1 (R92 refuses it). -/
  | pumpsAction (action : Byte)
deriving DecidableEq, Repr

/-- A request that carries no fields. -/
def noFields (i : Instr) : List Byte → Decoded
  | [] => .command i
  | _ => .badLength

/-- A request that carries one byte. -/
def oneByte (f : Byte → Decoded) : List Byte → Decoded
  | [a] => f a
  | _ => .badLength

/-- A request that carries two bytes. -/
def twoBytes (f : Byte → Byte → Decoded) : List Byte → Decoded
  | [a, b] => f a b
  | _ => .badLength

/-- A request that carries one identity (4 bytes). -/
def oneWord (f : Word → Decoded) : List Byte → Decoded
  | [a, b, c, d] => f (of32 a b c d)
  | _ => .badLength

/-- The PARAM-WRITE fields: a start index and 1 to 16 values (R29). -/
def paramWriteFields : List Byte → Decoded
  | start :: rest =>
    match valuesOf rest with
    | some vs => if 1 ≤ vs.length ∧ vs.length ≤ 16 then .command (.paramWrite start vs) else .badLength
    | none => .badLength
  | [] => .badLength

/-- The fields of a request by its code (section 1.6). -/
def decodeFields (code : Nat) (f : List Byte) : Decoded :=
  match code with
  | 0x01 => noFields .identify f
  | 0x02 => noFields .status f
  | 0x03 => noFields .counters f
  | 0x10 =>
    match f with
    | [l, a, b, c, d] => .command (.logon l (of32 a b c d))
    | _ => .badLength
  | 0x11 => noFields .logoff f
  | 0x12 => noFields .freeze f
  | 0x13 => twoBytes (fun a b => .command (.paramRead a b)) f
  | 0x14 => paramWriteFields f
  | 0x15 => noFields .paramCommit f
  | 0x16 => noFields .paramDefaults f
  | 0x17 => noFields .restart f
  | 0x20 => noFields .closeRoad f
  | 0x21 => noFields .openRoad f
  | 0x22 => noFields .roadRead f
  | 0x23 => oneByte (fun a => .command (.armRetry a)) f
  | 0x24 =>
    twoBytes (fun arm act =>
      if act = 1 then .command (.armServiceOut arm)
      else if act = 0 then .command (.armServiceReturn arm) else .armServiceAction arm act) f
  | 0x25 =>
    twoBytes (fun zone act =>
      if act = 1 then .command (.zoneBypassSet zone)
      else if act = 0 then .command (.zoneBypassClear zone) else .zoneBypassAction zone act) f
  | 0x30 =>
    oneByte (fun act =>
      if act = 1 then .command .pumpsStart else if act = 0 then .command .pumpsStop
      else .pumpsAction act) f
  | 0x31 => noFields .lockRetry f
  | 0x32 =>
    match f with
    | [] => .command .raise
    | [a, b] => .command (.raiseExplicit (of16 a b))
    | _ => .badLength
  | 0x33 => noFields .lower f
  | 0x34 => noFields .stop f
  | 0x35 => noFields .tripClear f
  | 0x36 => noFields .leafRead f
  | 0x37 => noFields .measureRead f
  | 0x40 =>
    match f with
    | [a, b, c, d, side, e, g] => .command (.vesselReport (of32 a b c d) side (of16 e g))
    | _ => .badLength
  | 0x41 => oneByte (fun a => .command (.vesselRead a)) f
  | 0x42 => oneByte (fun a => .command (.vesselClear a)) f
  | 0x50 =>
    match f with
    | [a, b, c, d, side, cls, e, g] => .command (.join (of32 a b c d) side cls (of16 e g))
    | _ => .badLength
  | 0x51 => oneWord (fun v => .command (.withdraw v)) f
  | 0x52 => oneByte (fun a => .command (.classFloor a)) f
  | 0x53 => twoBytes (fun a b => .command (.tide (of16 a b))) f
  | 0x54 => noFields .formBatch f
  | 0x55 => noFields .abandonBatch f
  | 0x56 => twoBytes (fun a b => .command (.queueRead a b)) f
  | 0x57 => noFields .batchRead f
  | 0x60 => oneWord (fun v => .command (.vesselPassed v)) f
  | 0x61 => noFields .channelRead f
  | 0x70 => noFields .circuitRead f
  | 0x71 => oneByte (fun a => .command (.circuitTest a)) f
  | 0x72 => noFields .healthRead f
  | 0x73 => twoBytes (fun a b => .command (.healthSet a b)) f
  | _ => .unknown

/-- The request a frame's body carries: the code first, then the fields (R8). -/
def decodeBody : List Byte → Decoded
  | [] => .unknown
  | code :: f => decodeFields code.toNat f

/-- The body of a request's frame, written from the same catalogue; empty for a command that is no request. -/
def encodeBody : Instr → List Byte
  | .identify => [0x01]
  | .status => [0x02]
  | .counters => [0x03]
  | .logon l code => 0x10 :: l :: be32 code
  | .logoff => [0x11]
  | .freeze => [0x12]
  | .paramRead a b => [0x13, a, b]
  | .paramWrite start vs => 0x14 :: start :: vs.flatMap be32
  | .paramCommit => [0x15]
  | .paramDefaults => [0x16]
  | .restart => [0x17]
  | .closeRoad => [0x20]
  | .openRoad => [0x21]
  | .roadRead => [0x22]
  | .armRetry a => [0x23, a]
  | .armServiceOut a => [0x24, a, 1]
  | .armServiceReturn a => [0x24, a, 0]
  | .zoneBypassSet z => [0x25, z, 1]
  | .zoneBypassClear z => [0x25, z, 0]
  | .pumpsStart => [0x30, 1]
  | .pumpsStop => [0x30, 0]
  | .lockRetry => [0x31]
  | .raise => [0x32]
  | .raiseExplicit t => 0x32 :: be16 t
  | .lower => [0x33]
  | .stop => [0x34]
  | .tripClear => [0x35]
  | .leafRead => [0x36]
  | .measureRead => [0x37]
  | .vesselReport i side air => 0x40 :: be32 i ++ (side :: be16 air)
  | .vesselRead c => [0x41, c]
  | .vesselClear m => [0x42, m]
  | .join i side cls air => 0x50 :: be32 i ++ (side :: cls :: be16 air)
  | .withdraw i => 0x51 :: be32 i
  | .classFloor a => [0x52, a]
  | .tide l => 0x53 :: be16 l
  | .formBatch => [0x54]
  | .abandonBatch => [0x55]
  | .queueRead a b => [0x56, a, b]
  | .batchRead => [0x57]
  | .vesselPassed i => 0x60 :: be32 i
  | .channelRead => [0x61]
  | .circuitRead => [0x70]
  | .circuitTest a => [0x71, a]
  | .healthRead => [0x72]
  | .healthSet a b => [0x73, a, b]
  | .powerOn _ _ | .hardResetAssert | .hardResetRelease _ _ | .startupEnd | .softResetEffect
  | .frameComplete _ | .lengthByteError _ | .gapTimeout | .replyEnd | .commitEnd _
  | .armDownLimitMade _ | .armUpLimitMade _ | .armDownLimitReleased _ | .armDisplaced _
  | .armUpLimitReleased _ | .upLimitLost _ | .armStrokeTimeout _ | .obstructionEdgeActive _
  | .relowerWaitExpiry _ | .armRelower _ | .estopAsserted | .zoneOccupancyInput _ _
  | .zoneFilterExpiry _ | .zoneFaultActive _ | .zoneFaultInactive _ | .zoneFaultEnd _ | .dwellWaitExpiry
  | .prewarnExpiry | .entryDelayExpiry | .clearanceLimitExpiry | .runOnExpiry | .redFlashChange
  | .boltWithdrawnSwitchMade _ | .boltDrivenSwitchMade _ | .boltSwitchReleased _ _ | .boltNoPosition _
  | .boltStrokeTimeout _ | .centreBoltAligned _ | .seatSwitchInput _ _ | .seatSwitchFilterExpiry _
  | .pressureOkMade _ | .pressureOkReleased _ | .pumpReady _ | .pumpStartLimitExpiry _ | .standbyExpiry
  | .controlPeriod | .encoderPeriodEnd _ _ _ _ | .anemoPulse | .anemoIntervalEnd | .epochEnd | .tideStale
  | .passageWindowExpiry | .changeoverExpiry | .channelSealed | .hornExpiry | .provingRequest
  | .provingStart | .provingEnd _ | .estopReleased | .obstructionEdgeInactive _
  | .consoleByteReceived _ | .supplyLoss => []

end Sys2Proof
end

