-- ==== Sys2Proof/Machine/State.lean ====
section
/-! DEFINITION. The state of the CX-220 as plain data: one structure for each functional block of the spec (00_scope,
"Block overview"), the field inputs, the time base and the queue of waiting commands; the reasons a step can
stop; and the state after reset. Timers count base ticks of 10 ms (note 5). -/

namespace Sys2Proof.Machine

/-- No rule of the spec stops the part, so no meaning faults: a stall, a jam or a trip is a state (R40, R80,
R115) and a request that cannot be done is answered REFUSED (R10). -/
inductive Fault where
deriving DecidableEq, Repr

/-- Why a step can be refused. -/
inductive Refusal where
  /-- A command that has no meaning in this model yet; raised by exec's arm for it. Safe. -/
  | notModelled (mnemonic : String)
deriving DecidableEq, Repr

/-! ### Time base (00_scope "Time", R35, R36) -/

/-- Where the part stands with its supply and its RESET line. -/
inductive Phase where
  /-- The supply is away. -/
  | off
  /-- RESET is asserted: every block is held in its reset condition (R35). -/
  | resetHeld
  /-- Start-up is under way (R36). -/
  | startup
  /-- Start-up has ended. -/
  | run
deriving DecidableEq, Repr

structure TimeBase where
  phase : Phase
  /-- Base ticks since the last advance of the seconds counter, 0 to 99. -/
  subTick : Nat
  /-- The seconds counter, 32 bits. -/
  seconds : Word
deriving DecidableEq, Repr

/-! ### Console link (spec/01) -/

/-- The framer's state with what it has taken of the frame (R2). -/
inductive Framer where
  | hunt
  | length
  | body (length : Nat) (taken : List Byte)
  | checkHigh (length : Nat) (taken : List Byte)
  | checkLow (length : Nat) (taken : List Byte) (high : Byte)
deriving DecidableEq, Repr

structure Link where
  framer : Framer
  /-- Ticks since the last byte of the frame in progress (R3). -/
  gap : Nat
  /-- The body of the reply that is pending, or none (R6, R9). -/
  reply : Option (List Byte)
  crcErrors : Nat
  framingErrors : Nat
  timeouts : Nat
  overruns : Nat
  /-- The latched attention set: bit n is condition n (R14). -/
  latched : Half
  /-- The CL's copy of the attention mask (R16). -/
  mask : Half
deriving DecidableEq, Repr

/-! ### Authority and parameters (spec/02) -/

inductive Level where
  | view
  | operate
  | maintain
deriving DecidableEq, Repr

inductive StoreStatus where
  | valid
  | invalid
  | writeFailed
deriving DecidableEq, Repr

/-- The nonvolatile store (section 2.3). -/
inductive Store where
  /-- Contents whose check fails: never written, partly written (R32), or badly written (R33). -/
  | broken
  /-- 64 values with their check. -/
  | image (values : Vector Nat 64) (check : Half)
deriving DecidableEq, Repr

/-- The start-up result record (R37). -/
structure StartupRecord where
  storeInvalid : Bool
  straps : Nat
  encoders : Nat
  fieldSupply : Bool
deriving DecidableEq, Repr

structure Apu where
  level : Level
  /-- 0 to 5; at 5 the link is EXPIRED (R22). -/
  mismatch : Nat
  frozen : Bool
  /-- The working table, index 0 to 63 (section 2.2). -/
  table : Vector Nat 64
  storeStatus : StoreStatus
  store : Store
  modified : Bool
  /-- The values being written while a commit is in progress (R32). -/
  commit : Option (Vector Nat 64)
  straps : Straps
  record : StartupRecord
  /-- A RESTART has been accepted and its soft reset has not yet taken effect (R38). -/
  restart : Bool
deriving DecidableEq, Repr

/-! ### Field inputs (00_scope "Signal summary") -/

structure Pins where
  armUp : Vector Bool 8
  armDown : Vector Bool 8
  armEdge : Vector Bool 8
  zoneOccupied : Vector Bool 6
  zoneFault : Vector Bool 6
  boltDriven : Vector Bool 4
  boltWithdrawn : Vector Bool 4
  seat : PerLeaf Bool
  pressure : PerLeaf Bool
  estop : Bool
  fieldSupply : Bool
deriving DecidableEq, Repr

/-! ### Barrier arms and deck zones (spec/03) -/

inductive ArmState where
  | up
  | lowering
  | down
  | raising
  | stalled
  | outOfService
deriving DecidableEq, Repr

inductive ArmCause where
  | timeout
  | obstructed
  | limitConflict
  | estop
  | noLimit
deriving DecidableEq, Repr

inductive ArmStroke where
  | none
  | lower
  | raise
deriving DecidableEq, Repr

/-- The arm record of section 3.1 with its timers. -/
structure Arm where
  state : ArmState
  cause : Option ArmCause
  last : ArmStroke
  /-- Obstructions met in the current closure, 0 to 4 (R46). -/
  obstructions : Nat
  relowerPending : Bool
  displaced : Bool
  upLost : Bool
  /-- The nominal captured at the stroke's start, 0.1 s. -/
  nominal : Nat
  /-- The timeout captured at the stroke's start, 0.1 s. -/
  timeout : Nat
  /-- Ticks since the stroke in progress began. -/
  elapsed : Nat
  full : Bool
  /-- The obstruction edge has been active during the stroke in progress (R44). -/
  edgeSeen : Bool
  /-- The raising stroke in progress reverses an obstructed lowering (R46). -/
  reversal : Bool
  /-- The 2 s wait of R47, in ticks, while it runs. -/
  relowerWait : Option Nat
  /-- The 1 s displacement timer of R49, in ticks, while it runs. -/
  displaceTimer : Option Nat
  /-- The 1 s up-limit timer of R50, in ticks, while it runs. -/
  upTimer : Option Nat
deriving DecidableEq, Repr

/-- The zone record of section 3.5 with its timers; state and counted status are computed (R55, R56). -/
structure Zone where
  filtered : Bool
  /-- The 100 ms filter timer, in ticks, while it runs. -/
  filter : Option Nat
  fault : Bool
  /-- The 100 ms fault end timer, in ticks, while it runs. -/
  faultEnd : Option Nat
  bypassed : Bool
  /-- The clear duration in ticks. -/
  clearTicks : Nat
  occupiedSinceRead : Bool
deriving DecidableEq, Repr

structure Bzu where
  arms : Vector Arm 8
  /-- Zone number n is entry n - 1. -/
  zones : Vector Zone 6
deriving DecidableEq, Repr

/-! ### Road closure (spec/04) -/

inductive RoadState where
  | opened
  | prewarn
  | stopping
  | clearing
  | securing
  | secured
  | breached
  | reopening
  | unknown
deriving DecidableEq, Repr

inductive StepTimer where
  | none
  | prewarn
  | entryDelay
  | clearanceLimit
  | runOn
deriving DecidableEq, Repr

structure Rcs where
  road : RoadState
  capPrewarn : Nat
  capEntryDelay : Nat
  capClearDwell : Nat
  capClearanceLimit : Nat
  capRunOn : Nat
  stepTimer : StepTimer
  stepElapsed : Nat
  entryLowering : Bool
  entryRaising : Bool
  limitPassed : Bool
  deckClear : Bool
  dwellWait : Bool
  /-- A CLOSE-ROAD has been accepted since the last reset, so the captured dwell is in use (R43). -/
  dwellCaptured : Bool
  openTime : Option Word
  /-- The red flash phase: A lit (true) or B lit (R62). -/
  flashA : Bool
  /-- Ticks since the last flash change. -/
  flashTicks : Nat
deriving DecidableEq, Repr

/-! ### Locks and power (spec/05) -/

inductive BoltState where
  | driven
  | withdrawing
  | withdrawn
  | driving
  | jammed
deriving DecidableEq, Repr

inductive BoltCause where
  | timeout
  | switchConflict
  | misaligned
  | noPosition
  | estop
deriving DecidableEq, Repr

inductive BoltStroke where
  | none
  | withdraw
  | drive
deriving DecidableEq, Repr

/-- The bolt record of section 5.1 with its rest timer. -/
structure Bolt where
  state : BoltState
  cause : Option BoltCause
  last : BoltStroke
  nominal : Nat
  timeout : Nat
  elapsed : Nat
  /-- The elapsed ticks at which the output came on (R84). -/
  outputOn : Option Nat
  full : Bool
  /-- The 1 s rest timer of R83, in ticks, while it runs. -/
  restTimer : Option Nat
deriving DecidableEq, Repr

inductive SeqKind where
  | none
  | withdraw
  | drive
deriving DecidableEq, Repr

inductive SeqStep where
  | centre
  | heel
deriving DecidableEq, Repr

/-- A filtered seat switch (R89). -/
structure Seat where
  made : Bool
  filter : Option Nat
deriving DecidableEq, Repr

inductive PumpState where
  | stopped
  | starting
  | ready
  | fault
deriving DecidableEq, Repr

structure Pump where
  state : PumpState
  /-- The start limit read when the group started, seconds (R90). -/
  limit : Nat
  limitElapsed : Nat
  /-- The pressure-hold timer, in ticks, while it runs (R91). -/
  hold : Option Nat
deriving DecidableEq, Repr

structure Lpu where
  bolts : Vector Bolt 4
  seqKind : SeqKind
  seqStep : SeqStep
  seats : PerLeaf Seat
  pumps : PerLeaf Pump
  /-- The standby timer, in ticks, while it runs (R94). -/
  standby : Option Nat
deriving DecidableEq, Repr

/-! ### Leaf motion (spec/06) -/

inductive LeafState where
  | seatedLocked
  | unlocking
  | raising
  | raised
  | lowering
  | locking
  | halted
  | tripped
deriving DecidableEq, Repr

inductive TripCause where
  | estop
  | deck
  | skew
  | position
  | pressure
  | drift
deriving DecidableEq, Repr

inductive Direction where
  | raise
  | lower
deriving DecidableEq, Repr

inductive TargetSource where
  | batch
  | explicit
  | seat
  | reversal
deriving DecidableEq, Repr

inductive Halt where
  | none
  | stop
  | breach
  | disagree
  | restart
  | wind
deriving DecidableEq, Repr

/-- The per-leaf part of the motion record. -/
structure LeafDrive where
  vPrev : Nat
  reference : Int
  arrived : Bool
deriving DecidableEq, Repr

/-- The motion record of spec/06. -/
structure Motion where
  present : Bool
  direction : Direction
  source : TargetSource
  target : Nat
  tf : Nat
  vc : Nat
  vk : Nat
  r : Nat
  b : Nat
  bs : Nat
  w : Nat
  sDead : Nat
  sTrip : Nat
  commitFraction : Nat
  driftLimit : Nat
  startTime : Word
  halt : Halt
  derateFixed : Bool
  awaitingPumps : Bool
  leaves : PerLeaf LeafDrive
deriving DecidableEq, Repr

structure Lmc where
  leaf : LeafState
  trip : Option TripCause
  motion : Motion
deriving DecidableEq, Repr

/-! ### Measurement (spec/07) -/

inductive EncoderState where
  | valid
  | suspect
  | lost
deriving DecidableEq, Repr

inductive EncoderCause where
  | none
  | silent
  | check
  | range
deriving DecidableEq, Repr

structure Encoder where
  state : EncoderState
  run : Nat
  cause : EncoderCause
  last : Option Half
  frameErrors : Nat
  validSinceRead : Bool
  /-- In the listen of start-up: none until the first valid period, then whether every period since was valid (R136). -/
  listen : Option Bool
deriving DecidableEq, Repr

inductive AngleSource where
  | primary
  | check
  | held
  | lost
deriving DecidableEq, Repr

structure LeafAngle where
  angle : Int
  source : AngleSource
  disagree : Bool
  run : Nat
  difference : Int
deriving DecidableEq, Repr

inductive Band where
  | below
  | derate
  | stop
deriving DecidableEq, Repr

structure Wind where
  /-- The gust window, oldest first. -/
  window : List Nat
  interval : Nat
  discard : Bool
  w : Nat
  known : Bool
  band : Option Band
  pct : Nat
  failed : Bool
deriving DecidableEq, Repr

/-- The listen of start-up's first 100 ms (R36, R136), which is five encoder periods (notes 37 and 44). -/
structure Listen where
  /-- The periods of the listen that have ended, 5 when it is over. -/
  periods : Nat
  /-- The encoders that answered within it: the sum of 1, 2, 4 and 8 (R37). -/
  answered : Nat
  /-- A leaf's position was LOST at its end (R121). -/
  lost : Bool
deriving DecidableEq, Repr

structure Msu where
  encoders : Vector Encoder 4
  angles : PerLeaf LeafAngle
  wind : Wind
  /-- The model's own: a command has ended an encoder period since the last tick at which one ends (R123; note 42). -/
  heard : Bool
  listen : Listen
deriving DecidableEq, Repr

/-! ### Vessel table (spec/08) -/

inductive VesselState where
  | sighted
  | waiting
  | called
  | passed
deriving DecidableEq, Repr

structure Vessel where
  identity : Word
  side : Side
  air : Option Nat
  life : Nat
  state : VesselState
deriving DecidableEq, Repr

structure Vt where
  slots : Vector (Option Vessel) 32
  lapsed : Nat
  replaced : Nat
  change : Word
deriving DecidableEq, Repr

/-! ### Passage scheduler (spec/09) -/

structure QueueEntry where
  slot : Fin 32
  seq : Word
  time : Word
  called : Bool
deriving DecidableEq, Repr

inductive BatchState where
  | none
  | formed
  | running
  | closing
  | closed
deriving DecidableEq, Repr

inductive ItemOutcome where
  | called
  | passed
  | withdrawn
  | returned
deriving DecidableEq, Repr

structure Item where
  slot : Fin 32
  identity : Word
  side : Side
  cls : Fin 4
  contribution : Nat
  outcome : ItemOutcome
deriving DecidableEq, Repr

structure Batch where
  number : Nat
  state : BatchState
  size : Nat
  tf : Nat
  tmin : Nat
  leading : Option Side
  items : List Item
  angle : Nat
  tideWasStale : Bool
  tableWasInvalid : Bool
  extensions : Nat
  remaining : Nat
  formedAt : Option Word
  raisedAt : Option Word
  firstGoAt : Option Word
  closedAt : Option Word
deriving DecidableEq, Repr

structure Tide where
  level : Int
  time : Word
  present : Bool
  /-- The staleness as last judged (R159). -/
  stale : Bool
deriving DecidableEq, Repr

structure Psc where
  /-- Queues 0 to 3 are SEAWARD classes 0 to 3, queues 4 to 7 LANDWARD. -/
  queues : Vector (List QueueEntry) 8
  floor : Nat
  joinSeq : Word
  refused : Nat
  displaced : Nat
  batch : Batch
  tide : Tide
deriving DecidableEq, Repr

/-! ### Channel signals (spec/10) -/

inductive Aspect where
  | stop
  | standby
  | go
deriving DecidableEq, Repr

inductive TurnPhase where
  | idle
  | turn
  | changeover
  | ended
deriving DecidableEq, Repr

inductive TurnStatus where
  | notYet
  | go
  | done
  | skipped
deriving DecidableEq, Repr

inductive EndCause where
  | noCalled
  | window
  | greens
  | withdrawn
  | closed
deriving DecidableEq, Repr

inductive TurnsResult where
  | none
  | turnsEnded
  | goWithdrawn
  | signalDefect
deriving DecidableEq, Repr

structure SideTurn where
  status : TurnStatus
  cause : Option EndCause
  goStart : Option Word
  goEnd : Option Word
  passed : Nat
deriving DecidableEq, Repr

structure Csu where
  aspects : PerSide Aspect
  batchNumber : Nat
  phase : TurnPhase
  current : Option Side
  sides : PerSide SideTurn
  result : TurnsResult
  /-- The passage-window timer, in ticks, while it runs. -/
  window : Option Nat
  /-- The changeover timer, in ticks, while it runs. -/
  changeover : Option Nat
  /-- The seal timer, in ticks, while it runs. -/
  sealTimer : Option Nat
  /-- The horn timer's remaining ticks. -/
  horn : Nat
  sealed : Bool
  violations : Nat
deriving DecidableEq, Repr

/-! ### Circuit proving and actuator health (spec/11) -/

inductive ProvingResult where
  | none
  | normal
  | opened
  | overload
  | short
  | testVoid
deriving DecidableEq, Repr

inductive ProvingMethod where
  | none
  | current
  | pulse
deriving DecidableEq, Repr

inductive Counted where
  | none
  | normal
  | fault
deriving DecidableEq, Repr

structure Circuit where
  failed : Bool
  lastResult : ProvingResult
  lastMethod : ProvingMethod
  counted : Counted
  failedSinceRead : Bool
deriving DecidableEq, Repr

/-- A proving request that is held (R190). -/
structure ProvingRequest where
  circuit : Fin 16
  test : Bool
deriving DecidableEq, Repr

/-- The proving in progress (R190, R191). -/
structure Proving where
  circuit : Fin 16
  test : Bool
  /-- The circuit was on when the proving started. -/
  wasOn : Bool
  /-- The owner has switched the circuit since. -/
  voided : Bool
  elapsed : Nat
deriving DecidableEq, Repr

/-- An actuator's health record (section 11.6). -/
structure Health where
  value : Nat
  samples : Nat
  ratio : Option Nat
  worn : Bool
deriving DecidableEq, Repr

structure Phu where
  counter : Nat
  index : Fin 16
  circuits : Vector Circuit 16
  proving : Option Proving
  held : List ProvingRequest
  /-- Actuators 0 to 7 are the arms, 8 to 11 the bolts. -/
  health : Vector Health 12
  /-- The model's own, not the spec's: how many readings ticks have supplied (note 40). -/
  readings : Nat
deriving DecidableEq, Repr

/-! ### The whole machine -/

/-- The state of the part, with the commands that wait in front of it, first in, first out. -/
structure State where
  tb : TimeBase
  cl : Link
  apu : Apu
  pins : Pins
  bzu : Bzu
  rcs : Rcs
  lpu : Lpu
  lmc : Lmc
  msu : Msu
  vt : Vt
  psc : Psc
  csu : Csu
  phu : Phu
  pending : List Instr
deriving DecidableEq, Repr

/-! ### Reset -/

/-- An arm whose limits are both open at start-up (R54, R59): STALLED NO_LIMIT. -/
def Arm.reset : Arm :=
  { state := .stalled, cause := some .noLimit, last := .none, obstructions := 0, relowerPending := false
    displaced := false, upLost := false, nominal := 0, timeout := 0, elapsed := 0, full := false
    edgeSeen := false, reversal := false, relowerWait := none, displaceTimer := none, upTimer := none }

/-- A zone with its inputs inactive at start-up (R59). -/
def Zone.reset : Zone :=
  { filtered := false, filter := none, fault := false, faultEnd := none, bypassed := false, clearTicks := 0
    occupiedSinceRead := false }

/-- A bolt whose switches are both open at start-up (R95): JAMMED NO_POSITION. -/
def Bolt.reset : Bolt :=
  { state := .jammed, cause := some .noPosition, last := .none, nominal := 0, timeout := 0, elapsed := 0
    outputOn := none, full := false, restTimer := none }

/-- A pump group after power-on (R95). -/
def Pump.reset : Pump := { state := .stopped, limit := 0, limitElapsed := 0, hold := none }

/-- The per-leaf drive values with no motion (R121). -/
def LeafDrive.reset : LeafDrive := { vPrev := 0, reference := 0, arrived := false }

/-- The motion record before the first motion (R121: motion present is no; DESIGN CHOICE 0 for the rest, note 7). -/
def Motion.reset : Motion :=
  { present := false, direction := .raise, source := .batch, target := 0, tf := 0, vc := 0, vk := 0, r := 0
    b := 0, bs := 0, w := 0, sDead := 0, sTrip := 0, commitFraction := 0, driftLimit := 0, startTime := 0
    halt := .none, derateFixed := false, awaitingPumps := false
    leaves := ⟨LeafDrive.reset, LeafDrive.reset⟩ }

/-- An encoder record when measuring begins (R136). -/
def Encoder.reset : Encoder :=
  { state := .lost, run := 3, cause := .none, last := none, frameErrors := 0, validSinceRead := false
    listen := none }

/-- A leaf record when measuring begins (R136). -/
def LeafAngle.reset : LeafAngle :=
  { angle := 0, source := .lost, disagree := false, run := 0, difference := 0 }

/-- The listen of start-up before its first period (R136). -/
def Listen.reset : Listen := { periods := 0, answered := 0, lost := false }

/-- The measurement records when measuring begins (R136); no period has been heard of (note 42). -/
def Msu.reset : Msu :=
  { encoders := Vector.replicate 4 Encoder.reset
    angles := ⟨LeafAngle.reset, LeafAngle.reset⟩
    wind := { window := [], interval := 0, discard := false, w := 0, known := false, band := none, pct := 40
              failed := false }
    heard := false
    listen := Listen.reset }

/-- The empty vessel table (R150). -/
def Vt.reset : Vt := { slots := Vector.replicate 32 none, lapsed := 0, replaced := 0, change := 0 }

/-- The batch record before the first batch (R172). -/
def Batch.reset : Batch :=
  { number := 0, state := .none, size := 0, tf := 0, tmin := 0, leading := none, items := [], angle := 0
    tideWasStale := false, tableWasInvalid := false, extensions := 0, remaining := 0, formedAt := none
    raisedAt := none, firstGoAt := none, closedAt := none }

/-- The passage scheduler after power-on (R172). -/
def Psc.reset : Psc :=
  { queues := Vector.replicate 8 [], floor := 3, joinSeq := 0, refused := 0, displaced := 0
    batch := Batch.reset, tide := { level := 0, time := 0, present := false, stale := true } }

/-- A side's turn record when it is cleared (R175, R186). -/
def SideTurn.reset : SideTurn :=
  { status := .notYet, cause := none, goStart := none, goEnd := none, passed := 0 }

/-- The channel signal unit at the end of start-up (R186). -/
def Csu.reset : Csu :=
  { aspects := ⟨.stop, .stop⟩, batchNumber := 0, phase := .idle, current := none
    sides := ⟨SideTurn.reset, SideTurn.reset⟩, result := .none, window := none, changeover := none
    sealTimer := some 0, horn := 0, sealed := false, violations := 0 }

/-- A circuit record after power-on (R196). -/
def Circuit.reset : Circuit :=
  { failed := false, lastResult := .none, lastMethod := .none, counted := .none, failedSinceRead := false }

/-- A health record after power-on (R200). -/
def Health.reset : Health := { value := 253, samples := 0, ratio := none, worn := false }

/-- The default values of the parameter table (section 2.2), index 0 to 63. -/
def defaultTable : Vector Nat 64 :=
  #v[10, 8, 5, 120, 2, 300, 60, 40, 40, 20, 600, 7800, 3000, 250, 40, 5, 300, 150, 10, 20, 200, 15, 50, 60,
    30, 75, 120, 200, 45, 6, 60, 900, 30, 95, 5, 1800, 20, 800, 40, 1700, 60, 2700, 80, 3750, 100, 5100, 120,
    6600, 140, 7800, 25, 150, 900, 100, 700, 200, 1500, 60, 80, 1, 1, 65535, 0, 0]

/-- The state after reset: the end of the start-up of a power-on in which every input and strap is inactive, the
encoders are silent and the store fails its check (notes 7 and 8), taken as if it had taken no time, so that the
measurement records hold the values that R136 states. A test shows that running POWER_ON and STARTUP_END on an
unpowered part gives exactly this state but for the encoder records, which then count the five silent periods of the
listen. -/
def State.reset : State :=
  { tb := { phase := .run, subTick := 0, seconds := 0 }
    cl := { framer := .hunt, gap := 0, reply := none, crcErrors := 0, framingErrors := 0, timeouts := 0
            overruns := 0, latched := 0, mask := 65535 }
    apu := { level := .view, mismatch := 0, frozen := false, table := defaultTable, storeStatus := .invalid
             store := .broken, modified := true, commit := none, straps := ⟨false, false, false⟩
             record := { storeInvalid := true, straps := 0, encoders := 0, fieldSupply := false }
             restart := false }
    pins := { armUp := Vector.replicate 8 false, armDown := Vector.replicate 8 false
              armEdge := Vector.replicate 8 false, zoneOccupied := Vector.replicate 6 false
              zoneFault := Vector.replicate 6 false, boltDriven := Vector.replicate 4 false
              boltWithdrawn := Vector.replicate 4 false, seat := ⟨false, false⟩, pressure := ⟨false, false⟩
              estop := false, fieldSupply := false }
    bzu := { arms := Vector.replicate 8 Arm.reset, zones := Vector.replicate 6 Zone.reset }
    rcs := { road := .unknown, capPrewarn := 10, capEntryDelay := 8, capClearDwell := 5
             capClearanceLimit := 120, capRunOn := 2, stepTimer := .none, stepElapsed := 0
             entryLowering := false, entryRaising := false, limitPassed := false, deckClear := false
             dwellWait := true, dwellCaptured := false, openTime := none, flashA := true, flashTicks := 0 }
    lpu := { bolts := Vector.replicate 4 Bolt.reset, seqKind := .none, seqStep := .centre
             seats := ⟨⟨false, none⟩, ⟨false, none⟩⟩, pumps := ⟨Pump.reset, Pump.reset⟩, standby := none }
    lmc := { leaf := .tripped, trip := some .position, motion := Motion.reset }
    msu := Msu.reset
    vt := Vt.reset
    psc := Psc.reset
    csu := Csu.reset
    phu := { counter := 25, index := 0, circuits := Vector.replicate 16 Circuit.reset, proving := none
             held := [], health := Vector.replicate 12 Health.reset, readings := 0 }
    pending := [] }

end Sys2Proof.Machine
end

