-- ==== Sys2Proof/Machine/Operands.lean ====
section
/-! DEFINITION. Operand forms: the indices, ranges and cross-checks of the parameter table (section 2.2, R26), and the
time units of the manual in base ticks. -/

namespace Sys2Proof.Machine

/-! ### Units -/

/-- `n` seconds in base ticks of 10 ms (note 5). -/
def sec (n : Nat) : Nat := 100 * n

/-- `n` tenths of a second in base ticks. -/
def tenths (n : Nat) : Nat := 10 * n

/-- Whole seconds of `t` ticks. -/
def toSec (t : Nat) : Nat := t / 100

/-- Whole tenths of a second of `t` ticks, rounded down. -/
def toTenths (t : Nat) : Nat := t / 10

/-- A running timer one base tick later; a timer that does not run stays so. -/
def tickTimer (t : Option Nat) : Option Nat := t.map (· + 1)

/-! ### Parameter indices (section 2.2) -/

abbrev pPrewarn : Fin 64 := 0
abbrev pEntryDelay : Fin 64 := 1
abbrev pClearDwell : Fin 64 := 2
abbrev pClearanceLimit : Fin 64 := 3
abbrev pRunOn : Fin 64 := 4
abbrev pOpenInterval : Fin 64 := 5
abbrev pRoadArmNominal : Fin 64 := 6
abbrev pFootArmNominal : Fin 64 := 7
abbrev pBoltNominal : Fin 64 := 8
abbrev pPumpLimit : Fin 64 := 9
abbrev pStandby : Fin 64 := 10
abbrev pTf : Fin 64 := 11
abbrev pTmin : Fin 64 := 12
abbrev pVc : Fin 64 := 13
abbrev pVk : Fin 64 := 14
abbrev pR : Fin 64 := 15
abbrev pB : Fin 64 := 16
abbrev pBs : Fin 64 := 17
abbrev pW : Fin 64 := 18
abbrev pSDead : Fin 64 := 19
abbrev pSTrip : Fin 64 := 20
abbrev pAlignment : Fin 64 := 21
abbrev pDriftLimit : Fin 64 := 22
abbrev pCommitFraction : Fin 64 := 23
abbrev pEncoderTolerance : Fin 64 := 24
abbrev pAnemoFactor : Fin 64 := 25
abbrev pDerateLimit : Fin 64 := 26
abbrev pStopLimit : Fin 64 := 27
abbrev pLifetime : Fin 64 := 28
abbrev pBatchSize : Fin 64 := 29
abbrev pChangeover : Fin 64 := 30
abbrev pWindow : Fin 64 := 31
abbrev pSealTime : Fin 64 := 32
abbrev pSoffit : Fin 64 := 33
abbrev pMargin : Fin 64 := 34
abbrev pTideValidity : Fin 64 := 35
abbrev pProvingDivisor : Fin 64 := 50
abbrev pArmThreshold : Fin 64 := 57
abbrev pBoltThreshold : Fin 64 := 58
abbrev pArmFlag : Fin 64 := 59
abbrev pBoltFlag : Fin 64 := 60
abbrev pMask : Fin 64 := 61
abbrev pOperatorCode : Fin 64 := 62
abbrev pMaintainerCode : Fin 64 := 63

/-- Gain index of breakpoint `k + 2`, k from 0 to 6 (indices 36, 38 to 48). -/
def pGain (k : Fin 7) : Fin 64 := ⟨36 + 2 * k.val, by omega⟩
/-- Angle index of breakpoint `k + 2` (indices 37, 39 to 49). -/
def pAngle (k : Fin 7) : Fin 64 := ⟨37 + 2 * k.val, by omega⟩

/-- The range column of the parameter table; index 12 (Tmin) has Tf as its upper end (section 2.2). -/
def ranges : Vector (Nat × Nat) 64 :=
  #v[(5, 60), (3, 30), (2, 30), (30, 600), (1, 10), (0, 1800), (10, 200), (10, 200), (10, 200), (5, 60),
    (0, 3600), (3000, 8500), (1000, 8500), (50, 400), (10, 100), (1, 20), (100, 1000), (50, 500), (5, 50),
    (5, 100), (50, 500), (5, 50), (20, 200), (50, 90), (10, 100), (1, 500), (50, 300), (60, 400), (1, 225),
    (1, 8), (10, 300), (60, 3600), (10, 300), (0, 500), (0, 50), (60, 3600), (1, 1000), (0, 8500), (1, 1000),
    (0, 8500), (1, 1000), (0, 8500), (1, 1000), (0, 8500), (1, 1000), (0, 8500), (1, 1000), (0, 8500),
    (1, 1000), (0, 8500), (5, 500), (10, 2000), (10, 2000), (10, 2000), (10, 2000), (10, 2000), (10, 2000),
    (1, 253), (1, 253), (0, 1), (0, 1), (0, 65535), (0, 4294967295), (0, 4294967295)]

/-- The upper end of index `i`'s range in table `t`: Tf for Tmin, else the table's own. -/
def rangeTop (t : Vector Nat 64) (i : Fin 64) : Nat := if i = pTmin then t[pTf] else ranges[i].2

/-- `v` lies within index `i`'s range (R26). -/
def inRange (t : Vector Nat 64) (i : Fin 64) (v : Nat) : Bool :=
  decide (ranges[i].1 ≤ v) && decide (v ≤ rangeTop t i)

/-- The cross-check that involves index `i` holds of table `t` after the write (R26). -/
def crossCheck (t : Vector Nat 64) (i : Fin 64) : Bool :=
  if i = pVc ∨ i = pVk then decide (t[pVk] ≤ t[pVc])
  else if i = pSDead ∨ i = pSTrip then decide (t[pSDead] < t[pSTrip])
  else if i = pDerateLimit ∨ i = pStopLimit then decide (t[pDerateLimit] < t[pStopLimit])
  else if i = pTf ∨ i = pTmin then decide (t[pTmin] ≤ t[pTf])
  else if i.val = 51 ∨ i.val = 52 then decide (t[(51 : Fin 64)] < t[(52 : Fin 64)])
  else if i.val = 53 ∨ i.val = 54 then decide (t[(53 : Fin 64)] < t[(54 : Fin 64)])
  else if i.val = 55 ∨ i.val = 56 then decide (t[(55 : Fin 64)] < t[(56 : Fin 64)])
  else true

/-- A value offered for index `i` is acceptable (R26). -/
def acceptable (t : Vector Nat 64) (i : Fin 64) (v : Nat) : Bool :=
  inRange t i v && crossCheck (t.set i v) i

/-- Every value of a table lies within its index's range (R31). -/
def allInRange (t : Vector Nat 64) : Bool := (List.finRange 64).all fun i => inRange t i t[i]

/-- The bytes of a table in index order, each value high byte first (section 2.3). -/
def tableBytes (t : Vector Nat 64) : List Byte := t.toList.flatMap fun v => be32 (BitVec.ofNat 32 v)

end Sys2Proof.Machine
end

