-- ==== Sys2Proof/Machine/Ops.lean ====
section
/-! DEFINITION. The named operations over State that every block uses: the update of one block, the parameter a block
reads, the latch of an attention condition, the stopping counters, the seconds counter, and the circuit states
that void a proving. -/

namespace Sys2Proof.Machine

/-! ### One block replaced by a function of itself -/

def State.onTb (s : State) (f : TimeBase → TimeBase) : State := { s with tb := f s.tb }
def State.onCl (s : State) (f : Link → Link) : State := { s with cl := f s.cl }
def State.onApu (s : State) (f : Apu → Apu) : State := { s with apu := f s.apu }
def State.onPins (s : State) (f : Pins → Pins) : State := { s with pins := f s.pins }
def State.onBzu (s : State) (f : Bzu → Bzu) : State := { s with bzu := f s.bzu }
def State.onRcs (s : State) (f : Rcs → Rcs) : State := { s with rcs := f s.rcs }
def State.onLpu (s : State) (f : Lpu → Lpu) : State := { s with lpu := f s.lpu }
def State.onLmc (s : State) (f : Lmc → Lmc) : State := { s with lmc := f s.lmc }
def State.onMsu (s : State) (f : Msu → Msu) : State := { s with msu := f s.msu }
def State.onVt (s : State) (f : Vt → Vt) : State := { s with vt := f s.vt }
def State.onPsc (s : State) (f : Psc → Psc) : State := { s with psc := f s.psc }
def State.onCsu (s : State) (f : Csu → Csu) : State := { s with csu := f s.csu }
def State.onPhu (s : State) (f : Phu → Phu) : State := { s with phu := f s.phu }

/-- Arm `a`'s record replaced by a function of itself. -/
def State.onArm (s : State) (a : Fin 8) (f : Arm → Arm) : State :=
  s.onBzu fun b => { b with arms := b.arms.set a (f b.arms[a]) }

/-- Zone `z`'s record replaced by a function of itself. -/
def State.onZone (s : State) (z : Fin 6) (f : Zone → Zone) : State :=
  s.onBzu fun b => { b with zones := b.zones.set z (f b.zones[z]) }

/-- Bolt `b`'s record replaced by a function of itself. -/
def State.onBolt (s : State) (b : Fin 4) (f : Bolt → Bolt) : State :=
  s.onLpu fun l => { l with bolts := l.bolts.set b (f l.bolts[b]) }

/-- Pump group `g`'s record replaced by a function of itself. -/
def State.onPump (s : State) (g : Leaf) (f : Pump → Pump) : State :=
  s.onLpu fun l => { l with pumps := l.pumps.set g (f (l.pumps.get g)) }

/-- Seat switch `l`'s record replaced by a function of itself. -/
def State.onSeat (s : State) (l : Leaf) (f : Seat → Seat) : State :=
  s.onLpu fun u => { u with seats := u.seats.set l (f (u.seats.get l)) }

/-- The motion record replaced by a function of itself. -/
def State.onMotion (s : State) (f : Motion → Motion) : State :=
  s.onLmc fun l => { l with motion := f l.motion }

/-- The batch record replaced by a function of itself. -/
def State.onBatch (s : State) (f : Batch → Batch) : State :=
  s.onPsc fun p => { p with batch := f p.batch }

/-- Side `d`'s turn record replaced by a function of itself. -/
def State.onTurn (s : State) (d : Side) (f : SideTurn → SideTurn) : State :=
  s.onCsu fun c => { c with sides := c.sides.set d (f (c.sides.get d)) }

/-! ### Reading -/

/-- The value the working table holds at index `i` now (R27). -/
def State.par (s : State) (i : Fin 64) : Nat := s.apu.table[i]

def State.arm (s : State) (a : Fin 8) : Arm := s.bzu.arms[a]
def State.zone (s : State) (z : Fin 6) : Zone := s.bzu.zones[z]
def State.bolt (s : State) (b : Fin 4) : Bolt := s.lpu.bolts[b]
def State.pump (s : State) (g : Leaf) : Pump := s.lpu.pumps.get g

/-- Start-up has ended and RESET is not asserted: the blocks take events and drive the field (R35, R36). -/
def State.running (s : State) : Bool := decide (s.tb.phase = .run)

/-- The store is not usable: INVALID or WRITE_FAILED (R31). -/
def State.storeUnusable (s : State) : Bool := decide (s.apu.storeStatus ≠ .valid)

/-! ### Counters and time -/

/-- A 16-bit event counter one event later: it stops at 65535 (00_scope, "Counters and latches"). -/
def bump (n : Nat) : Nat := if n < 65535 then n + 1 else n

/-- The seconds counter after one advance; the value after its last one is free (note 16). -/
def nextSecond (t : Word) : Word := if t = 0xFFFFFFFF then Config.secondsAfterLast else t + 1

/-- Seconds from `t` to the seconds counter now, as 32-bit values (note 16). -/
def State.since (s : State) (t : Word) : Nat := (s.tb.seconds - t).toNat

/-! ### The latched attention set (R14) -/

/-- The sixteen attention conditions of R14. -/
inductive Condition where
  | road
  | arm
  | deck
  | leaf
  | trip
  | lockPower
  | wind
  | position
  | vessel
  | batch
  | violation
  | circuit
  | health
  | authority
  | parameter
  | link
deriving DecidableEq, Repr

/-- The number of a condition, its bit in the set (R14). -/
def Condition.number : Condition → Nat
  | .road => 0
  | .arm => 1
  | .deck => 2
  | .leaf => 3
  | .trip => 4
  | .lockPower => 5
  | .wind => 6
  | .position => 7
  | .vessel => 8
  | .batch => 9
  | .violation => 10
  | .circuit => 11
  | .health => 12
  | .authority => 13
  | .parameter => 14
  | .link => 15

/-- Condition `c`'s bit alone. -/
def Condition.bit (c : Condition) : Half := (1 : Half) <<< c.number

/-- Condition `c` is latched; a condition already latched stays so (R14). -/
def latch (c : Condition) (s : State) : State :=
  s.onCl fun l => { l with latched := l.latched ||| c.bit }

/-- `c` is latched where `p` holds. -/
def latchIf (p : Bool) (c : Condition) (s : State) : State := if p then latch c s else s

/-! ### Circuits switched by their owners (R188, R191) -/

/-- The red flash is on: in every road state but OPEN (R61), and in the fail-safe pattern (R35). -/
def State.flashOn (s : State) : Bool :=
  match s.tb.phase with
  | .off => false
  | .resetHeld | .startup => true
  | .run => decide (s.rcs.road ≠ .opened)

/-- Amber is lit only in PREWARN (R61, R62). -/
def State.amber (s : State) : Bool := s.running && decide (s.rcs.road = .prewarn)

/-- The aspect a side shows in the run (R174). -/
def State.aspect (s : State) (d : Side) : Aspect := s.csu.aspects.get d

/-- A channel lamp is lit by its side's aspect (R174): lamp 0 red-upper, 1 red-lower, 2 green-upper, 3 green-lower. -/
def lampOn (a : Aspect) (lamp : Nat) : Bool :=
  match a, lamp with
  | .stop, 0 => true
  | .stop, 1 => true
  | .standby, 1 => true
  | .standby, 2 => true
  | .go, 2 => true
  | .go, 3 => true
  | _, _ => false

/-- A side's lamp is lit: by the side's aspect in the run, STOP in the fail-safe pattern (R35, R174), dark while the
supply is away (note 30). -/
def State.lampLit (s : State) (d : Side) (lamp : Nat) : Bool :=
  match s.tb.phase with
  | .off => false
  | .resetHeld | .startup => lampOn .stop lamp
  | .run => lampOn (s.aspect d) lamp

/-- The horn sounds while its timer is above 0 (R181); off in the fail-safe pattern (R35). -/
def State.hornOn (s : State) : Bool := s.running && decide (0 < s.csu.horn)

/-- The owner commands circuit `c` lit or sounding (R188). Circuit 14 is an input line and never on. -/
def State.circuitOn (s : State) (c : Fin 16) : Bool :=
  match c.val with
  | 0 | 3 => s.amber
  | 1 | 4 => s.flashOn && s.rcs.flashA
  | 2 | 5 => s.flashOn && !s.rcs.flashA
  | 6 | 7 | 8 | 9 => s.lampLit .seaward (c.val - 6)
  | 10 | 11 | 12 | 13 => s.lampLit .landward (c.val - 10)
  | 15 => s.hornOn
  | _ => false

/-- Circuits 1, 2, 4 and 5 are red A and red B of the approaches (R188). -/
def isRed (c : Fin 16) : Bool := decide (c.val = 1) || decide (c.val = 2) || decide (c.val = 4) || decide (c.val = 5)

/-- The owner's change from `before` to `after` switches circuit `c`; the red flash being turned on or off is a switch
of every red, lit or dark (R190, R191). -/
def switched (before after : State) (c : Fin 16) : Bool :=
  (before.circuitOn c != after.circuitOn c) || (isRed c && (before.flashOn != after.flashOn))

/-- After an owner's change from `before` to `after`: a proving in progress on a circuit that was switched is
voided (R191). -/
def voidSwitched (before after : State) : State :=
  match after.phu.proving with
  | none => after
  | some p =>
    if switched before after p.circuit then after.onPhu fun u => { u with proving := some { p with voided := true } }
    else after

/-- The RCS changes its record, switching its lamps with it. -/
def State.driveRcs (s : State) (f : Rcs → Rcs) : State := voidSwitched s (s.onRcs f)

/-- The CSU changes its record, switching its lamps and horn with it. -/
def State.driveCsu (s : State) (f : Csu → Csu) : State := voidSwitched s (s.onCsu f)

end Sys2Proof.Machine
end

