-- ==== Sys2Proof/Machine/Flags.lean ====
section
/-! DEFINITION. The conditions the blocks read of one another: held-down arms and the group tests (R40), zone states
and counted statuses (R55, R56), the deck-clear condition (R43, R63), bolts and pumps (R80, R90), angles and skew
(R109, R127), the trip conditions (R115), and the ATTENTION line (R16). -/

namespace Sys2Proof.Machine

/-! ### Arms (R40) -/

/-- Exit arms are 2, 3, 6 and 7 (chapter 3). -/
def isExit (a : Fin 8) : Bool := decide (2 ≤ a.val % 4)

def entryArms : List (Fin 8) := [0, 1, 4, 5]
def exitArms : List (Fin 8) := [2, 3, 6, 7]
def allArms : List (Fin 8) := [0, 1, 2, 3, 4, 5, 6, 7]

/-- An arm that is DOWN with its displaced mark clear is held down (R40). -/
def Arm.heldDown (a : Arm) : Bool := decide (a.state = .down) && !a.displaced

/-- The arm is not OUT_OF_SERVICE. -/
def Arm.inService (a : Arm) : Bool := decide (a.state ≠ .outOfService)

/-- All in-service arms of a group are DOWN: held down (R40). -/
def State.allHeld (s : State) (group : List (Fin 8)) : Bool :=
  group.all fun a => !(s.arm a).inService || (s.arm a).heldDown

/-- All in-service arms of a group are UP (R40). -/
def State.allUp (s : State) (group : List (Fin 8)) : Bool :=
  group.all fun a => !(s.arm a).inService || decide ((s.arm a).state = .up)

/-- An arm with a stroke in progress. -/
def Arm.moving (a : Arm) : Bool := decide (a.state = .lowering) || decide (a.state = .raising)

/-! ### Zones (R55, R56) -/

/-- The zone's state is OCCUPIED or FAULTED (R55). -/
def Zone.occupied (z : Zone) : Bool := z.fault || z.filtered

/-- The zone's state (R55) as ROAD-READ codes it: 0 CLEAR, 1 OCCUPIED, 2 FAULTED (R77). -/
def Zone.code (z : Zone) : Nat := if z.fault then 2 else if z.filtered then 1 else 0

/-- The counted status is occupied (R56). -/
def Zone.counted (z : Zone) : Bool := !z.bypassed && z.occupied

/-- Zones 1 to 6 in the order of the manual. -/
def allZones : List (Fin 6) := [0, 1, 2, 3, 4, 5]

/-- Zones 1 to 4 lie on the leaves (section 3.5). -/
def leafZones : List (Fin 6) := [0, 1, 2, 3]

/-- A zone 1 to 4 is counted occupied (R100, R115). -/
def State.leafZoneOccupied (s : State) : Bool := leafZones.any fun z => (s.zone z).counted

/-- The dwell in use, in seconds (R43, R63). -/
def State.dwell (s : State) : Nat :=
  if s.rcs.dwellCaptured then s.rcs.capClearDwell else s.par pClearDwell

/-- The deck-clear condition: every unbypassed zone has been counted clear for at least the dwell (R43, R63). -/
def State.deckCondition (s : State) : Bool :=
  allZones.all fun z =>
    (s.zone z).bypassed || (!(s.zone z).counted && decide (sec s.dwell ≤ (s.zone z).clearTicks))

/-- Some unbypassed zone is counted occupied (R63). -/
def State.deckOccupied (s : State) : Bool := allZones.any fun z => (s.zone z).counted

/-! ### Bolts and pumps -/

def allBolts : List (Fin 4) := [0, 1, 2, 3]

/-- All four bolts are WITHDRAWN (R80). -/
def State.allWithdrawn (s : State) : Bool := allBolts.all fun b => decide ((s.bolt b).state = .withdrawn)

/-- All four bolts are DRIVEN (R80). -/
def State.allDriven (s : State) : Bool := allBolts.all fun b => decide ((s.bolt b).state = .driven)

/-- A bolt is JAMMED: the LOCK_FAULT interlock (R80). -/
def State.lockFault (s : State) : Bool := allBolts.any fun b => decide ((s.bolt b).state = .jammed)

/-- Both pump groups are READY. -/
def State.bothReady (s : State) : Bool :=
  decide ((s.pump .north).state = .ready) && decide ((s.pump .south).state = .ready)

/-- A pump group is in FAULT: the PUMP_FAULT interlock (R90). -/
def State.pumpFault (s : State) : Bool :=
  decide ((s.pump .north).state = .fault) || decide ((s.pump .south).state = .fault)

/-- Both filtered seat switches are made (R89). -/
def State.bothSeated (s : State) : Bool := s.lpu.seats.north.made && s.lpu.seats.south.made

/-! ### Angles, skew and wind -/

/-- Leaf `l`'s selected angle (R126). -/
def State.angle (s : State) (l : Leaf) : Int := (s.msu.angles.get l).angle

/-- The skew s = θN − θS (R109). -/
def State.skew (s : State) : Int := s.angle .north - s.angle .south

/-- Leaf `l`'s source is LOST: its angle is kept for reading and meets no test (R127). -/
def State.lost (s : State) (l : Leaf) : Bool := decide ((s.msu.angles.get l).source = .lost)

/-- A leaf whose source is LOST has its position LOST (chapter 7). -/
def State.positionLost (s : State) : Bool :=
  decide (s.msu.angles.north.source = .lost) || decide (s.msu.angles.south.source = .lost)

/-- A leaf's encoders are in disagreement (R128). -/
def State.disagreeing (s : State) : Bool := s.msu.angles.north.disagree || s.msu.angles.south.disagree

/-- The two leaves are aligned: neither position LOST and |θN − θS| within the alignment tolerance (R84). -/
def State.aligned (s : State) : Bool :=
  !s.positionLost && decide (s.skew.natAbs ≤ s.par pAlignment)

/-- The wind value is at or above the stop limit Ws. -/
def State.windAtStop (s : State) : Bool := decide (s.par pStopLimit ≤ s.msu.wind.w)

/-- The wind state is KNOWN and w is below Ws (R101). -/
def State.windAllows (s : State) : Bool := s.msu.wind.known && !s.windAtStop

/-- The derate percentage in use: 40 while the derate is fixed, else the MSU's (R99). -/
def State.pctInUse (s : State) : Nat := if s.lmc.motion.derateFixed then 40 else s.msu.wind.pct

/-! ### Trip conditions (R115) -/

/-- The leaves are RAISING or LOWERING. -/
def LeafState.moving (l : LeafState) : Bool := decide (l = .raising) || decide (l = .lowering)

/-- |skew| reaches S_trip while RAISING or LOWERING (R109, R115); a test over both leaves is not met while either is
LOST (R127; note 38). -/
def State.skewTrip (s : State) : Bool :=
  s.lmc.leaf.moving && !s.positionLost && decide (s.lmc.motion.sTrip ≤ s.skew.natAbs)

/-- Leaf `l`'s selected angle has fallen below T by more than the drift limit (R112); a LOST leaf's meets no
test (R127). -/
def State.drifted (s : State) (l : Leaf) : Bool :=
  !s.lost l && decide (s.angle l + s.lmc.motion.driftLimit < s.lmc.motion.target)

/-- In RAISED a leaf has drifted (R112). -/
def State.driftTrip (s : State) : Bool :=
  decide (s.lmc.leaf = .raised) && (s.drifted .north || s.drifted .south)

/-- The first trip cause whose condition holds, in the order of R115's table and in its states. -/
def State.tripNow (s : State) : Option TripCause :=
  if s.lmc.leaf = .seatedLocked ∨ s.lmc.leaf = .tripped then none
  else if s.pins.estop then some .estop
  else if s.leafZoneOccupied then some .deck
  else if s.skewTrip then some .skew
  else if s.positionLost then some .position
  else if s.lmc.leaf.moving && s.pumpFault then some .pressure
  else if s.driftTrip then some .drift
  else none

/-! ### ATTENTION (R16) -/

/-- ATTENTION is asserted while a latched condition is selected by the mask copy; released while RESET is asserted
and during start-up (R16). -/
def State.attention (s : State) : Bool := s.running && decide (s.cl.latched &&& s.cl.mask ≠ 0)

end Sys2Proof.Machine
end

