-- ==== Sys2Proof/Machine/Health.lean ====
section
/-! DEFINITION. Actuator health (section 11.6): the update on a stroke report and the WORN mark. -/

namespace Sys2Proof.Machine

/-- The stroke-time ratio r = floor(100 × t / t_nom), clamped to 0..400 (R197). -/
def strokeRatio (nominal t : Nat) : Nat := min 400 (100 * t / nominal)

/-- The sample H_s of a ratio (R197). -/
def healthSample (r : Nat) : Nat :=
  if r ≤ 110 then 253 else if 200 ≤ r then 1 else 253 - (r - 110) * 252 / 90

/-- H after a sample: floor((3 × H + H_s + 2) / 4), clamped to 1..253 (R197). -/
def healthAfter (h sample : Nat) : Nat := max 1 (min 253 ((3 * h + sample + 2) / 4))

/-- Actuators 0 to 7 are arms; the rest are bolts (section 11.6). -/
def isArmActuator (n : Fin 12) : Bool := decide (n.val < 8)

/-- The actuator of arm `a`. -/
def armActuator (a : Fin 8) : Fin 12 := ⟨a.val, by omega⟩

/-- The actuator of bolt `b` (8 + b). -/
def boltActuator (b : Fin 4) : Fin 12 := ⟨8 + b.val, by omega⟩

def allActuators : List (Fin 12) := [0, 1, 2, 3, 4, 5, 6, 7, 8, 9, 10, 11]

/-- The WORN condition of R198: H no greater than the class threshold, with the class's pre-failure flag 1. -/
def State.wornCondition (s : State) (n : Fin 12) : Bool :=
  let h := s.phu.health[n].value
  if isArmActuator n then decide (h ≤ s.par pArmThreshold) && decide (s.par pArmFlag = 1)
  else decide (h ≤ s.par pBoltThreshold) && decide (s.par pBoltFlag = 1)

/-- The WORN mark of actuator `n`. -/
def State.worn (s : State) (n : Fin 12) : Bool := s.phu.health[n].worn

/-- Actuator `n`'s health record replaced by a function of itself. -/
def State.onHealth (s : State) (n : Fin 12) (f : Health → Health) : State :=
  s.onPhu fun p => { p with health := p.health.set n (f p.health[n]) }

/-- Actuator `n`'s mark set to its condition. -/
def markWorn (s : State) (n : Fin 12) : State := s.onHealth n fun h => { h with worn := s.wornCondition n }

/-- The marks of `group` are re-evaluated; a mark that goes from clear to set latches HEALTH (R198). -/
def evaluateWorn (group : List (Fin 12)) (s : State) : State :=
  latchIf (group.any fun n => s.wornCondition n && !s.worn n) .health (group.foldl markWorn s)

/-- A completed full stroke of actuator `n` is reported to the PHU (R197), then its mark is re-evaluated (R198). -/
def reportStroke (n : Fin 12) (nominal t : Nat) (s : State) : State :=
  let r := strokeRatio nominal t
  evaluateWorn [n] <| s.onHealth n fun h =>
    { h with value := healthAfter h.value (healthSample r), samples := bump h.samples, ratio := some r }

/-- The stroke timeout for a nominal: three halves, or five halves while WORN (R41, R81). -/
def strokeTimeout (nominal : Nat) (worn : Bool) : Nat := if worn then nominal * 5 / 2 else nominal * 3 / 2

end Sys2Proof.Machine
end

