-- ==== Sys2Proof/Machine/Locks.lean ====
section
/-! DEFINITION. Locks and power (LPU, spec/05): bolt strokes and sequences, pump groups and the standby timer. What
the LMC does on the LPU's reports stands in Leaf.lean. -/

namespace Sys2Proof.Machine

/-! ### Standby (R94) -/

/-- The standby timer's run condition (R94). -/
def State.standbyCondition (s : State) : Bool :=
  decide (s.lmc.leaf = .seatedLocked) && s.bothReady &&
    decide (s.psc.batch.state ≠ .formed) && decide (s.psc.batch.state ≠ .running)

/-- The standby timer as it starts from zero; a period of 0 keeps it from running (R94). -/
def State.freshStandby (s : State) : Option Nat := if s.par pStandby = 0 then none else some 0

/-- The test of the run condition at a change from `before` to `after` of the leaf state, a group's state or the batch
state: becoming true it starts the timer from zero, becoming false it stops it (R94). -/
def standbyEdge (before after : State) : State :=
  if after.standbyCondition then
    if before.standbyCondition then after else after.onLpu fun l => { l with standby := after.freshStandby }
  else after.onLpu fun l => { l with standby := none }

/-- The leaf state changes: LEAF is latched and the standby condition tested (R97, R94). -/
def setLeaf (l : LeafState) (s : State) : State :=
  if s.lmc.leaf = l then s
  else latch .leaf (standbyEdge s (s.onLmc fun m => { m with leaf := l }))

/-- The batch state changes: BATCH is latched and the standby condition tested (R160, R94). -/
def setBatchState (b : BatchState) (s : State) : State :=
  latch .batch (standbyEdge s (s.onBatch fun r => { r with state := b }))

/-- A pump group's record changes, with the standby condition tested (R90, R94). -/
def setPump (g : Leaf) (f : Pump → Pump) (s : State) : State := standbyEdge s (s.onPump g f)

/-! ### Bolts (R80 to R88) -/

/-- Bolts 0 and 1 are the centre bolts. -/
def isCentre (b : Fin 4) : Bool := decide (b.val < 2)

/-- A bolt becomes JAMMED with a cause: its outputs and timers stop and LOCKPOWER is latched (R80). -/
def jamBolt (b : Fin 4) (cause : BoltCause) (s : State) : State :=
  latch .lockPower <| s.onBolt b fun r => { r with state := .jammed, cause := some cause, restTimer := none }

/-- The two directions of a bolt stroke. -/
inductive BoltWay where
  | withdraw
  | drive
deriving DecidableEq, Repr

/-- The record of a bolt whose stroke starts with timeout from the bolt nominal and the WORN mark (R81); the output
of a centre bolt's drive waits for alignment (R84). -/
def Bolt.begin (r : Bolt) (way : BoltWay) (waits oppositeMade worn : Bool) (nominal : Nat) : Bolt :=
  { r with
    state := match way with | .withdraw => .withdrawing | .drive => .driving
    cause := none
    last := match way with | .withdraw => .withdraw | .drive => .drive
    nominal := nominal
    timeout := strokeTimeout nominal worn
    elapsed := 0
    outputOn := if waits then none else some 0
    full := !waits && oppositeMade
    restTimer := none }

/-- A bolt stroke starts (R81). A pending soft reset keeps it from starting; ESTOP and a switch conflict stop it
as it starts. DESIGN CHOICE (note 41): a withdraw stroke or a heel lock's drive that they stop keeps the output-on time 0
and the full mark it began with, though its output never came on. -/
def startBolt (b : Fin 4) (way : BoltWay) (s : State) : State :=
  if s.apu.restart then s
  else
    let opposite := match way with
      | .withdraw => s.pins.boltDriven[b]
      | .drive => s.pins.boltWithdrawn[b]
    let waits := isCentre b && decide (way = .drive)
    let t := s.onBolt b fun r => r.begin way waits opposite (s.worn (boltActuator b)) (s.par pBoltNominal)
    if s.pins.estop then jamBolt b .estop t
    else if s.pins.boltDriven[b] && s.pins.boltWithdrawn[b] then jamBolt b .switchConflict t
    else t

/-- A sequence step commands a bolt, taken by its state (R86). -/
def commandBolt (way : BoltWay) (s : State) (b : Fin 4) : State :=
  match way, (s.bolt b).state with
  | .withdraw, .withdrawing => s
  | .withdraw, .withdrawn => s
  | .drive, .driving => s
  | .drive, .driven => s
  | _, _ => startBolt b way s

/-- The sequence record is set. -/
def setSequence (kind : SeqKind) (step : SeqStep) (s : State) : State :=
  s.onLpu fun l => { l with seqKind := kind, seqStep := step }

/-- A sequence that is cancelled: strokes in progress run on (R87). -/
def cancelSequence (s : State) : State := s.onLpu fun l => { l with seqKind := .none }

/-- Both bolts of a pair are in state `st`. -/
def State.pairIs (s : State) (pair : List (Fin 4)) (st : BoltState) : Bool :=
  pair.all fun b => decide ((s.bolt b).state = st)

/-- The first step test of the withdraw sequence: both centre bolts out, the heel locks are commanded (R87). -/
def withdrawHeelStep (s : State) : State :=
  if s.lpu.seqKind = .withdraw ∧ s.lpu.seqStep = .centre ∧ s.pairIs [0, 1] .withdrawn then
    [2, 3].foldl (commandBolt .withdraw) (setSequence .withdraw .heel s)
  else s

/-- The first step test of the drive sequence: both heel locks home, the centre bolts are commanded (R87). -/
def driveCentreStep (s : State) : State :=
  if s.lpu.seqKind = .drive ∧ s.lpu.seqStep = .heel ∧ s.pairIs [2, 3] .driven then
    [0, 1].foldl (commandBolt .drive) (setSequence .drive .centre s)
  else s

/-- The final test of a sequence: all four bolts at its end position end it (R87). -/
def endSequence (s : State) : State :=
  if (s.lpu.seqKind = .withdraw ∧ s.lpu.seqStep = .heel ∧ s.allWithdrawn) ∨
      (s.lpu.seqKind = .drive ∧ s.lpu.seqStep = .centre ∧ s.allDriven) then cancelSequence s
  else s

/-- The step tests of a sequence, made at its call and at each bolt report (R87). -/
def advanceSequence (s : State) : State := endSequence (driveCentreStep (withdrawHeelStep s))

/-- The LMC calls the withdraw sequence (R87). -/
def callWithdraw (s : State) : State :=
  advanceSequence ([0, 1].foldl (commandBolt .withdraw) (setSequence .withdraw .centre s))

/-- The LMC calls the drive sequence (R87). -/
def callDrive (s : State) : State :=
  advanceSequence ([2, 3].foldl (commandBolt .drive) (setSequence .drive .heel s))

/-! ### Pump groups (R90 to R93) -/

/-- A group begins STARTING: the start limit is read and its timer starts, and the pressure hold starts if pressure-ok
is already made (R90). -/
def startPump (g : Leaf) (s : State) : State :=
  setPump g (fun p =>
    { p with state := .starting, limit := s.par pPumpLimit, limitElapsed := 0
             hold := if s.pins.pressure.get g then some 0 else none }) s

/-- A start order of the LMC or of the pre-start: it acts on a STOPPED group alone, and not while ESTOP is
asserted (R90, R93). -/
def orderPump (s : State) (g : Leaf) : State :=
  if (s.pump g).state = .stopped ∧ s.pins.estop = false then startPump g s else s

/-- A start order to both groups. -/
def orderPumps (s : State) : State := orderPump (orderPump s .north) .south

/-- A group stops: its start output goes off and its timers stop. -/
def stopPump (s : State) (g : Leaf) : State :=
  setPump g (fun p => { p with state := .stopped, limitElapsed := 0, hold := none }) s

/-- A group becomes FAULT and LOCKPOWER is latched (R91). -/
def faultPump (g : Leaf) (s : State) : State :=
  latch .lockPower (setPump g (fun p => { p with state := .fault, limitElapsed := 0, hold := none }) s)

end Sys2Proof.Machine
end

