-- ==== Sys2Proof/Machine/Reply.lean ====
section
/-! DEFINITION. How a request is admitted and answered: the authority tests of R20, the reply of R9 with its header,
status snapshot (R13) and data, the reasons of R11 and the interlock details of R12, and the request catalogue of
section 1.6. -/

namespace Sys2Proof.Machine

/-! ### Codes -/

/-- The reason codes of R11. -/
inductive Reason where
  | length
  | unknown
  | authority
  | frozen
  | expired
  | mismatch
  | state
  | interlock
  | range
  | busy
  | store
  | tableFull
  | queueFull
  | poolFull
  | notFound
  | alreadyWaiting
  | notCalled
  | noEligible
  | interval
deriving DecidableEq, Repr

def Reason.code : Reason → Nat
  | .length => 1
  | .unknown => 2
  | .authority => 3
  | .frozen => 4
  | .expired => 5
  | .mismatch => 6
  | .state => 7
  | .interlock => 8
  | .range => 9
  | .busy => 10
  | .store => 11
  | .tableFull => 12
  | .queueFull => 13
  | .poolFull => 14
  | .notFound => 15
  | .alreadyWaiting => 16
  | .notCalled => 17
  | .noEligible => 18
  | .interval => 19

/-- The interlock details of R12. -/
inductive Interlock where
  | roadNotSecured
  | leavesNotSeated
  | wind
  | windUnknown
  | position
  | encoderDisagree
  | tripActive
  | pumpFault
  | lockFault
  | batchLive
  | notSealed
  | noTarget
  | roadSignal
  | noEntryArm
  | storeInvalid
  | deckOccupied
deriving DecidableEq, Repr

def Interlock.code : Interlock → Nat
  | .roadNotSecured => 1
  | .leavesNotSeated => 2
  | .wind => 3
  | .windUnknown => 4
  | .position => 5
  | .encoderDisagree => 6
  | .tripActive => 7
  | .pumpFault => 8
  | .lockFault => 9
  | .batchLive => 10
  | .notSealed => 11
  | .noTarget => 12
  | .roadSignal => 13
  | .noEntryArm => 14
  | .storeInvalid => 15
  | .deckOccupied => 16

/-- What the owning block answers (R10). -/
inductive Verdict where
  | done (data : List Byte)
  | accepted (data : List Byte)
  | refused (reason : Reason) (detail : Nat)
deriving DecidableEq, Repr

/-- REFUSED INTERLOCK with its detail (R11). -/
def Verdict.interlock (i : Interlock) : Verdict := .refused .interlock i.code

/-- REFUSED RANGE with the offset of the field (R11). -/
def Verdict.range (offset : Nat) : Verdict := .refused .range offset

/-- REFUSED STATE. -/
def Verdict.state : Verdict := .refused .state 0

/-! ### Fields -/

/-- A one-byte field. -/
def b1 (n : Nat) : List Byte := [BitVec.ofNat 8 n]

/-- A two-byte field, high byte first. -/
def b2 (n : Nat) : List Byte := be16 (BitVec.ofNat 16 n)

/-- A four-byte field, high byte first. -/
def b4 (n : Nat) : List Byte := be32 (BitVec.ofNat 32 n)

/-- A signed two-byte field. -/
def i2 (n : Int) : List Byte := be16 (BitVec.ofInt 16 n)

/-- A mark: 0 no, 1 yes. -/
def bm (b : Bool) : List Byte := b1 b.toNat

/-- A two-byte count that stops at 65535. -/
def b2stop (n : Nat) : List Byte := b2 (min 65535 n)

/-! ### Codes of the status snapshot (section 1.7) -/

def Level.code : Level → Nat
  | .view => 0
  | .operate => 1
  | .maintain => 2

def RoadState.code : RoadState → Nat
  | .opened => 0
  | .prewarn => 1
  | .stopping => 2
  | .clearing => 3
  | .securing => 4
  | .secured => 5
  | .breached => 6
  | .reopening => 7
  | .unknown => 8

def LeafState.code : LeafState → Nat
  | .seatedLocked => 0
  | .unlocking => 1
  | .raising => 2
  | .raised => 3
  | .lowering => 4
  | .locking => 5
  | .halted => 6
  | .tripped => 7

def Aspect.code : Aspect → Nat
  | .stop => 0
  | .standby => 1
  | .go => 2

def BatchState.code : BatchState → Nat
  | .none => 0
  | .formed => 1
  | .running => 2
  | .closing => 3
  | .closed => 4

def sideCode : Side → Nat
  | .seaward => 0
  | .landward => 1

/-- The status snapshot (R13, section 1.7). -/
def State.snapshot (s : State) : List Byte :=
  b1 s.apu.level.code ++ b1 s.rcs.road.code ++ b1 s.lmc.leaf.code ++ b1 (s.aspect .seaward).code ++
    b1 (s.aspect .landward).code ++ b1 s.psc.batch.state.code ++ be16 s.cl.latched

/-- The reply header (section 1.7): the outcome codes are 0 DONE, 1 ACCEPTED, 2 REFUSED. -/
def Verdict.header (v : Verdict) (code : Nat) : List Byte :=
  match v with
  | .done _ => b1 code ++ b1 0 ++ b1 0 ++ b1 0
  | .accepted _ => b1 code ++ b1 1 ++ b1 0 ++ b1 0
  | .refused reason detail => b1 code ++ b1 2 ++ b1 reason.code ++ b1 detail

/-- The request-specific data: none in a refusal (R9). -/
def Verdict.data : Verdict → List Byte
  | .done d => d
  | .accepted d => d
  | .refused _ _ => []

/-- The body of the reply (R9): header, snapshot, data. -/
def replyBody (code : Nat) (s : State) (v : Verdict) : List Byte := v.header code ++ s.snapshot ++ v.data

/-- The reply is built and pending (R6, R9, R13: after the request's own effects), in the step of its request, so no
event falls between the two (note 28). -/
def answer (code : Nat) (r : State × Verdict) : State :=
  r.1.onCl fun l => { l with reply := some (replyBody code r.1 r.2) }

/-! ### Admission (R20) -/

/-- What the catalogue and the table of R20 say of a request. -/
structure Request where
  code : Nat
  level : Level
  frozenBar : Bool
  busyBar : Bool
  isLogon : Bool
deriving DecidableEq, Repr

/-- The request is refused by R20, for the first test that fails. -/
def admission (q : Request) (s : State) : Option Reason :=
  if s.apu.level.code < q.level.code then some .authority
  else if q.isLogon ∧ 5 ≤ s.apu.mismatch then some .expired
  else if q.frozenBar ∧ s.apu.frozen then some .frozen
  else if q.busyBar ∧ s.apu.commit.isSome then some .busy
  else none

/-- A frame that completes while a reply is pending: the overrun counter and LINK (R6, R7). -/
def overrun (s : State) : State := latch .link (s.onCl fun l => { l with overruns := bump l.overruns })

/-- The link takes a request now: start-up has ended (R36), no reply is pending (R6) and no RESTART waits (R19). -/
def State.taking (s : State) : Bool := s.running && s.cl.reply.isNone && !s.apu.restart

/-- A good frame that carries request `q` arrives (R6, R8 steps 3 and 4): the tests of R20, then the owner's decision,
then the reply. An EXPIRED refusal latches AUTHORITY (R20). While a reply is pending the frame is an overrun (R6); during
a reset, start-up or a waiting soft reset it is discarded without a trace (R1, R19; note 6). Effects and reply are one
step (note 28). -/
def serve (q : Request) (op : State → State × Verdict) (s : State) : State :=
  if s.taking then
    match admission q s with
    | some reason => answer q.code (latchIf (decide (reason = .expired)) .authority s, .refused reason 0)
    | none => answer q.code (op s)
  else if s.running && s.cl.reply.isSome then overrun s
  else s

/-! ### The catalogue (section 1.6, table of R20) -/

/-- A request at VIEW. -/
def viewRequest (code : Nat) : Request := ⟨code, .view, false, false, false⟩
/-- A request at OPERATE. -/
def operateRequest (code : Nat) : Request := ⟨code, .operate, false, false, false⟩
/-- A request at MAINTAIN that is refused neither FROZEN nor BUSY. -/
def maintainRequest (code : Nat) : Request := ⟨code, .maintain, false, false, false⟩
/-- LOGON (R20: refused EXPIRED at a mismatch count of 5). -/
def logonRequest : Request := ⟨0x10, .view, false, false, true⟩
/-- PARAM-WRITE, PARAM-COMMIT, PARAM-DEFAULTS: refused FROZEN and BUSY. -/
def tableRequest (code : Nat) : Request := ⟨code, .maintain, true, true, false⟩
/-- ARM-SERVICE, ZONE-BYPASS: refused FROZEN. -/
def serviceRequest (code : Nat) : Request := ⟨code, .maintain, true, false, false⟩

end Sys2Proof.Machine
end

