-- ==== Sys2Proof/Machine/Passage.lean ====
section
/-! DEFINITION. The channel jobs that call on one another: the vessel entries (VT), the queues and the batch (PSC)
and the channel signals and turns (CSU), up to the reports they make to each other (R139, R152, R165 to R169, R174 to
R182). -/

namespace Sys2Proof.Machine

/-! ### Vessel entries (R138, R139) -/

def allSlots : List (Fin 32) := List.finRange 32
def allQueues : List (Fin 8) := [0, 1, 2, 3, 4, 5, 6, 7]

/-- The entry in slot `k`, if the slot is used. -/
def State.vessel (s : State) (k : Fin 32) : Option Vessel := s.vt.slots[k]

/-- Slot `k` set. -/
def setSlot (k : Fin 32) (v : Option Vessel) (s : State) : State :=
  s.onVt fun t => { t with slots := t.slots.set k v }

/-- The vessel in slot `k`, if there is one, replaced by a function of itself. -/
def State.onVessel (s : State) (k : Fin 32) (f : Vessel → Vessel) : State :=
  match s.vessel k with
  | some v => setSlot k (some (f v)) s
  | none => s

/-- The slot whose used entry holds an identity (R140). -/
def State.findVessel (s : State) (identity : Word) : Option (Fin 32) :=
  allSlots.find? fun k =>
    match s.vessel k with
    | some v => decide (v.identity = identity)
    | none => false

/-- The VT changes an entry's state as R139 asks. -/
def setVesselState (k : Fin 32) (st : VesselState) (s : State) : State :=
  s.onVessel k fun v => { v with state := st }

/-- The table change number one change on; it wraps (R146). -/
def countChange (s : State) : State := s.onVt fun t => { t with change := t.change + 1 }

/-! ### Queues (R152) -/

/-- The queue of a side and a class. -/
def queueOf (d : Side) (cls : Fin 4) : Fin 8 :=
  match d with
  | .seaward => ⟨cls.val, by omega⟩
  | .landward => ⟨4 + cls.val, by omega⟩

/-- The side of a queue. -/
def queueSide (q : Fin 8) : Side := if q.val < 4 then .seaward else .landward

/-- The class of a queue. -/
def queueClass (q : Fin 8) : Fin 4 := ⟨q.val % 4, by omega⟩

def State.queue (s : State) (q : Fin 8) : List QueueEntry := s.psc.queues[q]

/-- Queue `q` replaced by a function of itself. -/
def State.onQueue (s : State) (q : Fin 8) (f : List QueueEntry → List QueueEntry) : State :=
  s.onPsc fun p => { p with queues := p.queues.set q (f p.queues[q]) }

/-- The pool count (R152). -/
def State.pool (s : State) : Nat := (allQueues.map fun q => (s.queue q).length).sum

/-- The vessel in slot `k` leaves its queue; those behind it move up (R152). -/
def leaveQueue (k : Fin 32) (s : State) : State :=
  s.onPsc fun p => { p with queues := p.queues.map fun l => l.filter fun e => decide (e.slot ≠ k) }

/-- The CALLED mark of the entry of slot `k` set or cleared; nothing moves (R152). -/
def markCalled (k : Fin 32) (called : Bool) (s : State) : State :=
  s.onPsc fun p =>
    { p with queues := p.queues.map fun l => l.map fun e => if e.slot = k then { e with called := called } else e }

/-- The queue entry that stands for slot `k`, with its queue and position. -/
def State.findEntry (s : State) (k : Fin 32) : Option (Fin 8 × Nat × QueueEntry) :=
  allQueues.findSome? fun q =>
    match (s.queue q).findIdx? (fun e => decide (e.slot = k)) with
    | some i => ((s.queue q)[i]?).map fun e => (q, i, e)
    | none => none

/-! ### Items of the call list -/

/-- Side `d` has an item with outcome CALLED. -/
def State.calledLeft (s : State) (d : Side) : Bool :=
  s.psc.batch.items.any fun i => decide (i.side = d) && decide (i.outcome = .called)

/-- The CALLED item of slot `k` takes an outcome. -/
def setOutcome (k : Fin 32) (o : ItemOutcome) (s : State) : State :=
  s.onBatch fun b =>
    { b with items := b.items.map fun i => if i.slot = k ∧ i.outcome = .called then { i with outcome := o } else i }

/-! ### Aspects and the seal (R174, R182) -/

/-- A side's aspect is shown. -/
def setAspect (d : Side) (a : Aspect) (s : State) : State :=
  s.driveCsu fun c => { c with aspects := c.aspects.set d a }

/-- Every side shows STOP. -/
def showStop (s : State) : State := s.driveCsu fun c => { c with aspects := ⟨.stop, .stop⟩ }

/-- The horn timer is set in tenths of a second, replacing what remains (R181). -/
def soundHorn (t : Nat) (s : State) : State := s.driveCsu fun c => { c with horn := tenths t }

/-- The seal timer starts from zero, so the channel is not sealed (R182: the seal time is at least 10 s). -/
def restartSeal (s : State) : State := s.onCsu fun c => { c with sealTimer := some 0, sealed := false }

/-- Some side shows GO. -/
def State.goShown (s : State) : Bool := decide (s.aspect .seaward = .go) || decide (s.aspect .landward = .go)

/-- STANDBY where the side has a called vessel, else STOP (R175). -/
def State.waitingAspect (s : State) (d : Side) : Aspect := if s.calledLeft d then .standby else .stop

/-- STANDBY where the side has not had its turn and has a called vessel, else STOP (R178). -/
def State.changeoverAspect (s : State) (d : Side) : Aspect :=
  if (s.csu.sides.get d).status = .notYet ∧ s.calledLeft d then .standby else .stop

/-- A side's turn record at the end of its GO. -/
def endGo (d : Side) (cause : EndCause) (s : State) : State :=
  (s.onTurn d fun t => { t with status := .done, cause := some cause, goEnd := some s.tb.seconds }).onCsu
    fun c => { c with window := none }

/-- The current side's turn ends and the changeover begins (R177, R178). -/
def endTurn (d : Side) (cause : EndCause) (s : State) : State :=
  let s := setAspect d .stop (endGo d cause s)
  let s := restartSeal (s.onCsu fun c => { c with phase := .changeover, changeover := some 0 })
  latch .batch (setAspect d.other (s.changeoverAspect d.other) s)

/-- The CSU takes a change of an item: STANDBY sides are judged again, and the current side's turn ends when none of
its items is CALLED (R175, R177, R178). -/
def reviewItems (s : State) : State :=
  match s.csu.phase with
  | .idle =>
    if s.psc.batch.state = .formed then
      setAspect .landward (s.waitingAspect .landward) (setAspect .seaward (s.waitingAspect .seaward) s)
    else s
  | .turn =>
    match s.csu.current with
    | some d => if s.calledLeft d then s else endTurn d .noCalled s
    | none => s
  | .changeover =>
    match s.csu.current with
    | some d => setAspect d.other (s.changeoverAspect d.other) s
    | none => s
  | .ended => s

/-- The turn phase becomes ENDED, with no current side. -/
def endPhase (r : TurnsResult) (s : State) : State :=
  s.onCsu fun c => { c with phase := .ended, current := none, result := r }

/-- The CSU takes the PSC's report that the batch is closing (R180). -/
def signalsClosing (s : State) : State :=
  let wasMoving := decide (s.csu.phase = .turn) || decide (s.csu.phase = .changeover)
  let t := match s.csu.phase, s.csu.current with
    | .turn, some d => restartSeal (soundHorn 50 (endGo d .closed s))
    | _, _ => s
  let t := t.onCsu fun c => { c with window := none, changeover := none }
  latchIf wasMoving .batch (endPhase s.csu.result (showStop t))

/-! ### Closing a batch (R167 to R169) -/

/-- The batch becomes CLOSED with its time stamped (R169). -/
def closeBatch (s : State) : State :=
  (setBatchState .closed s).onBatch fun b => { b with closedAt := some s.tb.seconds }

/-- A called item is returned: its entry's mark is cleared and its vessel waits again (R168). -/
def returnItem (s : State) (i : Item) : State :=
  if i.outcome = .called then
    setOutcome i.slot .returned (setVesselState i.slot .waiting (markCalled i.slot false s))
  else s

/-- Every item still CALLED is RETURNED, and the remaining count is the number returned (R168). -/
def returnItems (s : State) : State :=
  let n := (s.psc.batch.items.filter fun i => decide (i.outcome = .called)).length
  (s.psc.batch.items.foldl returnItem s).onBatch fun b => { b with remaining := n }

/-- The batch enters CLOSING; it passes on to CLOSED at once where the channel is sealed (R168, R169). -/
def enterClosing (s : State) : State :=
  let t := signalsClosing (setBatchState .closing (returnItems s))
  if t.csu.sealed then closeBatch t else t

/-- The batch is FORMED or RUNNING. -/
def State.batchLive (s : State) : Bool :=
  decide (s.psc.batch.state = .formed) || decide (s.psc.batch.state = .running)

/-- The test of R167: every item PASSED or WITHDRAWN closes a FORMED or RUNNING batch. -/
def testBatchEnd (s : State) : State :=
  if s.batchLive ∧ s.psc.batch.items.all fun i => decide (i.outcome = .passed) || decide (i.outcome = .withdrawn) then
    enterClosing s
  else s

/-- The CSU's reports that end the turns close a RUNNING batch (R167). -/
def turnsOver (s : State) : State := if s.psc.batch.state = .running then enterClosing s else s

/-- The CSU's report that a turn has begun stamps the time of the first GO where it is absent (R166). -/
def turnBegun (s : State) : State := s.onBatch fun b => { b with firstGoAt := b.firstGoAt <|> some s.tb.seconds }

/-! ### Turn starts (R176) -/

/-- The first lamp circuit of a side (R174). -/
def lampBase : Side → Nat
  | .seaward => 6
  | .landward => 10

/-- Circuit `base + k` of a side is FAILED: k 0 red-upper, 1 red-lower, 2 green-upper, 3 green-lower. -/
def State.lampFailed (s : State) (d : Side) (k : Fin 4) : Bool :=
  match d with
  | .seaward => s.phu.circuits[(⟨6 + k.val, by omega⟩ : Fin 16)].failed
  | .landward => s.phu.circuits[(⟨10 + k.val, by omega⟩ : Fin 16)].failed

def State.redsFailed (s : State) (d : Side) : Bool := s.lampFailed d 0 && s.lampFailed d 1
def State.greensFailed (s : State) (d : Side) : Bool := s.lampFailed d 2 && s.lampFailed d 3

/-- A side can be offered a turn (R176 step 1). -/
def State.canOffer (s : State) (d : Side) : Bool :=
  decide ((s.csu.sides.get d).status = .notYet) && s.calledLeft d

/-- The turns are over with both sides at STOP, and the PSC is told (R176). The changeover timer has run out or never
ran. -/
def finishTurns (r : TurnsResult) (s : State) : State := turnsOver (endPhase r (showStop s))

/-- R176 step 5: the turn of side `d` starts, the other side's STOP first. -/
def startTurn (d : Side) (s : State) : State :=
  let s := setAspect d .go (setAspect d.other .stop s)
  let s := s.onTurn d fun t => { t with status := .go, goStart := some s.tb.seconds }
  let s := s.onCsu fun c =>
    { c with phase := .turn, current := some d, window := some 0, sealTimer := none, sealed := false }
  turnBegun (latch .batch (soundHorn 20 s))

/-- R176 step 4: the turn of side `d` is skipped for its greens. -/
def skipTurn (d : Side) (s : State) : State :=
  latch .batch <| setAspect d .stop <| s.onTurn d fun t => { t with status := .skipped, cause := some .greens }

/-- A turn start is attempted for side `d` (R176). The offer changes sides at most three times, so the first argument
never runs out. -/
def offerTurn : Nat → Side → State → State
  | 0, _, s => s
  | n + 1, d, s =>
    if !s.canOffer d then
      if s.canOffer d.other then offerTurn n d.other s else finishTurns .turnsEnded s
    else if s.lmc.leaf ≠ .raised then finishTurns .goWithdrawn s
    else if s.redsFailed d.other then latch .batch (finishTurns .signalDefect s)
    else if s.greensFailed d then offerTurn n d.other (skipTurn d s)
    else startTurn d s

/-- The CSU takes the PSC's report that the batch is running: the leading side is offered the first turn, in IDLE
alone (R176). -/
def signalsRunning (s : State) : State :=
  match s.csu.phase, s.psc.batch.leading with
  | .idle, some d => offerTurn 4 d s
  | _, _ => s

/-- The PSC takes the LMC's RAISED (R166). -/
def batchRaised (s : State) : State :=
  if s.psc.batch.state = .formed then
    signalsRunning ((setBatchState .running s).onBatch fun b => { b with raisedAt := some s.tb.seconds })
  else s

/-! ### Withdrawal (R179) -/

/-- GO is withdrawn from the side that shows it (R179). -/
def withdrawGo (d : Side) (s : State) : State :=
  let s := restartSeal (soundHorn 50 (setAspect d .stop (endGo d .withdrawn s)))
  turnsOver (latch .batch (endPhase .goWithdrawn s))

/-- The CSU takes the LMC's report that the leaves have left RAISED (R179). -/
def leavesLeftRaised (s : State) : State :=
  match s.csu.phase, s.csu.current with
  | .turn, some d => withdrawGo d s
  | .changeover, _ =>
    turnsOver (latch .batch (endPhase .goWithdrawn (showStop (s.onCsu fun c => { c with changeover := none }))))
  | _, _ => s

/-- The CSU takes the PHU's declaration that a circuit is FAILED: both greens of the side in its turn end it (R177),
both reds of the opposite side withdraw its GO (R179). `c` is the circuit declared. -/
def signalsCircuitFailed (c : Fin 16) (s : State) : State :=
  match s.csu.phase, s.csu.current with
  | .turn, some d =>
    let green := decide (lampBase d + 2 ≤ c.val) && decide (c.val ≤ lampBase d + 3)
    let red := decide (lampBase d.other ≤ c.val) && decide (c.val ≤ lampBase d.other + 1)
    if green && s.greensFailed d then endTurn d .greens s
    else if red && s.redsFailed d.other then withdrawGo d s
    else s
  | _, _ => s

/-! ### Sealing (R182) and the other timers of the CSU -/

/-- The channel becomes sealed; the PSC closes a batch in CLOSING (R182, R169). -/
def becomeSealed (s : State) : State :=
  let t := s.onCsu fun c => { c with sealed := true }
  if t.psc.batch.state = .closing then closeBatch t else t

/-- The seal timer has reached the seal time while no side shows GO (R182). -/
def State.sealDue (s : State) : Bool :=
  match s.csu.sealTimer with
  | some t => decide (sec (s.par pSealTime) ≤ t)
  | none => false

/-- Sealed is judged again, at a change of the seal time (R182). -/
def reviewSeal (s : State) : State :=
  if s.sealDue then (if s.csu.sealed then s else becomeSealed s)
  else s.onCsu fun c => { c with sealed := false }

/-- The passage window has reached its period (R177). -/
def State.windowDue (s : State) : Bool :=
  match s.csu.window with
  | some t => decide (sec (s.par pWindow) ≤ t)
  | none => false

/-- The changeover gap has reached its period (R178). -/
def State.changeoverDue (s : State) : Bool :=
  match s.csu.changeover with
  | some t => decide (sec (s.par pChangeover) ≤ t)
  | none => false

/-- The passage-window timer expires (R177). -/
def windowExpires (s : State) : State :=
  match s.csu.phase, s.csu.current, s.csu.window with
  | .turn, some d, some _ => endTurn d .window s
  | _, _, _ => s

/-- The changeover timer expires: the opposite side is offered a turn (R178). -/
def changeoverExpires (s : State) : State :=
  match s.csu.phase, s.csu.current, s.csu.changeover with
  | .changeover, some d, some _ => offerTurn 4 d.other (s.onCsu fun c => { c with changeover := none })
  | _, _, _ => s

/-! ### The vessel record (section 1.7) -/

def VesselState.code : VesselState → Nat
  | .sighted => 0
  | .waiting => 1
  | .called => 2
  | .passed => 3

/-- The 20-byte vessel record of slot `k`; the queue fields are the PSC's. -/
def State.vesselRecord (s : State) (k : Fin 32) : List Byte :=
  match s.vessel k with
  | none => []
  | some v =>
    let head := b1 k.val ++ be32 v.identity ++ b1 (sideCode v.side) ++ b2 (v.air.getD 0) ++ b1 v.life ++ b1 v.state.code
    match s.findEntry k with
    | some (q, i, e) => head ++ b1 (queueClass q).val ++ b1 i ++ be32 e.seq ++ be32 e.time
    | none => head ++ b1 0xFF ++ b1 0xFF ++ b4 0 ++ b4 0

end Sys2Proof.Machine
end

