-- ==== Sys2Proof/Machine/Leaf.lean ====
section
/-! DEFINITION. Leaf motion (LMC, spec/06): the motion record, trips and halts, the passages between leaf states, the
seven stages of the reference computation, and what the LMC does on the reports of the LPU, the RCS, the MSU and
the PSC. -/

namespace Sys2Proof.Machine

/-! ### Integer square root (00_scope, "Numbers and units") -/

/-- The root built from its top bit down: `k` bits are still to be tried. -/
def isqrtFrom : Nat → Nat → Nat → Nat
  | 0, _, r => r
  | k + 1, n, r => isqrtFrom k n (if (r + 2 ^ k) * (r + 2 ^ k) ≤ n then r + 2 ^ k else r)

/-- isqrt(n), the floor of the square root, for n below 2^64; R107's argument is at most 18,210,000. -/
def isqrt (n : Nat) : Nat := isqrtFrom 32 n 0

/-! ### The reference computation (R106 to R110) -/

/-- The acceleration A = 50 × R (R99). -/
def Motion.acceleration (m : Motion) : Nat := 50 * m.r

/-- Stage 1: the distance d = |T − θ| (R106). -/
def Motion.distance (m : Motion) (θ : Int) : Nat := ((m.target : Int) - θ).natAbs

/-- Stage 1: the leaf has passed T in the motion's direction (R106). -/
def Motion.passed (m : Motion) (θ : Int) : Bool :=
  match m.direction with
  | .raise => decide ((m.target : Int) < θ)
  | .lower => decide (θ < (m.target : Int))

/-- Stage 1: the leaf is arrived in this period; an arrived leaf stays so (R106). -/
def Motion.arrives (m : Motion) (θ : Int) (d : LeafDrive) : Bool :=
  d.arrived || decide (m.distance θ ≤ m.w) || m.passed θ

/-- Stage 2: the speed cap (R107). -/
def Motion.cap (m : Motion) (θ : Int) (pct : Nat) : Nat :=
  if m.distance θ ≤ m.b ∨ θ < (m.bs : Int) then m.vk else m.vc * pct / 100

/-- Stage 3: the braking bound, when d > B (R107). -/
def Motion.brakeBound (m : Motion) (θ : Int) : Nat :=
  isqrt (m.vk * m.vk + 2 * m.acceleration * (m.distance θ - m.b))

/-- Stages 2 to 4: the target speed, 0 during a controlled halt (R107). -/
def Motion.targetSpeed (m : Motion) (θ : Int) (pct : Nat) : Nat :=
  if m.halt ≠ .none then 0
  else
    let cap := m.cap θ pct
    max m.vk (if m.b < m.distance θ then min cap (m.brakeBound θ) else cap)

/-- Stage 5: the ramp (R108). -/
def Motion.ramp (m : Motion) (vt vPrev : Nat) : Nat :=
  if m.halt ≠ .none then vPrev - min (2 * m.r) 40
  else if vPrev < vt then min vt (vPrev + m.r) else max vt (vPrev - m.r)

/-- Stage 6: leaf `l` leads under skew `sk` (R109). -/
def Motion.leads (m : Motion) (sk : Int) (l : Leaf) : Bool :=
  match m.direction, l with
  | .raise, .north => decide (0 < sk)
  | .lower, .north => decide (sk < 0)
  | .raise, .south => decide (sk < 0)
  | .lower, .south => decide (0 < sk)

/-- Stage 6: the skew correction of a leaf's ramped speed, in a period in which neither leaf is arrived (R109). -/
def Motion.corrected (m : Motion) (sk : Int) (l : Leaf) (vr : Nat) : Nat :=
  if sk.natAbs ≤ m.sDead then vr
  else if m.leads sk l then vr * (m.sTrip - sk.natAbs) / m.sTrip else vr

/-- Stages 1 to 6 for one leaf: its magnitude v. -/
def Motion.speed (m : Motion) (sk : Int) (pct : Nat) (l : Leaf) (θ : Int) (otherArrived : Bool) : Nat :=
  let d := m.leaves.get l
  if m.arrives θ d then 0
  else
    let vr := m.ramp (m.targetSpeed θ pct) d.vPrev
    if otherArrived then vr else m.corrected sk l vr

/-- Stage 7: a magnitude with the sign of the motion's direction (R110). -/
def Motion.signed (m : Motion) (v : Nat) : Int :=
  match m.direction with
  | .raise => (v : Int)
  | .lower => -(v : Int)

/-- One leaf's stored values after a period (R106, R110). -/
def Motion.issue (m : Motion) (v : Nat) (arrived : Bool) : LeafDrive :=
  { vPrev := v, reference := m.signed v, arrived := arrived }

/-- The seven stages for both leaves (R106 to R110). -/
def Motion.period (m : Motion) (θN θS : Int) (pct : Nat) : Motion :=
  let aN := m.arrives θN m.leaves.north
  let aS := m.arrives θS m.leaves.south
  let sk := θN - θS
  { m with leaves :=
      ⟨m.issue (m.speed sk pct .north θN aS) aN, m.issue (m.speed sk pct .south θS aN) aS⟩ }

/-- Both leaves are arrived. -/
def Motion.bothArrived (m : Motion) : Bool := m.leaves.north.arrived && m.leaves.south.arrived

/-- Both issued references are 0. -/
def Motion.atRest (m : Motion) : Bool :=
  decide (m.leaves.north.reference = 0) && decide (m.leaves.south.reference = 0)

/-! ### Beginning and ending a motion -/

/-- The references of a leaf that stands. -/
def LeafDrive.still (d : LeafDrive) : LeafDrive := { d with vPrev := 0, reference := 0 }

/-- Both references are 0 and both brakes set (R98); the stored magnitudes follow them, between two periods as well
(note 36). -/
def zeroReferences (s : State) : State :=
  s.onMotion fun m => { m with leaves := ⟨m.leaves.north.still, m.leaves.south.still⟩ }

/-- A motion begins: the working table is captured into the motion record (R99). -/
def beginMotion (dir : Direction) (src : TargetSource) (target : Nat) (s : State) : State :=
  s.onMotion fun _ =>
    { present := true, direction := dir, source := src, target := target
      tf := s.par pTf, vc := s.par pVc, vk := s.par pVk, r := s.par pR, b := s.par pB, bs := s.par pBs
      w := s.par pW, sDead := s.par pSDead, sTrip := s.par pSTrip
      commitFraction := s.par pCommitFraction, driftLimit := s.par pDriftLimit
      startTime := s.tb.seconds, halt := .none, derateFixed := false, awaitingPumps := false
      leaves := ⟨LeafDrive.reset, LeafDrive.reset⟩ }

/-- The leaves are tripped with a cause: references and brakes at once, any halt and sequence ended (R115). From
RAISED the CSU is told. -/
def trip (c : TripCause) (s : State) : State :=
  let t := (zeroReferences s).onMotion fun m => { m with halt := .none, awaitingPumps := false }
  let t := (cancelSequence t).onLmc fun l => { l with trip := some c }
  let t := latch .trip (setLeaf .tripped t)
  if s.lmc.leaf = .raised then leavesLeftRaised t else t

/-- The trip conditions are tested (R115). -/
def testTrip (s : State) : State :=
  match s.tripNow with
  | some c => trip c s
  | none => s

/-- The lowering of R104 waits for its pumps: start orders, and the awaiting mark unless both are READY. -/
def prepareLowering (s : State) : State :=
  let t := orderPumps s
  t.onMotion fun m => { m with awaitingPumps := !t.bothReady }

/-- A controlled halt ends: HALTED, or the lowering of R118 after a WIND halt unless a RESTART waits (R113, R118). -/
def endHalt (s : State) : State :=
  if s.lmc.motion.halt = .wind ∧ s.apu.restart = false then
    prepareLowering <| setLeaf .lowering <|
      (beginMotion .lower .reversal 0 s).onMotion fun m => { m with derateFixed := true }
  else
    setLeaf .halted (s.onMotion fun m => { m with halt := .none, awaitingPumps := false })

/-- A controlled halt begins or changes its cause, in RAISING or LOWERING; it ends at once with both references
0 (R113). -/
def beginHalt (h : Halt) (s : State) : State :=
  if s.lmc.leaf.moving then
    let t := s.onMotion fun m => { m with halt := h }
    if t.lmc.motion.atRest then endHalt t else t
  else s

/-! ### LOCKING, SEATED_LOCKED and the passage out of UNLOCKING -/

/-- The LOCKING test: bolts driven and both seat switches made (R105). -/
def testLocked (s : State) : State :=
  if s.lmc.leaf = .locking ∧ s.allDriven ∧ s.bothSeated then setLeaf .seatedLocked s else s

/-- The state becomes LOCKING and the drive sequence is called (R102, R103, R104). -/
def enterLocking (s : State) : State := testLocked (callDrive (setLeaf .locking s))

/-- The state becomes HALTED with the withdraw sequence cancelled (R101, R102). -/
def haltUnlocking (s : State) : State := setLeaf .halted (cancelSequence s)

/-- The UNLOCKING test: all bolts WITHDRAWN and both groups READY (R101). No leaf motion begins while a RESTART
waits (R38, R102). -/
def testUnlocked (s : State) : State :=
  if s.lmc.leaf = .unlocking ∧ s.allWithdrawn ∧ s.bothReady ∧ s.apu.restart = false then
    if !s.windAllows then latch .wind (enterLocking s)
    else if s.rcs.road = .secured then setLeaf .raising s
    else haltUnlocking s
  else s

/-- Both leaves have arrived at the seat: LOCKING once both seat switches are made (R104). -/
def testSeating (s : State) : State :=
  if s.lmc.leaf = .lowering ∧ s.lmc.motion.bothArrived ∧ s.lmc.motion.halt = .none ∧
      s.lmc.motion.awaitingPumps = false ∧ s.bothSeated then
    enterLocking s
  else s

/-! ### Reports of the LPU -/

/-- The LMC takes a bolt report (R101, R105). -/
def leavesTakeBolts (s : State) : State :=
  match s.lmc.leaf with
  | .unlocking => testUnlocked s
  | .locking => testLocked s
  | .seatedLocked => if s.allDriven then s else setLeaf .halted s
  | .raising | .raised | .lowering | .halted | .tripped => s

/-- A bolt's state has changed: the sequence step test, then the LMC (R80, R87). -/
def reportBolt (s : State) : State := leavesTakeBolts (advanceSequence s)

/-- The LMC takes a pump group report (R101, R104, R115). -/
def reportPump (s : State) : State :=
  match s.lmc.leaf with
  | .unlocking => testUnlocked s
  | .raising => if s.pumpFault then testTrip s else s
  | .lowering =>
    if s.pumpFault then testTrip s
    else if s.lmc.motion.awaitingPumps ∧ s.bothReady then s.onMotion fun m => { m with awaitingPumps := false }
    else s
  | .seatedLocked | .raised | .locking | .halted | .tripped => s

/-- The LMC takes a change of a filtered seat switch (R104, R105). -/
def reportSeat (s : State) : State :=
  match s.lmc.leaf with
  | .locking => testLocked s
  | .lowering => testSeating s
  | .seatedLocked => if s.bothSeated then s else setLeaf .halted s
  | .unlocking | .raising | .raised | .halted | .tripped => s

/-! ### Reports of the RCS, the MSU and the PSC -/

/-- The LMC takes the RCS's BREACHED report (R102, R113). -/
def reportBreach (s : State) : State :=
  match s.lmc.leaf with
  | .unlocking => haltUnlocking s
  | .raising | .lowering => beginHalt .breach s
  | .seatedLocked | .raised | .locking | .halted | .tripped => s

/-- The LMC takes the MSU's report that a leaf's encoders have begun to disagree (R102, R113). -/
def reportDisagree (s : State) : State :=
  match s.lmc.leaf with
  | .unlocking => haltUnlocking s
  | .raising | .lowering => beginHalt .disagree s
  | .seatedLocked | .raised | .locking | .halted | .tripped => s

/-- The commit angle floor(T × commit fraction / 100) has been reached by both leaves (R117); while either leaf is LOST
the test is not met (R127; note 38). -/
def State.pastCommit (s : State) : Bool :=
  !s.positionLost && decide (((s.lmc.motion.target * s.lmc.motion.commitFraction / 100 : Nat) : Int) ≤
    min (s.angle .north) (s.angle .south))

/-- The LMC takes the MSU's report of wind at or above Ws, or UNKNOWN (R102, R117). -/
def reportWind (s : State) : State :=
  match s.lmc.leaf with
  | .unlocking => latch .wind (enterLocking s)
  | .raising =>
    if s.lmc.motion.halt = .none ∧ s.lmc.motion.derateFixed = false then
      let t := latch .wind (latch .leaf s)
      if s.pastCommit then t.onMotion fun m => { m with derateFixed := true } else beginHalt .wind t
    else s
  | .seatedLocked | .raised | .lowering | .locking | .halted | .tripped => s

/-- A leaf's arrived mark is cleared when the new target lies beyond it by more than W (R119), a test that the kept
angle of a LOST leaf does not meet (R127). -/
def LeafDrive.extend (d : LeafDrive) (m : Motion) (lost : Bool) (θ : Int) : LeafDrive :=
  if lost = false ∧ d.arrived ∧ m.w < m.distance θ ∧ θ < (m.target : Int) then { d with arrived := false, vPrev := 0 } else d

/-- The LMC takes the PSC's report of an extended batch with its new opening angle (R119). -/
def reportExtension (angle : Nat) (s : State) : State :=
  if (s.lmc.leaf = .unlocking ∨ s.lmc.leaf = .raising ∨ s.lmc.leaf = .halted) ∧
      s.lmc.motion.present ∧ s.lmc.motion.source = .batch ∧ s.lmc.motion.direction = .raise then
    s.onMotion fun m =>
      let n := { m with target := min angle m.tf }
      { n with leaves :=
          ⟨n.leaves.north.extend n (s.lost .north) (s.angle .north),
            n.leaves.south.extend n (s.lost .south) (s.angle .south)⟩ }
  else s

/-! ### The control period (R106, R111, R112, R115) -/

/-- What a period in which both leaves are arrived, or in which a halt has come to rest, does (R111, R113). -/
def settleMotion (s : State) : State :=
  let m := s.lmc.motion
  if m.halt ≠ .none then (if m.bothArrived || m.atRest then endHalt s else s)
  else if m.bothArrived then
    match m.direction with
    | .raise => batchRaised (setLeaf .raised s)
    | .lower => testSeating s
  else s

/-- The references of a moving period are computed, issued and stored (R98, R106 to R111). -/
def computePeriod (s : State) : State :=
  settleMotion (s.onMotion fun m => m.period (s.angle .north) (s.angle .south) s.pctInUse)

/-- One control period of the LMC (R106, R112, R115). -/
def controlPeriod (s : State) : State :=
  match s.tripNow with
  | some c => trip c s
  | none => if s.lmc.leaf.moving ∧ s.lmc.motion.awaitingPumps = false then computePeriod s else s

end Sys2Proof.Machine
end

