-- ==== Sys2Proof/Machine/Measure.lean ====
section
/-! DEFINITION. Position and wind measurement (MSU, spec/07): encoder periods, angle selection and disagreement, the
gust window, the wind value, band and derate, and what the MSU tells the LMC. -/

namespace Sys2Proof.Machine

/-- The MSU measures: from step 3 of start-up on (R136). -/
def State.measuring (s : State) : Bool := s.running || decide (s.tb.phase = .startup)

/-! ### Encoders (R123 to R125) -/

/-- The classification of a reply; none stands for valid (R123). -/
def classify : EncoderReply → EncoderCause
  | .silent => .silent
  | .corrupt => .check
  | .reading v => if -100 ≤ v.toInt ∧ v.toInt ≤ 9000 then .none else .range

/-- The state an invalid run gives (R124). -/
def stateOfRun (run : Nat) : EncoderState := if run = 0 then .valid else if run ≤ 2 then .suspect else .lost

/-- The invalid run after a period: 0 after a valid one, else one more, stopping at 255 (R124). -/
def nextRun (run : Nat) (c : EncoderCause) : Nat := if c = .none then 0 else min 255 (run + 1)

/-- The value of a reply whose check is good, else the last reading kept (R125). -/
def readingOf (r : EncoderReply) (old : Option Half) : Option Half :=
  match r with
  | .reading v => some v
  | .silent => old
  | .corrupt => old

/-- The start-up listen mark after a period: broken by an invalid period that follows a valid one (R136). -/
def listenOn (listening : Bool) (mark : Option Bool) (valid : Bool) : Option Bool :=
  if listening then
    match mark with
    | none => if valid then some true else none
    | some clean => some (clean && valid)
  else mark

/-- An encoder's record at the end of an encoder period (R123 to R125). -/
def Encoder.take (e : Encoder) (listening : Bool) (r : EncoderReply) : Encoder :=
  let c := classify r
  { state := stateOfRun (nextRun e.run c)
    run := nextRun e.run c
    cause := if c = .none then e.cause else c
    last := readingOf r e.last
    frameErrors := if c = .silent ∨ c = .check then bump e.frameErrors else e.frameErrors
    validSinceRead := e.validSinceRead && decide (c = .none)
    listen := listenOn listening e.listen (decide (c = .none)) }

/-! ### Selection and disagreement (R126, R128) -/

/-- The signed value of an encoder's last reading. -/
def Encoder.value (e : Encoder) : Int := (e.last.getD 0).toInt

/-- The source of a leaf's angle; a leaf that was LOST has nothing to hold (R126). -/
def selectSource (was : AngleSource) (p c : EncoderState) : AngleSource :=
  if p = .valid then .primary
  else if c = .valid then .check
  else if p = .lost ∧ c = .lost then .lost
  else if was = .lost then .lost
  else .held

/-- The angle that goes with a source (R126). -/
def selectAngle (src : AngleSource) (was : Int) (p c : Encoder) : Int :=
  match src with
  | .primary => p.value
  | .check => c.value
  | .held => was
  | .lost => was

/-- Both encoders of a leaf are VALID (R128). -/
def bothValid (p c : Encoder) : Bool := decide (p.state = .valid) && decide (c.state = .valid)

/-- The period counts toward a change of the disagree mark (R128). -/
def towardChange (mark : Bool) (tolerance : Nat) (p c : Encoder) : Bool :=
  bothValid p c && (mark != decide (tolerance < (p.value - c.value).natAbs))

/-- A leaf's record at the end of an encoder period (R126, R128). -/
def LeafAngle.take (a : LeafAngle) (tolerance : Nat) (p c : Encoder) : LeafAngle :=
  let src := selectSource a.source p.state c.state
  let count := towardChange a.disagree tolerance p c
  { angle := selectAngle src a.angle p c
    source := src
    disagree := if count ∧ a.run + 1 = 5 then !a.disagree else a.disagree
    run := if count then (if a.run + 1 = 5 then 0 else a.run + 1) else 0
    difference := if bothValid p c then p.value - c.value else a.difference }

/-- A leaf's record shows a change that latches POSITION (R126, R128). -/
def LeafAngle.changed (a b : LeafAngle) : Bool := decide (a.source ≠ b.source) || (a.disagree != b.disagree)

/-- The measurement records at the end of an encoder period (R123 to R128). -/
def Msu.measure (m : Msu) (listening : Bool) (tolerance : Nat) (r : Vector EncoderReply 4) : Msu :=
  let e := Vector.ofFn fun i : Fin 4 => (m.encoders[i]).take listening r[i]
  { m with
    encoders := e
    angles := ⟨m.angles.north.take tolerance e[(0 : Fin 4)] e[(1 : Fin 4)],
      m.angles.south.take tolerance e[(2 : Fin 4)] e[(3 : Fin 4)]⟩ }

/-! ### The listen of start-up (R36, R37, R136; notes 37 and 44) -/

/-- An encoder's valid-since-read flag at the end of the listen (R136). -/
def Encoder.endListen (e : Encoder) : Encoder :=
  { e with validSinceRead := decide (e.listen = some true), listen := none }

/-- The encoders that have delivered a reply with a good check: 1, 2, 4, 8 (R37, R136). -/
def Msu.answered (m : Msu) : Nat :=
  (m.encoders[(0 : Fin 4)]).last.isSome.toNat + 2 * (m.encoders[(1 : Fin 4)]).last.isSome.toNat +
    4 * (m.encoders[(2 : Fin 4)]).last.isSome.toNat + 8 * (m.encoders[(3 : Fin 4)]).last.isSome.toNat

/-- The position of a leaf is LOST (R127). -/
def Msu.lost (m : Msu) : Bool := decide (m.angles.north.source = .lost) || decide (m.angles.south.source = .lost)

/-- The 100 ms are over: the flags are set, and who answered and whether a position is LOST are kept (R136). -/
def Msu.endListen (m : Msu) : Msu :=
  { m with encoders := m.encoders.map Encoder.endListen
           listen := { periods := 5, answered := m.answered, lost := m.lost } }

/-- A period of the listen has ended; the fifth ends the 100 ms (R123). -/
def Msu.countListen (m : Msu) : Msu :=
  if m.listen.periods < 4 then { m with listen := { m.listen with periods := m.listen.periods + 1 } }
  else m.endListen

/-- An encoder period, which in start-up is one of the listen's five or comes after them. -/
def Msu.period (m : Msu) (starting : Bool) (tolerance : Nat) (r : Vector EncoderReply 4) : Msu :=
  if starting && decide (m.listen.periods < 5) then (m.measure true tolerance r).countListen
  else m.measure false tolerance r

/-- Four lines on which no reply was begun (R123). -/
def silentLines : Vector EncoderReply 4 := Vector.replicate 4 .silent

/-- `n` periods of start-up in which nothing was heard. -/
def Msu.hearSilence (tolerance : Nat) : Nat → Msu → Msu
  | 0, m => m
  | n + 1, m => Msu.hearSilence tolerance n (m.period true tolerance silentLines)

/-- The listen comes to its end: the periods of it that have not ended are silent (note 44). -/
def Msu.finishListen (m : Msu) (tolerance : Nat) : Msu := Msu.hearSilence tolerance (5 - m.listen.periods) m

/-! ### What a period tells (R124, R126, R128) -/

/-- A period changed an encoder's state, a source or a disagree mark: POSITION (R124, R126, R128). -/
def Msu.positionEvent (m n : Msu) : Bool :=
  ([0, 1, 2, 3] : List (Fin 4)).any (fun i => decide (m.encoders[i].state ≠ n.encoders[i].state)) ||
    m.angles.north.changed n.angles.north || m.angles.south.changed n.angles.south

/-- A leaf's encoders have begun to disagree: the LMC is told, but nothing is told during start-up (R128, R136). -/
def tellDisagree (old new : LeafAngle) (s : State) : State :=
  if new.disagree && !old.disagree && s.running then reportDisagree s else s

/-- One encoder period ends with the four lines' replies (R123). -/
def encoderPeriod (r : Vector EncoderReply 4) (s : State) : State :=
  if s.measuring then
    let n := s.msu.period (decide (s.tb.phase = .startup)) (s.par pEncoderTolerance) r
    let t := latchIf (s.msu.positionEvent n) .position (s.onMsu fun _ => n)
    tellDisagree s.msu.angles.south n.angles.south (tellDisagree s.msu.angles.north n.angles.north t)
  else s

/-- The mark that the sender has ended the encoder period in progress (note 42). -/
def State.setHeard (b : Bool) (s : State) : State := s.onMsu fun m => { m with heard := b }

/-- The sender ends an encoder period with the four lines' replies (R123); the tick at which it would end then ends
none (note 42). -/
def hearPeriod (r : Vector EncoderReply 4) (s : State) : State :=
  if s.measuring then (encoderPeriod r s).setHeard true else s

/-- The tick at which an encoder period ends (R123): one whose replies the sender has brought is over, and one of which
nothing was heard ends with no reply begun on any line (note 42). -/
def endDuePeriod (s : State) : State := if s.msu.heard then s.setHeard false else encoderPeriod silentLines s

/-! ### Wind (R129 to R134) -/

/-- The total of the counts held. -/
def Wind.sum (w : Wind) : Nat := w.window.sum

/-- The wind value from three counts, kept with fewer (R130). -/
def Wind.value (w : Wind) (factor : Nat) : Nat :=
  if w.window.length = 3 then min 999 (w.sum * factor / 30) else w.w

/-- The wind state is KNOWN (R131). -/
def Wind.isKnown (w : Wind) : Bool := decide (w.window.length = 3) && !w.failed

/-- The band of a KNOWN wind value (R132). -/
def bandOf (w wd ws : Nat) : Band := if w < wd then .below else if w < ws then .derate else .stop

/-- The derate percentage of a KNOWN wind value (R133). -/
def pctOf (w wd ws : Nat) : Nat :=
  if w ≤ wd then 100 else if w < ws then 100 - 60 * (w - wd) / (ws - wd) else 40

/-- State, band and pct of a wind record whose value is `w.w` (R131 to R133). -/
def Wind.judge (w : Wind) (wd ws : Nat) : Wind :=
  { w with
    known := w.isKnown
    band := if w.isKnown then some (bandOf w.w wd ws) else none
    pct := if w.isKnown then pctOf w.w wd ws else 40 }

/-- The condition the LMC hears of: band STOP, or state UNKNOWN (R132). -/
def Wind.barring (w : Wind) : Bool := !w.known || decide (w.band = some .stop)

/-- The wind record becomes `w` judged by the limits; a change latches WIND once, and the LMC is told when the barring
condition becomes true (R132). -/
def judgeWind (w : Wind) (s : State) : State :=
  let old := s.msu.wind
  let new := w.judge (s.par pDerateLimit) (s.par pStopLimit)
  let t := latchIf (decide (old.band ≠ new.band) || (old.known != new.known)) .wind
    (s.onMsu fun m => { m with wind := new })
  if new.barring && !old.barring && s.running then reportWind t else t

/-- The wind value is computed anew and judged (R130, R134). -/
def recomputeWind (w : Wind) (s : State) : State := judgeWind { w with w := w.value (s.par pAnemoFactor) } s

/-- A rising edge of ANEMO; none is counted while circuit 14 is being proved (R129). -/
def countPulse (s : State) : State :=
  let proving14 := match s.phu.proving with
    | some p => decide (p.circuit.val = 14)
    | none => false
  if s.measuring && !proving14 then
    s.onMsu fun m => { m with wind := { m.wind with interval := bump m.wind.interval } }
  else s

/-- A gust window with a count appended as the newest, the oldest of four removed (R130). -/
def appendCount (window : List Nat) (n : Nat) : List Nat :=
  let l := window ++ [n]
  l.drop (l.length - 3)

/-- An anemometer interval ends (R129 to R131). -/
def anemoInterval (s : State) : State :=
  if s.measuring then
    let w := s.msu.wind
    if w.discard then
      s.onMsu fun m => { m with wind := { w with interval := 0, discard := w.failed } }
    else recomputeWind { w with window := appendCount w.window w.interval, interval := 0 } s
  else s

/-- The PHU declares circuit 14 FAILED (R131). -/
def anemometerFailed (s : State) : State :=
  judgeWind { s.msu.wind with window := [], discard := true, failed := true } s

/-- The PHU declares circuit 14 recovered; the interval in progress is still discarded (R131). -/
def anemometerRecovered (s : State) : State := judgeWind { s.msu.wind with failed := false } s

/-- Index 25, 26 or 27 has changed (R134). -/
def windWritten (s : State) : State := recomputeWind s.msu.wind s

end Sys2Proof.Machine
end

