-- ==== Sys2Proof/Machine/Proving.lean ====
section
/-! DEFINITION. Circuit proving (PHU, spec/11): the scan, held requests and the flash hold, the result of a proving,
the declaration of a circuit and what it tells the CSU and the MSU. -/

namespace Sys2Proof.Machine

def allCircuits : List (Fin 16) := List.finRange 16

/-- A flashing red is held while a flash change is due within 20 ms: two base ticks of the 50 of a half (R190). -/
def State.flashHold (s : State) (c : Fin 16) : Bool :=
  isRed c && s.flashOn && decide (50 ≤ s.rcs.flashTicks + 2)

/-- The proving of a request starts, with the circuit's state taken (R190, R191). -/
def startProving (r : ProvingRequest) (s : State) : State :=
  s.onPhu fun p =>
    { p with proving := some { circuit := r.circuit, test := r.test, wasOn := s.circuitOn r.circuit
                               voided := false, elapsed := 0 } }

/-- The PHU can start a proving of circuit `c` at once: nothing is in progress, held or waiting for a flash change
(R190). -/
def State.provingFree (s : State) (c : Fin 16) : Bool :=
  s.phu.proving.isNone && s.phu.held.isEmpty && !s.flashHold c

/-- A request is made: it starts now or is held; of two outstanding scan requests the older stands (R190; note 19). -/
def submitProving (r : ProvingRequest) (s : State) : State :=
  if s.provingFree r.circuit then startProving r s
  else if r.test = false ∧ s.phu.held.any (fun h => !h.test) then s
  else s.onPhu fun p => { p with held := p.held ++ [r] }

/-- The counter has reached 1: the circuit at the scan index is requested, the counter reloaded and the index advanced
(R189). -/
def scanRequest (s : State) : State :=
  submitProving { circuit := s.phu.index, test := false }
    (s.onPhu fun p => { p with counter := s.par pProvingDivisor, index := p.index + 1 })

/-- The first held request can start: no proving is in progress and no flash change is due (R190). -/
def State.heldDue (s : State) : Bool :=
  match s.phu.held with
  | r :: _ => s.phu.proving.isNone && !s.flashHold r.circuit
  | [] => false

/-- The first held request starts (R190). -/
def startHeld (s : State) : State :=
  match s.phu.held with
  | r :: rest => if s.heldDue then startProving r (s.onPhu fun p => { p with held := rest }) else s
  | [] => s

/-- The limits of a driven circuit's current class, read at the proving's end (R188, R191). -/
def State.limits (s : State) (c : Fin 16) : Nat × Nat :=
  if c.val < 6 then (s.par 51, s.par 52)
  else if c.val < 14 then (s.par 53, s.par 54)
  else (s.par 55, s.par 56)

/-- The method of a proving: CURRENT for a circuit that was on at its start, else PULSE (R191). -/
def Proving.method (p : Proving) : ProvingMethod := if p.wasOn then .current else .pulse

/-- The result of a proving with its reading (mA), by method (R191). -/
def provingResult (s : State) (p : Proving) (reading : Nat) : ProvingResult :=
  if p.voided then .testVoid
  else if p.wasOn then
    if reading < (s.limits p.circuit).1 then .opened
    else if (s.limits p.circuit).2 < reading then .overload else .normal
  else if reading < 2 then .opened
  else if 50 < reading then .short else .normal

/-- The circuit's status after a counted result (R192). -/
def statusAfter (failed : Bool) (previous : Counted) (fault : Bool) : Bool :=
  match failed, previous, fault with
  | false, .fault, true => true
  | false, _, _ => false
  | true, .normal, false => false
  | true, _, _ => true

/-- A circuit's record after a proving (R192, R193). -/
def Circuit.take (c : Circuit) (method : ProvingMethod) (r : ProvingResult) : Circuit :=
  let d := { c with lastResult := r, lastMethod := method }
  if r = .testVoid ∨ r = .none then d
  else
    let fault := decide (r ≠ .normal)
    let failed := statusAfter c.failed c.counted fault
    { d with
      failed := failed
      counted := if fault then .fault else .normal
      failedSinceRead := c.failedSinceRead || (failed && !c.failed) }

/-- The block that acts on a circuit is told of its declaration (R192): circuits 6 to 13 and 15 to the CSU, 14 to the MSU. -/
def tellDeclared (c : Fin 16) (failed : Bool) (s : State) : State :=
  if c.val = 14 then (if failed then anemometerFailed s else anemometerRecovered s)
  else if 6 ≤ c.val ∧ failed then signalsCircuitFailed c s
  else s

/-- A proving ends with its reading (R191 to R193). -/
def endProving (reading : Nat) (s : State) : State :=
  match s.phu.proving with
  | none => s
  | some p =>
    let old := s.phu.circuits[p.circuit]
    let new := old.take p.method (provingResult s p reading)
    let t := s.onPhu fun u => { u with proving := none, circuits := u.circuits.set p.circuit new }
    if new.failed = old.failed then t else tellDeclared p.circuit new.failed (latch .circuit t)

/-- The proving in progress has lasted its 20 ms: two base ticks (R190). -/
def State.provingOver (s : State) : Bool :=
  match s.phu.proving with
  | some p => decide (2 ≤ p.elapsed)
  | none => false

/-- A proving whose 20 ms are over ends, with a reading that no command brought: the next of `Config.provingReading`
(R190, R191; note 40). -/
def endDueProving (s : State) : State :=
  endProving (Config.provingReading s.phu.readings).toNat (s.onPhu fun p => { p with readings := p.readings + 1 })

/-- A test request is held or in progress; its circuit (R194, R195). -/
def State.testCircuit (s : State) : Option (Fin 16) :=
  match s.phu.proving with
  | some p => if p.test then some p.circuit else (s.phu.held.find? (·.test)).map (·.circuit)
  | none => (s.phu.held.find? (·.test)).map (·.circuit)

/-- CIRCUIT-TEST as the PHU decides it (R194). -/
def circuitTestOp (c : Byte) (s : State) : State × Verdict :=
  if h : c.toNat < 16 then
    if s.testCircuit.isSome then (s, .state)
    else
      let n : Fin 16 := ⟨c.toNat, h⟩
      (submitProving { circuit := n, test := true } s,
        .accepted (b1 n.val ++ b1 (if s.provingFree n then 1 else 2)))
  else (s, .range 1)

/-! ### Codes (R195) -/

def ProvingResult.code : ProvingResult → Nat
  | .none => 0
  | .normal => 1
  | .opened => 2
  | .overload => 3
  | .short => 4
  | .testVoid => 5

def ProvingMethod.code : ProvingMethod → Nat
  | .none => 0
  | .current => 1
  | .pulse => 2

/-- A circuit's 4-byte record (R195). -/
def Circuit.bytes (c : Circuit) : List Byte :=
  bm c.failed ++ b1 c.lastResult.code ++ b1 c.lastMethod.code ++ bm c.failedSinceRead

/-- A circuit number, or 0xFF when there is none. -/
def circuitByte (c : Option (Fin 16)) : List Byte :=
  match c with
  | some n => b1 n.val
  | none => b1 0xFF

/-- CIRCUIT-READ (R193, R195). -/
def circuitReadOp (s : State) : State × Verdict :=
  (s.onPhu fun p => { p with circuits := p.circuits.map fun c => { c with failedSinceRead := c.failed } },
    .done (b1 s.phu.index.val ++ b2 s.phu.counter ++ circuitByte (s.phu.proving.map (·.circuit)) ++
      circuitByte s.testCircuit ++ s.phu.circuits.toList.flatMap Circuit.bytes))

/-! ### Health requests (R199) -/

/-- An actuator's 5-byte record; the ratio is halved and rounded down (R199). -/
def Health.bytes (h : Health) : List Byte :=
  b1 h.value ++ bm h.worn ++ b2 h.samples ++
    (match h.ratio with | some r => b1 (r / 2) | none => b1 0xFF)

/-- HEALTH-READ (R199). -/
def healthReadOp (s : State) : State × Verdict :=
  (s, .done (b1 (s.par pArmThreshold) ++ b1 (s.par pBoltThreshold) ++ b1 (s.par pArmFlag) ++
    b1 (s.par pBoltFlag) ++ s.phu.health.toList.flatMap Health.bytes))

/-- HEALTH-SET (R199): a value of 0 is taken as 1, and 254 and 255 as 253. -/
def healthSetOp (actuator value : Byte) (s : State) : State × Verdict :=
  if h : actuator.toNat < 12 then
    let n : Fin 12 := ⟨actuator.toNat, h⟩
    let t := evaluateWorn [n] (s.onHealth n fun r => { r with value := max 1 (min 253 value.toNat) })
    (t, .done (b1 n.val ++ b1 t.phu.health[n].value ++ bm (t.worn n)))
  else (s, .range 1)

end Sys2Proof.Machine
end

