-- ==== Sys2Proof/Machine/Road.lean ====
section
/-! DEFINITION. Arms, zones and the road (BZU and RCS, spec/03 and spec/04): strokes and commands, the road state
machine, the reports the BZU makes to the RCS and the field events of arms and zones. A command starts a stroke
or stalls an arm; it never brings an arm UP or DOWN at once, so the arm states a command leaves behind move no step of
the RCS (R42, R52, R70). -/

namespace Sys2Proof.Machine

/-! ### Strokes (R41 to R46) -/

/-- The two directions of an arm stroke. -/
inductive ArmWay where
  | lower
  | raise
deriving DecidableEq, Repr

/-- The last commanded stroke that a command of this direction records (R41). -/
def ArmWay.stroke : ArmWay → ArmStroke
  | .lower => .lower
  | .raise => .raise

/-- What starts a stroke: a command or ARM-RETRY, an automatic re-lowering (R47), or an obstruction reversal (R46). -/
inductive ArmStart where
  | commanded
  | relower
  | reversal
deriving DecidableEq, Repr

/-- An arm becomes STALLED with a cause: the motor is off and its timers stop; ARM is latched (R45, R46, R48, R51). A
pending re-lowering ends with it, for a limit conflict as well (note 32). So do the displaced and up-limit-lost marks
with their timers, for an UP arm with a re-lowering pending that ESTOP stalls too: R51 speaks of the re-lowering alone,
and the section gives the marks to an arm that is DOWN or UP (DESIGN CHOICE, note 39). -/
def stallArm (a : Fin 8) (cause : ArmCause) (s : State) : State :=
  latch .arm <| s.onArm a fun r =>
    { r with state := .stalled, cause := some cause, relowerPending := false, relowerWait := none
             displaced := false, upLost := false, displaceTimer := none, upTimer := none, reversal := false }

/-- The stroke nominal of an arm: road arms are even, footway arms odd (chapter 3, R41). -/
def State.armNominal (s : State) (a : Fin 8) : Nat :=
  if a.val % 2 = 0 then s.par pRoadArmNominal else s.par pFootArmNominal

/-- The record of an arm whose stroke starts (R41). -/
def Arm.begin (r : Arm) (way : ArmWay) (start : ArmStart) (nominal : Nat) (worn oppositeMade edge : Bool) : Arm :=
  { r with
    state := match way with | .lower => .lowering | .raise => .raising
    cause := none
    last := match start with
      | .commanded => way.stroke
      | .relower => r.last
      | .reversal => r.last
    relowerPending := false
    relowerWait := none
    displaced := false
    upLost := false
    displaceTimer := none
    upTimer := none
    nominal := nominal
    timeout := strokeTimeout nominal worn
    elapsed := 0
    full := oppositeMade
    edgeSeen := edge
    reversal := decide (start = .reversal) }

/-- The stroke's record is set up, whatever may stop it as it starts (R41). -/
def setupStroke (a : Fin 8) (way : ArmWay) (start : ArmStart) (s : State) : State :=
  let opposite := match way with
    | .lower => s.pins.armUp[a]
    | .raise => s.pins.armDown[a]
  s.onArm a fun r => r.begin way start (s.armNominal a) (s.worn (armActuator a)) opposite s.pins.armEdge[a]

/-- A stroke that has been set up meets what may stop it: ESTOP first, then a limit conflict (R41, R48; note 21). -/
def meetStart (a : Fin 8) (s : State) : State :=
  if s.pins.estop then stallArm a .estop s
  else if s.pins.armUp[a] && s.pins.armDown[a] then stallArm a .limitConflict s
  else s

/-- A raising stroke starts (R41); a waiting soft reset lets a reversal alone start (R38, R41). -/
def startRaising (a : Fin 8) (start : ArmStart) (s : State) : State :=
  if s.apu.restart ∧ start ≠ .reversal then s else meetStart a (setupStroke a .raise start s)

/-- An obstruction of a lowering arm: the first three reverse it, a later one stalls it (R46). -/
def obstruct (a : Fin 8) (s : State) : State :=
  if (s.arm a).obstructions < 3 then
    startRaising a .reversal (s.onArm a fun r => { r with obstructions := r.obstructions + 1 })
  else stallArm a .obstructed (s.onArm a fun r => { r with obstructions := 4 })

/-- A lowering stroke starts (R41); an edge already active then is an obstruction (R46). ESTOP and a limit conflict are
met first, and a stroke that one of them stops takes no obstruction (DESIGN CHOICE, note 45). -/
def startLowering (a : Fin 8) (start : ArmStart) (s : State) : State :=
  if s.apu.restart then s
  else
    let t := meetStart a (setupStroke a .lower start s)
    if (t.arm a).state = .lowering ∧ t.pins.armEdge[a] then obstruct a t else t

/-- A lower command that starts a stroke, subject to the deck-clear condition for an exit arm (R42, R43). The mark is
set when the command was held. The re-lowering of a displaced arm comes through here as a command of the RCS, so it sets
the last commanded stroke (note 31). -/
def lowerSubject (a : Fin 8) (s : State) : State × Bool :=
  if s.apu.restart then (s, false)
  else if isExit a ∧ s.deckCondition = false then (s, true)
  else (startLowering a .commanded s, false)

/-- The RCS commands an arm to lower, taken by its state (R42); the mark says that R43 held the command. -/
def commandLower (a : Fin 8) (s : State) : State × Bool :=
  match (s.arm a).state with
  | .up => if (s.arm a).relowerPending then (s, false) else lowerSubject a s
  | .lowering => (s, false)
  | .down => if (s.arm a).displaced then lowerSubject a s else (s, false)
  | .raising => lowerSubject a s
  | .stalled => lowerSubject a s
  | .outOfService => (s, false)

/-- The RCS commands an arm to raise, taken by its state (R42). -/
def commandRaise (s : State) (a : Fin 8) : State :=
  match (s.arm a).state with
  | .up => s.onArm a fun r => { r with relowerPending := false, relowerWait := none }
  | .lowering | .down | .stalled => startRaising a .commanded s
  | .raising | .outOfService => s

/-- Lower commands to a list of arms that pass `p`; the mark says that one was held. -/
def commandLowers (p : Arm → Bool) (group : List (Fin 8)) (s : State) : State × Bool :=
  group.foldl (fun (r : State × Bool) a =>
    if p (r.1.arm a) then ((commandLower a r.1).1, r.2 || (commandLower a r.1).2) else r) (s, false)

/-- Raise commands to a list of arms that pass `p`. -/
def commandRaises (p : Arm → Bool) (group : List (Fin 8)) (s : State) : State :=
  group.foldl (fun r a => if p (r.arm a) then commandRaise r a else r) s

/-! ### The deck-clear view (R63) -/

/-- The RCS's view re-evaluated, without what follows from it: clear when the condition holds, else not clear with a
dwell wait running while no unbypassed zone is counted occupied. -/
def viewDeck (s : State) : State :=
  s.onRcs fun r =>
    { r with deckClear := s.deckCondition, dwellWait := !s.deckCondition && !s.deckOccupied }

/-! ### Road states (R61 to R76) -/

/-- The road state changes: ROAD is latched, and a red flash turned on from off begins with A (R61, R62). -/
def setRoad (st : RoadState) (s : State) : State :=
  latch .road <| s.driveRcs fun r =>
    if r.road = .opened then { r with road := st, flashA := true, flashTicks := 0 } else { r with road := st }

/-- The step timer starts from zero, or is none. -/
def setStep (t : StepTimer) (s : State) : State := s.onRcs fun r => { r with stepTimer := t, stepElapsed := 0 }

/-- An in-service arm that is not held down. -/
def Arm.strayed (r : Arm) : Bool := r.inService && !r.heldDown

/-- The arm is UP without re-lower pending, or DOWN displaced: where R70 commands it to lower. -/
def Arm.wantsLower (r : Arm) : Bool :=
  (decide (r.state = .up) && !r.relowerPending) || (decide (r.state = .down) && r.displaced)

/-- An in-service exit arm that R69 commands to raise. -/
def Arm.reverses (r : Arm) : Bool :=
  decide (r.state = .lowering) || (decide (r.state = .up) && r.relowerPending)

/-- The occupation of R69, or a held command taken as one: the exit arms reverse and the road returns to CLEARING
with the clearance limit from zero. -/
def reverseSecuring (s : State) : State :=
  let t := commandRaises Arm.reverses exitArms (viewDeck (latch .deck s))
  setStep .clearanceLimit (setRoad .clearing t)

/-- SECURING is left for SECURED when all in-service arms are held down (R68). -/
def testSecured (s : State) : State := if s.allHeld allArms then setRoad .secured s else s

/-- SECURING is entered: the exit arms not held down are commanded to lower (R68). -/
def enterSecuring (s : State) : State :=
  let t := (setStep .none (setRoad .securing s)).onRcs fun r => { r with limitPassed := false }
  let c := commandLowers Arm.strayed exitArms t
  if c.2 then reverseSecuring c.1 else testSecured c.1

/-- CLEARING passes on to SECURING while the view is clear and the entry arms are held down (R67). -/
def testSecuring (s : State) : State :=
  if s.rcs.deckClear ∧ s.allHeld entryArms then enterSecuring s else s

/-- CLEARING is entered with the clearance limit from zero (R67). -/
def enterClearing (s : State) : State :=
  testSecuring <| (setStep .clearanceLimit (setRoad .clearing s)).onRcs fun r =>
    { r with entryLowering := false, limitPassed := false }

/-- STOPPING is left for CLEARING once the entry arms have been commanded and are held down (R66). -/
def testClearing (s : State) : State :=
  if s.rcs.entryLowering ∧ s.allHeld entryArms then enterClearing s else s

/-- An arm that R72 commands to lower: in service, not held down and not STALLED; a stroke in progress is left to its
end when the command is repeated. -/
def Arm.breachLower (r : Arm) : Bool :=
  r.strayed && decide (r.state ≠ .stalled) && !r.moving

/-- BREACHED is entered: the LMC is told and the strayed arms are commanded to lower (R72). -/
def enterBreached (s : State) : State :=
  (commandLowers (fun r => r.strayed && decide (r.state ≠ .stalled)) allArms (reportBreach (setRoad .breached s))).1

/-- BREACHED returns to SECURED when all in-service arms are held down (R72). -/
def testRestored (s : State) : State := if s.allHeld allArms then setRoad .secured s else s

/-- The second and third steps of a reopening that an arm report can take (R74, R75): the entry arms are raised when
the exit arms are UP, and the run-on runs while all arms are UP. -/
def testReopening (s : State) : State :=
  let t :=
    if s.allUp exitArms ∧ s.rcs.entryRaising = false then
      commandRaises Arm.inService entryArms (s.onRcs fun r => { r with entryRaising := true })
    else s
  if t.rcs.entryRaising ∧ t.allUp allArms then
    (if t.rcs.stepTimer = .runOn then t else setStep .runOn t)
  else if t.rcs.stepTimer = .runOn then setStep .none t
  else t

/-- The RCS takes the BZU's report of arm `a` (R66, R68, R70, R71, R72, R74 to R76). -/
def reportArm (a : Fin 8) (s : State) : State :=
  match s.rcs.road with
  | .opened => if (s.arm a).state = .down then commandRaise s a else s
  | .prewarn | .unknown => s
  | .stopping =>
    if s.rcs.entryLowering then
      testClearing (if !isExit a && (s.arm a).wantsLower then (commandLower a s).1 else s)
    else s
  | .clearing => testSecuring (if !isExit a && (s.arm a).wantsLower then (commandLower a s).1 else s)
  | .securing =>
    let c := if (s.arm a).wantsLower then commandLower a s else (s, false)
    if c.2 then reverseSecuring c.1 else testSecured c.1
  | .secured => if s.allHeld allArms then s else enterBreached s
  | .breached => testRestored (if (s.arm a).breachLower then (commandLower a s).1 else s)
  | .reopening =>
    testReopening (if (s.arm a).state = .down ∧ (isExit a ∨ s.rcs.entryRaising) then commandRaise s a else s)

/-- The moment the deck-clear view becomes clear: CLEARING may pass on (R67), and BREACHED repeats the commands that
were held (R72). -/
def deckBecameClear (s : State) : State :=
  match s.rcs.road with
  | .clearing => testSecuring s
  | .breached => (commandLowers Arm.breachLower exitArms s).1
  | .opened | .prewarn | .stopping | .securing | .secured | .reopening | .unknown => s

/-- The RCS re-evaluates its deck-clear view and acts if it has become clear (R63). -/
def reviewDeck (s : State) : State :=
  let t := viewDeck s
  if t.rcs.deckClear && !s.rcs.deckClear then deckBecameClear t else t

/-- The RCS takes the BZU's report of a changed counted status (R63, R69, R71). -/
def reportZone (nowOccupied : Bool) (s : State) : State :=
  let t := reviewDeck s
  if nowOccupied then
    match t.rcs.road with
    | .securing => reverseSecuring t
    | .secured => latch .deck t
    | .opened | .prewarn | .stopping | .clearing | .breached | .reopening | .unknown => t
  else t

/-! ### Zones (R55 to R58) -/

/-- A zone's record changes: becoming FAULTED latches DECK and the read latch is set (R55, R56); a changed counted
status restarts the clear duration, is an intrusion on an unseated leaf, and is told to the RCS (R56). The intrusion
latches DECK at the end of a bypass as well (note 34). -/
def changeZone (z : Fin 6) (f : Zone → Zone) (s : State) : State :=
  let old := s.zone z
  let new := f old
  let noted := decide (new.code ≠ old.code) && new.occupied
  let t := s.onZone z fun _ =>
    { new with
      occupiedSinceRead := new.occupiedSinceRead || noted
      clearTicks := if new.counted = old.counted then new.clearTicks else 0 }
  let t := latchIf (new.fault && !old.fault) .deck t
  if new.counted = old.counted then t
  else
    let intrusion := new.counted && decide (z.val < 4) && decide (s.lmc.leaf ≠ .seatedLocked)
    reportZone new.counted (latchIf intrusion .deck t)

/-- Zone `z`'s bypass mark set or cleared (R57, R58): its counted status follows, and the deck-clear view with it, since
a bypassed zone takes no part in it (R63). A mark the zone already holds changes nothing. -/
def setBypass (z : Fin 6) (mark : Bool) (s : State) : State :=
  if (s.zone z).bypassed = mark then s else reviewDeck (changeZone z (fun r => { r with bypassed := mark }) s)

/-- Zone `z`'s bypass ends (R58). -/
def endBypass (s : State) (z : Fin 6) : State := setBypass z false s

/-! ### Limit events (R44, R48 to R50) -/

/-- A full stroke whose edge was never active is reported to the PHU (R44). -/
def reportArmStroke (a : Fin 8) (s : State) : State :=
  let r := s.arm a
  if r.full && !r.edgeSeen then reportStroke (armActuator a) r.nominal (toTenths r.elapsed) s else s

/-- A limit conflict is taken: an arm already STALLED with it is not changed (R48). -/
def conflictArm (a : Fin 8) (s : State) : State :=
  if (s.arm a).state = .stalled ∧ (s.arm a).cause = some .limitConflict then s
  else reportArm a (stallArm a .limitConflict s)

/-- A lowering stroke completes (R44). -/
def completeLowering (a : Fin 8) (s : State) : State :=
  reportArm a <| (reportArmStroke a s).onArm a fun r =>
    { r with state := .down, displaced := false, obstructions := 0 }

/-- A raising stroke completes; the end of a reversal sets re-lower pending with its 2 s wait (R44, R47). -/
def completeRaising (a : Fin 8) (s : State) : State :=
  reportArm a <| (reportArmStroke a s).onArm a fun r =>
    { r with state := .up, upLost := false, relowerPending := r.reversal
             relowerWait := if r.reversal then some 0 else none, reversal := false }

/-- An UP arm moves to DOWN without command (R50). -/
def movedDown (a : Fin 8) (s : State) : State :=
  reportArm a <| latch .arm <| s.onArm a fun r =>
    { r with state := .down, displaced := false, upLost := false, relowerPending := false
             relowerWait := none, upTimer := none }

/-- A DOWN arm whose up limit is made becomes UP (R49): ARM is latched unless it was already displaced. -/
def movedUp (a : Fin 8) (s : State) : State :=
  let was := (s.arm a).displaced
  reportArm a <| latchIf (!was) .arm <| s.onArm a fun r =>
    { r with state := .up, displaced := false, displaceTimer := none }

/-- What the BZU does when arm `a`'s down limit is made (R44, R48, R49, R50). -/
def downLimitMade (a : Fin 8) (s : State) : State :=
  if (s.arm a).state = .outOfService then s
  else if s.pins.armUp[a] then conflictArm a s
  else
    match (s.arm a).state with
    | .lowering => completeLowering a s
    | .up => movedDown a s
    | .down =>
      if (s.arm a).displaced then reportArm a (s.onArm a fun r => { r with displaced := false })
      else s.onArm a fun r => { r with displaceTimer := none }
    | .raising | .stalled | .outOfService => s

/-- What the BZU does when arm `a`'s up limit is made (R44, R48, R49, R50). -/
def upLimitMade (a : Fin 8) (s : State) : State :=
  if (s.arm a).state = .outOfService then s
  else if s.pins.armDown[a] then conflictArm a s
  else
    match (s.arm a).state with
    | .raising => completeRaising a s
    | .down => movedUp a s
    | .up => s.onArm a fun r => { r with upLost := false, upTimer := none }
    | .lowering | .stalled | .outOfService => s

/-- What the BZU does when arm `a`'s down limit releases (R49). -/
def downLimitReleased (a : Fin 8) (s : State) : State :=
  if (s.arm a).heldDown then s.onArm a fun r => { r with displaceTimer := some 0 } else s

/-- What the BZU does when arm `a`'s up limit releases (R50). -/
def upLimitReleased (a : Fin 8) (s : State) : State :=
  if (s.arm a).state = .up then
    if s.pins.armDown[a] then movedDown a s else s.onArm a fun r => { r with upTimer := some 0 }
  else s

/-- The displacement timer expires (R49). -/
def displaceArm (a : Fin 8) (s : State) : State :=
  if (s.arm a).displaceTimer.isSome then
    reportArm a (latch .arm (s.onArm a fun r => { r with displaced := true, displaceTimer := none }))
  else s

/-- The up-limit timer expires (R50); the RCS is not told. -/
def loseUpLimit (a : Fin 8) (s : State) : State :=
  if (s.arm a).upTimer.isSome then latch .arm (s.onArm a fun r => { r with upLost := true, upTimer := none })
  else s

/-- A stroke in progress times out (R45). -/
def timeOutArm (a : Fin 8) (s : State) : State :=
  if (s.arm a).moving then reportArm a (stallArm a .timeout s) else s

/-- The obstruction edge becomes active (R44, R46). -/
def edgeActive (a : Fin 8) (s : State) : State :=
  match (s.arm a).state with
  | .lowering => reportArm a (obstruct a (s.onArm a fun r => { r with edgeSeen := true }))
  | .raising => s.onArm a fun r => { r with edgeSeen := true }
  | .up | .down | .stalled | .outOfService => s

/-- The re-lower wait expires: the arm may lower from now on (R47). -/
def endRelowerWait (a : Fin 8) (s : State) : State := s.onArm a fun r => { r with relowerWait := none }

/-- The re-lowering of arm `a` may start (R47): the wait is over, the edge is inactive and, for an exit arm, the
deck-clear condition holds; not while a soft reset waits. -/
def State.mayRelower (s : State) (a : Fin 8) : Bool :=
  decide ((s.arm a).state = .up) && (s.arm a).relowerPending && (s.arm a).relowerWait.isNone &&
    !s.pins.armEdge[a] && (!isExit a || s.deckCondition) && !s.apu.restart

/-- The re-lowering of R47 starts. -/
def relowerArm (a : Fin 8) (s : State) : State :=
  if s.mayRelower a then reportArm a (startLowering a .relower s) else s

/-- An arm that the assertion of ESTOP stalls: it moves, or is UP with re-lower pending (R51). -/
def Arm.stopsOnEstop (r : Arm) : Bool := r.moving || (decide (r.state = .up) && r.relowerPending)

/-- ESTOP stalls arm `a`; a pending re-lower counts as last commanded LOWER (R51). -/
def estopArm (s : State) (a : Fin 8) : State :=
  stallArm a .estop (s.onArm a fun r => { r with last := if r.state = .up then .lower else r.last })

/-! ### Timers of the road (R63, R66, R67, R74, R62) -/

/-- PREWARN expires (R66). -/
def prewarnExpires (s : State) : State :=
  if s.rcs.stepTimer = .prewarn then setStep .entryDelay (setRoad .stopping s) else s

/-- The entry delay expires: the entry arms are commanded to lower (R66). -/
def entryDelayExpires (s : State) : State :=
  if s.rcs.stepTimer = .entryDelay then
    let t := (setStep .none s).onRcs fun r => { r with entryLowering := true }
    testClearing (commandLowers Arm.inService entryArms t).1
  else s

/-- The clearance limit expires in CLEARING (R67). -/
def clearanceLimitExpires (s : State) : State :=
  if s.rcs.stepTimer = .clearanceLimit then
    latch .deck ((setStep .none s).onRcs fun r => { r with limitPassed := true })
  else s

/-- The run-on expires: the road is OPEN, its time stamped, and every bypass ends (R74, R58). -/
def runOnExpires (s : State) : State :=
  if s.rcs.stepTimer = .runOn then
    let t := (setStep .none (setRoad .opened s)).onRcs fun r =>
      { r with openTime := some s.tb.seconds, entryRaising := false }
    allZones.foldl endBypass t
  else s

/-- A zone counted clear has been clear for at least the dwell (used by the dwell wait's expiry; note 17). -/
def Zone.reachDwell (z : Zone) (dwell : Nat) : Zone :=
  if z.bypassed || z.counted then z else { z with clearTicks := max z.clearTicks (sec dwell) }

/-- The dwell wait expires: every unbypassed zone has reached the dwell and the view becomes clear (R63). -/
def dwellExpires (s : State) : State :=
  if s.rcs.dwellWait then
    reviewDeck <| allZones.foldl (fun t z => t.onZone z fun r => r.reachDwell s.dwell) s
  else s

/-- The red flash changes between A and B (R62). -/
def flashChanges (s : State) : State :=
  if s.flashOn then s.driveRcs fun r => { r with flashA := !r.flashA, flashTicks := 0 } else s

end Sys2Proof.Machine
end

