-- ==== Sys2Proof/Machine/Span.lean ====
section
/-! DEFINITION. Field events of the locks, the seats and the pumps (LPU, spec/05) and of the E-stop line (R51, R85,
R91, R115), and the LPU's requests (R88, R92). -/

namespace Sys2Proof.Machine

/-! ### Bolt switches (R82, R83) -/

/-- A bolt jams and the LMC is told (R80). -/
def jamAndTell (b : Fin 4) (cause : BoltCause) (s : State) : State := reportBolt (jamBolt b cause s)

/-- A switch conflict is taken: a bolt already JAMMED with it is not changed (R83). -/
def conflictBolt (b : Fin 4) (s : State) : State :=
  if (s.bolt b).state = .jammed ∧ (s.bolt b).cause = some .switchConflict then s
  else jamAndTell b .switchConflict s

/-- A bolt stroke completes: a full one is reported to the PHU with its time from output on (R82). -/
def completeBolt (b : Fin 4) (home : BoltState) (s : State) : State :=
  let r := s.bolt b
  let t := if r.full then
      reportStroke (boltActuator b) r.nominal (toTenths (r.elapsed - r.outputOn.getD 0)) s
    else s
  reportBolt (t.onBolt b fun r => { r with state := home, restTimer := none })

/-- The rest timer of bolt `b` is cancelled (R83). -/
def cancelRest (b : Fin 4) (s : State) : State := s.onBolt b fun r => { r with restTimer := none }

/-- The WITHDRAWN switch of bolt `b` is made (R82, R83). -/
def withdrawnMade (b : Fin 4) (s : State) : State :=
  if s.pins.boltDriven[b] then conflictBolt b s
  else
    match (s.bolt b).state with
    | .withdrawing => completeBolt b .withdrawn s
    | .withdrawn => cancelRest b s
    | .driven | .driving | .jammed => s

/-- The DRIVEN switch of bolt `b` is made; a drive completes once its output has come on (R82, R83). -/
def drivenMade (b : Fin 4) (s : State) : State :=
  if s.pins.boltWithdrawn[b] then conflictBolt b s
  else
    match (s.bolt b).state with
    | .driving => if (s.bolt b).outputOn.isSome then completeBolt b .driven s else s
    | .driven => cancelRest b s
    | .withdrawing | .withdrawn | .jammed => s

/-- A switch of bolt `b` releases: that of the position it rests at starts the 1 s timer (R83). -/
def switchReleased (b : Fin 4) (sw : BoltSwitch) (s : State) : State :=
  match (s.bolt b).state, sw with
  | .driven, .driven => s.onBolt b fun r => { r with restTimer := some 0 }
  | .withdrawn, .withdrawn => s.onBolt b fun r => { r with restTimer := some 0 }
  | _, _ => s

/-- The rest timer expires (R83). -/
def losePosition (b : Fin 4) (s : State) : State :=
  if (s.bolt b).restTimer.isSome then jamAndTell b .noPosition s else s

/-- A bolt with a stroke in progress. -/
def Bolt.moving (r : Bolt) : Bool := decide (r.state = .withdrawing) || decide (r.state = .driving)

/-- A centre bolt's drive whose output has not come on (R84). -/
def Bolt.waits (r : Bolt) : Bool := decide (r.state = .driving) && r.outputOn.isNone

/-- A bolt stroke times out (R82, R84). -/
def timeOutBolt (b : Fin 4) (s : State) : State :=
  if (s.bolt b).moving then jamAndTell b (if (s.bolt b).waits then .misaligned else .timeout) s else s

/-- The leaves are aligned while a centre bolt waits: its drive output comes on (R84). -/
def alignBolt (b : Fin 4) (s : State) : State :=
  if isCentre b && (s.bolt b).waits && s.aligned then
    s.onBolt b fun r => { r with outputOn := some r.elapsed, full := s.pins.boltWithdrawn[b] }
  else s

/-! ### Seat switches (R89) -/

/-- The raw input of a seat switch: the filter starts on a level other than the filtered one, and a return to it
cancels the change. -/
def filterSeat (l : Leaf) (made : Bool) (s : State) : State :=
  s.onSeat l fun r => { r with filter := if made = r.made then none else r.filter <|> some 0 }

/-- The filter of a seat switch expires: the new level is taken and the LMC tests it (R89). -/
def takeSeat (l : Leaf) (s : State) : State :=
  if (s.lpu.seats.get l).filter.isSome then
    reportSeat (s.onSeat l fun _ => { made := s.pins.seat.get l, filter := none })
  else s

/-! ### Pump groups (R91, R94) -/

/-- Pressure-ok is made: watched in STARTING (R91). -/
def pressureMade (g : Leaf) (s : State) : State :=
  if (s.pump g).state = .starting then s.onPump g fun p => { p with hold := p.hold <|> some 0 } else s

/-- Pressure-ok releases: a hold is cancelled, and a READY group becomes FAULT (R91). -/
def pressureLost (g : Leaf) (s : State) : State :=
  match (s.pump g).state with
  | .starting => s.onPump g fun p => { p with hold := none }
  | .ready => reportPump (faultPump g s)
  | .stopped | .fault => s

/-- The pressure hold has run for 1 s: the group is READY (R91). -/
def provePump (g : Leaf) (s : State) : State :=
  if (s.pump g).state = .starting ∧ (s.pump g).hold.isSome then
    reportPump (setPump g (fun p => { p with state := .ready, limitElapsed := 0, hold := none }) s)
  else s

/-- The start limit expires before pressure is proved: the group is FAULT (R91). -/
def expirePump (g : Leaf) (s : State) : State :=
  if (s.pump g).state = .starting then reportPump (faultPump g s) else s

/-- Group `g` stops and the LMC is told. -/
def stopAndTell (s : State) (g : Leaf) : State := reportPump (stopPump s g)

/-- The standby timer has reached its period: both groups stop and the timer with them (R94). -/
def expireStandby (s : State) : State :=
  if s.lpu.standby.isSome then
    (stopAndTell (stopAndTell s .north) .south).onLpu fun l => { l with standby := none }
  else s

/-- The standby timer has reached the standby period as the table holds it (R94). -/
def State.standbyDue (s : State) : Bool :=
  match s.lpu.standby with
  | some t => decide (sec (s.par pStandby) ≤ t)
  | none => false

/-- The standby period is written: 0 stops the timer, and a period no greater than the elapsed time expires it (R94). -/
def reviewStandby (s : State) : State :=
  if s.par pStandby = 0 then s.onLpu fun l => { l with standby := none }
  else if s.standbyDue then expireStandby s else s

/-! ### E-stop (R51, R85, R91, R115) -/

/-- A pump group that ESTOP stops (R91). -/
def Pump.stopsOnEstop (p : Pump) : Bool := decide (p.state = .starting) || decide (p.state = .ready)

/-- ESTOP is asserted: every arm motor, bolt output and pump group is cut at once (R51, R85, R91), then the RCS is told
of each arm and the LMC of each bolt and group, and the leaves trip (R115; note 43 for the order). -/
def takeEstop (s : State) : State :=
  let arms := allArms.filter fun a => (s.arm a).stopsOnEstop
  let bolts := allBolts.filter fun b => (s.bolt b).moving
  let groups := [Leaf.north, Leaf.south].filter fun g => (s.pump g).stopsOnEstop
  let t := groups.foldl stopPump (bolts.foldl (fun t b => jamBolt b .estop t) (arms.foldl estopArm s))
  let t := bolts.foldl (fun t _ => reportBolt t) (arms.foldl (fun t a => reportArm a t) t)
  testTrip (groups.foldl (fun t _ => reportPump t) t)

/-! ### Requests of the LPU (R88, R92) -/

/-- A bolt that LOCK-RETRY restarts (R88). -/
def Bolt.retriable (r : Bolt) : Bool := decide (r.state = .jammed) && decide (r.last ≠ .none)

/-- LOCK-RETRY restarts bolt `b` in its last commanded direction (R88). -/
def retryBolt (s : State) (b : Fin 4) : State :=
  match (s.bolt b).last with
  | .none => s
  | .withdraw => startBolt b .withdraw s
  | .drive => startBolt b .drive s

def BoltState.code : BoltState → Nat
  | .driven => 0
  | .withdrawing => 1
  | .withdrawn => 2
  | .driving => 3
  | .jammed => 4

def PumpState.code : PumpState → Nat
  | .stopped => 0
  | .starting => 1
  | .ready => 2
  | .fault => 3

/-- The bolts LOCK-RETRY acts on. -/
def State.retriableBolts (s : State) : List (Fin 4) := allBolts.filter fun b => (s.bolt b).retriable

/-- The leaves rest on their seats for the purpose of LOCK-RETRY (R88). -/
def LeafState.nearSeat (l : LeafState) : Bool :=
  decide (l = .seatedLocked) || decide (l = .unlocking) || decide (l = .locking)

/-- LOCK-RETRY (R88). The bolts are restarted first and their changes told to the LMC after. -/
def lockRetryOp (s : State) : State × Verdict :=
  let bolts := s.retriableBolts
  if bolts = [] then (s, .state)
  else if (bolts.any fun b => decide ((s.bolt b).last = .drive)) && !s.lmc.leaf.nearSeat then
    (s, .interlock .leavesNotSeated)
  else
    let started := bolts.foldl retryBolt s
    (reportBolt started, .accepted (b1 bolts.length ++ allBolts.flatMap fun b => b1 (started.bolt b).state.code))

/-- The reply data of PUMPS (R92). -/
def State.pumpStates (s : State) : List Byte :=
  b1 (s.pump .north).state.code ++ b1 (s.pump .south).state.code

/-- The PUMPS start makes a STOPPED or FAULT group STARTING (R92). -/
def requestPump (s : State) (g : Leaf) : State :=
  match (s.pump g).state with
  | .stopped | .fault => reportPump (startPump g s)
  | .starting | .ready => s

/-- The leaf states in which a PUMPS stop is refused (R92). -/
def LeafState.needsPumps (l : LeafState) : Bool :=
  decide (l = .unlocking) || decide (l = .raising) || decide (l = .lowering) || decide (l = .locking)

/-- PUMPS with action 1 (R92). -/
def pumpsStartOp (s : State) : State × Verdict :=
  if s.pins.estop then (s, .state)
  else
    let t := requestPump (requestPump s .north) .south
    (t, .accepted t.pumpStates)

/-- PUMPS with action 0 (R92). -/
def pumpsStopOp (s : State) : State × Verdict :=
  if s.lmc.leaf.needsPumps then (s, .state)
  else
    let t := stopAndTell (stopAndTell s .north) .south
    (t, .done t.pumpStates)

end Sys2Proof.Machine
end

