-- ==== Sys2Proof/Machine/Authority.lean ====
section
/-! DEFINITION. Authority and parameters (APU, spec/02): how a written value reaches its block, the parameter
requests, the store, logon and freeze, and RESTART; and the reporting requests of the console link (R15, R17, R18). -/

namespace Sys2Proof.Machine

/-! ### The tide's staleness (R159) -/

/-- The tide is stale now (R159). -/
def State.tideStaleNow (s : State) : Bool :=
  !s.psc.tide.present || decide (s.par pTideValidity < s.since s.psc.tide.time)

/-- The staleness is evaluated; a change from fresh to stale latches PARAMETER (R159). -/
def reviewTide (s : State) : State :=
  latchIf (s.tideStaleNow && !s.psc.tide.stale) .parameter
    (s.onPsc fun p => { p with tide := { p.tide with stale := s.tideStaleNow } })

/-! ### What a written value does at once (R27) -/

/-- The CL's mask copy follows the working table (R16). -/
def copyMask (s : State) : State := s.onCl fun l => { l with mask := BitVec.ofNat 16 (s.par pMask) }

def armActuators : List (Fin 12) := [0, 1, 2, 3, 4, 5, 6, 7]
def boltActuators : List (Fin 12) := [8, 9, 10, 11]

/-- The value just written at index `i` reaches its block (R27); most are read at their capture points and do nothing
here. -/
def reach (i : Fin 64) (s : State) : State :=
  match i.val with
  | 10 => reviewStandby s
  | 25 | 26 | 27 => windWritten s
  | 30 => if s.changeoverDue then changeoverExpires s else s
  | 31 => if s.windowDue then windowExpires s else s
  | 32 => reviewSeal s
  | 35 => reviewTide s
  | 57 | 59 => evaluateWorn armActuators s
  | 58 | 60 => evaluateWorn boltActuators s
  | 61 => copyMask s
  | _ => s

/-- An acceptable value is written at index `i` and reaches its block (R29). -/
def writeParam (i : Fin 64) (v : Nat) (s : State) : State :=
  reach i (s.onApu fun a => { a with table := a.table.set i v, modified := true })

/-- The values of a PARAM-WRITE are offered in index order; answers the state and the first index refused (R29). -/
def writeValues : Nat → List Word → State → State × Option Nat
  | _, [], s => (s, none)
  | i, v :: rest, s =>
    if h : i < 64 then
      if acceptable s.apu.table ⟨i, h⟩ v.toNat then writeValues (i + 1) rest (writeParam ⟨i, h⟩ v.toNat s)
      else (s, some i)
    else (s, some i)

/-- PARAM-WRITE (R29). -/
def paramWriteOp (start : Byte) (values : List Word) (s : State) : State × Verdict :=
  match writeValues start.toNat values s with
  | (t, none) => (t, .done (b1 values.length))
  | (t, some i) => (t, .range i)

/-- The defaults of indices 0 to 61 with the codes kept (R30). -/
def defaultsKeeping (t : Vector Nat 64) : Vector Nat 64 :=
  (defaultTable.set pOperatorCode t[pOperatorCode]).set pMaintainerCode t[pMaintainerCode]

/-- The indices whose values reach their blocks when a table `new` is loaded in place of `old`: those that change, the
thresholds and flags of the health classes, whose load is itself the event (R27, R198), and the mask, whose copy
becomes the loaded value (R30). -/
def reached (old new : Vector Nat 64) : List (Fin 64) :=
  (List.finRange 64).filter fun i => decide (old[i] ≠ new[i]) || (decide (57 ≤ i.val) && decide (i.val ≤ 61))

/-- A whole table is loaded and its values reach their blocks as a write of each does (R27, R30, R39). -/
def loadTable (t : Vector Nat 64) (s : State) : State :=
  (reached s.apu.table t).foldl (fun r i => reach i r) (s.onApu fun a => { a with table := t })

/-- PARAM-DEFAULTS (R30). -/
def paramDefaultsOp (s : State) : State × Verdict :=
  ((loadTable (defaultsKeeping s.apu.table) s).onApu fun a => { a with modified := true }, .done [])

def StoreStatus.code : StoreStatus → Nat
  | .valid => 0
  | .invalid => 1
  | .writeFailed => 2

/-- The value PARAM-READ shows: the codes read as 0 (R28). -/
def State.shown (s : State) (i : Nat) : Nat :=
  if h : i < 62 then s.apu.table[i] else 0

/-- PARAM-READ (R28). -/
def paramReadOp (start count : Byte) (s : State) : State × Verdict :=
  if 63 < start.toNat then (s, .range 1)
  else if count.toNat = 0 ∨ 16 < count.toNat ∨ 64 < start.toNat + count.toNat then (s, .range 2)
  else
    (s, .done ([start, count] ++ b1 s.apu.storeStatus.code ++ bm s.apu.commit.isSome ++ bm s.apu.modified ++
      bm s.apu.frozen ++ b1 s.apu.mismatch ++
      (List.range count.toNat).flatMap fun k => b4 (s.shown (start.toNat + k))))

/-- PARAM-COMMIT (R32). -/
def paramCommitOp (s : State) : State × Verdict :=
  (s.onApu fun a => { a with commit := some a.table }, .accepted (b1 s.apu.storeStatus.code))

/-- A store image with its check (section 2.3). -/
def imageOf (t : Vector Nat 64) : Store := .image t (crc16 (tableBytes t))

/-- The commit ends; the operand says whether the read-back matches (R33; note 23). A failed one leaves the modified
mark as it is, set or clear (note 29). -/
def endCommit (good : Bool) (s : State) : State :=
  match s.apu.commit with
  | none => s
  | some t =>
    latch .parameter <| s.onApu fun a =>
      if good then { a with commit := none, store := imageOf t, storeStatus := .valid, modified := false }
      else { a with commit := none, store := .broken, storeStatus := .writeFailed }

/-! ### Logon and freeze (R21 to R25) -/

/-- A successful logon at a level (R21, R23). -/
def grant (l : Level) (s : State) : State × Verdict :=
  (latch .authority (s.onApu fun a => { a with level := l, mismatch := 0 }), .done (b1 l.code ++ b1 0))

/-- A LOGON refused AUTHORITY (R21, R23). -/
def denyLogon (s : State) : State × Verdict := (latch .authority s, .refused .authority 0)

/-- The comparison with the stored code at index `i` (R21, R22). -/
def compareCode (l : Level) (i : Fin 64) (code : Word) (s : State) : State × Verdict :=
  if s.par i = 0 then denyLogon s
  else if code.toNat = s.par i then grant l s
  else
    (latch .authority (s.onApu fun a => { a with mismatch := min 5 (a.mismatch + 1) }), .refused .mismatch 0)

/-- LOGON (R21 to R23). -/
def logonOp (level : Byte) (code : Word) (s : State) : State × Verdict :=
  if level = 1 then compareCode .operate pOperatorCode code s
  else if level = 2 then
    if s.apu.straps.maintEn = false then denyLogon s
    else if s.apu.storeStatus = .invalid then grant .maintain s
    else compareCode .maintain pMaintainerCode code s
  else (s, .range 1)

/-- LOGOFF (R24). -/
def logoffOp (s : State) : State × Verdict := (s.onApu fun a => { a with level := .view }, .done [])

/-- FREEZE (R25). -/
def freezeOp (s : State) : State × Verdict :=
  (latchIf (!s.apu.frozen) .authority (s.onApu fun a => { a with frozen := true }), .done [])

/-- RESTART (R38): a motion begins its controlled halt, and no new work begins from now on. -/
def restartOp (s : State) : State × Verdict :=
  if s.storeUnusable then (s, .refused .store 0)
  else (beginHalt .restart (s.onApu fun a => { a with restart := true }), .accepted [])

/-! ### Reporting requests (R15, R17, R18) -/

/-- STATUS (R15): exactly the returned conditions are cleared. -/
def statusOp (s : State) : State × Verdict :=
  (s.onCl fun l => { l with latched := 0 }, .done (be16 s.cl.latched))

/-- COUNTERS (R18). -/
def countersOp (s : State) : State × Verdict :=
  (s.onCl fun l => { l with crcErrors := 0, framingErrors := 0, timeouts := 0, overruns := 0 },
    .done (b2 s.cl.crcErrors ++ b2 s.cl.framingErrors ++ b2 s.cl.timeouts ++ b2 s.cl.overruns))

/-- The four bytes of the start-up result record (R37). -/
def StartupRecord.bytes (r : StartupRecord) : List Byte :=
  bm r.storeInvalid ++ b1 r.straps ++ b1 r.encoders ++ bm r.fieldSupply

/-- IDENTIFY (R17): vendor code 0x0D5C, part code 0x0220, revision 3. -/
def identifyOp (s : State) : State × Verdict :=
  (s, .done (b2 0x0D5C ++ b2 0x0220 ++ b1 3 ++ be32 s.tb.seconds ++ s.apu.record.bytes))

end Sys2Proof.Machine
end

