-- ==== Sys2Proof/Machine/Outputs.lean ====
section
/-! DEFINITION. The output pins, computed from the state (they hold none of their own): arm motors (R40), road signals
(R61, R62), bolts (R80), pumps (R90) and leaf drives (R98), with the fail-safe pattern of R35 outside the run. The
channel's lamps and the horn (R174, R181) are circuits and stand with `State.circuitOn` (Ops.lean). -/

namespace Sys2Proof.Machine

/-- What an arm's motor is driven to do. -/
inductive Motor where
  | off
  | lower
  | raise
deriving DecidableEq, Repr

/-- The motor command of arm `a` (R40; off in the fail-safe pattern, R35). -/
def State.motor (s : State) (a : Fin 8) : Motor :=
  if s.running then
    match (s.arm a).state with
    | .lowering => .lower
    | .raising => .raise
    | .up | .down | .stalled | .outOfService => .off
  else .off

/-- The bells of both approaches (R61, R62). -/
def State.bells (s : State) : Bool :=
  s.running &&
    match s.rcs.road with
    | .prewarn | .stopping => true
    | .breached => !s.allHeld entryArms
    | .opened | .clearing | .securing | .secured | .reopening | .unknown => false

/-- Red A of both approaches is lit (R62, R35). -/
def State.redA (s : State) : Bool := s.flashOn && s.rcs.flashA

/-- Red B of both approaches is lit (R62, R35). -/
def State.redB (s : State) : Bool := s.flashOn && !s.rcs.flashA

/-- Bolt `b`'s withdraw output (R80). -/
def State.boltWithdrawOutput (s : State) (b : Fin 4) : Bool :=
  s.running && decide ((s.bolt b).state = .withdrawing)

/-- Bolt `b`'s drive output: on once the output-on time is present (R80, R84). -/
def State.boltDriveOutput (s : State) (b : Fin 4) : Bool :=
  s.running && decide ((s.bolt b).state = .driving) && (s.bolt b).outputOn.isSome

/-- Pump group `g`'s start output (R90). -/
def State.pumpOutput (s : State) (g : Leaf) : Bool :=
  s.running && (decide ((s.pump g).state = .starting) || decide ((s.pump g).state = .ready))

/-- Leaf `l`'s drive reference (R98). -/
def State.driveReference (s : State) (l : Leaf) : Int :=
  if s.running then (s.lmc.motion.leaves.get l).reference else 0

/-- Leaf `l`'s brake release: on while its issued reference is nonzero (R98). -/
def State.brakeRelease (s : State) (l : Leaf) : Bool := decide (s.driveReference l ≠ 0)

/-- The line rate of CTXD and CRXD in bit/s, from the straps as sampled (R1). -/
def State.lineRate (s : State) : Nat :=
  match s.apu.straps.baud1, s.apu.straps.baud0 with
  | false, false => 9600
  | false, true => 19200
  | true, false => 38400
  | true, true => 57600

/-- The frame on CTXD for a reply body: SYNC, LENGTH, body and CHECK (R2, R9). -/
def wireFrame (body : List Byte) : List Byte :=
  let len := BitVec.ofNat 8 body.length
  0xC3 :: len :: body ++ be16 (crc16 (len :: body))

end Sys2Proof.Machine
end

