-- ==== Sys2Proof/Machine/RoadRequests.lean ====
section
/-! DEFINITION. The requests of the road (RCS, R64, R65, R73, R77) and of the arms and zones (BZU, R52 to R54, R57). -/

namespace Sys2Proof.Machine

/-! ### The interval guard (R65) -/

/-- Seconds until the road-open interval guard would pass (R65, R171). -/
def State.intervalRemaining (s : State) : Nat :=
  match s.rcs.road, s.rcs.openTime with
  | .opened, some t => s.par pOpenInterval - s.since t
  | _, _ => 0

/-- The batch's class-0 exception holds (R65, R171). -/
def State.intervalWaived (s : State) : Bool :=
  decide (s.psc.batch.state = .formed) && s.psc.batch.items.any fun i => decide (i.cls = 0)

/-- The interval has elapsed (R65). -/
def State.intervalElapsed (s : State) : Bool := decide (s.intervalRemaining = 0)

/-! ### CLOSE-ROAD (R64) -/

/-- Circuit `c` is FAILED. -/
def State.circuitFailed (s : State) (c : Fin 16) : Bool := s.phu.circuits[c].failed

/-- An approach has both its red circuits FAILED (R64 test 3). -/
def State.redSignalLost (s : State) : Bool :=
  (s.circuitFailed 1 && s.circuitFailed 2) || (s.circuitFailed 4 && s.circuitFailed 5)

/-- An approach has both its entry arms OUT_OF_SERVICE (R64 test 4). -/
def State.noEntryArm (s : State) : Bool :=
  (!(s.arm 0).inService && !(s.arm 1).inService) || (!(s.arm 4).inService && !(s.arm 5).inService)

/-- Every arm's obstruction count returns to 0 (R46). -/
def clearObstructions (s : State) : State :=
  allArms.foldl (fun t a => t.onArm a fun r => { r with obstructions := 0 }) s

/-- The road timings are captured (R64). -/
def captureTimings (s : State) : State :=
  s.onRcs fun r =>
    { r with capPrewarn := s.par pPrewarn, capEntryDelay := s.par pEntryDelay
             capClearDwell := s.par pClearDwell, capClearanceLimit := s.par pClearanceLimit
             dwellCaptured := true, entryLowering := false, limitPassed := false }

/-- CLOSE-ROAD is accepted: the timings are captured, the view re-evaluated, and PREWARN begins (R64). -/
def beginClosure (s : State) : State :=
  reviewDeck (setStep .prewarn (setRoad .prewarn (clearObstructions (captureTimings s))))

/-- CLOSE-ROAD (R64). -/
def closeRoadOp (s : State) : State × Verdict :=
  if s.rcs.road ≠ .opened ∧ s.rcs.road ≠ .unknown then (s, .state)
  else if s.storeUnusable then (s, .interlock .storeInvalid)
  else if s.redSignalLost then (s, .interlock .roadSignal)
  else if s.noEntryArm then (s, .interlock .noEntryArm)
  else if !s.intervalElapsed && !s.intervalWaived then (s, .refused .interval 0)
  else
    let t := beginClosure s
    (t, .accepted (b2 t.rcs.capPrewarn ++ b2 t.rcs.capEntryDelay ++ b2 t.rcs.capClearDwell ++
      b2 t.rcs.capClearanceLimit))

/-! ### OPEN-ROAD (R73) -/

/-- An arm that OPEN-ROAD commands to raise: an exit arm in service, or an entry arm UP with re-lower pending (R73). -/
def Arm.reopens (r : Arm) : Bool := decide (r.state = .up) && r.relowerPending

/-- OPEN-ROAD is accepted: the closure steps are cancelled and the exit arms commanded to raise (R73, R74). Where they
are UP already the entry step follows at once, and reverses an entry arm that is LOWERING (note 35). -/
def beginReopening (s : State) : State :=
  let t := (setStep .none (setRoad .reopening s)).onRcs fun r =>
    { r with capRunOn := s.par pRunOn, entryLowering := false, limitPassed := false, entryRaising := false }
  testReopening (commandRaises Arm.reopens entryArms (commandRaises Arm.inService exitArms t))

/-- OPEN-ROAD (R73). -/
def openRoadOp (s : State) : State × Verdict :=
  if s.rcs.road = .opened ∨ s.rcs.road = .reopening then (s, .state)
  else if s.lmc.leaf ≠ .seatedLocked then (s, .interlock .leavesNotSeated)
  else (beginReopening s, .accepted (b2 (s.par pRunOn)))

/-! ### ROAD-READ (R77) -/

def StepTimer.code : StepTimer → Nat
  | .none => 0
  | .prewarn => 1
  | .entryDelay => 2
  | .clearanceLimit => 3
  | .runOn => 4

def ArmState.code : ArmState → Nat
  | .up => 0
  | .lowering => 1
  | .down => 2
  | .raising => 3
  | .stalled => 4
  | .outOfService => 5

/-- The cause codes of R77; 0 for an absent cause. -/
def armCauseCode : Option ArmCause → Nat
  | none => 0
  | some .timeout => 1
  | some .obstructed => 2
  | some .limitConflict => 3
  | some .estop => 4
  | some .noLimit => 5

def ArmStroke.code : ArmStroke → Nat
  | .none => 0
  | .lower => 1
  | .raise => 2

/-- An arm's 12-byte record (R77). -/
def Arm.bytes (r : Arm) : List Byte :=
  b1 r.state.code ++ b1 (armCauseCode r.cause) ++ b1 r.last.code ++ b1 r.obstructions ++
    bm r.relowerPending ++ bm r.displaced ++ bm r.upLost ++ bm (r.moving && r.full) ++
    b2 (if r.moving then r.timeout else 0) ++ b2 (if r.moving then toTenths r.elapsed else 0)

/-- A zone's 6-byte record (R77). -/
def Zone.bytes (z : Zone) : List Byte :=
  b1 z.code ++ bm z.bypassed ++ bm z.counted ++ b2stop (if z.counted then 0 else toSec z.clearTicks) ++
    bm z.occupiedSinceRead

/-- The 27 bytes of road fields (R77). -/
def State.roadFields (s : State) : List Byte :=
  b1 s.rcs.road.code ++ b1 s.rcs.stepTimer.code ++
    b2 (if s.rcs.stepTimer = .none then 0 else toSec s.rcs.stepElapsed) ++
    bm s.rcs.entryLowering ++ bm s.rcs.entryRaising ++ bm s.rcs.limitPassed ++ bm s.rcs.deckClear ++
    bm s.amber ++ bm s.flashOn ++ bm s.bells ++
    b2 s.rcs.capPrewarn ++ b2 s.rcs.capEntryDelay ++ b2 s.rcs.capClearDwell ++ b2 s.rcs.capClearanceLimit ++
    b2 s.rcs.capRunOn ++ be32 (s.rcs.openTime.getD 0) ++ bm s.rcs.openTime.isSome ++ bm s.intervalElapsed

/-- ROAD-READ: the occupied-since-read latches are cleared and the reply reports what they held (R56, R77). -/
def roadReadOp (s : State) : State × Verdict :=
  (s.onBzu fun b => { b with zones := b.zones.map fun z => { z with occupiedSinceRead := false } },
    .done (s.roadFields ++ s.bzu.arms.toList.flatMap Arm.bytes ++ s.bzu.zones.toList.flatMap Zone.bytes))

/-! ### ARM-RETRY, ARM-SERVICE (R52 to R54) -/

/-- ARM-RETRY of a valid arm number (R52). The stroke starts first, and its report to the RCS follows. -/
def retryArm (a : Fin 8) (s : State) : State × Verdict :=
  let r := s.arm a
  if r.state ≠ .stalled then (s, .state)
  else
    match r.last with
    | .none => (s, .state)
    | .lower =>
      if isExit a ∧ s.deckCondition = false then (s, .interlock .deckOccupied)
      else
        let t := startLowering a .commanded s
        (reportArm a t, .accepted (b1 a.val ++ b1 (t.arm a).state.code))
    | .raise =>
      let t := startRaising a .commanded s
      (reportArm a t, .accepted (b1 a.val ++ b1 (t.arm a).state.code))

/-- ARM-RETRY (R52). -/
def armRetryOp (arm : Byte) (s : State) : State × Verdict :=
  if h : arm.toNat < 8 then retryArm ⟨arm.toNat, h⟩ s else (s, .range 1)

/-- An arm's record with every field that a service change or a reset clears (R53, R54, R59). -/
def Arm.cleared (r : Arm) (st : ArmState) (cause : Option ArmCause) : Arm :=
  { Arm.reset with state := st, cause := cause, nominal := r.nominal, timeout := r.timeout, elapsed := r.elapsed }

/-- The state and cause that the limits give (R54). -/
def stateOfLimits (up down : Bool) : ArmState × Option ArmCause :=
  match up, down with
  | true, false => (.up, none)
  | false, true => (.down, none)
  | true, true => (.stalled, some .limitConflict)
  | false, false => (.stalled, some .noLimit)

/-- The arm's record as derived from its limits (R54, R59, R60). -/
def State.derivedArm (s : State) (a : Fin 8) : Arm :=
  let d := stateOfLimits s.pins.armUp[a] s.pins.armDown[a]
  (s.arm a).cleared d.1 d.2

/-- The reply data of ARM-SERVICE (R53). -/
def State.armService (s : State) (a : Fin 8) : List Byte :=
  b1 a.val ++ b1 (s.arm a).state.code ++ b1 (armCauseCode (s.arm a).cause)

/-- Taking arm `a` out of service (R53). -/
def serviceOut (a : Fin 8) (s : State) : State × Verdict :=
  let r := s.arm a
  if r.state = .outOfService then (s, .done (s.armService a))
  else if r.state ≠ .up ∧ r.state ≠ .stalled then (s, .state)
  else if s.rcs.road = .secured ∨ s.rcs.road = .breached then (s, .state)
  else
    let t := reportArm a (s.onArm a fun r => r.cleared .outOfService none)
    (t, .done (t.armService a))

/-- Returning arm `a` to service: a derived STALLED state latches ARM, and the RCS is told (R54). The reply carries the
derived state, as it is before the RCS acts on the report (note 33). -/
def serviceReturn (a : Fin 8) (s : State) : State × Verdict :=
  if (s.arm a).state ≠ .outOfService then (s, .done (s.armService a))
  else
    let u := s.onArm a fun _ => s.derivedArm a
    let t := latchIf (decide ((u.arm a).state = .stalled)) .arm u
    (reportArm a t, .done (t.armService a))

/-- ARM-SERVICE (R53, R54). -/
def armServiceOp (arm action : Byte) (s : State) : State × Verdict :=
  if h : arm.toNat < 8 then
    if action = 1 then serviceOut ⟨arm.toNat, h⟩ s
    else if action = 0 then serviceReturn ⟨arm.toNat, h⟩ s
    else (s, .range 2)
  else (s, .range 1)

/-! ### ZONE-BYPASS (R57) -/

/-- The reply data of ZONE-BYPASS (R57). -/
def State.zoneBypass (s : State) (z : Fin 6) : List Byte :=
  b1 (z.val + 1) ++ b1 (s.zone z).code ++ bm (s.zone z).bypassed ++ bm (s.zone z).counted

/-- The bypass mark of zone `z` is set or cleared; the counted status follows (R56, R57). -/
def bypassZone (z : Fin 6) (mark : Bool) (s : State) : State × Verdict :=
  let t := setBypass z mark s
  (t, .done (t.zoneBypass z))

/-- ZONE-BYPASS (R57): zone numbers run from 1 to 6. -/
def zoneBypassOp (zone action : Byte) (s : State) : State × Verdict :=
  if h : 1 ≤ zone.toNat ∧ zone.toNat ≤ 6 then
    let z : Fin 6 := ⟨zone.toNat - 1, by omega⟩
    if action = 1 then bypassZone z true s
    else if action = 0 then bypassZone z false s
    else (s, .range 2)
  else (s, .range 1)

end Sys2Proof.Machine
end

