-- ==== Sys2Proof/Machine/ChannelRequests.lean ====
section
/-! DEFINITION. The requests of the vessel table (VT, R140 to R149), the passage queues and the batch (PSC, R153 to
R171) and the channel (CSU, R183 to R185), and aging (R144). -/

namespace Sys2Proof.Machine

/-! ### Learning a vessel (R140, R141) -/

/-- An air draught field: 0 gives none, a value above 999 is taken as 999 (R140, R153). -/
def airGiven (a : Half) : Option Nat := if a = 0 then none else some (min 999 a.toNat)

/-- A side byte: 0 SEAWARD, 1 LANDWARD. -/
def sideOf (b : Byte) : Side := if b = 0 then .seaward else .landward

/-- The vessel lifetime (index 28). -/
def State.lifetime (s : State) : Nat := s.par pLifetime

/-- The life of a SIGHTED or PASSED entry; none in another state or an unused slot (R141 step 2). -/
def State.replaceable (s : State) (k : Fin 32) : Option Nat :=
  match s.vessel k with
  | some v => if v.state = .sighted ∨ v.state = .passed then some v.life else none
  | none => none

/-- Of two slots, the one with less remaining life; the first where they are equal. -/
def lesserLife (s : State) (best : Option (Fin 32)) (k : Fin 32) : Option (Fin 32) :=
  match s.replaceable k with
  | none => best
  | some life =>
    match best with
    | none => some k
    | some b => if life < (s.replaceable b).getD 0 then some k else best

/-- How a vessel was found or learned. -/
inductive Learned where
  | known
  | fresh
  | replaced (old : Word)
deriving DecidableEq, Repr

def Learned.code : Learned → Nat
  | .known => 0
  | .fresh => 1
  | .replaced _ => 2

def Learned.oldIdentity : Learned → Word
  | .replaced old => old
  | .known => 0
  | .fresh => 0

/-- A vessel is learned into a slot (R141). -/
def learnInto (k : Fin 32) (identity : Word) (d : Side) (air : Option Nat) (s : State) : State :=
  countChange (setSlot k (some { identity := identity, side := d, air := air, life := s.lifetime, state := .sighted }) s)

/-- The learning of R141: the lowest unused slot, else the replaceable entry with the least life, else none. -/
def learnVessel (identity : Word) (d : Side) (air : Option Nat) (s : State) : Option (State × Fin 32 × Learned) :=
  match allSlots.find? (fun k => (s.vessel k).isNone) with
  | some k => some (learnInto k identity d air s, k, .fresh)
  | none =>
    match allSlots.foldl (lesserLife s) none with
    | some k =>
      let old := match s.vessel k with | some v => v.identity | none => 0
      some ((learnInto k identity d air s).onVt fun t => { t with replaced := bump t.replaced }, k,
        .replaced old)
    | none => none

/-! ### VESSEL-REPORT (R140, R142) -/

/-- An entry refreshed by a report (R140). -/
def Vessel.refresh (v : Vessel) (d : Side) (air : Option Nat) (life : Nat) : Vessel :=
  match v.state with
  | .sighted | .passed => { v with side := d, air := air <|> v.air, life := life, state := .sighted }
  | .waiting => { v with air := air <|> v.air, life := life }
  | .called => { v with life := life }

/-- What a refresh ignored: 1 for the side, 2 for the air draught (R142). -/
def Vessel.ignored (v : Vessel) (d : Side) (air : Option Nat) : Nat :=
  match v.state with
  | .sighted | .passed => 0
  | .waiting => (decide (d ≠ v.side)).toNat
  | .called => (decide (d ≠ v.side)).toNat + 2 * (air.isSome && decide (air ≠ v.air)).toNat

/-- The reply data of VESSEL-REPORT (R142). -/
def reportReply (s : State) (k : Fin 32) (action ignored : Nat) (old : Word) : List Byte :=
  b1 action ++ b1 ignored ++ be32 old ++ s.vesselRecord k

/-- VESSEL-REPORT (R140 to R142). -/
def vesselReportOp (identity : Word) (side : Byte) (air : Half) (s : State) : State × Verdict :=
  if identity = 0 then (s, .range 1)
  else if 1 < side.toNat then (s, .range 5)
  else
    match s.findVessel identity with
    | some k =>
      let t := s.onVessel k fun v => v.refresh (sideOf side) (airGiven air) s.lifetime
      let ignored := match s.vessel k with
        | some v => v.ignored (sideOf side) (airGiven air)
        | none => 0
      (t, .done (reportReply t k 0 ignored 0))
    | none =>
      match learnVessel identity (sideOf side) (airGiven air) s with
      | some (t, k, how) => (t, .done (reportReply t k how.code 0 how.oldIdentity))
      | none => (s, .refused .tableFull 0)

/-! ### Aging (R144) and VESSEL-CLEAR (R149) -/

/-- The entry of slot `k` is removed, its queue entry first (R144, R149, R157). -/
def removeVessel (k : Fin 32) (s : State) : State := countChange (setSlot k none (leaveQueue k s))

/-- One slot at an epoch end (R144). -/
def ageSlot (s : State) (k : Fin 32) : State :=
  match s.vessel k with
  | none => s
  | some v =>
    if v.state = .called then s
    else if 1 < v.life then setSlot k (some { v with life := v.life - 1 }) s
    else if v.state = .waiting then
      latch .vessel ((removeVessel k s).onVt fun t => { t with lapsed := bump t.lapsed })
    else removeVessel k s

/-- An epoch ends (R144). -/
def endEpoch (s : State) : State := allSlots.foldl ageSlot s

/-- A side is in the mask: 1 SEAWARD, 2 LANDWARD (R149). -/
def inMask (mask : Byte) : Side → Bool
  | .seaward => mask.getLsbD 0
  | .landward => mask.getLsbD 1

/-- The slots of the masked sides whose entries pass `p`. -/
def State.maskedSlots (s : State) (mask : Byte) (p : VesselState → Bool) : List (Fin 32) :=
  allSlots.filter fun k =>
    match s.vessel k with
    | some v => inMask mask v.side && p v.state
    | none => false

/-- VESSEL-CLEAR (R149). -/
def vesselClearOp (mask : Byte) (s : State) : State × Verdict :=
  if mask.toNat = 0 ∨ 3 < mask.toNat then (s, .range 1)
  else
    let gone := s.maskedSlots mask fun st => decide (st ≠ .called)
    let waiting := s.maskedSlots mask fun st => decide (st = .waiting)
    let kept := s.maskedSlots mask fun st => decide (st = .called)
    (latchIf (decide (gone ≠ [])) .vessel (gone.foldl (fun t k => removeVessel k t) s),
      .done (b1 gone.length ++ b1 waiting.length ++ b1 kept.length))

/-! ### VESSEL-READ (R147, R148) -/

/-- The used slots from the cursor up, four at most (R147). -/
def State.scan (s : State) (cursor : Nat) : List (Fin 32) :=
  (allSlots.filter fun k => decide (cursor ≤ k.val) && (s.vessel k).isSome).take 4

/-- The next cursor and the end mark: a scan that stops at its fourth entry below slot 31 goes on from the slot after it
(R147). -/
def scanEnd (found : List (Fin 32)) : Nat × Bool :=
  match found[3]? with
  | some k => if k.val = 31 then (0, true) else (k.val + 1, false)
  | none => (0, true)

/-- The number of used slots. -/
def State.used (s : State) : Nat := (allSlots.filter fun k => (s.vessel k).isSome).length

/-- VESSEL-READ (R147, R148): a read with cursor 0 clears the lapsed and replaced counters. -/
def vesselReadOp (cursor : Byte) (s : State) : State × Verdict :=
  if 31 < cursor.toNat then (s, .range 1)
  else
    let found := s.scan cursor.toNat
    let e := scanEnd found
    (if cursor = 0 then s.onVt fun t => { t with lapsed := 0, replaced := 0 } else s,
      .done ([cursor] ++ b1 e.1 ++ bm e.2 ++ b1 found.length ++ b1 s.used ++ be32 s.vt.change ++
        b4 (s.tb.seconds.toNat / 16) ++ b1 (16 - s.tb.seconds.toNat % 16) ++ b2 s.vt.lapsed ++
        b2 s.vt.replaced ++ found.flatMap s.vesselRecord))

/-! ### The opening angle (R163, R164) -/

/-- The eight breakpoints as gain and angle, the first fixed at (0, 0) (R163). -/
def State.breakpoints (s : State) : List (Nat × Nat) :=
  (0, 0) :: (List.finRange 7).map fun k => (s.par (pGain k), s.par (pAngle k))

/-- Gains strictly increase and angles do not decrease along a list of breakpoints (R164). -/
def risingFrom : List (Nat × Nat) → Bool
  | a :: b :: rest => decide (a.1 < b.1) && decide (a.2 ≤ b.2) && risingFrom (b :: rest)
  | [_] => true
  | [] => true

/-- The clearance table is valid (R164). -/
def State.clearanceValid (s : State) : Bool := risingFrom s.breakpoints

/-- ceil(n / d). -/
def ceilDiv (n d : Nat) : Nat := (n + d - 1) / d

/-- The angle for a needed gain in the segments of the table; Tf past the last breakpoint (R163). -/
def interpolate (tf g : Nat) : List (Nat × Nat) → Nat
  | a :: b :: rest =>
    if g < b.1 ∨ (g = b.1 ∧ rest ≠ []) then a.2 + ceilDiv ((g - a.1) * (b.2 - a.2)) (b.1 - a.1)
    else interpolate tf g (b :: rest)
  | [_] => tf
  | [] => tf

/-- A vessel's contribution with batch limit Tf (R163). -/
def State.contribution (s : State) (tf : Nat) (air : Option Nat) : Nat :=
  match air with
  | none => tf
  | some a =>
    if s.tideStaleNow || !s.clearanceValid then tf
    else
      let g : Int := a + s.par pMargin - (s.par pSoffit - s.psc.tide.level)
      if g ≤ 0 then 0 else min tf (interpolate tf g.toNat s.breakpoints)

/-! ### JOIN (R153 to R155, R165) -/

/-- The entries of a queue whose CALLED mark is clear. -/
def State.uncalled (s : State) (q : Fin 8) : List QueueEntry := (s.queue q).filter fun e => !e.called

/-- The uncalled entries of a side. -/
def State.uncalledOn (s : State) (d : Side) : Nat :=
  (([0, 1, 2, 3] : List (Fin 4)).map fun c => (s.uncalled (queueOf d c)).length).sum

/-- The side the victim is taken from: that with more uncalled entries, the JOIN's own where they are equal (R154). -/
def State.victimSide (s : State) (d : Side) : Side :=
  if s.uncalledOn d.other ≤ s.uncalledOn d then d else d.other

/-- The victim of R154 with its class: the head-most uncalled entry of the highest class number that has one. -/
def State.victim (s : State) (d : Side) : Option (Fin 4 × QueueEntry) :=
  ([3, 2, 1, 0] : List (Fin 4)).findSome? fun c =>
    ((s.uncalled (queueOf (s.victimSide d) c)).head?).map fun e => (c, e)

/-- The identity in slot `k`; 0 for an unused slot. -/
def State.identityAt (s : State) (k : Fin 32) : Word :=
  match s.vessel k with
  | some v => v.identity
  | none => 0

/-- The displacement of R154 for a joining class: the new state with the victim's identity, or none where the JOIN is
refused POOL_FULL. -/
def displace (d : Side) (cls : Fin 4) (s : State) : Option (State × Word) :=
  match s.victim d with
  | some (c, e) =>
    if cls < c then
      some (latch .vessel ((setVesselState e.slot .sighted (leaveQueue e.slot s)).onPsc fun p =>
        { p with displaced := bump p.displaced }), s.identityAt e.slot)
    else none
  | none => none

/-- The join sequence counter one join on: from 4294967295 it goes to 1 (R155). -/
def nextJoin (n : Word) : Word := if n = 0xFFFFFFFF then 1 else n + 1

/-- The vessel of slot `k` takes its place at the tail of its queue (R155, R139). -/
def appendJoin (k : Fin 32) (d : Side) (cls : Fin 4) (air : Option Nat) (s : State) : State :=
  let n := nextJoin s.psc.joinSeq
  let t := (s.onPsc fun p => { p with joinSeq := n }).onQueue (queueOf d cls) fun l =>
    l ++ [{ slot := k, seq := n, time := s.tb.seconds, called := false }]
  t.onVessel k fun v => { v with state := .waiting, life := s.lifetime, side := d, air := air <|> v.air }

/-- The place of a new item of side `d` in the call list (R165): after its group's last class-0 item, else at the head of
its group, else at the head of the list for the leading side and at the end for the other. -/
def itemPlace (leading : Option Side) (d : Side) (items : List Item) : Nat :=
  let at0 := (items.zipIdx.filter fun p => decide (p.1.side = d) && decide (p.1.cls = 0)).getLast?
  match at0 with
  | some p => p.2 + 1
  | none =>
    match items.findIdx? (fun i => decide (i.side = d)) with
    | some i => i
    | none => if leading = some d then 0 else items.length

/-- A list with an element put in at a place. -/
def insertAt {α : Type} (n : Nat) (x : α) (l : List α) : List α := l.take n ++ x :: l.drop n

/-- The batch takes a class-0 join: it is FORMED with room in its call list (R165). -/
def State.canExtend (s : State) (cls : Fin 4) : Bool :=
  decide (cls = 0) && decide (s.psc.batch.state = .formed) && decide (s.psc.batch.items.length < s.psc.batch.size)

/-- The batch is extended by the joining vessel of slot `k` (R165). -/
def extendBatch (k : Fin 32) (d : Side) (s : State) : State :=
  let b := s.psc.batch
  let air := match s.vessel k with | some v => v.air | none => none
  let c := s.contribution b.tf air
  let item : Item :=
    { slot := k, identity := s.identityAt k, side := d, cls := 0, contribution := c, outcome := .called }
  let angle := max b.angle c
  let t := latchIf (!s.clearanceValid) .parameter (setVesselState k .called (markCalled k true s))
  let t := latch .batch <| t.onBatch fun b =>
    { b with items := insertAt (itemPlace b.leading d b.items) item b.items
             angle := angle, tideWasStale := s.tideStaleNow, tableWasInvalid := !s.clearanceValid
             extensions := b.extensions + 1, remaining := b.remaining + 1 }
  reviewItems (if b.angle < c then reportExtension angle t else t)

/-- A JOIN that passes R153 and R154 (R155), with its reply. -/
def completeJoin (k : Fin 32) (d : Side) (cls : Fin 4) (air : Option Nat) (how : Learned) (displaced : Word)
    (s : State) : State × Verdict :=
  let t := appendJoin k d cls air s
  let extends0 := t.canExtend cls
  let u := if extends0 then extendBatch k d t else t
  (u, .done (b1 how.code ++ be32 how.oldIdentity ++ be32 displaced ++ bm extends0 ++ u.vesselRecord k))

/-- Steps 3 to 5 of R153 for a vessel of the table. -/
def queueJoin (k : Fin 32) (d : Side) (cls : Fin 4) (air : Option Nat) (how : Learned) (s : State) :
    State × Verdict :=
  let waits : Bool := match s.vessel k with
    | some v => decide (v.state = .waiting) || decide (v.state = .called)
    | none => false
  if waits then (s, .refused .alreadyWaiting 0)
  else if 8 ≤ (s.queue (queueOf d cls)).length then
    (s.onPsc fun p => { p with refused := bump p.refused }, .refused .queueFull 0)
  else if 24 ≤ s.pool then
    match displace d cls s with
    | some (t, old) => completeJoin k d cls air how old t
    | none => (s, .refused .poolFull 0)
  else completeJoin k d cls air how 0 s

/-- JOIN (R153). -/
def joinOp (identity : Word) (side cls : Byte) (air : Half) (s : State) : State × Verdict :=
  if identity = 0 then (s, .range 1)
  else if 1 < side.toNat then (s, .range 5)
  else if h : cls.toNat < 4 then
    match s.findVessel identity with
    | some k => queueJoin k (sideOf side) ⟨cls.toNat, h⟩ (airGiven air) .known s
    | none =>
      match learnVessel identity (sideOf side) (airGiven air) s with
      | some (t, k, how) => queueJoin k (sideOf side) ⟨cls.toNat, h⟩ (airGiven air) how t
      | none => (s, .refused .tableFull 0)
  else (s, .range 6)

/-! ### WITHDRAW, CLASS-FLOOR, TIDE (R156, R158, R159) -/

/-- A CALLED vessel is withdrawn: its item is WITHDRAWN, the CSU is told and the end of the batch tested (R156). -/
def withdrawCalled (k : Fin 32) (s : State) : State :=
  let t := setVesselState k .sighted (setOutcome k .withdrawn (leaveQueue k s))
  testBatchEnd (reviewItems (t.onBatch fun b => { b with remaining := b.remaining - 1 }))

/-- WITHDRAW (R156). -/
def withdrawOp (identity : Word) (s : State) : State × Verdict :=
  if identity = 0 then (s, .range 1)
  else
    match s.findVessel identity with
    | none => (s, .refused .notFound 0)
    | some k =>
      match s.vessel k with
      | none => (s, .refused .notFound 0)
      | some v =>
        match v.state with
        | .waiting =>
          let t := setVesselState k .sighted (leaveQueue k s)
          (t, .done (b1 VesselState.waiting.code ++ bm false ++ t.vesselRecord k))
        | .called =>
          let t := withdrawCalled k s
          (t, .done (b1 VesselState.called.code ++ bm true ++ t.vesselRecord k))
        | .sighted | .passed => (s, .state)

/-- CLASS-FLOOR (R158). -/
def classFloorOp (floor : Byte) (s : State) : State × Verdict :=
  if 3 < floor.toNat then (s, .range 1)
  else (s.onPsc fun p => { p with floor := floor.toNat }, .done (b1 s.psc.floor ++ [floor]))

/-- A level clamped to −99..199 (R159). -/
def clampLevel (l : Int) : Int := max (-99) (min 199 l)

/-- TIDE (R159). -/
def tideOp (level : Half) (s : State) : State × Verdict :=
  let l := clampLevel level.toInt
  (reviewTide (s.onPsc fun p => { p with tide := { p.tide with level := l, time := s.tb.seconds, present := true } }),
    .done (i2 l ++ bm (decide (l ≠ level.toInt)) ++ be32 s.tb.seconds))

/-! ### FORM-BATCH (R161 to R163) -/

/-- The eligible entries of a side with their classes, in class order and then queue order (R161). -/
def State.eligible (s : State) (d : Side) : List (Fin 4 × QueueEntry) :=
  ([0, 1, 2, 3] : List (Fin 4)).flatMap fun c =>
    if c.val ≤ s.psc.floor then
      ((s.queue (queueOf d c)).filter fun e =>
        match s.vessel e.slot with
        | some v => decide (v.state = .waiting)
        | none => false).map fun e => (c, e)
    else []

/-- The lowest join sequence of a list of entries. -/
def lowestSeq (l : List (Fin 4 × QueueEntry)) : Option Nat := (l.map fun p => p.2.seq.toNat).min?

/-- SEAWARD's entries hold the lowest join sequence of both lists. -/
def seawardOldest (sea land : List (Fin 4 × QueueEntry)) : Bool :=
  match lowestSeq sea, lowestSeq land with
  | some a, some b => decide (a ≤ b)
  | some _, none => true
  | none, _ => false

/-- The entries of class 0. -/
def priorityOf (l : List (Fin 4 × QueueEntry)) : List (Fin 4 × QueueEntry) := l.filter fun p => decide (p.1 = 0)

/-- The leading side (R161). -/
def leadingSide (sea land : List (Fin 4 × QueueEntry)) : Side :=
  if priorityOf sea ≠ [] ∨ priorityOf land ≠ [] then
    (if seawardOldest (priorityOf sea) (priorityOf land) then .seaward else .landward)
  else if land.length < sea.length then .seaward
  else if sea.length < land.length then .landward
  else if seawardOldest sea land then .seaward else .landward

/-- The item a called entry makes (R161). -/
def State.itemOf (s : State) (tf : Nat) (d : Side) (p : Fin 4 × QueueEntry) : Item :=
  let air := match s.vessel p.2.slot with | some v => v.air | none => none
  { slot := p.2.slot, identity := s.identityAt p.2.slot, side := d, cls := p.1
    contribution := s.contribution tf air, outcome := .called }

/-- The call list of a leading side (R161). -/
def State.callList (s : State) (lead : Side) : List Item :=
  (((s.eligible lead).map (s.itemOf (s.par pTf) lead)) ++
    ((s.eligible lead.other).map (s.itemOf (s.par pTf) lead.other))).take (s.par pBatchSize)

/-- The opening angle at formation (R163). -/
def openingAngle (tf tmin : Nat) (items : List Item) : Nat :=
  min tf (max tmin (items.foldl (fun m i => max m i.contribution) 0))

/-- The batch number after one more batch: from 65535 it goes to 1 (section 9.5). -/
def nextBatch (n : Nat) : Nat := if n < 65535 then n + 1 else 1

/-- An item's entry is marked CALLED in its queue and in the vessel table (R162). -/
def callItem (s : State) (i : Item) : State := setVesselState i.slot .called (markCalled i.slot true s)

/-- The CSU takes the PSC's report that a batch is formed (R175). -/
def signalsFormed (s : State) : State :=
  reviewItems <| restartSeal <| s.onCsu fun c =>
    { c with batchNumber := s.psc.batch.number, phase := .idle, current := none
             sides := ⟨SideTurn.reset, SideTurn.reset⟩, result := .none, window := none, changeover := none }

/-- The batch record of a formation (R162). -/
def State.formedRecord (s : State) (lead : Side) : Batch :=
  let items := s.callList lead
  { number := nextBatch s.psc.batch.number, state := s.psc.batch.state, size := s.par pBatchSize
    tf := s.par pTf, tmin := s.par pTmin, leading := some lead, items := items
    angle := openingAngle (s.par pTf) (s.par pTmin) items, tideWasStale := s.tideStaleNow
    tableWasInvalid := !s.clearanceValid, extensions := 0, remaining := items.length
    formedAt := some s.tb.seconds, raisedAt := none, firstGoAt := none, closedAt := none }

/-- The batch is formed: its entries are called, the pumps pre-started and the CSU told (R162, R93, R175). -/
def formBatch (lead : Side) (s : State) : State :=
  let r := s.formedRecord lead
  let t := r.items.foldl callItem (latchIf (!s.clearanceValid) .parameter s)
  let t := setBatchState .formed (t.onBatch fun _ => r)
  signalsFormed (reportPump (orderPumps t))

/-- The angle basis: 1 tide stale, 2 table invalid (R162). -/
def Batch.basis (b : Batch) : Nat := b.tideWasStale.toNat + 2 * b.tableWasInvalid.toNat

/-- The items of a side. -/
def Batch.itemsOf (b : Batch) (d : Side) : Nat := (b.items.filter fun i => decide (i.side = d)).length

/-- A leading side's byte; 0xFF when absent (R171). -/
def sideByte : Option Side → List Byte
  | some d => b1 (sideCode d)
  | none => b1 0xFF

/-- The reply data of FORM-BATCH (R162). -/
def State.formReply (s : State) : List Byte :=
  let b := s.psc.batch
  b2 b.number ++ sideByte b.leading ++ b1 b.items.length ++ b1 (b.itemsOf .seaward) ++
    b1 (b.itemsOf .landward) ++ b2 b.angle ++ b1 b.basis ++ b2 s.intervalRemaining ++ bm s.intervalWaived

/-- The batch is FORMED, RUNNING or CLOSING. -/
def BatchState.open (b : BatchState) : Bool := decide (b = .formed) || decide (b = .running) || decide (b = .closing)

/-- FORM-BATCH (R161, R162). -/
def formBatchOp (s : State) : State × Verdict :=
  if s.psc.batch.state.open then (s, .state)
  else if s.lmc.leaf ≠ .seatedLocked then (s, .state)
  else if s.eligible .seaward = [] ∧ s.eligible .landward = [] then (s, .refused .noEligible 0)
  else
    let t := formBatch (leadingSide (s.eligible .seaward) (s.eligible .landward)) s
    (t, .done t.formReply)

/-- ABANDON-BATCH (R169). -/
def abandonBatchOp (s : State) : State × Verdict :=
  if s.batchLive then
    let t := enterClosing s
    (t, .done (b1 t.psc.batch.remaining ++ b1 t.psc.batch.state.code))
  else (s, .state)

/-! ### QUEUE-READ, BATCH-READ (R170, R171) -/

/-- QUEUE-READ (R170). -/
def queueReadOp (side cls : Byte) (s : State) : State × Verdict :=
  if 1 < side.toNat then (s, .range 1)
  else if h : cls.toNat < 4 then
    let l := s.queue (queueOf (sideOf side) ⟨cls.toNat, h⟩)
    (s.onPsc fun p => { p with refused := 0, displaced := 0 },
      .done ([side, cls] ++ b1 l.length ++ b1 s.pool ++ (allQueues.flatMap fun q => b1 (s.queue q).length) ++
        b1 s.psc.floor ++ be32 s.psc.joinSeq ++ b2 s.psc.refused ++ b2 s.psc.displaced ++
        i2 s.psc.tide.level ++ (if s.psc.tide.present then be32 s.psc.tide.time else b4 0) ++
        bm s.psc.tide.present ++ bm s.tideStaleNow ++ l.flatMap fun e => s.vesselRecord e.slot))
  else (s, .range 2)

def ItemOutcome.code : ItemOutcome → Nat
  | .called => 0
  | .passed => 1
  | .withdrawn => 2
  | .returned => 3

/-- An item's 10 bytes (R171). -/
def Item.bytes (i : Item) : List Byte :=
  b1 i.slot.val ++ be32 i.identity ++ b1 (sideCode i.side) ++ b1 i.cls.val ++ b2 i.contribution ++
    b1 i.outcome.code

/-- A time field; 0 when absent. -/
def timeField (t : Option Word) : List Byte := be32 (t.getD 0)

/-- The record that BATCH-READ reports: that of no batch in NONE (R171, R172). -/
def Batch.shown (b : Batch) : Batch := if b.state = .none then Batch.reset else b

/-- BATCH-READ (R171). In NONE every field is 0, the interval remaining with the rest. -/
def batchReadOp (s : State) : State × Verdict :=
  let b := s.psc.batch.shown
  (s, .done (b2 b.number ++ b1 b.state.code ++ sideByte b.leading ++ b1 b.size ++ b2 b.tf ++ b2 b.tmin ++
    b2 b.angle ++ timeField b.formedAt ++ timeField b.raisedAt ++ timeField b.firstGoAt ++
    timeField b.closedAt ++
    b1 (b.formedAt.isSome.toNat + 2 * b.raisedAt.isSome.toNat + 4 * b.firstGoAt.isSome.toNat +
      8 * b.closedAt.isSome.toNat) ++
    b1 b.remaining ++ b1 b.items.length ++ b1 b.basis ++ b1 b.extensions ++
    b2 (if b.state = .none then 0 else s.intervalRemaining) ++
    bm s.intervalWaived ++ b.items.flatMap Item.bytes))

/-! ### VESSEL-PASSED (R183, R184) -/

/-- The item of the call list that names an identity and is CALLED (R183). -/
def State.calledItem (s : State) (identity : Word) : Option Item :=
  s.psc.batch.items.find? fun i => decide (i.identity = identity) && decide (i.outcome = .called)

/-- Step 1 of R183: a passage against the signals is counted and latched. -/
def countViolation (d : Side) (s : State) : State :=
  if s.aspect d = .go then s
  else latch .violation (s.onCsu fun c => { c with violations := bump c.violations })

/-- Steps 1 to 3 of R183 for a called item. -/
def passItem (i : Item) (s : State) : State :=
  let t := (countViolation i.side s).onTurn i.side fun r => { r with passed := r.passed + 1 }
  let t := reviewItems (setOutcome i.slot .passed t)
  let t := (leaveQueue i.slot t).onBatch fun b => { b with remaining := b.remaining - 1 }
  testBatchEnd (t.onVessel i.slot fun v => { v with state := .passed, life := s.lifetime })

/-- Seconds from `a` to `b` as a 4-byte field; 0xFFFFFFFF when either is absent (R184). -/
def gapField (a b : Option Word) : List Byte :=
  match a, b with
  | some x, some y => be32 (y - x)
  | _, _ => b4 0xFFFFFFFF

/-- The passage ended its side's turn: the side was in its turn and shows GO no more after step 2 (R184). -/
def State.endsTurn (s : State) (i : Item) : Bool :=
  decide (s.csu.phase = .turn) && decide (s.csu.current = some i.side) &&
    !(setOutcome i.slot .passed s).calledLeft i.side

/-- VESSEL-PASSED (R183, R184). -/
def vesselPassedOp (identity : Word) (s : State) : State × Verdict :=
  if identity = 0 then (s, .range 1)
  else
    match s.calledItem identity with
    | none => (s, .refused .notCalled 0)
    | some i =>
      let go := (s.csu.sides.get i.side).goStart
      let joined := (s.findEntry i.slot).map fun p => p.2.2.time
      let t := passItem i s
      (t, .done (gapField joined go ++ gapField go (some s.tb.seconds) ++
        bm (decide (s.aspect i.side ≠ .go)) ++ bm (s.endsTurn i) ++ b1 t.psc.batch.state.code ++
        t.vesselRecord i.slot))

/-! ### CHANNEL-READ (R185) -/

def TurnPhase.code : TurnPhase → Nat
  | .idle => 0
  | .turn => 1
  | .changeover => 2
  | .ended => 3

def TurnStatus.code : TurnStatus → Nat
  | .notYet => 0
  | .go => 1
  | .done => 2
  | .skipped => 3

def endCauseCode : Option EndCause → Nat
  | none => 0
  | some .noCalled => 1
  | some .window => 2
  | some .greens => 3
  | some .withdrawn => 4
  | some .closed => 5

def TurnsResult.code : TurnsResult → Nat
  | .none => 0
  | .turnsEnded => 1
  | .goWithdrawn => 2
  | .signalDefect => 3

/-- The items of a side with outcome CALLED now. -/
def State.calledCount (s : State) (d : Side) : Nat :=
  (s.psc.batch.items.filter fun i => decide (i.side = d) && decide (i.outcome = .called)).length

/-- A side's 12 bytes (R185). -/
def State.sideBytes (s : State) (d : Side) : List Byte :=
  let t := s.csu.sides.get d
  b1 t.status.code ++ b1 (endCauseCode t.cause) ++ timeField t.goStart ++ timeField t.goEnd ++
    b1 t.passed ++ b1 (s.calledCount d)

/-- A seconds timer's field: 0 when stopped, stopping at 65535 (R185). -/
def timerField (t : Option Nat) : List Byte := b2stop (toSec (t.getD 0))

/-- CHANNEL-READ: the violations counter is cleared and the reply reports what it held (R185). -/
def channelReadOp (s : State) : State × Verdict :=
  (s.onCsu fun c => { c with violations := 0 },
    .done (b1 (s.aspect .seaward).code ++ b1 (s.aspect .landward).code ++ b1 s.csu.phase.code ++
      sideByte s.csu.current ++ bm s.csu.sealed ++ s.sideBytes .seaward ++ s.sideBytes .landward ++
      timerField s.csu.window ++ timerField s.csu.changeover ++ timerField s.csu.sealTimer ++
      b1 (ceilDiv s.csu.horn 10) ++ b2 s.csu.violations ++ b2 s.csu.batchNumber ++ b1 s.csu.result.code))

end Sys2Proof.Machine
end

