-- ==== Sys2Proof/Machine/LeafRequests.lean ====
section
/-! DEFINITION. The requests of the leaves (LMC, R100, R103, R114, R116, R120) and of the measurements (MSU, R135). -/

namespace Sys2Proof.Machine

/-! ### RAISE (R100) -/

/-- Tests 3 to 12 of R100, in order; none where every interlock is met. -/
def raiseInterlock (s : State) : Option Interlock :=
  if s.rcs.road ≠ .secured then some .roadNotSecured
  else if s.storeUnusable then some .storeInvalid
  else if s.pins.estop then some .tripActive
  else if !s.msu.wind.known then some .windUnknown
  else if s.windAtStop then some .wind
  else if s.leafZoneOccupied then some .deckOccupied
  else if s.positionLost then some .position
  else if s.disagreeing then some .encoderDisagree
  else if s.pumpFault then some .pumpFault
  else if s.lockFault then some .lockFault
  else none

/-- A raise is accepted: the motion begins, UNLOCKING is entered, the bolts are called and the pumps ordered (R100), and
the passage to RAISING is tested (R101). -/
def beginRaise (src : TargetSource) (target : Nat) (s : State) : State :=
  testUnlocked (orderPumps (callWithdraw (setLeaf .unlocking (beginMotion .raise src target s))))

/-- The reply data of RAISE: T and the leaf state (R100). -/
def State.raiseReply (s : State) : List Byte := b2 s.lmc.motion.target ++ b1 s.lmc.leaf.code

/-- The leaf states that take RAISE (R100 test 1). -/
def LeafState.takesRaise (l : LeafState) : Bool := decide (l = .seatedLocked) || decide (l = .halted)

/-- RAISE in its 1-byte form (R100). -/
def raiseOp (s : State) : State × Verdict :=
  if s.lmc.leaf.takesRaise = false then (s, .state)
  else if s.psc.batch.state ≠ .formed then (s, .interlock .noTarget)
  else
    match raiseInterlock s with
    | some i => (s, .interlock i)
    | none =>
      let t := beginRaise .batch (min s.psc.batch.angle (s.par pTf)) s
      (t, .accepted t.raiseReply)

/-- RAISE in its 3-byte form: the carried target is clamped to 500..Tf (R100). -/
def raiseExplicitOp (target : Half) (s : State) : State × Verdict :=
  if s.lmc.leaf.takesRaise = false then (s, .state)
  else
    match raiseInterlock s with
    | some i => (s, .interlock i)
    | none =>
      let t := beginRaise .explicit (min (max target.toNat 500) (s.par pTf)) s
      (t, .accepted t.raiseReply)

/-! ### LOWER (R103) -/

/-- The seven tests of R103 in RAISED and HALTED, in order. -/
def lowerInterlock (s : State) : Option Interlock :=
  if s.storeUnusable then some .storeInvalid
  else if s.batchLive then some .batchLive
  else if !s.csu.sealed then some .notSealed
  else if s.leafZoneOccupied then some .deckOccupied
  else if s.positionLost then some .position
  else if s.disagreeing then some .encoderDisagree
  else if s.pumpFault then some .pumpFault
  else none

/-- A lowering is accepted in RAISED or HALTED (R103, R104); the CSU hears that RAISED is left (R112). -/
def beginLower (s : State) : State :=
  let t := prepareLowering (setLeaf .lowering (beginMotion .lower .seat 0 s))
  if s.lmc.leaf = .raised then leavesLeftRaised t else t

/-- LOWER (R103). -/
def lowerOp (s : State) : State × Verdict :=
  match s.lmc.leaf with
  | .unlocking =>
    if s.storeUnusable then (s, .interlock .storeInvalid)
    else
      let t := enterLocking s
      (t, .accepted (b1 t.lmc.leaf.code))
  | .raised | .halted =>
    match lowerInterlock s with
    | some i => (s, .interlock i)
    | none =>
      let t := beginLower s
      (t, .accepted (b1 t.lmc.leaf.code))
  | .seatedLocked | .raising | .lowering | .locking | .tripped => (s, .state)

/-! ### STOP and TRIP-CLEAR (R114, R116) -/

/-- STOP (R114). -/
def stopOp (s : State) : State × Verdict :=
  match s.lmc.leaf with
  | .raising | .lowering =>
    let t := beginHalt .stop s
    (t, .accepted (b1 t.lmc.leaf.code))
  | .unlocking | .locking =>
    let t := haltUnlocking s
    (t, .accepted (b1 t.lmc.leaf.code))
  | .seatedLocked | .raised | .halted | .tripped => (s, .done (b1 s.lmc.leaf.code))

/-- A trip condition holds, as TRIP-CLEAR tests it (R116). -/
def State.tripHolds (s : State) : Bool := s.pins.estop || s.leafZoneOccupied || s.positionLost || s.pumpFault

/-- TRIP-CLEAR (R116). -/
def tripClearOp (s : State) : State × Verdict :=
  if s.lmc.leaf ≠ .tripped then (s, .state)
  else if s.tripHolds then (s, .interlock .tripActive)
  else
    let t := setLeaf .halted (s.onLmc fun l => { l with trip := none })
    (t, .done (b1 t.lmc.leaf.code))

/-! ### LEAF-READ (R120) -/

def tripCode : Option TripCause → Nat
  | none => 0
  | some .estop => 1
  | some .deck => 2
  | some .skew => 3
  | some .position => 4
  | some .pressure => 5
  | some .drift => 6

def Direction.code : Direction → Nat
  | .raise => 1
  | .lower => 2

def TargetSource.code : TargetSource → Nat
  | .batch => 1
  | .explicit => 2
  | .seat => 3
  | .reversal => 4

def Halt.code : Halt → Nat
  | .none => 0
  | .stop => 1
  | .breach => 2
  | .disagree => 3
  | .restart => 4
  | .wind => 5

/-- The trip conditions holding: SKEW and DRIFT in their states alone (R116, R120). -/
def State.tripConditions (s : State) : Nat :=
  s.pins.estop.toNat + 2 * s.leafZoneOccupied.toNat + 4 * s.skewTrip.toNat + 8 * s.positionLost.toNat +
    16 * s.pumpFault.toNat + 32 * s.driftTrip.toNat

/-- A code that reads 0 where no motion has been captured (R120). -/
def Motion.whenPresent (m : Motion) (n : Nat) : Nat := if m.present then n else 0

/-- The 31 bytes of the motion record: its marks, then its captured values (R120). -/
def Motion.bytes (m : Motion) : List Byte :=
  bm m.present ++ b1 (m.whenPresent m.direction.code) ++ b1 (m.whenPresent m.source.code) ++
    b1 (m.whenPresent m.halt.code) ++ b1 (m.whenPresent m.derateFixed.toNat) ++
    b1 (m.whenPresent m.awaitingPumps.toNat) ++
    b2 m.target ++ b2 m.tf ++ b2 m.vc ++ b2 m.vk ++ b1 m.r ++ b2 m.b ++ b2 m.bs ++ b1 m.w ++
    b2 m.sDead ++ b2 m.sTrip ++ b1 m.commitFraction ++ b2 m.driftLimit ++ be32 m.startTime

/-- The 37 bytes of state and record (R120). -/
def State.leafFields (s : State) : List Byte :=
  b1 s.lmc.leaf.code ++ b1 (tripCode s.lmc.trip) ++ b1 s.tripConditions ++ s.lmc.motion.bytes ++
    b1 s.pctInUse ++ i2 s.skew

/-- The 9 bytes of one leaf (R120). -/
def State.leafBytes (s : State) (l : Leaf) : List Byte :=
  let d := s.lmc.motion.leaves.get l
  i2 (s.angle l) ++ i2 d.reference ++ b2 d.vPrev ++ bm d.arrived ++ bm (s.brakeRelease l) ++
    bm (s.lpu.seats.get l).made

def boltCauseCode : Option BoltCause → Nat
  | none => 0
  | some .timeout => 1
  | some .switchConflict => 2
  | some .misaligned => 3
  | some .noPosition => 4
  | some .estop => 5

def BoltStroke.code : BoltStroke → Nat
  | .none => 0
  | .withdraw => 1
  | .drive => 2

/-- A two-byte time that may be absent, 0xFFFF when it is (R120). -/
def b2absent : Option Nat → List Byte
  | some t => b2 t
  | none => b2 0xFFFF

/-- A bolt's 10 bytes (R120): timeout and elapsed are present in a stroke alone, the output-on time once the output
has come on (section 5.1). -/
def Bolt.bytes (r : Bolt) : List Byte :=
  b1 r.state.code ++ b1 (boltCauseCode r.cause) ++ b1 r.last.code ++ bm r.full ++
    b2absent (if r.moving then some r.timeout else none) ++
    b2absent (if r.moving then some (toTenths r.elapsed) else none) ++ b2absent (r.outputOn.map toTenths)

def SeqKind.code : SeqKind → Nat
  | .none => 0
  | .withdraw => 1
  | .drive => 2

def SeqStep.code : SeqStep → Nat
  | .centre => 0
  | .heel => 1

/-- A pump group's 5 bytes; a timer that does not run reads 0 (R120). -/
def Pump.bytes (p : Pump) : List Byte :=
  b1 p.state.code ++ b2 (if p.state = .starting then toTenths p.limitElapsed else 0) ++
    b2 (toTenths (p.hold.getD 0))

/-- LEAF-READ (R120). -/
def leafReadOp (s : State) : State × Verdict :=
  (s, .done (s.leafFields ++ s.leafBytes .north ++ s.leafBytes .south ++
    s.lpu.bolts.toList.flatMap Bolt.bytes ++ b1 s.lpu.seqKind.code ++ b1 s.lpu.seqStep.code ++
    s.lpu.pumps.north.bytes ++ s.lpu.pumps.south.bytes ++
    bm s.lpu.standby.isSome ++ b2 (toSec (s.lpu.standby.getD 0))))

/-! ### MEASURE-READ (R135) -/

def EncoderState.code : EncoderState → Nat
  | .valid => 0
  | .suspect => 1
  | .lost => 2

def EncoderCause.code : EncoderCause → Nat
  | .none => 0
  | .silent => 1
  | .check => 2
  | .range => 3

def AngleSource.code : AngleSource → Nat
  | .primary => 0
  | .check => 1
  | .held => 2
  | .lost => 3

/-- The band codes of R135; 0xFF for an absent band. -/
def bandCode : Option Band → Nat
  | some .below => 0
  | some .derate => 1
  | some .stop => 2
  | none => 0xFF

/-- An encoder's 8 bytes; an absent last reading is −32768 (R135). -/
def Encoder.bytes (e : Encoder) : List Byte :=
  b1 e.state.code ++ b1 e.run ++ b1 e.cause.code ++ be16 (e.last.getD 0x8000) ++ bm e.validSinceRead ++
    b2 e.frameErrors

/-- A leaf's 7 bytes (R135). -/
def LeafAngle.bytes (a : LeafAngle) : List Byte :=
  i2 a.angle ++ b1 a.source.code ++ bm a.disagree ++ b1 a.run ++ i2 a.difference

/-- The 16 bytes of the wind record (R135). -/
def Wind.bytes (w : Wind) : List Byte :=
  bm w.known ++ b1 (bandCode w.band) ++ b2 w.w ++ b1 w.pct ++ b1 w.window.length ++
    b2 (w.window[0]?.getD 0) ++ b2 (w.window[1]?.getD 0) ++ b2 (w.window[2]?.getD 0) ++
    b2stop w.sum ++ b2 w.interval

/-- The history an encoder's record keeps between two reads, restarted (R125). -/
def Encoder.restartHistory (e : Encoder) : Encoder := { e with frameErrors := 0, validSinceRead := true }

/-- MEASURE-READ (R125, R135). -/
def measureReadOp (s : State) : State × Verdict :=
  (s.onMsu fun m => { m with encoders := m.encoders.map Encoder.restartHistory },
    .done (s.msu.encoders.toList.flatMap Encoder.bytes ++ s.msu.angles.north.bytes ++
      s.msu.angles.south.bytes ++ s.msu.wind.bytes))

end Sys2Proof.Machine
end

