-- ==== Sys2Proof/Machine/Requests.lean ====
section
/-! DEFINITION. The requests of the console link, one meaning for each request row: the catalogue's code and authority
(section 1.6, R20) with the owner's decision. `serve…` is the request as a good frame brings it; `exec…` is the row. -/

namespace Sys2Proof.Machine

/-- A command's outcome where it only changes the state; no command of this block faults or is refused. -/
abbrev Out : Type := Host.Outcome State Fault Refusal

/-- IDENTIFY (R17) as a good frame brings it. -/
def serveIdentify (s : State) : State := serve (viewRequest 0x01) (identifyOp) s

/-- IDENTIFY (R17). -/
def execIdentify (s : State) : Out := .next (serveIdentify s)

/-- STATUS (R15) as a good frame brings it. -/
def serveStatus (s : State) : State := serve (viewRequest 0x02) (statusOp) s

/-- STATUS (R15). -/
def execStatus (s : State) : Out := .next (serveStatus s)

/-- COUNTERS (R18) as a good frame brings it. -/
def serveCounters (s : State) : State := serve (viewRequest 0x03) (countersOp) s

/-- COUNTERS (R18). -/
def execCounters (s : State) : Out := .next (serveCounters s)

/-- LOGON (R21 to R23) as a good frame brings it. -/
def serveLogon (level : Byte) (code : Word) (s : State) : State := serve (logonRequest) (logonOp level code) s

/-- LOGON (R21 to R23). -/
def execLogon (level : Byte) (code : Word) (s : State) : Out := .next (serveLogon level code s)

/-- LOGOFF (R24) as a good frame brings it. -/
def serveLogoff (s : State) : State := serve (viewRequest 0x11) (logoffOp) s

/-- LOGOFF (R24). -/
def execLogoff (s : State) : Out := .next (serveLogoff s)

/-- FREEZE (R25) as a good frame brings it. -/
def serveFreeze (s : State) : State := serve (maintainRequest 0x12) (freezeOp) s

/-- FREEZE (R25). -/
def execFreeze (s : State) : Out := .next (serveFreeze s)

/-- PARAM-READ (R28) as a good frame brings it. -/
def serveParamRead (start count : Byte) (s : State) : State := serve (viewRequest 0x13) (paramReadOp start count) s

/-- PARAM_READ (R28). -/
def execParamRead (start count : Byte) (s : State) : Out := .next (serveParamRead start count s)

/-- PARAM-WRITE (R29) as a good frame brings it. -/
def serveParamWrite (start : Byte) (values : List Word) (s : State) : State := serve (tableRequest 0x14) (paramWriteOp start values) s

/-- PARAM_WRITE (R29). -/
def execParamWrite (start : Byte) (values : List Word) (s : State) : Out := .next (serveParamWrite start values s)

/-- PARAM-COMMIT (R32) as a good frame brings it. -/
def serveParamCommit (s : State) : State := serve (tableRequest 0x15) (paramCommitOp) s

/-- PARAM_COMMIT (R32). -/
def execParamCommit (s : State) : Out := .next (serveParamCommit s)

/-- PARAM-DEFAULTS (R30) as a good frame brings it. -/
def serveParamDefaults (s : State) : State := serve (tableRequest 0x16) (paramDefaultsOp) s

/-- PARAM_DEFAULTS (R30). -/
def execParamDefaults (s : State) : Out := .next (serveParamDefaults s)

/-- RESTART (R38) as a good frame brings it. -/
def serveRestart (s : State) : State := serve (operateRequest 0x17) (restartOp) s

/-- RESTART (R38). -/
def execRestart (s : State) : Out := .next (serveRestart s)

/-- CLOSE-ROAD (R64) as a good frame brings it. -/
def serveCloseRoad (s : State) : State := serve (operateRequest 0x20) (closeRoadOp) s

/-- CLOSE_ROAD (R64). -/
def execCloseRoad (s : State) : Out := .next (serveCloseRoad s)

/-- OPEN-ROAD (R73) as a good frame brings it. -/
def serveOpenRoad (s : State) : State := serve (operateRequest 0x21) (openRoadOp) s

/-- OPEN_ROAD (R73). -/
def execOpenRoad (s : State) : Out := .next (serveOpenRoad s)

/-- ROAD-READ (R77) as a good frame brings it. -/
def serveRoadRead (s : State) : State := serve (viewRequest 0x22) (roadReadOp) s

/-- ROAD_READ (R77). -/
def execRoadRead (s : State) : Out := .next (serveRoadRead s)

/-- ARM-RETRY (R52) as a good frame brings it. -/
def serveArmRetry (arm : Byte) (s : State) : State := serve (operateRequest 0x23) (armRetryOp arm) s

/-- ARM_RETRY (R52). -/
def execArmRetry (arm : Byte) (s : State) : Out := .next (serveArmRetry arm s)

/-- ARM-SERVICE-OUT (R53) as a good frame brings it. -/
def serveArmServiceOut (arm : Byte) (s : State) : State := serve (serviceRequest 0x24) (armServiceOp arm 1) s

/-- ARM_SERVICE_OUT (R53). -/
def execArmServiceOut (arm : Byte) (s : State) : Out := .next (serveArmServiceOut arm s)

/-- ARM-SERVICE-RETURN (R54) as a good frame brings it. -/
def serveArmServiceReturn (arm : Byte) (s : State) : State := serve (serviceRequest 0x24) (armServiceOp arm 0) s

/-- ARM_SERVICE_RETURN (R54). -/
def execArmServiceReturn (arm : Byte) (s : State) : Out := .next (serveArmServiceReturn arm s)

/-- ZONE-BYPASS-SET (R57) as a good frame brings it. -/
def serveZoneBypassSet (zone : Byte) (s : State) : State := serve (serviceRequest 0x25) (zoneBypassOp zone 1) s

/-- ZONE_BYPASS_SET (R57). -/
def execZoneBypassSet (zone : Byte) (s : State) : Out := .next (serveZoneBypassSet zone s)

/-- ZONE-BYPASS-CLEAR (R57) as a good frame brings it. -/
def serveZoneBypassClear (zone : Byte) (s : State) : State := serve (serviceRequest 0x25) (zoneBypassOp zone 0) s

/-- ZONE_BYPASS_CLEAR (R57). -/
def execZoneBypassClear (zone : Byte) (s : State) : Out := .next (serveZoneBypassClear zone s)

/-- PUMPS-START (R92) as a good frame brings it. -/
def servePumpsStart (s : State) : State := serve (operateRequest 0x30) (pumpsStartOp) s

/-- PUMPS_START (R92). -/
def execPumpsStart (s : State) : Out := .next (servePumpsStart s)

/-- PUMPS-STOP (R92) as a good frame brings it. -/
def servePumpsStop (s : State) : State := serve (operateRequest 0x30) (pumpsStopOp) s

/-- PUMPS_STOP (R92). -/
def execPumpsStop (s : State) : Out := .next (servePumpsStop s)

/-- LOCK-RETRY (R88) as a good frame brings it. -/
def serveLockRetry (s : State) : State := serve (operateRequest 0x31) (lockRetryOp) s

/-- LOCK_RETRY (R88). -/
def execLockRetry (s : State) : Out := .next (serveLockRetry s)

/-- RAISE (R100) as a good frame brings it. -/
def serveRaise (s : State) : State := serve (operateRequest 0x32) (raiseOp) s

/-- RAISE (R100). -/
def execRaise (s : State) : Out := .next (serveRaise s)

/-- RAISE-EXPLICIT (R100) as a good frame brings it. -/
def serveRaiseExplicit (target : Half) (s : State) : State := serve (maintainRequest 0x32) (raiseExplicitOp target) s

/-- RAISE_EXPLICIT (R100). -/
def execRaiseExplicit (target : Half) (s : State) : Out := .next (serveRaiseExplicit target s)

/-- LOWER (R103) as a good frame brings it. -/
def serveLower (s : State) : State := serve (operateRequest 0x33) (lowerOp) s

/-- LOWER (R103). -/
def execLower (s : State) : Out := .next (serveLower s)

/-- STOP (R114) as a good frame brings it. -/
def serveStop (s : State) : State := serve (viewRequest 0x34) (stopOp) s

/-- STOP (R114). -/
def execStop (s : State) : Out := .next (serveStop s)

/-- TRIP-CLEAR (R116) as a good frame brings it. -/
def serveTripClear (s : State) : State := serve (operateRequest 0x35) (tripClearOp) s

/-- TRIP_CLEAR (R116). -/
def execTripClear (s : State) : Out := .next (serveTripClear s)

/-- LEAF-READ (R120) as a good frame brings it. -/
def serveLeafRead (s : State) : State := serve (viewRequest 0x36) (leafReadOp) s

/-- LEAF_READ (R120). -/
def execLeafRead (s : State) : Out := .next (serveLeafRead s)

/-- MEASURE-READ (R135) as a good frame brings it. -/
def serveMeasureRead (s : State) : State := serve (viewRequest 0x37) (measureReadOp) s

/-- MEASURE_READ (R135). -/
def execMeasureRead (s : State) : Out := .next (serveMeasureRead s)

/-- VESSEL-REPORT (R140 to R142) as a good frame brings it. -/
def serveVesselReport (identity : Word) (side : Byte) (air : Half) (s : State) : State := serve (operateRequest 0x40) (vesselReportOp identity side air) s

/-- VESSEL_REPORT (R140 to R142). -/
def execVesselReport (identity : Word) (side : Byte) (air : Half) (s : State) : Out := .next (serveVesselReport identity side air s)

/-- VESSEL-READ (R147, R148) as a good frame brings it. -/
def serveVesselRead (cursor : Byte) (s : State) : State := serve (viewRequest 0x41) (vesselReadOp cursor) s

/-- VESSEL_READ (R147, R148). -/
def execVesselRead (cursor : Byte) (s : State) : Out := .next (serveVesselRead cursor s)

/-- VESSEL-CLEAR (R149) as a good frame brings it. -/
def serveVesselClear (mask : Byte) (s : State) : State := serve (operateRequest 0x42) (vesselClearOp mask) s

/-- VESSEL_CLEAR (R149). -/
def execVesselClear (mask : Byte) (s : State) : Out := .next (serveVesselClear mask s)

/-- JOIN (R153 to R155, R165) as a good frame brings it. -/
def serveJoin (identity : Word) (side cls : Byte) (air : Half) (s : State) : State := serve (operateRequest 0x50) (joinOp identity side cls air) s

/-- JOIN (R153 to R155, R165). -/
def execJoin (identity : Word) (side cls : Byte) (air : Half) (s : State) : Out := .next (serveJoin identity side cls air s)

/-- WITHDRAW (R156) as a good frame brings it. -/
def serveWithdraw (identity : Word) (s : State) : State := serve (operateRequest 0x51) (withdrawOp identity) s

/-- WITHDRAW (R156). -/
def execWithdraw (identity : Word) (s : State) : Out := .next (serveWithdraw identity s)

/-- CLASS-FLOOR (R158) as a good frame brings it. -/
def serveClassFloor (floor : Byte) (s : State) : State := serve (operateRequest 0x52) (classFloorOp floor) s

/-- CLASS_FLOOR (R158). -/
def execClassFloor (floor : Byte) (s : State) : Out := .next (serveClassFloor floor s)

/-- TIDE (R159) as a good frame brings it. -/
def serveTide (level : Half) (s : State) : State := serve (operateRequest 0x53) (tideOp level) s

/-- TIDE (R159). -/
def execTide (level : Half) (s : State) : Out := .next (serveTide level s)

/-- FORM-BATCH (R161, R162) as a good frame brings it. -/
def serveFormBatch (s : State) : State := serve (operateRequest 0x54) (formBatchOp) s

/-- FORM_BATCH (R161, R162). -/
def execFormBatch (s : State) : Out := .next (serveFormBatch s)

/-- ABANDON-BATCH (R169) as a good frame brings it. -/
def serveAbandonBatch (s : State) : State := serve (operateRequest 0x55) (abandonBatchOp) s

/-- ABANDON_BATCH (R169). -/
def execAbandonBatch (s : State) : Out := .next (serveAbandonBatch s)

/-- QUEUE-READ (R170) as a good frame brings it. -/
def serveQueueRead (side cls : Byte) (s : State) : State := serve (viewRequest 0x56) (queueReadOp side cls) s

/-- QUEUE_READ (R170). -/
def execQueueRead (side cls : Byte) (s : State) : Out := .next (serveQueueRead side cls s)

/-- BATCH-READ (R171) as a good frame brings it. -/
def serveBatchRead (s : State) : State := serve (viewRequest 0x57) (batchReadOp) s

/-- BATCH_READ (R171). -/
def execBatchRead (s : State) : Out := .next (serveBatchRead s)

/-- VESSEL-PASSED (R183, R184) as a good frame brings it. -/
def serveVesselPassed (identity : Word) (s : State) : State := serve (operateRequest 0x60) (vesselPassedOp identity) s

/-- VESSEL_PASSED (R183, R184). -/
def execVesselPassed (identity : Word) (s : State) : Out := .next (serveVesselPassed identity s)

/-- CHANNEL-READ (R185) as a good frame brings it. -/
def serveChannelRead (s : State) : State := serve (viewRequest 0x61) (channelReadOp) s

/-- CHANNEL_READ (R185). -/
def execChannelRead (s : State) : Out := .next (serveChannelRead s)

/-- CIRCUIT-READ (R195) as a good frame brings it. -/
def serveCircuitRead (s : State) : State := serve (viewRequest 0x70) (circuitReadOp) s

/-- CIRCUIT_READ (R195). -/
def execCircuitRead (s : State) : Out := .next (serveCircuitRead s)

/-- CIRCUIT-TEST (R194) as a good frame brings it. -/
def serveCircuitTest (circuit : Byte) (s : State) : State := serve (maintainRequest 0x71) (circuitTestOp circuit) s

/-- CIRCUIT_TEST (R194). -/
def execCircuitTest (circuit : Byte) (s : State) : Out := .next (serveCircuitTest circuit s)

/-- HEALTH-READ (R199) as a good frame brings it. -/
def serveHealthRead (s : State) : State := serve (viewRequest 0x72) (healthReadOp) s

/-- HEALTH_READ (R199). -/
def execHealthRead (s : State) : Out := .next (serveHealthRead s)

/-- HEALTH-SET (R199) as a good frame brings it. -/
def serveHealthSet (actuator value : Byte) (s : State) : State := serve (maintainRequest 0x73) (healthSetOp actuator value) s

/-- HEALTH_SET (R199). -/
def execHealthSet (actuator value : Byte) (s : State) : Out := .next (serveHealthSet actuator value s)

end Sys2Proof.Machine
end

