-- ==== Sys2Proof/Machine/Console.lean ====
section
/-! DEFINITION. The console line (CL, spec/01): the framer byte by byte (R2 to R6), the dispatch of a good frame (R8),
and the rows of the line: CONSOLE_BYTE_RECEIVED, FRAME_COMPLETE, LENGTH_BYTE_ERROR, GAP_TIMEOUT and REPLY_END. -/

namespace Sys2Proof.Machine

/-! ### Dispatch (R8) -/

/-- The request that a good frame carries is served; a command that is no request cannot be carried. -/
def serveCommand (i : Instr) (s : State) : State :=
  match i with
  | .identify => serveIdentify s
  | .status => serveStatus s
  | .counters => serveCounters s
  | .logon level code => serveLogon level code s
  | .logoff => serveLogoff s
  | .freeze => serveFreeze s
  | .paramRead start count => serveParamRead start count s
  | .paramWrite start values => serveParamWrite start values s
  | .paramCommit => serveParamCommit s
  | .paramDefaults => serveParamDefaults s
  | .restart => serveRestart s
  | .closeRoad => serveCloseRoad s
  | .openRoad => serveOpenRoad s
  | .roadRead => serveRoadRead s
  | .armRetry arm => serveArmRetry arm s
  | .armServiceOut arm => serveArmServiceOut arm s
  | .armServiceReturn arm => serveArmServiceReturn arm s
  | .zoneBypassSet zone => serveZoneBypassSet zone s
  | .zoneBypassClear zone => serveZoneBypassClear zone s
  | .pumpsStart => servePumpsStart s
  | .pumpsStop => servePumpsStop s
  | .lockRetry => serveLockRetry s
  | .raise => serveRaise s
  | .raiseExplicit target => serveRaiseExplicit target s
  | .lower => serveLower s
  | .stop => serveStop s
  | .tripClear => serveTripClear s
  | .leafRead => serveLeafRead s
  | .measureRead => serveMeasureRead s
  | .vesselReport identity side air => serveVesselReport identity side air s
  | .vesselRead cursor => serveVesselRead cursor s
  | .vesselClear mask => serveVesselClear mask s
  | .join identity side cls air => serveJoin identity side cls air s
  | .withdraw identity => serveWithdraw identity s
  | .classFloor floor => serveClassFloor floor s
  | .tide level => serveTide level s
  | .formBatch => serveFormBatch s
  | .abandonBatch => serveAbandonBatch s
  | .queueRead side cls => serveQueueRead side cls s
  | .batchRead => serveBatchRead s
  | .vesselPassed identity => serveVesselPassed identity s
  | .channelRead => serveChannelRead s
  | .circuitRead => serveCircuitRead s
  | .circuitTest circuit => serveCircuitTest circuit s
  | .healthRead => serveHealthRead s
  | .healthSet actuator value => serveHealthSet actuator value s
  | .powerOn _ _ | .hardResetAssert | .hardResetRelease _ _ | .startupEnd | .softResetEffect
  | .frameComplete _ | .lengthByteError _ | .gapTimeout | .replyEnd | .commitEnd _
  | .armDownLimitMade _ | .armUpLimitMade _ | .armDownLimitReleased _ | .armDisplaced _
  | .armUpLimitReleased _ | .upLimitLost _ | .armStrokeTimeout _ | .obstructionEdgeActive _
  | .relowerWaitExpiry _ | .armRelower _ | .estopAsserted | .zoneOccupancyInput _ _
  | .zoneFilterExpiry _ | .zoneFaultActive _ | .zoneFaultInactive _ | .zoneFaultEnd _ | .dwellWaitExpiry
  | .prewarnExpiry | .entryDelayExpiry | .clearanceLimitExpiry | .runOnExpiry | .redFlashChange
  | .boltWithdrawnSwitchMade _ | .boltDrivenSwitchMade _ | .boltSwitchReleased _ _ | .boltNoPosition _
  | .boltStrokeTimeout _ | .centreBoltAligned _ | .seatSwitchInput _ _ | .seatSwitchFilterExpiry _
  | .pressureOkMade _ | .pressureOkReleased _ | .pumpReady _ | .pumpStartLimitExpiry _ | .standbyExpiry
  | .controlPeriod | .encoderPeriodEnd _ _ _ _ | .anemoPulse | .anemoIntervalEnd | .epochEnd | .tideStale
  | .passageWindowExpiry | .changeoverExpiry | .channelSealed | .hornExpiry | .provingRequest
  | .provingStart | .provingEnd _ | .estopReleased | .obstructionEdgeInactive _
  | .consoleByteReceived _ | .supplyLoss => s

/-- The first byte of a body, which a reply echoes. -/
def codeByte (body : List Byte) : Nat := (body.headD 0).toNat

/-- A PUMPS request whose action byte is above 1 (R92). -/
def pumpsActionOp (s : State) : State × Verdict := (s, .range 1)

/-- A good frame is dispatched (R8). -/
def dispatch (body : List Byte) (s : State) : State :=
  match decodeBody body with
  | .unknown => answer (codeByte body) (s, .refused .unknown 0)
  | .badLength => answer (codeByte body) (s, .refused .length 0)
  | .command i => serveCommand i s
  | .armServiceAction arm action => serve (serviceRequest 0x24) (armServiceOp arm action) s
  | .zoneBypassAction zone action => serve (serviceRequest 0x25) (zoneBypassOp zone action) s
  | .pumpsAction _ => serve (operateRequest 0x30) pumpsActionOp s

/-! ### The framer (R2 to R6) -/

/-- The framer's state, with the gap timer restarted by the byte (R3). -/
def setFramer (f : Framer) (s : State) : State := s.onCl fun l => { l with framer := f, gap := 0 }

/-- A frame is complete: the overrun test comes first (R6), a frame that ends while a RESTART waits is discarded
without a trace (R19), then the check decides (R5), and a good frame is dispatched (R8). -/
def frameDone (length : Nat) (body : List Byte) (received : Half) (s : State) : State :=
  let t := setFramer .hunt s
  if t.cl.reply.isSome then overrun t
  else if t.apu.restart then t
  else if crc16 (BitVec.ofNat 8 length :: body) = received then dispatch body t
  else latch .link (t.onCl fun l => { l with crcErrors := bump l.crcErrors })

/-- A LENGTH byte of 0 or above 250 (R4). -/
def lengthError (s : State) : State :=
  latch .link ((setFramer .hunt s).onCl fun l => { l with framingErrors := bump l.framingErrors })

/-- The byte taken in LENGTH (R2, R4). -/
def takeLength (b : Byte) (s : State) : State :=
  if b.toNat = 0 ∨ 250 < b.toNat then lengthError s else setFramer (.body b.toNat []) s

/-- The byte taken in BODY (R2). -/
def takeBody (length : Nat) (taken : List Byte) (b : Byte) (s : State) : State :=
  if length ≤ taken.length + 1 then setFramer (.checkHigh length (taken ++ [b])) s
  else setFramer (.body length (taken ++ [b])) s

/-- A byte arrives on CRXD (R2); none is taken while RESET is asserted or during start-up (R1). -/
def receiveByte (b : Byte) (s : State) : State :=
  if s.running then
    match s.cl.framer with
    | .hunt => if b = 0xC3 then setFramer .length s else s
    | .length => takeLength b s
    | .body length taken => takeBody length taken b s
    | .checkHigh length taken => setFramer (.checkLow length taken b) s
    | .checkLow length taken high => frameDone length taken (of16 high b) s
  else s

/-- The gap timer has expired: the frame in progress is discarded (R3). -/
def gapExpires (s : State) : State :=
  if s.running ∧ s.cl.framer ≠ .hunt then
    latch .link ((setFramer .hunt s).onCl fun l => { l with timeouts := bump l.timeouts })
  else s

/-- The framer awaits the LENGTH byte. -/
def State.awaitsLength (s : State) : Bool := decide (s.cl.framer = .length)

/-- The framer awaits the last CHECK byte. -/
def State.awaitsLast (s : State) : Bool :=
  match s.cl.framer with
  | .checkLow _ _ _ => true
  | .hunt | .length | .body _ _ | .checkHigh _ _ => false

/-! ### The rows of the line -/

/-- CONSOLE_BYTE_RECEIVED (R2): a byte arrives on CRXD, taken by the framer's state. -/
def execConsoleByteReceived (byte : Byte) (s : State) : Out := .next (receiveByte byte s)

/-- FRAME_COMPLETE (R2, R5, R6, R8): the last CHECK byte arrives; no frame completes in another framer state (note 25). -/
def execFrameComplete (check : Byte) (s : State) : Out :=
  .next (if s.awaitsLast then receiveByte check s else s)

/-- LENGTH_BYTE_ERROR (R4): a LENGTH byte of 0 or above 250 arrives; it can only arrive in LENGTH (note 25). -/
def execLengthByteError (length : Byte) (s : State) : Out :=
  .next (if s.awaitsLength && (decide (length.toNat = 0) || decide (250 < length.toNat)) then receiveByte length s else s)

/-- GAP_TIMEOUT (R3). -/
def execGapTimeout (s : State) : Out := .next (gapExpires s)

/-- REPLY_END (R6): the last stop bit of the reply has left CTXD. -/
def execReplyEnd (s : State) : Out := .next (s.onCl fun l => { l with reply := none })

end Sys2Proof.Machine
end

