-- ==== Sys2Proof/Machine/Start.lean ====
section
/-! DEFINITION. Supply, RESET, start-up and the soft reset (R35 to R39), with what each block takes at a reset (R19, R59,
R60, R78, R79, R95, R96, R121, R122, R136, R150, R151, R172, R173, R186, R187, R196, R200), and the end of a commit
(R33). -/

namespace Sys2Proof.Machine

/-! ### Work cut short (R32, R35) -/

/-- A commit in progress is cut: the store is left partly written, so its check fails (R32). -/
def cutCommit (a : Apu) : Apu :=
  { a with commit := none, store := if a.commit.isSome then .broken else a.store }

/-- The link with nothing in progress, its counters 0 and its set empty (R19). -/
def Link.cold (l : Link) : Link :=
  { State.reset.cl with mask := l.mask }

/-- The road record held in reset, with the red flash as it stands (R35). -/
def Rcs.cold (r : Rcs) : Rcs := { State.reset.rcs with flashA := r.flashA, flashTicks := r.flashTicks }

/-- The proving unit held in reset: no proving and every circuit OK; the health records are kept (R196, R200),
and so is the model's count of readings (note 40). -/
def Phu.cold (p : Phu) : Phu := { State.reset.phu with health := p.health, readings := p.readings }

/-- Every block in its reset condition, all work cut (R35). The store, the straps, the start-up record, the health
records and the inputs are kept. -/
def coldBlocks (s : State) : State :=
  { s with
    cl := s.cl.cold
    apu := { cutCommit s.apu with level := .view, restart := false }
    bzu := State.reset.bzu
    rcs := s.rcs.cold
    lpu := State.reset.lpu
    lmc := State.reset.lmc
    msu := Msu.reset
    vt := Vt.reset
    psc := Psc.reset
    csu := Csu.reset
    phu := s.phu.cold }

/-- The red flash starts, with A (R35). -/
def flashFromA (s : State) : State := s.onRcs fun r => { r with flashA := true, flashTicks := 0 }

/-- The time base stands in a phase with the seconds counter at 0 (R35). -/
def holdTime (p : Phase) (s : State) : State := s.onTb fun _ => { phase := p, subTick := 0, seconds := 0 }

/-! ### Start-up, steps 1 to 3 (R36) -/

/-- What the read of the store gives: its values if its check matches and every value lies within its range (R31). -/
def Store.load : Store → Option (Vector Nat 64)
  | .broken => none
  | .image values check => if crc16 (tableBytes values) = check ∧ allInRange values then some values else none

/-- The working table is loaded from the store, or from the defaults, codes included (R31). -/
def loadStore (a : Apu) : Apu :=
  match a.store.load with
  | some t => { a with table := t, storeStatus := .valid, modified := false }
  | none => { a with table := defaultTable, storeStatus := .invalid, modified := true }

/-- Steps 1 to 3 of start-up begin: the straps are sampled, the store is read, the measurement begins and the seconds
counter counts from 0 (R36, R136; note 9 for the operands). -/
def beginStartup (straps : Straps) (fieldSupply : Bool) (s : State) : State :=
  let t := (holdTime .startup s).onApu fun a =>
    loadStore { a with straps := straps, level := .view, mismatch := 0, frozen := false, commit := none
                       restart := false }
  copyMask ((t.onMsu fun _ => Msu.reset).onPins fun p => { p with fieldSupply := fieldSupply })

/-! ### Derivations of step 4 -/

/-- An arm record derived from the limits with its values of the last stroke gone (R59). -/
def State.startArm (s : State) (a : Fin 8) : Arm :=
  let d := stateOfLimits s.pins.armUp[a] s.pins.armDown[a]
  { Arm.reset with state := d.1, cause := d.2 }

/-- A zone record taken directly from its inputs (R59). -/
def State.startZone (s : State) (z : Fin 6) : Zone :=
  { Zone.reset with
    filtered := s.pins.zoneOccupied[z]
    fault := s.pins.zoneFault[z]
    occupiedSinceRead := s.pins.zoneOccupied[z] || s.pins.zoneFault[z] }

/-- The BZU derives its records (R59). -/
def startBzu (s : State) : State :=
  s.onBzu fun _ => { arms := Vector.ofFn s.startArm, zones := Vector.ofFn s.startZone }

/-- The road state that the arms give (R78). -/
def State.derivedRoad (s : State) : RoadState := if s.allUp allArms then .opened else .unknown

/-- The RCS derives its state from the arms as derived, with the flash phase it is given (R78, R79). -/
def deriveRoad (flashA : Bool) (flashTicks : Nat) (s : State) : State :=
  viewDeck <| s.onRcs fun _ =>
    { road := s.derivedRoad
      capPrewarn := s.par pPrewarn, capEntryDelay := s.par pEntryDelay, capClearDwell := s.par pClearDwell
      capClearanceLimit := s.par pClearanceLimit, capRunOn := s.par pRunOn
      stepTimer := .none, stepElapsed := 0, entryLowering := false, entryRaising := false, limitPassed := false
      deckClear := false, dwellWait := false, dwellCaptured := false, openTime := none
      flashA := flashA, flashTicks := flashTicks }

/-- The state and cause that a bolt's switches give (R95). -/
def stateOfSwitches (driven withdrawn : Bool) : BoltState × Option BoltCause :=
  match driven, withdrawn with
  | true, false => (.driven, none)
  | false, true => (.withdrawn, none)
  | false, false => (.jammed, some .noPosition)
  | true, true => (.jammed, some .switchConflict)

/-- A bolt record derived from its switches: no stroke and no timer (R95). -/
def State.derivedBolt (s : State) (b : Fin 4) : Bolt :=
  let d := stateOfSwitches s.pins.boltDriven[b] s.pins.boltWithdrawn[b]
  { Bolt.reset with state := d.1, cause := d.2 }

/-- The bolts are derived and the sequence ends (R95, R96). -/
def deriveBolts (s : State) : State :=
  s.onLpu fun l => { l with bolts := Vector.ofFn s.derivedBolt, seqKind := .none }

/-- The LPU derives its records at start-up (R95, R89). -/
def startLpu (s : State) : State :=
  deriveBolts <| s.onLpu fun _ =>
    { State.reset.lpu with
      seats := ⟨⟨s.pins.seat.north, none⟩, ⟨s.pins.seat.south, none⟩⟩ }

/-- The trip cause that a derived HALTED state meets, in the order of R115, where a position is LOST or not (R121). -/
def State.derivedTrip (lost : Bool) (s : State) : Option TripCause :=
  if s.pins.estop then some .estop
  else if s.leafZoneOccupied then some .deck
  else if lost then some .position
  else none

/-- The leaf state and trip cause derived, where a position is LOST or not (R121). -/
def State.derivedLeaf (lost : Bool) (s : State) : LeafState × Option TripCause :=
  if s.bothSeated && s.allDriven && !lost then (.seatedLocked, none)
  else
    match s.derivedTrip lost with
    | some c => (.tripped, some c)
    | none => (.halted, none)

/-- The LMC takes its derived state with a motion record (R121, R122): from the positions at the end of the listen at
start-up (R136), from those measured at a soft reset. -/
def deriveLeaves (lost : Bool) (m : Motion) (s : State) : State :=
  s.onLmc fun _ => { leaf := (s.derivedLeaf lost).1, trip := (s.derivedLeaf lost).2, motion := m }

/-- The sum of 1, 2 and 4 for the active straps (R37). -/
def strapCode (p : Straps) : Nat := p.baud0.toNat + 2 * p.baud1.toNat + 4 * p.maintEn.toNat

/-- The start-up result record (R37), its encoders those that answered within the listen. -/
def State.startRecord (s : State) : StartupRecord :=
  { storeInvalid := decide (s.apu.storeStatus ≠ .valid), straps := strapCode s.apu.straps
    encoders := s.msu.listen.answered, fieldSupply := s.pins.fieldSupply }

/-- The scan starts at index 0 with the counter loaded from P; nothing is in progress or held (R196). -/
def restartScan (s : State) : State :=
  s.onPhu fun p => { p with counter := s.par pProvingDivisor, index := 0, proving := none, held := [] }

/-- The listen of step 3 is over, its missing periods silent (R36; note 44). -/
def listened (s : State) : State := s.onMsu fun m => m.finishListen (s.par pEncoderTolerance)

/-- Steps 4 and 5 of start-up (R36): the blocks derive their states in the order of R78 and R121, the record is written
and the link begins to take frames. -/
def deriveBlocks (s : State) : State :=
  let t := deriveRoad s.rcs.flashA s.rcs.flashTicks (startBzu s)
  let t := deriveLeaves s.msu.listen.lost Motion.reset (startLpu t)
  let t := restartScan (t.onCsu fun _ => Csu.reset)
  let t := t.onApu fun a => { a with record := s.startRecord }
  let t := t.onMsu fun m => { m with listen := Listen.reset }
  (t.onCl fun l => { l with latched := 0, framer := .hunt, gap := 0, reply := none }).onTb fun b =>
    { b with phase := .run }

/-- Start-up ends: not before its listen of 100 ms has (R36; notes 37 and 44). -/
def completeStartup (s : State) : State := deriveBlocks (listened s)

/-! ### The rows of supply, RESET and start-up -/

/-- The supply falls away (R32, R35): nothing volatile is left, and a commit leaves the store partly written. -/
def loseSupply (s : State) : State := holdTime .off (coldBlocks s)

/-- SUPPLY_LOSS (R32). -/
def execSupplyLoss (s : State) : Out := .next (loseSupply s)

/-- POWER_ON (R35, R36, R200): the supply rises with the straps and the field supply sense as given; the health
records start afresh. A supply that had not fallen before must have fallen (note 2); start-up begins whether or not
RESET stands asserted (note 30). -/
def execPowerOn (straps : Straps) (fieldSupply : Bool) (s : State) : Out :=
  .next (beginStartup straps fieldSupply ((flashFromA (loseSupply s)).onPhu fun p =>
    { p with health := Vector.replicate 12 Health.reset }))

/-- HARD_RESET_ASSERT (R35): RESET is asserted, at any time the supply is up; a line already asserted changes
nothing, and an assertion while the supply is away is not held (note 30). -/
def execHardResetAssert (s : State) : Out :=
  .next <|
    match s.tb.phase with
    | .off | .resetHeld => s
    | .startup => holdTime .resetHeld (flashFromA (coldBlocks s))
    | .run => holdTime .resetHeld (flashFromA (coldBlocks s))

/-- HARD_RESET_RELEASE (R36, R200): start-up begins with the straps and the field supply sense as given; the WORN marks
are re-evaluated against the table loaded, which latches nothing. -/
def execHardResetRelease (straps : Straps) (fieldSupply : Bool) (s : State) : Out :=
  .next <|
    if s.tb.phase = .resetHeld then allActuators.foldl markWorn (beginStartup straps fieldSupply s) else s

/-- STARTUP_END (R36, R37). -/
def execStartupEnd (s : State) : Out :=
  .next (if s.tb.phase = .startup then completeStartup s else s)

/-! ### The soft reset (R38, R39) -/

/-- No work is in flight: no arm or bolt stroke, no leaf motion, no commit (R38). -/
def State.atEase (s : State) : Bool :=
  (allArms.all fun a => !(s.arm a).moving) && (allBolts.all fun b => !(s.bolt b).moving) &&
    !s.lmc.leaf.moving && s.apu.commit.isNone

/-- A soft reset may take effect: RESTART has been accepted, its reply has been sent and no work is in flight (R19,
R38). -/
def State.softResetDue (s : State) : Bool :=
  s.running && s.apu.restart && s.cl.reply.isNone && s.atEase

/-- The table the soft reset leaves: the store's, or the table as it is after a commit that ended WRITE_FAILED (R39). -/
def reloadTable (a : Apu) : Apu :=
  match a.storeStatus, a.store with
  | .valid, .image values _ => { a with table := values, modified := false }
  | _, _ => { a with modified := true }

/-- The APU at the soft reset (R39), with the mask copy following (R16). -/
def softApu (s : State) : State :=
  copyMask (s.onApu fun a => { reloadTable a with level := .view, restart := false })

/-- A zone at the soft reset: its bypass is cleared (R60). -/
def Zone.softReset (z : Zone) : Zone :=
  let n := { z with bypassed := false }
  { n with clearTicks := if n.counted && !z.counted then 0 else z.clearTicks }

/-- An arm at the soft reset: out of service it stays so, else it is derived (R60). -/
def State.softArm (s : State) (a : Fin 8) : Arm :=
  if (s.arm a).state = .outOfService then s.arm a else s.startArm a

/-- The BZU at the soft reset (R60). -/
def softBzu (s : State) : State :=
  s.onBzu fun b => { arms := Vector.ofFn s.softArm, zones := b.zones.map Zone.softReset }

/-- The RCS at the soft reset (R79): the red flash keeps its phase if it was on, else it begins with A. -/
def softRcs (flashWasOn : Bool) (s : State) : State :=
  if flashWasOn then deriveRoad s.rcs.flashA s.rcs.flashTicks s else deriveRoad true 0 s

/-- The motion record kept for reading, its halt cleared and the references 0 (R122; note 20). -/
def Motion.softReset (m : Motion) : Motion :=
  { m with halt := .none, leaves := ⟨m.leaves.north.still, m.leaves.south.still⟩ }

/-- The PSC at the soft reset (R173, R151): an open batch is CLOSED with the time stamped. -/
def softPsc (s : State) : State :=
  let stamp (t : State) : State := t.onBatch fun b => { b with state := .closed, closedAt := some s.tb.seconds }
  match s.psc.batch.state with
  | .formed => stamp (returnItems s)
  | .running => stamp (returnItems s)
  | .closing => stamp s
  | .none => s
  | .closed => s

/-- The CSU at the soft reset (R187). -/
def softCsu (s : State) : State :=
  s.onCsu fun c =>
    { Csu.reset with horn := if s.goShown then tenths 50 else c.horn, violations := c.violations }

/-- What is judged anew after the reload: the standby timer (R96), the wind record (R134), the tide (R159) and the WORN
marks (R200). -/
def softReview (s : State) : State :=
  let t := s.onLpu fun l => { l with standby := if s.standbyCondition then s.freshStandby else none }
  allActuators.foldl markWorn (reviewTide (windWritten t))

/-- The soft reset takes effect (R39), block after block (note 20), latching nothing (R19). -/
def takeSoftReset (s : State) : State :=
  let t := softRcs s.flashOn (softBzu (softApu s))
  let t := deriveLeaves s.positionLost s.lmc.motion.softReset (deriveBolts t)
  let t := softReview (restartScan (softCsu (softPsc t)))
  t.onCl fun l => { l with latched := 0, framer := .hunt, gap := 0 }

/-- SOFT_RESET_EFFECT (R39). -/
def execSoftResetEffect (s : State) : Out := .next (if s.softResetDue then takeSoftReset s else s)

/-- COMMIT_END (R33): the writing is complete and the operand says whether the read-back is good (note 23). -/
def execCommitEnd (readBackGood : Bool) (s : State) : Out :=
  .next (if s.running then endCommit readBackGood s else s)

end Sys2Proof.Machine
end

