-- ==== Sys2Proof/Machine/Events.lean ====
section
/-! DEFINITION. The rows of the field and of the timers: what each block does on an input that moves or a timer that
expires. An input's level is kept in every phase; the blocks take the event once start-up has ended (R35, R36;
note 22). A timer's expiry has its effect while that timer runs (note 2). -/

namespace Sys2Proof.Machine

/-- `f` where start-up has ended; no block takes an event before (R35). -/
def inRun (f : State → State) (s : State) : State := if s.running then f s else s

/-! ### Input levels -/

def setUpLimit (a : Fin 8) (b : Bool) (s : State) : State :=
  s.onPins fun p => { p with armUp := p.armUp.set a b }

def setDownLimit (a : Fin 8) (b : Bool) (s : State) : State :=
  s.onPins fun p => { p with armDown := p.armDown.set a b }

def setEdge (a : Fin 8) (b : Bool) (s : State) : State :=
  s.onPins fun p => { p with armEdge := p.armEdge.set a b }

def setZoneInput (z : Fin 6) (b : Bool) (s : State) : State :=
  s.onPins fun p => { p with zoneOccupied := p.zoneOccupied.set z b }

def setZoneFault (z : Fin 6) (b : Bool) (s : State) : State :=
  s.onPins fun p => { p with zoneFault := p.zoneFault.set z b }

def setDriven (k : Fin 4) (b : Bool) (s : State) : State :=
  s.onPins fun p => { p with boltDriven := p.boltDriven.set k b }

def setWithdrawn (k : Fin 4) (b : Bool) (s : State) : State :=
  s.onPins fun p => { p with boltWithdrawn := p.boltWithdrawn.set k b }

def setSeat (l : Leaf) (b : Bool) (s : State) : State := s.onPins fun p => { p with seat := p.seat.set l b }

def setPressure (g : Leaf) (b : Bool) (s : State) : State :=
  s.onPins fun p => { p with pressure := p.pressure.set g b }

def setEstop (b : Bool) (s : State) : State := s.onPins fun p => { p with estop := b }

/-! ### Arms (R44 to R51) -/

/-- ARM_DOWN_LIMIT_MADE (R44, R48, R49, R50). -/
def execArmDownLimitMade (arm : Fin 8) (s : State) : Out :=
  .next (inRun (downLimitMade arm) (setDownLimit arm true s))

/-- ARM_UP_LIMIT_MADE (R44, R47 to R50). -/
def execArmUpLimitMade (arm : Fin 8) (s : State) : Out :=
  .next (inRun (upLimitMade arm) (setUpLimit arm true s))

/-- ARM_DOWN_LIMIT_RELEASED (R49). -/
def execArmDownLimitReleased (arm : Fin 8) (s : State) : Out :=
  .next (inRun (downLimitReleased arm) (setDownLimit arm false s))

/-- ARM_DISPLACED (R49). -/
def execArmDisplaced (arm : Fin 8) (s : State) : Out := .next (inRun (displaceArm arm) s)

/-- ARM_UP_LIMIT_RELEASED (R50). -/
def execArmUpLimitReleased (arm : Fin 8) (s : State) : Out :=
  .next (inRun (upLimitReleased arm) (setUpLimit arm false s))

/-- UP_LIMIT_LOST (R50). -/
def execUpLimitLost (arm : Fin 8) (s : State) : Out := .next (inRun (loseUpLimit arm) s)

/-- ARM_STROKE_TIMEOUT (R45). -/
def execArmStrokeTimeout (arm : Fin 8) (s : State) : Out := .next (inRun (timeOutArm arm) s)

/-- OBSTRUCTION_EDGE_ACTIVE (R44, R46). -/
def execObstructionEdgeActive (arm : Fin 8) (s : State) : Out :=
  .next (inRun (edgeActive arm) (setEdge arm true s))

/-- RELOWER_WAIT_EXPIRY (R47). -/
def execRelowerWaitExpiry (arm : Fin 8) (s : State) : Out := .next (inRun (endRelowerWait arm) s)

/-- ARM_RELOWER (R47; note 12). -/
def execArmRelower (arm : Fin 8) (s : State) : Out := .next (inRun (relowerArm arm) s)

/-- OBSTRUCTION_EDGE_INACTIVE (R47): the waiting arm is released; its re-lowering is ARM_RELOWER's step (note 12). -/
def execObstructionEdgeInactive (arm : Fin 8) (s : State) : Out := .next (setEdge arm false s)

/-- ESTOP_ASSERTED (R51, R85, R91, R115). -/
def execEstopAsserted (s : State) : Out := .next (inRun takeEstop (setEstop true s))

/-- ESTOP_RELEASED (R51, R85): it starts nothing. -/
def execEstopReleased (s : State) : Out := .next (setEstop false s)

/-! ### Zones (R55) -/

/-- The raw input of a zone: the filter starts on a level other than the filtered one, and a return to it cancels
the change (R55). -/
def filterZone (z : Fin 6) (occupied : Bool) (s : State) : State :=
  s.onZone z fun r => { r with filter := if occupied = r.filtered then none else r.filter <|> some 0 }

/-- The filter of zone `z` expires (R55, R56). -/
def takeZone (z : Fin 6) (s : State) : State :=
  if (s.zone z).filter.isSome then
    changeZone z (fun r => { r with filtered := s.pins.zoneOccupied[z], filter := none }) s
  else s

/-- The fault input becomes active: it is taken at once (R55). -/
def takeFault (z : Fin 6) (s : State) : State :=
  changeZone z (fun r => { r with fault := true, faultEnd := none }) s

/-- The fault input goes inactive: the end timer of a taken fault starts (R55). -/
def waitFaultEnd (z : Fin 6) (s : State) : State :=
  s.onZone z fun r => { r with faultEnd := if r.fault then some 0 else none }

/-- The fault has been inactive for 100 ms (R55). -/
def endFault (z : Fin 6) (s : State) : State :=
  if (s.zone z).faultEnd.isSome then changeZone z (fun r => { r with fault := false, faultEnd := none }) s else s

/-- ZONE_OCCUPANCY_INPUT (R55). -/
def execZoneOccupancyInput (zone : Fin 6) (occupied : Bool) (s : State) : Out :=
  .next (inRun (filterZone zone occupied) (setZoneInput zone occupied s))

/-- ZONE_FILTER_EXPIRY (R55, R56). -/
def execZoneFilterExpiry (zone : Fin 6) (s : State) : Out := .next (inRun (takeZone zone) s)

/-- ZONE_FAULT_ACTIVE (R55, R56). -/
def execZoneFaultActive (zone : Fin 6) (s : State) : Out :=
  .next (inRun (takeFault zone) (setZoneFault zone true s))

/-- ZONE_FAULT_INACTIVE (R55). -/
def execZoneFaultInactive (zone : Fin 6) (s : State) : Out :=
  .next (inRun (waitFaultEnd zone) (setZoneFault zone false s))

/-- ZONE_FAULT_END (R55, R56). -/
def execZoneFaultEnd (zone : Fin 6) (s : State) : Out := .next (inRun (endFault zone) s)

/-! ### The road's timers (R62, R63, R66, R67, R74) -/

/-- DWELL_WAIT_EXPIRY (R63). -/
def execDwellWaitExpiry (s : State) : Out := .next (inRun dwellExpires s)

/-- PREWARN_EXPIRY (R66). -/
def execPrewarnExpiry (s : State) : Out := .next (inRun prewarnExpires s)

/-- ENTRY_DELAY_EXPIRY (R66). -/
def execEntryDelayExpiry (s : State) : Out := .next (inRun entryDelayExpires s)

/-- CLEARANCE_LIMIT_EXPIRY (R67). -/
def execClearanceLimitExpiry (s : State) : Out := .next (inRun clearanceLimitExpires s)

/-- RUN_ON_EXPIRY (R74, R58). -/
def execRunOnExpiry (s : State) : Out := .next (inRun runOnExpires s)

/-- RED_FLASH_CHANGE (R62), in the fail-safe pattern as well (R35). -/
def execRedFlashChange (s : State) : Out := .next (flashChanges s)

/-! ### Bolts, seats and pumps (R82 to R84, R89, R91, R94) -/

/-- BOLT_WITHDRAWN_SWITCH_MADE (R82, R83). -/
def execBoltWithdrawnSwitchMade (bolt : Fin 4) (s : State) : Out :=
  .next (inRun (withdrawnMade bolt) (setWithdrawn bolt true s))

/-- BOLT_DRIVEN_SWITCH_MADE (R82, R83). -/
def execBoltDrivenSwitchMade (bolt : Fin 4) (s : State) : Out :=
  .next (inRun (drivenMade bolt) (setDriven bolt true s))

/-- BOLT_SWITCH_RELEASED (R83). -/
def execBoltSwitchReleased (bolt : Fin 4) (switch : BoltSwitch) (s : State) : Out :=
  .next <| inRun (switchReleased bolt switch) <|
    match switch with
    | .driven => setDriven bolt false s
    | .withdrawn => setWithdrawn bolt false s

/-- BOLT_NO_POSITION (R83). -/
def execBoltNoPosition (bolt : Fin 4) (s : State) : Out := .next (inRun (losePosition bolt) s)

/-- BOLT_STROKE_TIMEOUT (R82, R84). -/
def execBoltStrokeTimeout (bolt : Fin 4) (s : State) : Out := .next (inRun (timeOutBolt bolt) s)

/-- CENTRE_BOLT_ALIGNED (R84). -/
def execCentreBoltAligned (bolt : Fin 4) (s : State) : Out := .next (inRun (alignBolt bolt) s)

/-- SEAT_SWITCH_INPUT (R89). -/
def execSeatSwitchInput (leaf : Leaf) (made : Bool) (s : State) : Out :=
  .next (inRun (filterSeat leaf made) (setSeat leaf made s))

/-- SEAT_SWITCH_FILTER_EXPIRY (R89). -/
def execSeatSwitchFilterExpiry (leaf : Leaf) (s : State) : Out := .next (inRun (takeSeat leaf) s)

/-- PRESSURE_OK_MADE (R91). -/
def execPressureOkMade (group : Leaf) (s : State) : Out :=
  .next (inRun (pressureMade group) (setPressure group true s))

/-- PRESSURE_OK_RELEASED (R91). -/
def execPressureOkReleased (group : Leaf) (s : State) : Out :=
  .next (inRun (pressureLost group) (setPressure group false s))

/-- PUMP_READY (R91). -/
def execPumpReady (group : Leaf) (s : State) : Out := .next (inRun (provePump group) s)

/-- PUMP_START_LIMIT_EXPIRY (R91). -/
def execPumpStartLimitExpiry (group : Leaf) (s : State) : Out := .next (inRun (expirePump group) s)

/-- STANDBY_EXPIRY (R94). -/
def execStandbyExpiry (s : State) : Out := .next (inRun expireStandby s)

/-! ### Leaves and measurement (R106, R123, R129) -/

/-- CONTROL_PERIOD (R106 to R118). -/
def execControlPeriod (s : State) : Out := .next (inRun controlPeriod s)

/-- ENCODER_PERIOD_END (R123 to R128), during start-up as well (R136); a tick then ends no second one (note 42). -/
def execEncoderPeriodEnd (northPrimary northCheck southPrimary southCheck : EncoderReply) (s : State) : Out :=
  .next (hearPeriod #v[northPrimary, northCheck, southPrimary, southCheck] s)

/-- ANEMO_PULSE (R129). -/
def execAnemoPulse (s : State) : Out := .next (countPulse s)

/-- ANEMO_INTERVAL_END (R129 to R133). -/
def execAnemoIntervalEnd (s : State) : Out := .next (anemoInterval s)

/-! ### Vessels, tide and channel (R144, R159, R177, R178, R181, R182) -/

/-- EPOCH_END (R144). -/
def execEpochEnd (s : State) : Out := .next (inRun endEpoch s)

/-- TIDE_STALE (R159): the staleness is judged; it becomes stale when the tide is older than its validity. -/
def execTideStale (s : State) : Out := .next (inRun reviewTide s)

/-- PASSAGE_WINDOW_EXPIRY (R177). -/
def execPassageWindowExpiry (s : State) : Out := .next (inRun windowExpires s)

/-- CHANGEOVER_EXPIRY (R178). -/
def execChangeoverExpiry (s : State) : Out := .next (inRun changeoverExpires s)

/-- The seal timer reaches the seal time (R182; note 17). -/
def sealReached (s : State) : State :=
  if s.csu.sealTimer.isSome then
    reviewSeal (s.onCsu fun c => { c with sealTimer := c.sealTimer.map (max (sec (s.par pSealTime))) })
  else s

/-- CHANNEL_SEALED (R182, R169). -/
def execChannelSealed (s : State) : Out := .next (inRun sealReached s)

/-- The horn timer reaches 0 (R181). -/
def hornExpires (s : State) : State := s.driveCsu fun c => { c with horn := 0 }

/-- HORN_EXPIRY (R181). -/
def execHornExpiry (s : State) : Out := .next (inRun hornExpires s)

/-! ### Proving (R189 to R193) -/

/-- PROVING_REQUEST (R189, R190). -/
def execProvingRequest (s : State) : Out := .next (inRun scanRequest s)

/-- PROVING_START (R190). -/
def execProvingStart (s : State) : Out := .next (inRun startHeld s)

/-- PROVING_END (R191 to R193): the operand is the current read, in mA. -/
def execProvingEnd (current : Half) (s : State) : Out := .next (inRun (endProving current.toNat) s)

end Sys2Proof.Machine
end

