-- ==== Sys2Proof/Machine/Time.lean ====
section
/-! DEFINITION. One base tick of 10 ms (00_scope, "Time"; notes 1 and 5): every running timer counts, then what has
become due happens, in one fixed order (note 4). A tick is what a step does on an empty queue; each event it raises is
also a row of the table. Events whose moment the spec only bounds come from the sender alone (note 3): commit, reply and
start-up ends, soft resets. An encoder period ends one tick before each control period, with no reply begun on any line
unless the sender brought its replies before (R123; note 42). A proving ends at its second tick, with a free reading
(R190; note 40), unless the sender brought its end and its reading before. -/

namespace Sys2Proof.Machine

/-! ### Timers count -/

/-- The seconds counter and its ticks one tick on; the mark says that a second has passed. -/
def TimeBase.tick (b : TimeBase) : TimeBase × Bool :=
  if b.subTick + 1 < 100 then ({ b with subTick := b.subTick + 1 }, false)
  else ({ b with subTick := 0, seconds := nextSecond b.seconds }, true)

/-- The gap timer counts outside HUNT (R3). -/
def Link.tick (l : Link) : Link := if l.framer = .hunt then l else { l with gap := l.gap + 1 }

/-- An arm's stroke and timers (R45, R47, R49, R50). -/
def Arm.tick (r : Arm) : Arm :=
  { r with elapsed := if r.moving then r.elapsed + 1 else r.elapsed
           relowerWait := tickTimer r.relowerWait
           displaceTimer := tickTimer r.displaceTimer
           upTimer := tickTimer r.upTimer }

/-- A zone's filters and clear duration (R55, R56). -/
def Zone.tick (z : Zone) : Zone :=
  { z with filter := tickTimer z.filter, faultEnd := tickTimer z.faultEnd
           clearTicks := if z.counted then z.clearTicks else z.clearTicks + 1 }

/-- The road's step timer (section 4). -/
def Rcs.tick (r : Rcs) : Rcs := if r.stepTimer = .none then r else { r with stepElapsed := r.stepElapsed + 1 }

/-- The red flash counts while it is on (R62). -/
def tickFlash (s : State) : State :=
  if s.flashOn then s.onRcs fun r => { r with flashTicks := r.flashTicks + 1 } else s

/-- A bolt's stroke and rest timer (R82, R83). -/
def Bolt.tick (r : Bolt) : Bolt :=
  { r with elapsed := if r.moving then r.elapsed + 1 else r.elapsed, restTimer := tickTimer r.restTimer }

def Seat.tick (r : Seat) : Seat := { r with filter := tickTimer r.filter }

/-- A pump group's start-limit and pressure-hold timers (R91). -/
def Pump.tick (p : Pump) : Pump :=
  { p with limitElapsed := if p.state = .starting then p.limitElapsed + 1 else p.limitElapsed
           hold := tickTimer p.hold }

def Lpu.tick (l : Lpu) : Lpu :=
  { l with bolts := l.bolts.map Bolt.tick
           seats := ⟨l.seats.north.tick, l.seats.south.tick⟩
           pumps := ⟨l.pumps.north.tick, l.pumps.south.tick⟩
           standby := tickTimer l.standby }

/-- The channel's timers but the horn (R177, R178, R182). -/
def Csu.tick (c : Csu) : Csu :=
  { c with window := tickTimer c.window, changeover := tickTimer c.changeover, sealTimer := tickTimer c.sealTimer }

/-- The proving in progress (R190). -/
def Phu.tick (p : Phu) : Phu :=
  { p with proving := p.proving.map fun q => { q with elapsed := q.elapsed + 1 } }

/-- Every running timer but the time base, the flash, the horn and the scan counts one tick. -/
def tickTimers (s : State) : State :=
  { s with
    cl := s.cl.tick
    bzu := { arms := s.bzu.arms.map Arm.tick, zones := s.bzu.zones.map Zone.tick }
    rcs := s.rcs.tick
    lpu := s.lpu.tick
    csu := s.csu.tick
    phu := s.phu.tick }

/-! ### What is due -/

/-- A running timer has reached `n` ticks. -/
def reachedTicks (t : Option Nat) (n : Nat) : Bool :=
  match t with
  | some v => decide (n ≤ v)
  | none => false

/-- `f` where `due` holds. -/
def when (due : Bool) (f : State → State) (s : State) : State := if due then f s else s

/-- What is due of arm `a` (R45, R47, R49, R50). -/
def armDue (s : State) (a : Fin 8) : State :=
  let s := when ((s.arm a).moving && decide (tenths (s.arm a).timeout ≤ (s.arm a).elapsed)) (timeOutArm a) s
  let s := when (reachedTicks (s.arm a).displaceTimer (sec 1)) (displaceArm a) s
  let s := when (reachedTicks (s.arm a).upTimer (sec 1)) (loseUpLimit a) s
  let s := when (reachedTicks (s.arm a).relowerWait (sec 2)) (endRelowerWait a) s
  relowerArm a s

/-- What is due of zone `z` (R55). -/
def zoneDue (s : State) (z : Fin 6) : State :=
  let s := when (reachedTicks (s.zone z).filter 10) (takeZone z) s
  when (reachedTicks (s.zone z).faultEnd 10) (endFault z) s

/-- The step timer of kind `k` has reached its captured period. -/
def State.stepDue (s : State) (k : StepTimer) (period : Nat) : Bool :=
  decide (s.rcs.stepTimer = k) && decide (sec period ≤ s.rcs.stepElapsed)

/-- A flash change is due (R62). -/
def flashDue (s : State) : State := when (s.flashOn && decide (50 ≤ s.rcs.flashTicks)) flashChanges s

/-- What is due of the road: the dwell wait and the step timers (R63, R66, R67, R74), then the flash (R62). -/
def roadDue (s : State) : State :=
  let s := when (s.rcs.dwellWait && s.deckCondition) reviewDeck s
  let s := when (s.stepDue .prewarn s.rcs.capPrewarn) prewarnExpires s
  let s := when (s.stepDue .entryDelay s.rcs.capEntryDelay) entryDelayExpires s
  let s := when (s.stepDue .clearanceLimit s.rcs.capClearanceLimit) clearanceLimitExpires s
  let s := when (s.stepDue .runOn s.rcs.capRunOn) runOnExpires s
  flashDue s

/-- What is due of bolt `b` (R82, R83). -/
def boltDue (s : State) (b : Fin 4) : State :=
  let s := when ((s.bolt b).moving && decide (tenths (s.bolt b).timeout ≤ (s.bolt b).elapsed)) (timeOutBolt b) s
  when (reachedTicks (s.bolt b).restTimer (sec 1)) (losePosition b) s

/-- What is due of leaf `l`'s seat switch (R89). -/
def seatDue (s : State) (l : Leaf) : State := when (reachedTicks (s.lpu.seats.get l).filter 10) (takeSeat l) s

/-- What is due of group `g`; the hold is taken before the limit (R91; note 4). -/
def pumpDue (s : State) (g : Leaf) : State :=
  let s := when (reachedTicks (s.pump g).hold (sec 1)) (provePump g) s
  when (decide ((s.pump g).state = .starting) && decide (sec (s.pump g).limit ≤ (s.pump g).limitElapsed))
    (expirePump g) s

/-- What is due of the LPU (R82, R83, R89, R91, R94). -/
def lpuDue (s : State) : State :=
  let s := [Leaf.north, Leaf.south].foldl pumpDue ([Leaf.north, Leaf.south].foldl seatDue (allBolts.foldl boltDue s))
  when s.standbyDue expireStandby s

/-- The control period, on every second tick (R106), with the alignment of the centre bolts (R84). -/
def controlDue (s : State) : State :=
  when (decide (s.tb.subTick % 2 = 0)) (fun s => alignBolt 1 (alignBolt 0 (controlPeriod s))) s

/-- The end of an encoder period, one tick before each control period (R123). -/
def encoderDue (s : State) : State := when (decide (s.tb.subTick % 2 = 1)) endDuePeriod s

/-- What happens at an advance of the seconds counter: the anemometer interval ends (R129), an epoch ends at each
nonzero multiple of 16 s (R143, R144), and the tide is judged (R159). -/
def secondDue (s : State) : State :=
  reviewTide (when (decide (s.tb.seconds ≠ 0) && decide (s.tb.seconds.toNat % 16 = 0)) endEpoch (anemoInterval s))

/-- What is due of the channel (R177, R178, R182). -/
def channelDue (s : State) : State :=
  let s := when s.windowDue windowExpires s
  let s := when s.changeoverDue changeoverExpires s
  when (s.sealDue && !s.csu.sealed) reviewSeal s

/-- A proving whose 20 ms are over ends (R190), the scan counter is examined (R189), then a held request that may start
does (R190). -/
def provingDue (s : State) : State :=
  let s := when s.provingOver endDueProving s
  let s := if s.phu.counter = 1 then scanRequest s else s.onPhu fun p => { p with counter := p.counter - 1 }
  when s.heldDue startHeld s

/-- The gap timer has reached 20 ms (R3). -/
def linkDue (s : State) : State := when (decide (2 ≤ s.cl.gap)) gapExpires s

/-- The horn counts down before anything sets it anew (R181). -/
def hornDue (s : State) : State :=
  if s.csu.horn = 0 then s
  else if s.csu.horn = 1 then hornExpires s
  else s.onCsu fun c => { c with horn := c.horn - 1 }

/-- A tick of the running part. -/
def tickRun (s : State) : State :=
  let b := s.tb.tick
  let s := hornDue ((tickFlash (tickTimers s)).onTb fun _ => b.1)
  let s := roadDue (allZones.foldl zoneDue (allArms.foldl armDue s))
  let s := when b.2 secondDue (controlDue (encoderDue (lpuDue s)))
  linkDue (provingDue (channelDue s))

/-- A tick of start-up: the seconds counter, the encoder period, the anemometer interval and the flash (R35, R36, R123,
R136). -/
def tickStartup (s : State) : State :=
  let b := s.tb.tick
  flashDue (when b.2 anemoInterval (encoderDue ((tickFlash s).onTb fun _ => b.1)))

/-- One base tick, by the phase; while RESET is asserted only the flash goes on (R35). -/
def tick (s : State) : State :=
  match s.tb.phase with
  | .off => s
  | .resetHeld => flashDue (tickFlash s)
  | .startup => tickStartup s
  | .run => tickRun s

end Sys2Proof.Machine
end

