-- ==== Sys2Proof/Machine/Dispatch.lean ====
section
/-! DEFINITION. The dispatch: one arm for each command, each one call of that command's meaning. -/

namespace Sys2Proof.Machine

def exec (i : Instr) (s : State) : Host.Outcome State Fault Refusal :=
  match i with
  | .powerOn straps fieldSupply => Sys2Proof.Machine.execPowerOn straps fieldSupply s
  | .hardResetAssert => Sys2Proof.Machine.execHardResetAssert s
  | .hardResetRelease straps fieldSupply => Sys2Proof.Machine.execHardResetRelease straps fieldSupply s
  | .startupEnd => Sys2Proof.Machine.execStartupEnd s
  | .softResetEffect => Sys2Proof.Machine.execSoftResetEffect s
  | .frameComplete check => Sys2Proof.Machine.execFrameComplete check s
  | .lengthByteError length => Sys2Proof.Machine.execLengthByteError length s
  | .gapTimeout => Sys2Proof.Machine.execGapTimeout s
  | .replyEnd => Sys2Proof.Machine.execReplyEnd s
  | .identify => Sys2Proof.Machine.execIdentify s
  | .status => Sys2Proof.Machine.execStatus s
  | .counters => Sys2Proof.Machine.execCounters s
  | .logon level code => Sys2Proof.Machine.execLogon level code s
  | .logoff => Sys2Proof.Machine.execLogoff s
  | .freeze => Sys2Proof.Machine.execFreeze s
  | .paramRead start count => Sys2Proof.Machine.execParamRead start count s
  | .paramWrite start values => Sys2Proof.Machine.execParamWrite start values s
  | .paramCommit => Sys2Proof.Machine.execParamCommit s
  | .commitEnd readBackGood => Sys2Proof.Machine.execCommitEnd readBackGood s
  | .paramDefaults => Sys2Proof.Machine.execParamDefaults s
  | .restart => Sys2Proof.Machine.execRestart s
  | .closeRoad => Sys2Proof.Machine.execCloseRoad s
  | .openRoad => Sys2Proof.Machine.execOpenRoad s
  | .roadRead => Sys2Proof.Machine.execRoadRead s
  | .armRetry arm => Sys2Proof.Machine.execArmRetry arm s
  | .armServiceOut arm => Sys2Proof.Machine.execArmServiceOut arm s
  | .armServiceReturn arm => Sys2Proof.Machine.execArmServiceReturn arm s
  | .zoneBypassSet zone => Sys2Proof.Machine.execZoneBypassSet zone s
  | .zoneBypassClear zone => Sys2Proof.Machine.execZoneBypassClear zone s
  | .pumpsStart => Sys2Proof.Machine.execPumpsStart s
  | .pumpsStop => Sys2Proof.Machine.execPumpsStop s
  | .lockRetry => Sys2Proof.Machine.execLockRetry s
  | .raise => Sys2Proof.Machine.execRaise s
  | .raiseExplicit target => Sys2Proof.Machine.execRaiseExplicit target s
  | .lower => Sys2Proof.Machine.execLower s
  | .stop => Sys2Proof.Machine.execStop s
  | .tripClear => Sys2Proof.Machine.execTripClear s
  | .leafRead => Sys2Proof.Machine.execLeafRead s
  | .measureRead => Sys2Proof.Machine.execMeasureRead s
  | .vesselReport identity side airDraught => Sys2Proof.Machine.execVesselReport identity side airDraught s
  | .vesselRead cursor => Sys2Proof.Machine.execVesselRead cursor s
  | .vesselClear mask => Sys2Proof.Machine.execVesselClear mask s
  | .join identity side cls airDraught => Sys2Proof.Machine.execJoin identity side cls airDraught s
  | .withdraw identity => Sys2Proof.Machine.execWithdraw identity s
  | .classFloor floor => Sys2Proof.Machine.execClassFloor floor s
  | .tide level => Sys2Proof.Machine.execTide level s
  | .formBatch => Sys2Proof.Machine.execFormBatch s
  | .abandonBatch => Sys2Proof.Machine.execAbandonBatch s
  | .queueRead side cls => Sys2Proof.Machine.execQueueRead side cls s
  | .batchRead => Sys2Proof.Machine.execBatchRead s
  | .vesselPassed identity => Sys2Proof.Machine.execVesselPassed identity s
  | .channelRead => Sys2Proof.Machine.execChannelRead s
  | .circuitRead => Sys2Proof.Machine.execCircuitRead s
  | .circuitTest circuit => Sys2Proof.Machine.execCircuitTest circuit s
  | .healthRead => Sys2Proof.Machine.execHealthRead s
  | .healthSet actuator value => Sys2Proof.Machine.execHealthSet actuator value s
  | .armDownLimitMade arm => Sys2Proof.Machine.execArmDownLimitMade arm s
  | .armUpLimitMade arm => Sys2Proof.Machine.execArmUpLimitMade arm s
  | .armDownLimitReleased arm => Sys2Proof.Machine.execArmDownLimitReleased arm s
  | .armDisplaced arm => Sys2Proof.Machine.execArmDisplaced arm s
  | .armUpLimitReleased arm => Sys2Proof.Machine.execArmUpLimitReleased arm s
  | .upLimitLost arm => Sys2Proof.Machine.execUpLimitLost arm s
  | .armStrokeTimeout arm => Sys2Proof.Machine.execArmStrokeTimeout arm s
  | .obstructionEdgeActive arm => Sys2Proof.Machine.execObstructionEdgeActive arm s
  | .relowerWaitExpiry arm => Sys2Proof.Machine.execRelowerWaitExpiry arm s
  | .armRelower arm => Sys2Proof.Machine.execArmRelower arm s
  | .estopAsserted => Sys2Proof.Machine.execEstopAsserted s
  | .zoneOccupancyInput zone occupied => Sys2Proof.Machine.execZoneOccupancyInput zone occupied s
  | .zoneFilterExpiry zone => Sys2Proof.Machine.execZoneFilterExpiry zone s
  | .zoneFaultActive zone => Sys2Proof.Machine.execZoneFaultActive zone s
  | .zoneFaultInactive zone => Sys2Proof.Machine.execZoneFaultInactive zone s
  | .zoneFaultEnd zone => Sys2Proof.Machine.execZoneFaultEnd zone s
  | .dwellWaitExpiry => Sys2Proof.Machine.execDwellWaitExpiry s
  | .prewarnExpiry => Sys2Proof.Machine.execPrewarnExpiry s
  | .entryDelayExpiry => Sys2Proof.Machine.execEntryDelayExpiry s
  | .clearanceLimitExpiry => Sys2Proof.Machine.execClearanceLimitExpiry s
  | .runOnExpiry => Sys2Proof.Machine.execRunOnExpiry s
  | .redFlashChange => Sys2Proof.Machine.execRedFlashChange s
  | .boltWithdrawnSwitchMade bolt => Sys2Proof.Machine.execBoltWithdrawnSwitchMade bolt s
  | .boltDrivenSwitchMade bolt => Sys2Proof.Machine.execBoltDrivenSwitchMade bolt s
  | .boltSwitchReleased bolt switch => Sys2Proof.Machine.execBoltSwitchReleased bolt switch s
  | .boltNoPosition bolt => Sys2Proof.Machine.execBoltNoPosition bolt s
  | .boltStrokeTimeout bolt => Sys2Proof.Machine.execBoltStrokeTimeout bolt s
  | .centreBoltAligned bolt => Sys2Proof.Machine.execCentreBoltAligned bolt s
  | .seatSwitchInput leaf made => Sys2Proof.Machine.execSeatSwitchInput leaf made s
  | .seatSwitchFilterExpiry leaf => Sys2Proof.Machine.execSeatSwitchFilterExpiry leaf s
  | .pressureOkMade group => Sys2Proof.Machine.execPressureOkMade group s
  | .pressureOkReleased group => Sys2Proof.Machine.execPressureOkReleased group s
  | .pumpReady group => Sys2Proof.Machine.execPumpReady group s
  | .pumpStartLimitExpiry group => Sys2Proof.Machine.execPumpStartLimitExpiry group s
  | .standbyExpiry => Sys2Proof.Machine.execStandbyExpiry s
  | .controlPeriod => Sys2Proof.Machine.execControlPeriod s
  | .encoderPeriodEnd northPrimary northCheck southPrimary southCheck => Sys2Proof.Machine.execEncoderPeriodEnd northPrimary northCheck southPrimary southCheck s
  | .anemoPulse => Sys2Proof.Machine.execAnemoPulse s
  | .anemoIntervalEnd => Sys2Proof.Machine.execAnemoIntervalEnd s
  | .epochEnd => Sys2Proof.Machine.execEpochEnd s
  | .tideStale => Sys2Proof.Machine.execTideStale s
  | .passageWindowExpiry => Sys2Proof.Machine.execPassageWindowExpiry s
  | .changeoverExpiry => Sys2Proof.Machine.execChangeoverExpiry s
  | .channelSealed => Sys2Proof.Machine.execChannelSealed s
  | .hornExpiry => Sys2Proof.Machine.execHornExpiry s
  | .provingRequest => Sys2Proof.Machine.execProvingRequest s
  | .provingStart => Sys2Proof.Machine.execProvingStart s
  | .provingEnd current => Sys2Proof.Machine.execProvingEnd current s
  | .estopReleased => Sys2Proof.Machine.execEstopReleased s
  | .obstructionEdgeInactive arm => Sys2Proof.Machine.execObstructionEdgeInactive arm s
  | .consoleByteReceived byte => Sys2Proof.Machine.execConsoleByteReceived byte s
  | .supplyLoss => Sys2Proof.Machine.execSupplyLoss s

end Sys2Proof.Machine
end

