-- ==== Sys2Proof/Machine/Step.lean ====
section
/-! DEFINITION. One step of the part: the command at the front of the queue, or one base tick on an empty queue
(notes 1 and 10). -/

namespace Sys2Proof.Machine

/-- The step: the front command runs on the state with the queue's rest; on an empty queue 10 ms pass. -/
def step (s : State) : Host.Outcome State Fault Refusal :=
  match s.pending with
  | c :: rest => exec c { s with pending := rest }
  | [] => .next (tick s)

/-- `s` with the command that a table word spells put at the front of its queue; unchanged where the word spells none
(note 10: the table gives no bits, so none does). -/
def State.withFetchWord (s : State) (nbits w : Nat) : State :=
  match decodeTableWord nbits w with
  | some c => { s with pending := c :: s.pending }
  | none => s

end Sys2Proof.Machine
end

