-- ==== Sys2Proof/Safety.lean ====
section
/-! DEFINITION. What counts as a safe run: the bounds the manual states of every state, in the terms the statements
use. Each is a property of one state that every step keeps. -/

namespace Sys2Proof.Machine

/-- The link takes request `q` now: no reply pending, no reset under way, and the tests of R20 passed. -/
def State.allows (s : State) (q : Request) : Prop := s.taking = true ∧ admission q s = none

/-- The catalogue's code and authority of each request row (section 1.6, table of R20); none for an event. -/
def catalogue : Instr → Option Request
  | .identify => some (viewRequest 0x01)
  | .status => some (viewRequest 0x02)
  | .counters => some (viewRequest 0x03)
  | .logon _ _ => some logonRequest
  | .logoff => some (viewRequest 0x11)
  | .freeze => some (maintainRequest 0x12)
  | .paramRead _ _ => some (viewRequest 0x13)
  | .paramWrite _ _ => some (tableRequest 0x14)
  | .paramCommit => some (tableRequest 0x15)
  | .paramDefaults => some (tableRequest 0x16)
  | .restart => some (operateRequest 0x17)
  | .closeRoad => some (operateRequest 0x20)
  | .openRoad => some (operateRequest 0x21)
  | .roadRead => some (viewRequest 0x22)
  | .armRetry _ => some (operateRequest 0x23)
  | .armServiceOut _ => some (serviceRequest 0x24)
  | .armServiceReturn _ => some (serviceRequest 0x24)
  | .zoneBypassSet _ => some (serviceRequest 0x25)
  | .zoneBypassClear _ => some (serviceRequest 0x25)
  | .pumpsStart => some (operateRequest 0x30)
  | .pumpsStop => some (operateRequest 0x30)
  | .lockRetry => some (operateRequest 0x31)
  | .raise => some (operateRequest 0x32)
  | .raiseExplicit _ => some (maintainRequest 0x32)
  | .lower => some (operateRequest 0x33)
  | .stop => some (viewRequest 0x34)
  | .tripClear => some (operateRequest 0x35)
  | .leafRead => some (viewRequest 0x36)
  | .measureRead => some (viewRequest 0x37)
  | .vesselReport _ _ _ => some (operateRequest 0x40)
  | .vesselRead _ => some (viewRequest 0x41)
  | .vesselClear _ => some (operateRequest 0x42)
  | .join _ _ _ _ => some (operateRequest 0x50)
  | .withdraw _ => some (operateRequest 0x51)
  | .classFloor _ => some (operateRequest 0x52)
  | .tide _ => some (operateRequest 0x53)
  | .formBatch => some (operateRequest 0x54)
  | .abandonBatch => some (operateRequest 0x55)
  | .queueRead _ _ => some (viewRequest 0x56)
  | .batchRead => some (viewRequest 0x57)
  | .vesselPassed _ => some (operateRequest 0x60)
  | .channelRead => some (viewRequest 0x61)
  | .circuitRead => some (viewRequest 0x70)
  | .circuitTest _ => some (maintainRequest 0x71)
  | .healthRead => some (viewRequest 0x72)
  | .healthSet _ _ => some (maintainRequest 0x73)
  | .powerOn _ _ | .hardResetAssert | .hardResetRelease _ _ | .startupEnd | .softResetEffect
  | .frameComplete _ | .lengthByteError _ | .gapTimeout | .replyEnd | .commitEnd _
  | .armDownLimitMade _ | .armUpLimitMade _ | .armDownLimitReleased _ | .armDisplaced _
  | .armUpLimitReleased _ | .upLimitLost _ | .armStrokeTimeout _ | .obstructionEdgeActive _
  | .relowerWaitExpiry _ | .armRelower _ | .estopAsserted | .zoneOccupancyInput _ _
  | .zoneFilterExpiry _ | .zoneFaultActive _ | .zoneFaultInactive _ | .zoneFaultEnd _ | .dwellWaitExpiry
  | .prewarnExpiry | .entryDelayExpiry | .clearanceLimitExpiry | .runOnExpiry | .redFlashChange
  | .boltWithdrawnSwitchMade _ | .boltDrivenSwitchMade _ | .boltSwitchReleased _ _ | .boltNoPosition _
  | .boltStrokeTimeout _ | .centreBoltAligned _ | .seatSwitchInput _ _ | .seatSwitchFilterExpiry _
  | .pressureOkMade _ | .pressureOkReleased _ | .pumpReady _ | .pumpStartLimitExpiry _ | .standbyExpiry
  | .controlPeriod | .encoderPeriodEnd _ _ _ _ | .anemoPulse | .anemoIntervalEnd | .epochEnd | .tideStale
  | .passageWindowExpiry | .changeoverExpiry | .channelSealed | .hornExpiry | .provingRequest
  | .provingStart | .provingEnd _ | .estopReleased | .obstructionEdgeInactive _
  | .consoleByteReceived _ | .supplyLoss => none

/-- The state that command `c` leaves. -/
def State.after (s : State) (c : Instr) : State :=
  match exec c s with
  | .next t => t
  | .fault _ => s
  | .refused _ => s

/-- Command `c` happens where `due` holds: a timer of a tick that has reached its period. -/
def State.happens (s : State) (due : Bool) (c : Instr) : State := if due then s.after c else s

/-- What SUPPLY_LOSS and a hard reset keep of the state before them (R19, R32, R35, R200): the inputs, the straps, the
start-up record, the health records, and the store unless a commit was under way. -/
structure State.kept (t s : State) : Prop where
  pins : t.pins = s.pins
  straps : t.apu.straps = s.apu.straps
  record : t.apu.record = s.apu.record
  health : t.phu.health = s.phu.health
  store : t.apu.store = if s.apu.commit.isSome then .broken else s.apu.store
  queue : t.pending = s.pending

/-- Every block in its reset condition (R35): no frame, reply, latched condition, commit, stroke, closure, motion, vessel,
batch, turn or proving; both sides at STOP, the horn silent and every reference 0. The values are those of State.reset,
the model's choice (note 7). -/
structure State.cold (t : State) : Prop where
  link : t.cl = { State.reset.cl with mask := t.cl.mask }
  level : t.apu.level = .view
  commit : t.apu.commit = none
  restart : t.apu.restart = false
  arms : t.bzu = State.reset.bzu
  road : t.rcs = { State.reset.rcs with flashA := t.rcs.flashA, flashTicks := t.rcs.flashTicks }
  locks : t.lpu = State.reset.lpu
  leaves : t.lmc = State.reset.lmc
  measures : t.msu = Msu.reset
  vessels : t.vt = Vt.reset
  queues : t.psc = Psc.reset
  signals : t.csu = Csu.reset
  circuits : t.phu = { State.reset.phu with health := t.phu.health, readings := t.phu.readings }

/-- Start-up has just begun with these straps and this field supply sense (R36 steps 1 and 2, R31, R16). -/
structure State.starts (t : State) (straps : Straps) (field : Bool) : Prop where
  time : t.tb = ⟨.startup, 0, 0⟩
  straps : t.apu.straps = straps
  field : t.pins.fieldSupply = field
  level : t.apu.level = .view
  mismatch : t.apu.mismatch = 0
  frozen : t.apu.frozen = false
  commit : t.apu.commit = none
  loaded : ∀ v, t.apu.store.load = some v →
    t.apu.table = v ∧ t.apu.storeStatus = .valid ∧ t.apu.modified = false
  invalid : t.apu.store.load = none →
    t.apu.table = defaultTable ∧ t.apu.storeStatus = .invalid ∧ t.apu.modified = true
  mask : t.cl.mask = BitVec.ofNat 16 (t.par pMask)
  measures : t.msu = Msu.reset

/-- The motion record as a motion that begins now fills it: the values of the working table, the direction, source and
target given, the time, every mark clear, and each leaf at magnitude and reference 0, not arrived (R99). -/
def State.motionRecord (s : State) (dir : Direction) (src : TargetSource) (target : Nat) : Motion :=
  { present := true, direction := dir, source := src, target := target
    tf := s.par 11, vc := s.par 13, vk := s.par 14, r := s.par 15, b := s.par 16, bs := s.par 17, w := s.par 18
    sDead := s.par 19, sTrip := s.par 20, commitFraction := s.par 23, driftLimit := s.par 22
    startTime := s.tb.seconds, halt := .none, derateFixed := false, awaitingPumps := false
    leaves := ⟨⟨0, 0, false⟩, ⟨0, 0, false⟩⟩ }

/-- Pump group `g` as a start order of the LMC leaves it: a STOPPED group is STARTING, its limit read and its timers
from zero, but not while ESTOP is asserted; any other stays (R90). -/
def State.pumpOrdered (s : State) (g : Leaf) : Pump :=
  if (s.pump g).state = .stopped ∧ s.pins.estop = false then
    { s.pump g with state := .starting, limit := s.par pPumpLimit, limitElapsed := 0
                    hold := if s.pins.pressure.get g then some 0 else none }
  else s.pump g

/-- Bolt `b` as a command of a sequence step leaves it: unchanged at the end position and in a stroke toward it, else
as its stroke starts (R86, R81). -/
def State.boltCommanded (s : State) (way : BoltWay) (b : Fin 4) : Bolt :=
  match way with
  | .withdraw =>
    if (s.bolt b).state = .withdrawing ∨ (s.bolt b).state = .withdrawn then s.bolt b else (startBolt b .withdraw s).bolt b
  | .drive =>
    if (s.bolt b).state = .driving ∨ (s.bolt b).state = .driven then s.bolt b else (startBolt b .drive s).bolt b

/-- What an accepted RAISE leaves (R99 to R101, R86, R87, R90): the motion begun, the withdraw sequence called with its
steps as far as the bolts stand, both groups ordered, and UNLOCKING or, where nothing is waited for, RAISING. -/
structure State.raises (t s : State) (src : TargetSource) (target : Nat) : Prop where
  leaves : t.lmc = { s.lmc with
    leaf := if s.allWithdrawn && s.bothReady then .raising else .unlocking
    motion := s.motionRecord .raise src target }
  pumps : ∀ g : Leaf, t.pump g = s.pumpOrdered g
  centre : ∀ b : Fin 4, b.val < 2 → t.bolt b = s.boltCommanded .withdraw b
  heel : ∀ b : Fin 4, 2 ≤ b.val → t.bolt b =
    if (s.bolt 0).state = .withdrawn ∧ (s.bolt 1).state = .withdrawn then s.boltCommanded .withdraw b else s.bolt b
  sequence : t.lpu.seqKind = if s.allWithdrawn then .none else .withdraw
  step : t.lpu.seqStep = if (s.bolt 0).state = .withdrawn ∧ (s.bolt 1).state = .withdrawn then .heel else .centre
  standby : t.lpu.standby = none
  latched : (t.cl.latched &&& 8) ≠ 0
  rest : { t with cl := s.cl, lpu := s.lpu, lmc := s.lmc } = s
  link : { t.cl with latched := s.cl.latched } = s.cl
  seats : t.lpu.seats = s.lpu.seats

/-- Side `d` has an item with outcome CALLED in a call list. -/
def itemsLeft (items : List Item) (d : Side) : Bool := items.any fun i => i.side = d && i.outcome = .called

/-- A call list that ends the batch: it is FORMED or RUNNING and every item is PASSED or WITHDRAWN (R167). -/
def State.finishes (s : State) (items : List Item) : Bool :=
  (s.psc.batch.state = .formed || s.psc.batch.state = .running) &&
    items.all fun i => i.outcome = .passed || i.outcome = .withdrawn

/-- What follows when an item's outcome has become PASSED or WITHDRAWN, the call list now being `items` (R156, R167,
R175 to R178, R180): the list and the remaining count; the end of the batch, closed at once where the channel is
sealed; the end of the turn of a side with no called vessel left, with the changeover; else the turn goes on, and the
waiting sides are judged anew. -/
structure State.settles (t s : State) (items : List Item) : Prop where
  goesOn : s.finishes items = false →
    t.psc.batch = { s.psc.batch with items := items, remaining := s.psc.batch.remaining - 1 }
  ends : s.finishes items = true → t.psc.batch.items = items ∧ t.psc.batch.remaining = 0 ∧
    t.psc.batch.state = (if t.csu.sealed then .closed else .closing) ∧
    (t.csu.sealed = true → t.psc.batch.closedAt = some s.tb.seconds) ∧ t.csu.phase = .ended ∧ t.csu.current = none ∧
    t.csu.window = none ∧ t.csu.changeover = none ∧ t.aspect .seaward = .stop ∧ t.aspect .landward = .stop ∧
    (t.cl.latched &&& 0x200) ≠ 0
  turnEnds : ∀ d : Side, s.csu.phase = .turn → s.csu.current = some d → itemsLeft items d = false →
    (t.csu.sides.get d).status = .done ∧ (t.csu.sides.get d).cause = some .noCalled ∧
    (t.csu.sides.get d).goEnd = some s.tb.seconds ∧ t.csu.window = none ∧ t.csu.sealTimer = some 0 ∧
    t.csu.sealed = false ∧ t.aspect d = .stop ∧ (t.cl.latched &&& 0x200) ≠ 0 ∧
    (s.finishes items = false → t.csu.phase = .changeover ∧ t.csu.current = some d ∧ t.csu.changeover = some 0 ∧
      t.aspect d.other =
        if (s.csu.sides.get d.other).status = .notYet ∧ itemsLeft items d.other = true then .standby else .stop)
  turnStays : ∀ d : Side, s.csu.phase = .turn → s.csu.current = some d → itemsLeft items d = true →
    t.csu.phase = .turn ∧ t.csu.current = some d ∧ t.csu.aspects = s.csu.aspects ∧ t.csu.window = s.csu.window
  standby : s.csu.phase = .idle → s.psc.batch.state = .formed → s.finishes items = false →
    ∀ d : Side, t.aspect d = if itemsLeft items d then .standby else .stop
  changeover : ∀ d : Side, s.csu.phase = .changeover → s.csu.current = some d → s.finishes items = false →
    t.csu.phase = .changeover ∧ t.csu.changeover = s.csu.changeover ∧ t.aspect d.other =
      if (s.csu.sides.get d.other).status = .notYet ∧ itemsLeft items d.other = true then .standby else .stop

/-- "The mismatch count lies within 0..5" (R22). -/
def State.mismatchBounded (s : State) : Prop := s.apu.mismatch ≤ 5

/-- "Every health value lies within 1..253" (R197). -/
def State.healthBounded (s : State) : Prop := ∀ n : Fin 12, 1 ≤ s.phu.health[n].value ∧ s.phu.health[n].value ≤ 253

/-- "At most one channel side shows GO, and a side shows GO only while the leaf state is RAISED and the other side shows
STOP" (R174); the side is then the current side of the phase TURN (R176 step 5, R177 to R180). -/
def State.oneGo (s : State) : Prop :=
  ∀ d : Side, s.aspect d = .go →
    s.aspect d.other = .stop ∧ s.lmc.leaf = .raised ∧ s.csu.phase = .turn ∧ s.csu.current = some d

/-- "The passage queues together hold at most 24 entries, CALLED entries included, and no queue holds more than
8" (R152). -/
def State.poolBounded (s : State) : Prop := s.pool ≤ 24 ∧ ∀ q : Fin 8, (s.queue q).length ≤ 8

/-- A leaf that is arrived, or that stands outside RAISING and LOWERING, has reference 0 (R98, R106). -/
def State.referencesSafe (s : State) : Prop :=
  ∀ l : Leaf, ((s.lmc.motion.leaves.get l).arrived = true ∨ s.lmc.leaf.moving = false) →
    (s.lmc.motion.leaves.get l).reference = 0

/-- The creep speed of a table does not exceed its cruise speed (the cross-check of R26). -/
def tableCreeps (t : Vector Nat 64) : Prop := t[pVk] ≤ t[pVc]

/-- The table that a store would load keeps the cross-check. -/
def Store.creeps : Store → Prop
  | .broken => True
  | .image values _ => tableCreeps values

/-- "The magnitude of each leaf's reference never exceeds the cruise speed Vc held in the current motion record"
(R110), with what it rests on: the tables' cross-check, the derate at most 100, and the stored magnitudes. -/
structure State.speedBounded (s : State) : Prop where
  table : tableCreeps s.apu.table
  store : s.apu.store.creeps
  commit : ∀ t, s.apu.commit = some t → tableCreeps t
  pct : s.msu.wind.pct ≤ 100
  creep : s.lmc.motion.vk ≤ s.lmc.motion.vc
  magnitude : ∀ l : Leaf, (s.lmc.motion.leaves.get l).vPrev ≤ s.lmc.motion.vc
  reference : ∀ l : Leaf, (s.lmc.motion.leaves.get l).reference.natAbs ≤ s.lmc.motion.vc

end Sys2Proof.Machine

namespace Sys2Proof

/-! ### The sides of the part -/

/-- An arm, zone or road event (spec/03, spec/04). -/
def Instr.isRoadSide : Instr → Bool
  | .armDownLimitMade _ | .armUpLimitMade _ | .armDownLimitReleased _ | .armDisplaced _
  | .armUpLimitReleased _ | .upLimitLost _ | .armStrokeTimeout _ | .obstructionEdgeActive _
  | .relowerWaitExpiry _ | .armRelower _ | .zoneOccupancyInput _ _ | .zoneFilterExpiry _ | .zoneFaultActive _
  | .zoneFaultInactive _ | .zoneFaultEnd _ | .dwellWaitExpiry | .prewarnExpiry | .entryDelayExpiry
  | .clearanceLimitExpiry | .runOnExpiry | .redFlashChange | .obstructionEdgeInactive _ => true
  | .powerOn _ _ | .hardResetAssert | .hardResetRelease _ _ | .startupEnd | .softResetEffect
  | .frameComplete _ | .lengthByteError _ | .gapTimeout | .replyEnd | .identify | .status | .counters
  | .logon _ _ | .logoff | .freeze | .paramRead _ _ | .paramWrite _ _ | .paramCommit | .commitEnd _
  | .paramDefaults | .restart | .closeRoad | .openRoad | .roadRead | .armRetry _ | .armServiceOut _
  | .armServiceReturn _ | .zoneBypassSet _ | .zoneBypassClear _ | .pumpsStart | .pumpsStop | .lockRetry
  | .raise | .raiseExplicit _ | .lower | .stop | .tripClear | .leafRead | .measureRead | .vesselReport _ _ _
  | .vesselRead _ | .vesselClear _ | .join _ _ _ _ | .withdraw _ | .classFloor _ | .tide _ | .formBatch
  | .abandonBatch | .queueRead _ _ | .batchRead | .vesselPassed _ | .channelRead | .circuitRead
  | .circuitTest _ | .healthRead | .healthSet _ _ | .estopAsserted | .boltWithdrawnSwitchMade _
  | .boltDrivenSwitchMade _ | .boltSwitchReleased _ _ | .boltNoPosition _ | .boltStrokeTimeout _
  | .centreBoltAligned _ | .seatSwitchInput _ _ | .seatSwitchFilterExpiry _ | .pressureOkMade _
  | .pressureOkReleased _ | .pumpReady _ | .pumpStartLimitExpiry _ | .standbyExpiry | .controlPeriod
  | .encoderPeriodEnd _ _ _ _ | .anemoPulse | .anemoIntervalEnd | .epochEnd | .tideStale
  | .passageWindowExpiry | .changeoverExpiry | .channelSealed | .hornExpiry | .provingRequest | .provingStart
  | .provingEnd _ | .estopReleased | .consoleByteReceived _ | .supplyLoss => false

/-- A bolt, seat or pump event (spec/05). -/
def Instr.isLockSide : Instr → Bool
  | .boltWithdrawnSwitchMade _ | .boltDrivenSwitchMade _ | .boltSwitchReleased _ _ | .boltNoPosition _
  | .boltStrokeTimeout _ | .centreBoltAligned _ | .seatSwitchInput _ _ | .seatSwitchFilterExpiry _
  | .pressureOkMade _ | .pressureOkReleased _ | .pumpReady _ | .pumpStartLimitExpiry _ | .standbyExpiry => true
  | .powerOn _ _ | .hardResetAssert | .hardResetRelease _ _ | .startupEnd | .softResetEffect
  | .frameComplete _ | .lengthByteError _ | .gapTimeout | .replyEnd | .identify | .status | .counters
  | .logon _ _ | .logoff | .freeze | .paramRead _ _ | .paramWrite _ _ | .paramCommit | .commitEnd _
  | .paramDefaults | .restart | .closeRoad | .openRoad | .roadRead | .armRetry _ | .armServiceOut _
  | .armServiceReturn _ | .zoneBypassSet _ | .zoneBypassClear _ | .pumpsStart | .pumpsStop | .lockRetry
  | .raise | .raiseExplicit _ | .lower | .stop | .tripClear | .leafRead | .measureRead | .vesselReport _ _ _
  | .vesselRead _ | .vesselClear _ | .join _ _ _ _ | .withdraw _ | .classFloor _ | .tide _ | .formBatch
  | .abandonBatch | .queueRead _ _ | .batchRead | .vesselPassed _ | .channelRead | .circuitRead
  | .circuitTest _ | .healthRead | .healthSet _ _ | .armDownLimitMade _ | .armUpLimitMade _
  | .armDownLimitReleased _ | .armDisplaced _ | .armUpLimitReleased _ | .upLimitLost _ | .armStrokeTimeout _
  | .obstructionEdgeActive _ | .relowerWaitExpiry _ | .armRelower _ | .estopAsserted
  | .zoneOccupancyInput _ _ | .zoneFilterExpiry _ | .zoneFaultActive _ | .zoneFaultInactive _
  | .zoneFaultEnd _ | .dwellWaitExpiry | .prewarnExpiry | .entryDelayExpiry | .clearanceLimitExpiry
  | .runOnExpiry | .redFlashChange | .controlPeriod | .encoderPeriodEnd _ _ _ _ | .anemoPulse
  | .anemoIntervalEnd | .epochEnd | .tideStale | .passageWindowExpiry | .changeoverExpiry | .channelSealed
  | .hornExpiry | .provingRequest | .provingStart | .provingEnd _ | .estopReleased
  | .obstructionEdgeInactive _ | .consoleByteReceived _ | .supplyLoss => false

/-- An encoder or anemometer event (spec/07). -/
def Instr.isMeasureSide : Instr → Bool
  | .encoderPeriodEnd _ _ _ _ | .anemoPulse | .anemoIntervalEnd => true
  | .powerOn _ _ | .hardResetAssert | .hardResetRelease _ _ | .startupEnd | .softResetEffect
  | .frameComplete _ | .lengthByteError _ | .gapTimeout | .replyEnd | .identify | .status | .counters
  | .logon _ _ | .logoff | .freeze | .paramRead _ _ | .paramWrite _ _ | .paramCommit | .commitEnd _
  | .paramDefaults | .restart | .closeRoad | .openRoad | .roadRead | .armRetry _ | .armServiceOut _
  | .armServiceReturn _ | .zoneBypassSet _ | .zoneBypassClear _ | .pumpsStart | .pumpsStop | .lockRetry
  | .raise | .raiseExplicit _ | .lower | .stop | .tripClear | .leafRead | .measureRead | .vesselReport _ _ _
  | .vesselRead _ | .vesselClear _ | .join _ _ _ _ | .withdraw _ | .classFloor _ | .tide _ | .formBatch
  | .abandonBatch | .queueRead _ _ | .batchRead | .vesselPassed _ | .channelRead | .circuitRead
  | .circuitTest _ | .healthRead | .healthSet _ _ | .armDownLimitMade _ | .armUpLimitMade _
  | .armDownLimitReleased _ | .armDisplaced _ | .armUpLimitReleased _ | .upLimitLost _ | .armStrokeTimeout _
  | .obstructionEdgeActive _ | .relowerWaitExpiry _ | .armRelower _ | .estopAsserted
  | .zoneOccupancyInput _ _ | .zoneFilterExpiry _ | .zoneFaultActive _ | .zoneFaultInactive _
  | .zoneFaultEnd _ | .dwellWaitExpiry | .prewarnExpiry | .entryDelayExpiry | .clearanceLimitExpiry
  | .runOnExpiry | .redFlashChange | .boltWithdrawnSwitchMade _ | .boltDrivenSwitchMade _
  | .boltSwitchReleased _ _ | .boltNoPosition _ | .boltStrokeTimeout _ | .centreBoltAligned _
  | .seatSwitchInput _ _ | .seatSwitchFilterExpiry _ | .pressureOkMade _ | .pressureOkReleased _
  | .pumpReady _ | .pumpStartLimitExpiry _ | .standbyExpiry | .controlPeriod | .epochEnd | .tideStale
  | .passageWindowExpiry | .changeoverExpiry | .channelSealed | .hornExpiry | .provingRequest | .provingStart
  | .provingEnd _ | .estopReleased | .obstructionEdgeInactive _ | .consoleByteReceived _ | .supplyLoss => false

/-- A vessel, queue or channel request or event (spec/08 to spec/10). -/
def Instr.isChannelSide : Instr → Bool
  | .vesselReport _ _ _ | .vesselRead _ | .vesselClear _ | .join _ _ _ _ | .withdraw _ | .classFloor _
  | .tide _ | .formBatch | .abandonBatch | .queueRead _ _ | .batchRead | .vesselPassed _ | .channelRead
  | .epochEnd | .tideStale | .passageWindowExpiry | .changeoverExpiry | .channelSealed | .hornExpiry => true
  | .powerOn _ _ | .hardResetAssert | .hardResetRelease _ _ | .startupEnd | .softResetEffect
  | .frameComplete _ | .lengthByteError _ | .gapTimeout | .replyEnd | .identify | .status | .counters
  | .logon _ _ | .logoff | .freeze | .paramRead _ _ | .paramWrite _ _ | .paramCommit | .commitEnd _
  | .paramDefaults | .restart | .closeRoad | .openRoad | .roadRead | .armRetry _ | .armServiceOut _
  | .armServiceReturn _ | .zoneBypassSet _ | .zoneBypassClear _ | .pumpsStart | .pumpsStop | .lockRetry
  | .raise | .raiseExplicit _ | .lower | .stop | .tripClear | .leafRead | .measureRead | .circuitRead
  | .circuitTest _ | .healthRead | .healthSet _ _ | .armDownLimitMade _ | .armUpLimitMade _
  | .armDownLimitReleased _ | .armDisplaced _ | .armUpLimitReleased _ | .upLimitLost _ | .armStrokeTimeout _
  | .obstructionEdgeActive _ | .relowerWaitExpiry _ | .armRelower _ | .estopAsserted
  | .zoneOccupancyInput _ _ | .zoneFilterExpiry _ | .zoneFaultActive _ | .zoneFaultInactive _
  | .zoneFaultEnd _ | .dwellWaitExpiry | .prewarnExpiry | .entryDelayExpiry | .clearanceLimitExpiry
  | .runOnExpiry | .redFlashChange | .boltWithdrawnSwitchMade _ | .boltDrivenSwitchMade _
  | .boltSwitchReleased _ _ | .boltNoPosition _ | .boltStrokeTimeout _ | .centreBoltAligned _
  | .seatSwitchInput _ _ | .seatSwitchFilterExpiry _ | .pressureOkMade _ | .pressureOkReleased _
  | .pumpReady _ | .pumpStartLimitExpiry _ | .standbyExpiry | .controlPeriod | .encoderPeriodEnd _ _ _ _
  | .anemoPulse | .anemoIntervalEnd | .provingRequest | .provingStart | .provingEnd _ | .estopReleased
  | .obstructionEdgeInactive _ | .consoleByteReceived _ | .supplyLoss => false

end Sys2Proof
end

