-- ==== Sys2Proof/WellFormed.lean ====
section
/-! DEFINITION. The checks a command must pass to stand for something the outside can bring. Every other
operand form is bounded by its type. -/

namespace Sys2Proof

/-- PARAM-WRITE carries from 1 to 16 values (R29); a LENGTH byte error is a byte of 0 or above 250 (R4); only the
centre bolts, 0 and 1, wait for alignment (R84). A byte that spells another request row's action is not a
check of that row: ARM-SERVICE, ZONE-BYPASS and PUMPS fix the action byte by their row. -/
def Instr.wellFormed : Instr → Bool
  | .paramWrite _ values => decide (1 ≤ values.length) && decide (values.length ≤ 16)
  | .lengthByteError b => decide (b.toNat = 0) || decide (250 < b.toNat)
  | .centreBoltAligned b => decide (b.val < 2)
  | _ => true

end Sys2Proof
end

