-- ==== Sys2Proof/Certificates/Slice0/Obligations.lean ====
section
/-! DEFINITION. The statements for the provers. Each says what a command or the machine does, in the terms of the state
and of the shared operations that the meanings use; the docstring names the rules of spec/ it rests on. -/

open Sys2Proof Sys2Proof.Machine

/-! ### The step and the console link -/

/-- The step takes the command at the front of the queue and runs it on the state with the queue's rest. On an empty
queue it is one base tick of 10 ms, which is the model's choice (notes 1, 4, 5 and 10): during start-up and in the run
100 ticks advance the seconds counter by one (its value after the last one is free, note 16, and nothing is said of
it), during start-up an encoder period may end, which is `encoderDue` (R123; note 42), an anemometer interval ends
with the second and the flash goes on, and in the run every timer counts and then each block's due events happen,
block by block. What is due of a block stands with that block's own events. -/
def Obligations.StepRunsFrontCommand : Prop :=
  (∀ (c : Instr) (rest : List Instr) (s : State),
    step { s with pending := c :: rest } = exec c { s with pending := rest }) ∧
  (∀ s : State, s.pending = [] →
    (s.tb.phase = .off → step s = .next s) ∧
    (s.tb.phase = .resetHeld → ∃ t, step s = .next t ∧ { t with rcs := s.rcs, phu := s.phu } = s) ∧
    (s.tb.phase = .startup ∨ s.tb.phase = .run → ∃ t, step s = .next t ∧ t.pending = [] ∧ t.pins = s.pins ∧
      (s.tb.subTick < 99 → t.tb = { s.tb with subTick := s.tb.subTick + 1 }) ∧
      (99 ≤ s.tb.subTick → s.tb.seconds ≠ 0xFFFFFFFF →
        t.tb = { s.tb with subTick := 0, seconds := s.tb.seconds + 1 })) ∧
    (s.tb.phase = .startup →
      let u := encoderDue ((tickFlash s).onTb fun b => b.tick.1)
      step s = .next (flashDue (if 99 ≤ s.tb.subTick then anemoInterval u else u))) ∧
    (s.tb.phase = .run →
      let u := hornDue ((tickFlash (tickTimers s)).onTb fun b => b.tick.1)
      let v := controlDue (encoderDue (lpuDue (roadDue (allZones.foldl zoneDue (allArms.foldl armDue u)))))
      step s = .next (linkDue (provingDue (channelDue (if 99 ≤ s.tb.subTick then secondDue v else v))))))

/-- Every command has a next state, in every state of the part (a refusal of a request is a reply, R11), and leaves
the queue of waiting commands as it is. -/
def Obligations.EveryCommandCompletes : Prop :=
  ∀ (c : Instr) (s : State), ∃ t, exec c s = .next t ∧ t.pending = s.pending

/-- Decode and encode agree on every request of the catalogue (section 1.6): no field of a request is lost. -/
def Obligations.RequestBodiesRoundTrip : Prop :=
  ∀ i : Instr, i.isRequest = true → i.wellFormed = true → decodeBody (encodeBody i) = .command i

/-- The framer takes a well-formed frame byte by byte (R2) and dispatches its body when the check is good (R5, R8):
the bytes of a frame as the part itself would send it, arriving one after another in HUNT. -/
def Obligations.WireFrameIsDispatched : Prop :=
  ∀ (body : List Byte) (s : State), 1 ≤ body.length → body.length ≤ 250 → s.taking = true →
    s.cl.framer = .hunt →
    (wireFrame body).foldl (fun t b => receiveByte b t) s = dispatch body (setFramer .hunt s)

/-- CONSOLE_BYTE_RECEIVED by the framer's state (R2): what each state takes, and the gap timer restarted; a LENGTH
byte of 0 or above 250 is the framing error of R4, and the last CHECK byte completes the frame as FRAME_COMPLETE does.
That the two rows have the same effect as the byte, and none in another framer state, is the model's choice (note 25).
GAP_TIMEOUT discards the frame in progress (R3) and is nothing in HUNT; a tick raises it 20 ms after the last byte
(notes 1 and 4); REPLY_END ends the pending reply (R6). -/
def Obligations.FramerTakesBytes : Prop :=
  (∀ (b : Byte) (s : State), s.running = true →
     (s.cl.framer = .hunt → exec (.consoleByteReceived b) s =
       .next (if b = 0xC3 then { s with cl := { s.cl with framer := .length, gap := 0 } } else s)) ∧
     (s.cl.framer = .length → 1 ≤ b.toNat → b.toNat ≤ 250 → exec (.consoleByteReceived b) s =
       .next { s with cl := { s.cl with framer := .body b.toNat [], gap := 0 } }) ∧
     (∀ n taken, s.cl.framer = .body n taken → exec (.consoleByteReceived b) s =
       .next { s with cl := { s.cl with gap := 0, framer :=
         if taken.length + 1 < n then .body n (taken ++ [b]) else .checkHigh n (taken ++ [b]) } }) ∧
     (∀ n taken, s.cl.framer = .checkHigh n taken → exec (.consoleByteReceived b) s =
       .next { s with cl := { s.cl with framer := .checkLow n taken b, gap := 0 } }) ∧
     (s.cl.framer = .length → b.toNat = 0 ∨ 250 < b.toNat →
       exec (.consoleByteReceived b) s = .next { s with cl := { s.cl with
         framer := .hunt, gap := 0, framingErrors := bump s.cl.framingErrors
         latched := s.cl.latched ||| 0x8000 } } ∧
       exec (.lengthByteError b) s = exec (.consoleByteReceived b) s) ∧
     (s.cl.framer ≠ .length ∨ (1 ≤ b.toNat ∧ b.toNat ≤ 250) → exec (.lengthByteError b) s = .next s) ∧
     (∀ n taken high, s.cl.framer = .checkLow n taken high →
       exec (.frameComplete b) s = exec (.consoleByteReceived b) s) ∧
     ((∀ n taken high, s.cl.framer ≠ .checkLow n taken high) → exec (.frameComplete b) s = .next s)) ∧
  (∀ s : State,
     (s.running = true → s.cl.framer ≠ .hunt → exec .gapTimeout s =
       .next { s with cl := { s.cl with framer := .hunt, gap := 0, timeouts := bump s.cl.timeouts
                                        latched := s.cl.latched ||| 0x8000 } }) ∧
     (s.running = true → s.cl.framer = .hunt → exec .gapTimeout s = .next s) ∧
     (tickTimers s).cl.gap = (if s.cl.framer = .hunt then s.cl.gap else s.cl.gap + 1) ∧
     linkDue s = s.happens (2 ≤ s.cl.gap) .gapTimeout ∧
     exec .replyEnd s = .next { s with cl := { s.cl with reply := none } })

/-- FRAME_COMPLETE with a good check of a request's frame is that request's own row (R2, R5, R8; note 6). A good frame
whose body is no request row is answered by the first check that fails (R8): a code that section 1.6 does not list by
REFUSED UNKNOWN, a length its length column does not allow by REFUSED LENGTH, both before any test of authority; an
action byte above 1 passes the tests of R20 and is then refused RANGE, of ARM-SERVICE with detail 2 (R53) and of
ZONE-BYPASS with detail 2 (R57), but detail 1 where the arm or zone number is out of range, and of PUMPS with detail 1
(R92). Nothing but the reply and the framer changes. That the reply is built in the frame's own step is the model's
choice (note 28). -/
def Obligations.GoodFrameIsItsRequest : Prop :=
  (∀ (i : Instr) (s : State) (high low : Byte), i.isRequest = true → i.wellFormed = true → s.taking = true →
    s.cl.framer = .checkLow (encodeBody i).length (encodeBody i) high →
    of16 high low = crc16 (BitVec.ofNat 8 (encodeBody i).length :: encodeBody i) →
    exec (.frameComplete low) s = exec i { s with cl := { s.cl with framer := .hunt, gap := 0 } }) ∧
  (∀ (code : Byte) (fields : List Byte) (s : State) (high low : Byte), s.taking = true →
    let body := code :: fields
    s.cl.framer = .checkLow body.length body high →
    of16 high low = crc16 (BitVec.ofNat 8 body.length :: body) →
    let u : State := { s with cl := { s.cl with framer := .hunt, gap := 0 } }
    let done := fun (r : Reason) (detail : Nat) =>
      exec (.frameComplete low) s = .next (answer code.toNat (u, .refused r detail))
    let lengths : List (Nat × List Nat) :=
      [(0x01, [1]), (0x02, [1]), (0x03, [1]), (0x10, [6]), (0x11, [1]), (0x12, [1]), (0x13, [3]),
        (0x14, (List.range 16).map fun k => 4 * k + 6), (0x15, [1]), (0x16, [1]), (0x17, [1])] ++
      [(0x20, [1]), (0x21, [1]), (0x22, [1]), (0x23, [2]), (0x24, [3]), (0x25, [3]), (0x30, [2]), (0x31, [1]),
        (0x32, [1, 3]), (0x33, [1]), (0x34, [1]), (0x35, [1]), (0x36, [1]), (0x37, [1])] ++
      [(0x40, [8]), (0x41, [2]), (0x42, [2]), (0x50, [9]), (0x51, [5]), (0x52, [2]), (0x53, [3]), (0x54, [1]),
        (0x55, [1]), (0x56, [3]), (0x57, [1]), (0x60, [5]), (0x61, [1]), (0x70, [1]), (0x71, [2]), (0x72, [1]),
        (0x73, [3])]
    let named := lengths.lookup code.toNat
    (named = none → done .unknown 0) ∧
    (∀ allowed, named = some allowed → body.length ∉ allowed → done .length 0) ∧
    (∀ which action : Byte, fields = [which, action] → 1 < action.toNat →
      code.toNat = 0x24 ∨ code.toNat = 0x25 →
      let outside := if code.toNat = 0x24 then 7 < which.toNat else which.toNat = 0 ∨ 6 < which.toNat
      (s.apu.level.code < Level.maintain.code → done .authority 0) ∧
      (Level.maintain.code ≤ s.apu.level.code → s.apu.frozen = true → done .frozen 0) ∧
      (Level.maintain.code ≤ s.apu.level.code → s.apu.frozen = false →
        (outside → done .range 1) ∧ (¬outside → done .range 2))) ∧
    (∀ action : Byte, fields = [action] → 1 < action.toNat → code.toNat = 0x30 →
      (s.apu.level.code < Level.operate.code → done .authority 0) ∧
      (Level.operate.code ≤ s.apu.level.code → done .range 1)))

/-- The frames the link does not take (R1, R5, R6, R19; note 6): an overrun while a reply is pending, a failed check,
and a frame without a trace while a soft reset waits. The same of a request row that arrives while the link is not
taking. -/
def Obligations.FramesNotTaken : Prop :=
  (∀ (s : State) (n : Nat) (body : List Byte) (high low : Byte), s.running = true →
     s.cl.framer = .checkLow n body high →
     (s.cl.reply.isSome = true → exec (.frameComplete low) s =
       .next { s with cl := { s.cl with framer := .hunt, gap := 0, overruns := bump s.cl.overruns
                                        latched := s.cl.latched ||| 0x8000 } }) ∧
     (s.cl.reply = none → s.apu.restart = true → exec (.frameComplete low) s =
       .next { s with cl := { s.cl with framer := .hunt, gap := 0 } }) ∧
     (s.cl.reply = none → s.apu.restart = false → of16 high low ≠ crc16 (BitVec.ofNat 8 n :: body) →
       exec (.frameComplete low) s =
         .next { s with cl := { s.cl with framer := .hunt, gap := 0, crcErrors := bump s.cl.crcErrors
                                          latched := s.cl.latched ||| 0x8000 } })) ∧
  (∀ (c : Instr) (q : Request) (s : State), catalogue c = some q → s.taking = false →
     exec c s = .next (if s.running && s.cl.reply.isSome then overrun s else s))

/-- R4: a LENGTH byte of 0 or above 250 discards the frame, counts a framing error, latches LINK and returns to HUNT,
leaving no reply; a byte other than SYNC that follows is dropped and a SYNC starts a new frame. -/
def Obligations.LengthByteErrorDiscards : Prop :=
  ∀ (b next : Byte) (s : State), s.running = true → s.cl.framer = .length → (b.toNat = 0 ∨ 250 < b.toNat) →
    ∃ t, exec (.lengthByteError b) s = .next t ∧
      t = { s with cl := { s.cl with framer := .hunt, gap := 0, framingErrors := bump s.cl.framingErrors
                                     latched := s.cl.latched ||| 0x8000 } } ∧
      exec (.consoleByteReceived next) t =
        .next (if next = 0xC3 then { t with cl := { t.cl with framer := .length, gap := 0 } } else t)

/-- The reply's form (R9, R10, R11, R13, section 1.7): header, status snapshot after the request's effects, and data,
none in a refusal. "A refused request changes no state, except where the rule that refuses it states a change" (R8):
every request but LOGON, PARAM-WRITE and JOIN, whose rules state one. That the reply is built in the request's own
step is the model's choice (note 28). -/
def Obligations.RepliesAndRefusals : Prop :=
  (∀ (code : Nat) (s : State) (data : List Byte) (r : Reason) (detail : Nat),
     let snap : List Byte := [BitVec.ofNat 8 s.apu.level.code, BitVec.ofNat 8 s.rcs.road.code,
       BitVec.ofNat 8 s.lmc.leaf.code, BitVec.ofNat 8 s.csu.aspects.seaward.code,
       BitVec.ofNat 8 s.csu.aspects.landward.code, BitVec.ofNat 8 s.psc.batch.state.code,
       s.cl.latched.extractLsb' 8 8, s.cl.latched.extractLsb' 0 8]
     answer code (s, .done data) =
       { s with cl := { s.cl with reply := some ([BitVec.ofNat 8 code, 0, 0, 0] ++ snap ++ data) } } ∧
     answer code (s, .accepted data) =
       { s with cl := { s.cl with reply := some ([BitVec.ofNat 8 code, 1, 0, 0] ++ snap ++ data) } } ∧
     answer code (s, .refused r detail) =
       (let head : List Byte := [BitVec.ofNat 8 code, 2, BitVec.ofNat 8 r.code, BitVec.ofNat 8 detail]
       { s with cl := { s.cl with reply := some (head ++ snap) } })) ∧
  (∀ (c : Instr) (s t : State), c.isRequest = true →
     (∀ l k, c ≠ .logon l k) → (∀ i vs, c ≠ .paramWrite i vs) → (∀ i d k a, c ≠ .join i d k a) →
     s.taking = true → exec c s = .next t → (t.cl.reply.getD [])[1]? = some 2 →
     t = { s with cl := { s.cl with reply := t.cl.reply } })

/-- The authority tests of R20 in their order, for every request row of the catalogue: each refusal is a reply that
changes nothing else, but for the AUTHORITY latch of an EXPIRED logon. -/
def Obligations.AuthorityTestsRefuse : Prop :=
  ∀ (c : Instr) (q : Request) (s : State), catalogue c = some q → s.taking = true →
    (s.apu.level.code < q.level.code →
      exec c s = .next (answer q.code (s, .refused .authority 0))) ∧
    (q.level.code ≤ s.apu.level.code → q.isLogon = true → 5 ≤ s.apu.mismatch →
      exec c s = .next (answer q.code (latch .authority s, .refused .expired 0))) ∧
    (q.level.code ≤ s.apu.level.code → q.isLogon = false → q.frozenBar = true → s.apu.frozen = true →
      exec c s = .next (answer q.code (s, .refused .frozen 0))) ∧
    (q.level.code ≤ s.apu.level.code → q.isLogon = false → (q.frozenBar = true → s.apu.frozen = false) →
      q.busyBar = true → s.apu.commit.isSome = true →
      exec c s = .next (answer q.code (s, .refused .busy 0)))

/-! ### Reports, authority and parameters -/

/-- R18: COUNTERS returns the four link counters as 16-bit fields in the order CRC errors, framing errors, link
timeouts, overruns, as they stand when the reply is built, and clears each to 0; LINK and every other condition stay
latched, and nothing else changes. -/
def Obligations.CountersReadClears : Prop :=
  ∀ s : State, s.taking = true →
    exec .counters s = .next (answer 0x03
      ({ s with cl := { s.cl with crcErrors := 0, framingErrors := 0, timeouts := 0, overruns := 0 } },
        .done (be16 (BitVec.ofNat 16 s.cl.crcErrors) ++ be16 (BitVec.ofNat 16 s.cl.framingErrors) ++
          be16 (BitVec.ofNat 16 s.cl.timeouts) ++ be16 (BitVec.ofNat 16 s.cl.overruns))))

/-- The reading requests (R15 to R17, R28, R56, R77, R120, R125, R135, R147, R148, R170, R171, R185, R193, R195,
R199): each reports its data field by field in the layout its rule gives, and changes nothing but what its rule clears
or restarts; STATUS clears exactly what it returns, so ATTENTION is released. BATCH-READ in NONE shows 0 in every
field but the absent leading side (R171). Fields out of range are refused. That an elapsed time in seconds (step
timer, clear duration, standby, window, changeover, seal) is its base ticks / 100 is the model's reading (note 5,
DEDUCED). A bolt jammed as its stroke started shows the output-on time 0 where the record holds it, its choice (note
41). The model's choices in the layouts: an arm's full mark reads 0 at rest, the horn's time is rounded up and
LEAF-READ tests ESTOP, DECK, POSITION and PRESSURE in every leaf state (note 27), SKEW not while a leaf is LOST (note
38), and a reply shows what stands at the end of its request's step (note 28). The codes of each named value are
listed in the order of its table. -/
def Obligations.ReadsReport : Prop :=
  let n1 : Nat → List Byte := fun n => [BitVec.ofNat 8 n]
  let n2 : Nat → List Byte := fun n => be16 (BitVec.ofNat 16 n)
  let z2 : Int → List Byte := fun n => be16 (BitVec.ofInt 16 n)
  let bit : Bool → List Byte := fun b => [BitVec.ofNat 8 b.toNat]
  let side : Option Side → List Byte := fun d => match d with | none => [0xFF] | some .seaward => [0] | some .landward => [1]
  let time : Option Word → List Byte := fun t => be32 (t.getD 0)
  let number : Option (Fin 16) → List Byte := fun c => match c with | none => [0xFF] | some c => [BitVec.ofNat 8 c.val]
  (∀ s : State, s.taking = true →
     (∃ t, exec .status s = .next t ∧
       t = answer 0x02 ({ s with cl := { s.cl with latched := 0 } }, .done (be16 s.cl.latched)) ∧
       t.attention = false) ∧
     exec .identify s = .next (answer 0x01 (s, .done ([0x0D, 0x5C, 0x02, 0x20, 3] ++ be32 s.tb.seconds ++
       [BitVec.ofNat 8 s.apu.record.storeInvalid.toNat, BitVec.ofNat 8 s.apu.record.straps,
         BitVec.ofNat 8 s.apu.record.encoders, BitVec.ofNat 8 s.apu.record.fieldSupply.toNat])))) ∧
  (∀ (s : State) (start count : Byte), s.taking = true →
     (63 < start.toNat → exec (.paramRead start count) s = .next (answer 0x13 (s, .refused .range 1))) ∧
     (start.toNat ≤ 63 → (count.toNat = 0 ∨ 16 < count.toNat ∨ 64 < start.toNat + count.toNat) →
       exec (.paramRead start count) s = .next (answer 0x13 (s, .refused .range 2))) ∧
     (start.toNat ≤ 63 → 1 ≤ count.toNat → count.toNat ≤ 16 → start.toNat + count.toNat ≤ 64 →
       ∃ values : List Byte, exec (.paramRead start count) s = .next (answer 0x13 (s, .done ([start, count,
           (match s.apu.storeStatus with | .valid => 0 | .invalid => 1 | .writeFailed => 2)] ++
           bit s.apu.commit.isSome ++ bit s.apu.modified ++ bit s.apu.frozen ++ n1 s.apu.mismatch ++ values))) ∧
         values.length = 4 * count.toNat ∧
         (∀ k, k < count.toNat → ∀ h : start.toNat + k < 64, (values.drop (4 * k)).take 4 =
           be32 (BitVec.ofNat 32 (if start.toNat + k < 62 then s.apu.table[start.toNat + k] else 0))))) ∧
  (∀ s : State, s.taking = true →
     let m := s.lmc.motion
     let leaf : Leaf → List Byte := fun l =>
       let d := m.leaves.get l
       z2 (s.msu.angles.get l).angle ++ z2 d.reference ++ n2 d.vPrev ++ bit d.arrived ++
         bit (decide (d.reference ≠ 0)) ++ bit (s.lpu.seats.get l).made
     let bolt : Bolt → List Byte := fun r =>
       let stroke := decide (r.state = .withdrawing ∨ r.state = .driving)
       n1 r.state.code ++ n1 (boltCauseCode r.cause) ++ n1 r.last.code ++ bit r.full ++
         n2 (if stroke then r.timeout else 0xFFFF) ++ n2 (if stroke then r.elapsed / 10 else 0xFFFF) ++
         n2 (match r.outputOn with | none => 0xFFFF | some t => t / 10)
     let pump : Pump → List Byte := fun p => n1 p.state.code ++
       n2 (if p.state = .starting then p.limitElapsed / 10 else 0) ++ n2 (p.hold.getD 0 / 10)
     let data : List Byte :=
       n1 s.lmc.leaf.code ++ n1 (tripCode s.lmc.trip) ++
         n1 (s.pins.estop.toNat + 2 * s.leafZoneOccupied.toNat + 4 * s.skewTrip.toNat +
           8 * s.positionLost.toNat + 16 * s.pumpFault.toNat + 32 * s.driftTrip.toNat) ++
         (if m.present then [1] ++ n1 m.direction.code ++ n1 m.source.code ++ n1 m.halt.code ++
             bit m.derateFixed ++ bit m.awaitingPumps else [0, 0, 0, 0, 0, 0]) ++
         n2 m.target ++ n2 m.tf ++ n2 m.vc ++ n2 m.vk ++ n1 m.r ++ n2 m.b ++ n2 m.bs ++ n1 m.w ++ n2 m.sDead ++
         n2 m.sTrip ++ n1 m.commitFraction ++ n2 m.driftLimit ++ be32 m.startTime ++
         n1 (if m.derateFixed then 40 else s.msu.wind.pct) ++
         z2 (s.msu.angles.north.angle - s.msu.angles.south.angle) ++ leaf .north ++ leaf .south ++
         s.lpu.bolts.toList.flatMap bolt ++ n1 s.lpu.seqKind.code ++ n1 s.lpu.seqStep.code ++
         pump s.lpu.pumps.north ++ pump s.lpu.pumps.south ++
         bit s.lpu.standby.isSome ++ n2 (s.lpu.standby.getD 0 / 100)
     data.length = 110 ∧ exec .leafRead s = .next (answer 0x36 (s, .done data))) ∧
  (∀ s : State, s.taking = true →
     let encoder : Encoder → List Byte := fun e => n1 e.state.code ++ n1 e.run ++ n1 e.cause.code ++
       be16 (e.last.getD 0x8000) ++ bit e.validSinceRead ++ n2 e.frameErrors
     let angle : LeafAngle → List Byte := fun a =>
       z2 a.angle ++ n1 a.source.code ++ bit a.disagree ++ n1 a.run ++ z2 a.difference
     let w := s.msu.wind
     let data : List Byte := s.msu.encoders.toList.flatMap encoder ++ angle s.msu.angles.north ++
       angle s.msu.angles.south ++ bit w.known ++
       (match w.band with | none => [0xFF] | some .below => [0] | some .derate => [1] | some .stop => [2]) ++
       n2 w.w ++ n1 w.pct ++ n1 w.window.length ++ n2 (w.window[0]?.getD 0) ++ n2 (w.window[1]?.getD 0) ++
       n2 (w.window[2]?.getD 0) ++ n2 (min 65535 w.window.sum) ++ n2 w.interval
     data.length = 62 ∧ exec .measureRead s = .next (answer 0x37
       ({ s with msu := { s.msu with
           encoders := s.msu.encoders.map fun e => { e with frameErrors := 0, validSinceRead := true } } },
         .done data))) ∧
  (∀ s : State, s.taking = true →
     let r := s.rcs
     let arm : Arm → List Byte := fun a =>
       let stroke := decide (a.state = .lowering ∨ a.state = .raising)
       n1 a.state.code ++ n1 (armCauseCode a.cause) ++ n1 a.last.code ++ n1 a.obstructions ++
         bit a.relowerPending ++ bit a.displaced ++ bit a.upLost ++ bit (stroke && a.full) ++
         n2 (if stroke then a.timeout else 0) ++ n2 (if stroke then a.elapsed / 10 else 0)
     let zone : Zone → List Byte := fun z =>
       n1 (if z.fault then 2 else if z.filtered then 1 else 0) ++ bit z.bypassed ++ bit z.counted ++
         n2 (if z.counted then 0 else min 65535 (z.clearTicks / 100)) ++ bit z.occupiedSinceRead
     let data : List Byte := n1 r.road.code ++ n1 r.stepTimer.code ++
       n2 (if r.stepTimer = .none then 0 else r.stepElapsed / 100) ++ bit r.entryLowering ++ bit r.entryRaising ++
       bit r.limitPassed ++ bit r.deckClear ++ bit (decide (r.road = .prewarn)) ++ bit (decide (r.road ≠ .opened)) ++
       bit s.bells ++ n2 r.capPrewarn ++ n2 r.capEntryDelay ++ n2 r.capClearDwell ++ n2 r.capClearanceLimit ++
       n2 r.capRunOn ++ time r.openTime ++ bit r.openTime.isSome ++ bit (decide (s.intervalRemaining = 0)) ++
       s.bzu.arms.toList.flatMap arm ++ s.bzu.zones.toList.flatMap zone
     data.length = 159 ∧ exec .roadRead s = .next (answer 0x22
       ({ s with bzu := { s.bzu with
           zones := s.bzu.zones.map fun z => { z with occupiedSinceRead := false } } }, .done data))) ∧
  (∀ s : State, s.taking = true →
     let circuit : Circuit → List Byte := fun c =>
       bit c.failed ++ n1 c.lastResult.code ++ n1 c.lastMethod.code ++ bit c.failedSinceRead
     let health : Health → List Byte := fun h => n1 h.value ++ bit h.worn ++ n2 h.samples ++
       (match h.ratio with | none => [0xFF] | some r => n1 (r / 2))
     let circuits : List Byte := n1 s.phu.index.val ++ n2 s.phu.counter ++
       number (s.phu.proving.map (·.circuit)) ++ number s.testCircuit ++ s.phu.circuits.toList.flatMap circuit
     let healths : List Byte := n1 (s.par pArmThreshold) ++ n1 (s.par pBoltThreshold) ++ n1 (s.par pArmFlag) ++
       n1 (s.par pBoltFlag) ++ s.phu.health.toList.flatMap health
     circuits.length = 69 ∧ healths.length = 64 ∧
     exec .circuitRead s = .next (answer 0x70
       ({ s with phu := { s.phu with
           circuits := s.phu.circuits.map fun c => { c with failedSinceRead := c.failed } } }, .done circuits)) ∧
     exec .healthRead s = .next (answer 0x72 (s, .done healths))) ∧
  (∀ s : State, s.taking = true →
     let turn : Side → List Byte := fun d =>
       let t := s.csu.sides.get d
       n1 t.status.code ++ n1 (endCauseCode t.cause) ++ time t.goStart ++ time t.goEnd ++ n1 t.passed ++
         n1 (s.psc.batch.items.filter fun i => i.side = d && i.outcome = .called).length
     let timer : Option Nat → List Byte := fun t => n2 (min 65535 (t.getD 0 / 100))
     let data : List Byte := n1 (s.aspect .seaward).code ++ n1 (s.aspect .landward).code ++ n1 s.csu.phase.code ++
       side s.csu.current ++ bit s.csu.sealed ++ turn .seaward ++ turn .landward ++ timer s.csu.window ++
       timer s.csu.changeover ++ timer s.csu.sealTimer ++ n1 ((s.csu.horn + 9) / 10) ++ n2 s.csu.violations ++
       n2 s.csu.batchNumber ++ n1 s.csu.result.code
     data.length = 41 ∧ exec .channelRead s = .next (answer 0x61
       ({ s with csu := { s.csu with violations := 0 } }, .done data))) ∧
  (∀ s : State, s.taking = true →
     let b := if s.psc.batch.state = .none then Batch.reset else s.psc.batch
     let item : Item → List Byte := fun i => n1 i.slot.val ++ be32 i.identity ++ side (some i.side) ++
       n1 i.cls.val ++ n2 i.contribution ++ n1 i.outcome.code
     let data : List Byte := n2 b.number ++ n1 b.state.code ++ side b.leading ++ n1 b.size ++ n2 b.tf ++ n2 b.tmin ++
       n2 b.angle ++ time b.formedAt ++ time b.raisedAt ++ time b.firstGoAt ++ time b.closedAt ++
       n1 (b.formedAt.isSome.toNat + 2 * b.raisedAt.isSome.toNat + 4 * b.firstGoAt.isSome.toNat +
         8 * b.closedAt.isSome.toNat) ++ n1 b.remaining ++ n1 b.items.length ++
       n1 (b.tideWasStale.toNat + 2 * b.tableWasInvalid.toNat) ++ n1 b.extensions ++
       n2 (if b.state = .none then 0 else s.intervalRemaining) ++
       bit (decide (b.state = .formed) && b.items.any fun i => i.cls = 0) ++ b.items.flatMap item
     (s.psc.batch.state = .none → data = List.replicate 3 0 ++ [255] ++ List.replicate 31 0) ∧
     data.length = 35 + 10 * b.items.length ∧ exec .batchRead s = .next (answer 0x57 (s, .done data))) ∧
  (∀ (s : State) (d c : Byte), s.taking = true →
     (1 < d.toNat → exec (.queueRead d c) s = .next (answer 0x56 (s, .refused .range 1))) ∧
     (d.toNat ≤ 1 → 3 < c.toNat → exec (.queueRead d c) s = .next (answer 0x56 (s, .refused .range 2))) ∧
     (∀ q : Fin 8, d.toNat ≤ 1 → c.toNat ≤ 3 → q.val = 4 * d.toNat + c.toNat →
       let data : List Byte := [d, c] ++ n1 (s.queue q).length ++ n1 s.pool ++
         n1 (s.queue 0).length ++ n1 (s.queue 1).length ++ n1 (s.queue 2).length ++ n1 (s.queue 3).length ++
         n1 (s.queue 4).length ++ n1 (s.queue 5).length ++ n1 (s.queue 6).length ++ n1 (s.queue 7).length ++
         n1 s.psc.floor ++ be32 s.psc.joinSeq ++ n2 s.psc.refused ++ n2 s.psc.displaced ++ z2 s.psc.tide.level ++
         (if s.psc.tide.present then be32 s.psc.tide.time else [0, 0, 0, 0]) ++ bit s.psc.tide.present ++
         bit s.tideStaleNow ++ (s.queue q).flatMap fun e => s.vesselRecord e.slot
       exec (.queueRead d c) s = .next (answer 0x56
         ({ s with psc := { s.psc with refused := 0, displaced := 0 } }, .done data)))) ∧
  (∀ (s : State) (cursor : Byte), s.taking = true →
     (31 < cursor.toNat → exec (.vesselRead cursor) s = .next (answer 0x41 (s, .refused .range 1))) ∧
     (cursor.toNat ≤ 31 →
       let found := ((List.finRange 32).filter fun k => cursor.toNat ≤ k.val && (s.vessel k).isSome).take 4
       let ends : List Byte := match found[3]? with
         | none => [0, 1]
         | some k => if k.val = 31 then [0, 1] else [BitVec.ofNat 8 (k.val + 1), 0]
       let data : List Byte := [cursor] ++ ends ++ n1 found.length ++
         n1 ((List.finRange 32).filter fun k => (s.vessel k).isSome).length ++ be32 s.vt.change ++
         be32 (BitVec.ofNat 32 (s.tb.seconds.toNat / 16)) ++ n1 (16 - s.tb.seconds.toNat % 16) ++
         n2 s.vt.lapsed ++ n2 s.vt.replaced ++ found.flatMap s.vesselRecord
       exec (.vesselRead cursor) s = .next (answer 0x41
         (if cursor.toNat = 0 then { s with vt := { s.vt with lapsed := 0, replaced := 0 } } else s, .done data)))) ∧
  (∀ (s : State) (k : Fin 32) (v : Vessel), s.vessel k = some v →
     let head : List Byte := n1 k.val ++ be32 v.identity ++ side (some v.side) ++ n2 (v.air.getD 0) ++ n1 v.life ++
       n1 v.state.code
     ((∀ q : Fin 8, ∀ e ∈ s.queue q, e.slot ≠ k) →
       s.vesselRecord k = head ++ [0xFF, 0xFF, 0, 0, 0, 0, 0, 0, 0, 0]) ∧
     (∀ (q : Fin 8) (i : Nat) (e : QueueEntry), (s.queue q)[i]? = some e → e.slot = k →
       (∀ r : Fin 8, r.val < q.val → ∀ x ∈ s.queue r, x.slot ≠ k) →
       (∀ j x, j < i → (s.queue q)[j]? = some x → x.slot ≠ k) →
       s.vesselRecord k = head ++ n1 (q.val % 4) ++ n1 i ++ be32 e.seq ++ be32 e.time)) ∧
  ([LeafState.seatedLocked, .unlocking, .raising, .raised, .lowering, .locking, .halted, .tripped].map
       LeafState.code = [0, 1, 2, 3, 4, 5, 6, 7] ∧
     [none, some TripCause.estop, some .deck, some .skew, some .position, some .pressure, some .drift].map
       tripCode = [0, 1, 2, 3, 4, 5, 6] ∧
     [Direction.raise, .lower].map Direction.code = [1, 2] ∧
     [TargetSource.batch, .explicit, .seat, .reversal].map TargetSource.code = [1, 2, 3, 4] ∧
     [Halt.none, .stop, .breach, .disagree, .restart, .wind].map Halt.code = [0, 1, 2, 3, 4, 5] ∧
     [BoltState.driven, .withdrawing, .withdrawn, .driving, .jammed].map BoltState.code = [0, 1, 2, 3, 4] ∧
     [none, some BoltCause.timeout, some .switchConflict, some .misaligned, some .noPosition, some .estop].map
       boltCauseCode = [0, 1, 2, 3, 4, 5] ∧
     [BoltStroke.none, .withdraw, .drive].map BoltStroke.code = [0, 1, 2] ∧
     [SeqKind.none, .withdraw, .drive].map SeqKind.code = [0, 1, 2] ∧
     [SeqStep.centre, .heel].map SeqStep.code = [0, 1] ∧
     [PumpState.stopped, .starting, .ready, .fault].map PumpState.code = [0, 1, 2, 3] ∧
     [EncoderState.valid, .suspect, .lost].map EncoderState.code = [0, 1, 2] ∧
     [EncoderCause.none, .silent, .check, .range].map EncoderCause.code = [0, 1, 2, 3] ∧
     [AngleSource.primary, .check, .held, .lost].map AngleSource.code = [0, 1, 2, 3]) ∧
  ([RoadState.opened, .prewarn, .stopping, .clearing, .securing, .secured, .breached, .reopening, .unknown].map
       RoadState.code = [0, 1, 2, 3, 4, 5, 6, 7, 8] ∧
     [StepTimer.none, .prewarn, .entryDelay, .clearanceLimit, .runOn].map StepTimer.code = [0, 1, 2, 3, 4] ∧
     [ArmState.up, .lowering, .down, .raising, .stalled, .outOfService].map ArmState.code = [0, 1, 2, 3, 4, 5] ∧
     [none, some ArmCause.timeout, some .obstructed, some .limitConflict, some .estop, some .noLimit].map
       armCauseCode = [0, 1, 2, 3, 4, 5] ∧
     [ArmStroke.none, .lower, .raise].map ArmStroke.code = [0, 1, 2] ∧
     [ProvingResult.none, .normal, .opened, .overload, .short, .testVoid].map ProvingResult.code =
       [0, 1, 2, 3, 4, 5] ∧
     [ProvingMethod.none, .current, .pulse].map ProvingMethod.code = [0, 1, 2] ∧
     [Aspect.stop, .standby, .go].map Aspect.code = [0, 1, 2] ∧
     [TurnPhase.idle, .turn, .changeover, .ended].map TurnPhase.code = [0, 1, 2, 3] ∧
     [TurnStatus.notYet, .go, .done, .skipped].map TurnStatus.code = [0, 1, 2, 3] ∧
     [none, some EndCause.noCalled, some .window, some .greens, some .withdrawn, some .closed].map endCauseCode =
       [0, 1, 2, 3, 4, 5] ∧
     [TurnsResult.none, .turnsEnded, .goWithdrawn, .signalDefect].map TurnsResult.code = [0, 1, 2, 3] ∧
     [BatchState.none, .formed, .running, .closing, .closed].map BatchState.code = [0, 1, 2, 3, 4] ∧
     [ItemOutcome.called, .passed, .withdrawn, .returned].map ItemOutcome.code = [0, 1, 2, 3] ∧
     [VesselState.sighted, .waiting, .called, .passed].map VesselState.code = [0, 1, 2, 3])

/-- LOGON as the APU decides it, in the order of R21: the level byte, the strap and the store (R23), a code of 0, the
comparison, and the mismatch count (R22). A refusal keeps the level. That the two fields of the reply, the level and
the count, are one byte each is the model's choice (note 27). -/
def Obligations.LogonOutcomes : Prop :=
  ∀ (level : Byte) (code : Word) (s : State), s.allows logonRequest →
    (level ≠ 1 → level ≠ 2 → exec (.logon level code) s = .next (answer 0x10 (s, .refused .range 1))) ∧
    ((level = 2 ∧ s.apu.straps.maintEn = false) ∨ (level = 1 ∧ s.par pOperatorCode = 0) ∨
        (level = 2 ∧ s.apu.storeStatus ≠ .invalid ∧ s.par pMaintainerCode = 0) →
      exec (.logon level code) s = .next (answer 0x10 (latch .authority s, .refused .authority 0))) ∧
    (level = 1 → s.par pOperatorCode ≠ 0 → code.toNat = s.par pOperatorCode →
      exec (.logon level code) s = .next (answer 0x10
        (latch .authority { s with apu := { s.apu with level := .operate, mismatch := 0 } }, .done [1, 0]))) ∧
    (level = 2 → s.apu.straps.maintEn = true → (s.apu.storeStatus = .invalid ∨
        (s.par pMaintainerCode ≠ 0 ∧ code.toNat = s.par pMaintainerCode)) →
      exec (.logon level code) s = .next (answer 0x10
        (latch .authority { s with apu := { s.apu with level := .maintain, mismatch := 0 } }, .done [2, 0]))) ∧
    ((level = 1 ∧ s.par pOperatorCode ≠ 0 ∧ code.toNat ≠ s.par pOperatorCode) ∨
        (level = 2 ∧ s.apu.straps.maintEn = true ∧ s.apu.storeStatus ≠ .invalid ∧ s.par pMaintainerCode ≠ 0 ∧
          code.toNat ≠ s.par pMaintainerCode) →
      exec (.logon level code) s = .next (answer 0x10
        (latch .authority { s with apu := { s.apu with mismatch := s.apu.mismatch + 1 } }, .refused .mismatch 0)))

/-- R24: LOGOFF at any level sets the level to VIEW and replies DONE with no data; it keeps the mismatch count and the
frozen mark, latches nothing, and leaves every operation under way as it is. -/
def Obligations.LogoffSetsView : Prop :=
  ∀ s : State, s.taking = true →
    exec .logoff s = .next (answer 0x11 ({ s with apu := { s.apu with level := .view } }, .done []))

/-- FREEZE sets the frozen mark and latches AUTHORITY where it was clear (R25). While the mark is set no command but
POWER_ON and the end of a hard reset clears it; none but those and a soft reset, which reloads a frozen table too
(R39), changes the working table, and none starts a commit. The marks of the configuration hold as well: but for the
commands that reset the part, no command changes which arms are OUT_OF_SERVICE or bypasses a zone, and a bypass ends
only as the road becomes OPEN (R58). A tick changes nothing of the authority record, and these marks no further than
that. -/
def Obligations.FreezeHoldsConfiguration : Prop :=
  let marks : State → State → Prop := fun s t =>
    (∀ a : Fin 8, (t.arm a).state = .outOfService ↔ (s.arm a).state = .outOfService) ∧
    (∀ z : Fin 6, ((t.zone z).bypassed = true → (s.zone z).bypassed = true) ∧
      ((s.zone z).bypassed = true → (t.zone z).bypassed = false → t.rcs.road = .opened ∧
        (s.rcs.road ≠ .opened ∨ s.rcs.stepTimer = .runOn)))
  (∀ s : State, s.allows (maintainRequest 0x12) →
    exec .freeze s = .next (answer 0x12
      (latchIf (!s.apu.frozen) .authority { s with apu := { s.apu with frozen := true } }, .done []))) ∧
  (∀ (c : Instr) (s t : State), s.apu.frozen = true → exec c s = .next t →
    (∀ p f, c ≠ .powerOn p f) → (∀ p f, c ≠ .hardResetRelease p f) →
    t.apu.frozen = true ∧
    (c ≠ .softResetEffect → t.apu.table = s.apu.table ∧ (∀ x, t.apu.commit = some x → s.apu.commit = some x)) ∧
    (c ≠ .supplyLoss → c ≠ .hardResetAssert → c ≠ .startupEnd → c ≠ .softResetEffect → marks s t)) ∧
  (∀ s t : State, s.pending = [] → step s = .next t → t.apu = s.apu ∧ marks s t)

/-- PARAM-WRITE (R26, R29): the values are offered in index order, those before the first unacceptable one are
written, and the reply is DONE or RANGE with the index refused. A written value reaches its block as R27 says: most
act at their capture points alone; the mask copy follows index 61 (R16); indices 57 to 60 re-evaluate the WORN marks
of their class, latching HEALTH for a newly set one (R198); 25 to 27 judge the wind anew (R134); 35 the tide's
staleness, latching PARAMETER where it becomes stale (R159); 10 and 30 to 32 act on the running timers of standby,
changeover, window and seal, which expire where the new period is already reached. PARAM-DEFAULTS loads indices 0 to
61 and keeps the codes (R30), and the mask, the marks, the wind, the tide and the running timers follow. Of the APU
nothing but the table and the modified mark changes. PARAM-COMMIT begins the write of the table (R32); its end makes
the store VALID or WRITE_FAILED, latches PARAMETER and never changes the working table (R33). That those four timers,
and the defaults of 600, 900, 60 and 30 s, are compared with 100 base ticks a second is the model's reading (note 5,
DEDUCED). The model's choices: the count and the store status in the replies are one byte each (note 27), the end of
the commit carries whether its read-back is good (note 23), and a failed one leaves the modified mark as it is (note
29). -/
def Obligations.ParameterWritesAndCommit : Prop :=
  (∀ s : State,
     (∀ (start : Byte) (v : Word) (vs : List Word), s.allows (tableRequest 0x14) →
       (∀ h : start.toNat < 64, acceptable s.apu.table ⟨start.toNat, h⟩ v.toNat = false →
         exec (.paramWrite start (v :: vs)) s = .next (answer 0x14 (s, .refused .range start.toNat))) ∧
       (64 ≤ start.toNat →
         exec (.paramWrite start (v :: vs)) s = .next (answer 0x14 (s, .refused .range start.toNat))) ∧
       (∀ h : start.toNat < 64, acceptable s.apu.table ⟨start.toNat, h⟩ v.toNat = true →
         ∃ t u verdict, exec (.paramWrite start [v]) s = .next (answer 0x14 (t, .done [1])) ∧
           t.apu = { s.apu with table := s.apu.table.set start.toNat v.toNat, modified := true } ∧
           exec (.paramWrite start (v :: vs)) s = .next (answer 0x14 (u, verdict)) ∧
           (u, verdict) = (match writeValues (start.toNat + 1) vs t with
             | (w, none) => (w, .done [BitVec.ofNat 8 (vs.length + 1)])
             | (w, some i) => (w, .refused .range i)))) ∧
     (s.allows (tableRequest 0x16) →
       ∃ t, exec .paramDefaults s = .next (answer 0x16 (t, .done [])) ∧
         t.apu = { s.apu with
           table := Vector.ofFn fun i : Fin 64 => if i.val < 62 then defaultTable[i] else s.apu.table[i]
           modified := true } ∧
         t.cl.mask = 65535 ∧ (∀ n : Fin 12, t.phu.health[n].worn = t.wornCondition n) ∧
         (s.par pTideValidity ≠ 1800 → t.psc.tide.stale = t.tideStaleNow) ∧
         (s.par 10 ≠ 600 → s.lpu.standby.any (60000 ≤ ·) = true → t.lpu.standby = none) ∧
         (s.par 31 ≠ 900 → s.csu.phase = .turn → s.csu.current ≠ none → s.csu.window.any (90000 ≤ ·) = true →
           s.csu.changeover = none → t.csu.window = none) ∧
         (s.par 30 ≠ 60 → s.csu.phase = .changeover → s.csu.current ≠ none → s.csu.changeover.any (6000 ≤ ·) = true →
           s.csu.window = none → t.csu.changeover = none) ∧
         (s.par 32 ≠ 30 → t.csu.sealed = t.csu.sealTimer.any (3000 ≤ ·)) ∧
         (s.par pAnemoFactor ≠ 75 ∨ s.par pDerateLimit ≠ 120 ∨ s.par pStopLimit ≠ 200 →
           let old := s.msu.wind
           let value := if old.window.length = 3 then min 999 (old.window.sum * 75 / 30) else old.w
           t.msu.wind = ({ old with w := value } : Wind).judge 120 200))) ∧
  (∀ (start : Byte) (v : Word) (s : State), s.allows (tableRequest 0x14) →
     ∀ h : start.toNat < 64, acceptable s.apu.table ⟨start.toNat, h⟩ v.toNat = true →
     let i := start.toNat
     let u : State := { s with apu := { s.apu with table := s.apu.table.set i v.toNat, modified := true } }
     ∃ t, exec (.paramWrite start [v]) s = .next (answer 0x14 (t, .done [1])) ∧
       (i ∉ [10, 25, 26, 27, 30, 31, 32, 35, 57, 58, 59, 60, 61] → t = u) ∧
       (i = 61 → t = { u with cl := { u.cl with mask := BitVec.ofNat 16 v.toNat } }) ∧
       (i = 57 ∨ i = 58 ∨ i = 59 ∨ i = 60 →
         let member : Fin 12 → Bool := fun n => if i = 57 ∨ i = 59 then decide (n.val < 8) else decide (8 ≤ n.val)
         let fresh := ∃ n, member n ∧ u.wornCondition n = true ∧ u.worn n = false
         let latched := if fresh then u.cl.latched ||| 0x1000 else u.cl.latched
         let health := Vector.ofFn fun n : Fin 12 =>
           if member n then { u.phu.health[n] with worn := u.wornCondition n } else u.phu.health[n]
         t = { u with cl := { u.cl with latched := latched }, phu := { u.phu with health := health } }) ∧
       (i = 25 ∨ i = 26 ∨ i = 27 →
         let old := u.msu.wind
         let value := if old.window.length = 3 then min 999 (old.window.sum * u.par pAnemoFactor / 30) else old.w
         let new := ({ old with w := value } : Wind).judge (u.par pDerateLimit) (u.par pStopLimit)
         let x := latchIf (decide (new.band ≠ old.band ∨ new.known ≠ old.known)) .wind
           { u with msu := { u.msu with wind := new } }
         t = (if (new.known = false ∨ new.band = some .stop) ∧ ¬(old.known = false ∨ old.band = some .stop) then
           reportWind x else x)) ∧
       (i = 35 →
         let stale := !u.psc.tide.present || decide (v.toNat < (u.tb.seconds - u.psc.tide.time).toNat)
         t = latchIf (stale && !u.psc.tide.stale) .parameter
           { u with psc := { u.psc with tide := { u.psc.tide with stale := stale } } }) ∧
       (i = 10 → t = (if v = 0 then { u with lpu := { u.lpu with standby := none } }
         else u.happens (u.lpu.standby.any (100 * v.toNat ≤ ·)) .standbyExpiry)) ∧
       (i = 30 → t = u.happens (u.csu.changeover.any (100 * v.toNat ≤ ·)) .changeoverExpiry) ∧
       (i = 31 → t = u.happens (u.csu.window.any (100 * v.toNat ≤ ·)) .passageWindowExpiry) ∧
       (i = 32 → t = (if u.csu.sealTimer.any (100 * v.toNat ≤ ·) then u.happens (!u.csu.sealed) .channelSealed
         else { u with csu := { u.csu with sealed := false } }))) ∧
  (∀ s : State,
     (s.allows (tableRequest 0x15) → exec .paramCommit s = .next (answer 0x15
       ({ s with apu := { s.apu with commit := some s.apu.table } },
         .accepted [BitVec.ofNat 8 s.apu.storeStatus.code]))) ∧
     (s.running = true → ∀ t, s.apu.commit = some t →
       exec (.commitEnd true) s = .next (latch .parameter { s with apu := { s.apu with
         commit := none, store := .image t (crc16 (tableBytes t)), storeStatus := .valid, modified := false } }) ∧
       exec (.commitEnd false) s = .next (latch .parameter { s with apu := { s.apu with
         commit := none, store := .broken, storeStatus := .writeFailed } })) ∧
     (∀ good, s.apu.commit = none → exec (.commitEnd good) s = .next s))

/-- RESTART (R38): refused STORE while the store is not usable, else accepted, and a motion begins its controlled
halt, which ends at once where both references are 0 (R113). -/
def Obligations.RestartBeginsHalt : Prop :=
  ∀ s : State, s.allows (operateRequest 0x17) →
    (s.apu.storeStatus ≠ .valid → exec .restart s = .next (answer 0x17 (s, .refused .store 0))) ∧
    (s.apu.storeStatus = .valid → s.lmc.leaf ≠ .raising → s.lmc.leaf ≠ .lowering →
      exec .restart s = .next (answer 0x17 ({ s with apu := { s.apu with restart := true } }, .accepted []))) ∧
    (s.apu.storeStatus = .valid → (s.lmc.leaf = .raising ∨ s.lmc.leaf = .lowering) →
      ¬(s.lmc.motion.leaves.north.reference = 0 ∧ s.lmc.motion.leaves.south.reference = 0) →
      exec .restart s = .next (answer 0x17
        ({ s with apu := { s.apu with restart := true }
                  lmc := { s.lmc with motion := { s.lmc.motion with halt := .restart } } }, .accepted []))) ∧
    (s.apu.storeStatus = .valid → (s.lmc.leaf = .raising ∨ s.lmc.leaf = .lowering) →
      s.lmc.motion.leaves.north.reference = 0 → s.lmc.motion.leaves.south.reference = 0 →
      exec .restart s = .next (answer 0x17
        (latch .leaf { s with
          apu := { s.apu with restart := true }
          lpu := { s.lpu with standby := none }
          lmc := { s.lmc with leaf := .halted
                              motion := { s.lmc.motion with halt := .none, awaitingPumps := false } } },
          .accepted [])))

/-- While a RESTART waits no new work begins (R38), in any command and in any tick, whatever work is still under way:
an arm that lowers lowered before, one that raises raised before or is the lowering arm that its obstruction edge has
just reversed, a bolt that withdraws or drives did so before, the leaves raise or lower only as they did, and a commit
is the one that was under way with the table it took. Where no stroke, motion or commit is under way, none is after
any command. -/
def Obligations.RestartBarsNewWork : Prop :=
  (∀ (c : Instr) (s t : State), s.apu.restart = true → s.atEase = true → exec c s = .next t → t.atEase = true) ∧
  (∀ s t : State, s.apu.restart = true → step s = .next t →
    (∀ a : Fin 8,
      ((t.arm a).state = .lowering → (s.arm a).state = .lowering) ∧
      ((t.arm a).state = .raising → (s.arm a).state = .raising ∨
        ((s.arm a).state = .lowering ∧ s.pending.head? = some (.obstructionEdgeActive a)))) ∧
    (∀ b : Fin 4,
      ((t.bolt b).state = .withdrawing → (s.bolt b).state = .withdrawing) ∧
      ((t.bolt b).state = .driving → (s.bolt b).state = .driving)) ∧
    (t.lmc.leaf = .raising → s.lmc.leaf = .raising) ∧
    (t.lmc.leaf = .lowering → s.lmc.leaf = .lowering) ∧
    (∀ x, t.apu.commit = some x → s.apu.commit = some x))

/-! ### Supply, RESET and start-up -/

/-- SUPPLY_LOSS and HARD_RESET_ASSERT cut all work (R32, R35): what they keep is the inputs, the straps, the start-up
record, the health records and the store, which a commit under way leaves broken; everything volatile is cold. What
the cold blocks hold, arms STALLED NO_LIMIT, leaves TRIPPED with POSITION, bolts JAMMED, timings of the default table
and zeros, is the model's choice of reset values (note 7). POWER_ON and HARD_RESET_RELEASE begin start-up (R36): the
straps are sampled, the table is loaded from a store that checks, else from the defaults (R31), the level is VIEW, the
count 0, the freeze cleared, the time from 0; POWER_ON starts the health records afresh (R200). Outside the run (R35)
no motor, bolt, pump or leaf is driven, no brake released, amber, bells, the horn and ATTENTION are off; while the
supply is up the road reds follow the flash, the channel reds are lit steady and the channel greens dark. In the run
every output is fixed by the state: arm motors (R40), road signals and bells (R61, R62), bolts (R80), pumps (R90),
references and brakes (R98), channel lamps (R174), horn (R181) and the circuits of R188; that they hold nothing of
their own is the model's reading (note 24). The model's choices: a POWER_ON in any phase means that the supply fell
first and a commit under way left the store broken (note 2), it begins start-up whether or not RESET was asserted, no
level of RESET is held and every output is off while the supply is away (note 30); the straps and the field supply
come as operands (note 9). -/
def Obligations.SupplyAndReset : Prop :=
  (∀ s : State,
     (∃ t, exec .supplyLoss s = .next t ∧ t.tb = ⟨.off, 0, 0⟩ ∧ t.kept s ∧ t.cold) ∧
     (s.tb.phase = .startup ∨ s.tb.phase = .run →
       ∃ t, exec .hardResetAssert s = .next t ∧ t.tb = ⟨.resetHeld, 0, 0⟩ ∧ t.kept s ∧ t.cold ∧
         t.rcs.flashA = true ∧ t.rcs.flashTicks = 0) ∧
     (s.tb.phase = .off ∨ s.tb.phase = .resetHeld → exec .hardResetAssert s = .next s)) ∧
  (∀ (straps : Straps) (field : Bool) (s : State),
     (∃ t, exec (.powerOn straps field) s = .next t ∧ t.starts straps field ∧ t.cold ∧
       t.phu.health = Vector.replicate 12 Health.reset ∧
       (s.apu.commit.isSome = true → t.apu.store = .broken ∧ t.apu.table = defaultTable) ∧
       (s.apu.commit = none → t.apu.store = s.apu.store)) ∧
     (s.tb.phase = .resetHeld →
       ∃ t, exec (.hardResetRelease straps field) s = .next t ∧ t.starts straps field ∧
         t.apu.store = s.apu.store ∧ t.cl.latched = s.cl.latched ∧
         (∀ n : Fin 12, t.phu.health[n].value = s.phu.health[n].value ∧
           t.phu.health[n].samples = s.phu.health[n].samples ∧ t.phu.health[n].ratio = s.phu.health[n].ratio ∧
           t.phu.health[n].worn = t.wornCondition n)) ∧
     (s.tb.phase ≠ .resetHeld → exec (.hardResetRelease straps field) s = .next s)) ∧
  (∀ s : State, s.tb.phase ≠ .run →
     (∀ a : Fin 8, s.motor a = .off) ∧
     (∀ b : Fin 4, s.boltWithdrawOutput b = false ∧ s.boltDriveOutput b = false) ∧
     (∀ l : Leaf, s.pumpOutput l = false ∧ s.driveReference l = 0 ∧ s.brakeRelease l = false) ∧
     s.amber = false ∧ s.bells = false ∧ s.attention = false ∧ s.hornOn = false ∧ s.circuitOn 15 = false ∧
     s.circuitOn 0 = false ∧ s.circuitOn 3 = false ∧
     (s.tb.phase = .off → s.redA = false ∧ s.redB = false ∧ ∀ k : Fin 16, s.circuitOn k = false) ∧
     (s.tb.phase = .resetHeld ∨ s.tb.phase = .startup → s.redA = s.rcs.flashA ∧ s.redB = !s.rcs.flashA ∧
       s.circuitOn 1 = s.redA ∧ s.circuitOn 4 = s.redA ∧ s.circuitOn 2 = s.redB ∧ s.circuitOn 5 = s.redB ∧
       s.circuitOn 6 = true ∧ s.circuitOn 7 = true ∧ s.circuitOn 8 = false ∧ s.circuitOn 9 = false ∧
       s.circuitOn 10 = true ∧ s.circuitOn 11 = true ∧ s.circuitOn 12 = false ∧ s.circuitOn 13 = false)) ∧
  (∀ s : State, s.tb.phase = .run →
     (∀ a : Fin 8, ((s.arm a).state = .lowering → s.motor a = .lower) ∧
       ((s.arm a).state = .raising → s.motor a = .raise) ∧
       ((s.arm a).state ≠ .lowering → (s.arm a).state ≠ .raising → s.motor a = .off)) ∧
     (∀ b : Fin 4, s.boltWithdrawOutput b = decide ((s.bolt b).state = .withdrawing) ∧
       s.boltDriveOutput b = decide ((s.bolt b).state = .driving ∧ (s.bolt b).outputOn ≠ none)) ∧
     (∀ l : Leaf, s.pumpOutput l = decide ((s.pump l).state = .starting ∨ (s.pump l).state = .ready) ∧
       s.driveReference l = (s.lmc.motion.leaves.get l).reference ∧
       s.brakeRelease l = decide ((s.lmc.motion.leaves.get l).reference ≠ 0)) ∧
     s.amber = decide (s.rcs.road = .prewarn) ∧
     s.bells = decide (s.rcs.road = .prewarn ∨ s.rcs.road = .stopping ∨ (s.rcs.road = .breached ∧
       ∃ a ∈ entryArms, (s.arm a).state ≠ .outOfService ∧
         ¬((s.arm a).state = .down ∧ (s.arm a).displaced = false))) ∧
     s.redA = (decide (s.rcs.road ≠ .opened) && s.rcs.flashA) ∧
     s.redB = (decide (s.rcs.road ≠ .opened) && !s.rcs.flashA) ∧
     (∀ d : Side, ∀ k : Fin 4, s.circuitOn ⟨(match d with | .seaward => 6 | .landward => 10) + k.val, by
         cases d <;> simp <;> omega⟩ =
       (match s.aspect d with
         | .stop => decide (k = 0 ∨ k = 1)
         | .standby => decide (k = 1 ∨ k = 2)
         | .go => decide (k = 2 ∨ k = 3))) ∧
     s.circuitOn 0 = s.amber ∧ s.circuitOn 3 = s.amber ∧ s.circuitOn 1 = s.redA ∧ s.circuitOn 4 = s.redA ∧
     s.circuitOn 2 = s.redB ∧ s.circuitOn 5 = s.redB ∧ s.circuitOn 14 = false ∧
     s.circuitOn 15 = s.hornOn ∧ s.hornOn = decide (0 < s.csu.horn))

/-- STARTUP_END (R36, R37, R54, R59, R78, R95, R121, R136, R186): every block derives its state from the inputs,
latching nothing; the record is written and the link begins to take frames. In another phase nothing happens. The
inputs are the levels that stand at STARTUP_END, which is the model's choice (note 22): R36 reads them at step 3,
before the derivation of step 4. Start-up does not end before its listen of 100 ms, five encoder periods (note 37,
DEDUCED): where STARTUP_END comes before, the periods missing end silent first, the model's choice (note 44). The
record holds the encoders that answered within the listen, and the leaf state follows from the positions at its end
(R37, R121); the measurement records stand as they are, later periods included. Once the listen has ended, the model's
own record of it is cleared (note 44). -/
def Obligations.StartupEndDerives : Prop :=
  ∀ s : State,
    (s.tb.phase ≠ .startup → exec .startupEnd s = .next s) ∧
    (s.tb.phase = .startup → s.msu.listen.periods < 5 →
      exec .startupEnd s = exec .startupEnd (let t := s.after (.encoderPeriodEnd .silent .silent .silent .silent)
        { t with msu := { t.msu with heard := s.msu.heard } })) ∧
    (s.tb.phase = .startup → ∃ t, exec .startupEnd s = .next t ∧ t.msu.listen = ⟨0, 0, false⟩) ∧
    (s.tb.phase = .startup → 5 ≤ s.msu.listen.periods → ∃ t, exec .startupEnd s = .next t ∧
      t.tb = { s.tb with phase := .run } ∧ t.pins = s.pins ∧ t.apu.table = s.apu.table ∧
      t.cl.latched = 0 ∧ t.cl.reply = none ∧ t.cl.framer = .hunt ∧
      t.apu.record = ⟨decide (s.apu.storeStatus ≠ .valid),
        s.apu.straps.baud0.toNat + 2 * s.apu.straps.baud1.toNat + 4 * s.apu.straps.maintEn.toNat,
        s.msu.listen.answered, s.pins.fieldSupply⟩ ∧
      (∀ a : Fin 8, (t.arm a).state =
          (if s.pins.armUp[a] = s.pins.armDown[a] then .stalled else if s.pins.armUp[a] then .up else .down) ∧
        (t.arm a).cause = (if s.pins.armUp[a] = s.pins.armDown[a] then
          (if s.pins.armUp[a] then some .limitConflict else some .noLimit) else none) ∧
        (t.arm a).last = .none ∧ (t.arm a).obstructions = 0 ∧ (t.arm a).displaced = false) ∧
      (∀ z : Fin 6, (t.zone z).filtered = s.pins.zoneOccupied[z] ∧ (t.zone z).fault = s.pins.zoneFault[z] ∧
        (t.zone z).bypassed = false ∧ (t.zone z).clearTicks = 0) ∧
      t.rcs.road = (if t.allUp allArms then .opened else .unknown) ∧
      (∀ b : Fin 4, (t.bolt b).state =
        (if s.pins.boltDriven[b] = s.pins.boltWithdrawn[b] then .jammed
          else if s.pins.boltDriven[b] then .driven else .withdrawn)) ∧
      (t.lmc.leaf = .seatedLocked ↔ t.bothSeated = true ∧ t.allDriven = true ∧ s.msu.listen.lost = false) ∧
      (t.lmc.leaf ≠ .seatedLocked →
        t.lmc.leaf = (if s.pins.estop || t.leafZoneOccupied || s.msu.listen.lost then .tripped else .halted) ∧
        t.lmc.trip = (if s.pins.estop then some .estop else if t.leafZoneOccupied then some .deck
          else if s.msu.listen.lost then some .position else none)) ∧
      t.msu = { s.msu with listen := t.msu.listen } ∧
      (∀ d : Side, t.aspect d = .stop) ∧ t.csu.sealed = false ∧ t.phu.counter = s.par pProvingDivisor ∧
      t.phu.index = 0)

/-- SOFT_RESET_EFFECT (R38, R39, R19): it takes effect once the RESTART's reply is sent and no work is in flight, and
latches nothing. The table is reloaded from a VALID store and the level is VIEW; time, the mismatch count, the freeze,
the straps and the record are kept. The arms in service and the bolts are derived with no last stroke, and the road
and its flash follow (R60, R79, R96). Kept are the encoder, angle and gust records, the wind being judged by the table
as reloaded (R137, R134); the vessel table, in which the called items of an open batch wait again (R151); the queues
in their places, the floor, the join sequence, the counters and the tide, its staleness judged, while an open batch is
CLOSED with its items RETURNED and the time stamped (R173); the pump groups and the seat filters, the standby timer
starting from zero or stopped by its run condition (R96); the motion record, with no halt and both references 0,
beside the leaf state derived as R121 does (R122); the circuits, the scan beginning at index 0 with nothing in
progress or held (R196); the health records, their marks judged (R200). Both sides show STOP, the turn record is
cleared, the horn sounds for 5 s where a side showed GO, the seal timer starts from zero and the violations stay
(R187). The order of the blocks and the motion record kept with both references 0 are the model's choice (note 20); so
is the mark of a heard encoder period, its own field, which stays (note 42). -/
def Obligations.SoftResetReloads : Prop :=
  ∀ s : State,
    (s.softResetDue = false → exec .softResetEffect s = .next s) ∧
    (s.softResetDue = true → ∃ t, exec .softResetEffect s = .next t ∧
      t.tb = s.tb ∧ t.pins = s.pins ∧ t.cl.latched = 0 ∧ t.cl.framer = .hunt ∧
      t.cl.crcErrors = s.cl.crcErrors ∧ t.cl.mask = BitVec.ofNat 16 (t.par pMask) ∧
      t.apu.level = .view ∧ t.apu.restart = false ∧ t.apu.mismatch = s.apu.mismatch ∧
      t.apu.frozen = s.apu.frozen ∧ t.apu.storeStatus = s.apu.storeStatus ∧ t.apu.store = s.apu.store ∧
      t.apu.straps = s.apu.straps ∧ t.apu.record = s.apu.record ∧
      (∀ v k, s.apu.storeStatus = .valid → s.apu.store = .image v k →
        t.apu.table = v ∧ t.apu.modified = false) ∧
      (s.apu.storeStatus = .writeFailed → t.apu.table = s.apu.table ∧ t.apu.modified = true) ∧
      (∀ a : Fin 8, (s.arm a).state = .outOfService → t.arm a = s.arm a) ∧
      (∀ a : Fin 8, (s.arm a).state ≠ .outOfService → (t.arm a).state =
        (if s.pins.armUp[a] = s.pins.armDown[a] then .stalled else if s.pins.armUp[a] then .up else .down)) ∧
      (∀ b : Fin 4, (t.bolt b).state =
        (if s.pins.boltDriven[b] = s.pins.boltWithdrawn[b] then .jammed
          else if s.pins.boltDriven[b] then .driven else .withdrawn)) ∧
      (∀ z : Fin 6, (t.zone z).bypassed = false ∧ (t.zone z).filtered = (s.zone z).filtered ∧
        (t.zone z).fault = (s.zone z).fault) ∧
      t.rcs.road = (if t.allUp allArms then .opened else .unknown) ∧
      (∀ d : Side, t.aspect d = .stop) ∧ t.csu.violations = s.csu.violations ∧
      t.psc.batch.state = (if s.psc.batch.state = .none then .none else .closed) ∧
      (∀ l : Leaf, (t.lmc.motion.leaves.get l).reference = 0) ∧
      (∀ n : Fin 12, t.phu.health[n].value = s.phu.health[n].value) ∧
      -- the link, the arms and the bolts as derived, the red flash (R19, R60, R79, R96)
      t.cl = { s.cl with latched := 0, framer := .hunt, gap := 0, mask := t.cl.mask } ∧
      (∀ a : Fin 8, (s.arm a).state ≠ .outOfService → (t.arm a).last = .none ∧ (t.arm a).obstructions = 0 ∧
        (t.arm a).relowerPending = false ∧ (t.arm a).displaced = false ∧ (t.arm a).upLost = false) ∧
      (∀ b : Fin 4, (t.bolt b).last = .none) ∧ t.lpu.seqKind = .none ∧
      t.rcs.flashA = (if s.rcs.road = .opened then true else s.rcs.flashA) ∧
      -- the measurement records, the wind judged by the reloaded table (R137, R134)
      t.msu.encoders = s.msu.encoders ∧ t.msu.angles = s.msu.angles ∧ t.msu.heard = s.msu.heard ∧
      (let old := s.msu.wind
       let value := if old.window.length = 3 then min 999 (old.window.sum * t.par pAnemoFactor / 30) else old.w
       t.msu.wind = ({ old with w := value } : Wind).judge (t.par pDerateLimit) (t.par pStopLimit)) ∧
      -- the vessel table, the queues, the batch and the tide (R151, R173)
      (let live := s.psc.batch.state = .formed ∨ s.psc.batch.state = .running
       let back : Fin 32 → Prop := fun k => live ∧ ∃ i ∈ s.psc.batch.items, i.slot = k ∧ i.outcome = .called
       (∀ k : Fin 32, (back k → t.vessel k = (s.vessel k).map fun v => { v with state := .waiting }) ∧
         (¬back k → t.vessel k = s.vessel k)) ∧
       t.vt.lapsed = s.vt.lapsed ∧ t.vt.replaced = s.vt.replaced ∧ t.vt.change = s.vt.change ∧
       (∀ q : Fin 8, t.queue q = (s.queue q).map fun e =>
         if s.batchLive && s.psc.batch.items.any fun i => decide (i.slot = e.slot ∧ i.outcome = .called) then
           { e with called := false } else e) ∧
       { t.psc with queues := s.psc.queues, batch := s.psc.batch, tide := s.psc.tide } = s.psc ∧
       t.psc.tide = { s.psc.tide with stale := t.tideStaleNow } ∧
       (live → t.psc.batch = { s.psc.batch with
         state := .closed, closedAt := some s.tb.seconds
         items := s.psc.batch.items.map fun i => if i.outcome = .called then { i with outcome := .returned } else i
         remaining := (s.psc.batch.items.filter fun i => i.outcome = .called).length }) ∧
       (s.psc.batch.state = .closing →
         t.psc.batch = { s.psc.batch with state := .closed, closedAt := some s.tb.seconds }) ∧
       (s.psc.batch.state = .none ∨ s.psc.batch.state = .closed → t.psc.batch = s.psc.batch)) ∧
      -- pumps, seats and the standby timer (R96)
      t.lpu.pumps = s.lpu.pumps ∧ t.lpu.seats = s.lpu.seats ∧
      (let runs := t.lmc.leaf = .seatedLocked ∧ (s.pump .north).state = .ready ∧ (s.pump .south).state = .ready
       (runs → t.lpu.standby = if t.par pStandby = 0 then none else some 0) ∧ (¬runs → t.lpu.standby = none)) ∧
      -- the leaf state as derived, the motion record kept (R122)
      (t.lmc.leaf = .seatedLocked ↔ s.bothSeated = true ∧ t.allDriven = true ∧ s.positionLost = false) ∧
      (t.lmc.leaf = .seatedLocked → t.lmc.trip = none) ∧
      (t.lmc.leaf ≠ .seatedLocked →
        t.lmc.trip = (if s.pins.estop then some .estop else if t.leafZoneOccupied then some .deck
          else if s.positionLost then some .position else none) ∧
        t.lmc.leaf = (if t.lmc.trip = none then .halted else .tripped)) ∧
      t.lmc.motion.halt = .none ∧
      { t.lmc.motion with halt := s.lmc.motion.halt, leaves := s.lmc.motion.leaves } = s.lmc.motion ∧
      -- the channel (R187)
      t.csu = { Csu.reset with
        violations := s.csu.violations
        horn := if s.aspect .seaward = .go ∨ s.aspect .landward = .go then 500 else s.csu.horn } ∧
      t.csu.sealTimer = some 0 ∧ t.csu.sealed = false ∧ t.csu.batchNumber = 0 ∧ t.csu.window = none ∧
      t.csu.changeover = none ∧
      -- the circuits and the health records (R196, R200)
      t.phu.circuits = s.phu.circuits ∧ t.phu.index = 0 ∧ t.phu.counter = t.par pProvingDivisor ∧
      t.phu.proving = none ∧ t.phu.held = [] ∧
      (∀ n : Fin 12, t.phu.health[n] = { s.phu.health[n] with worn := t.wornCondition n }))

/-! ### Arms and zones -/

/-- ARM_DOWN_LIMIT_MADE and ARM_UP_LIMIT_MADE (R44, R47 to R50): a stroke completes and a full one is reported to the
PHU, a resting arm moves without command or has its timer cancelled, a second limit is a conflict, which ends a
pending re-lowering by the model's choice (note 32); an OUT_OF_SERVICE arm is not watched. What the RCS is told is
`reportArm`, by the road state (R66 to R68, R70 to R72, R76): OPEN raises an arm that is DOWN, PREWARN and UNKNOWN
command nothing, STOPPING passes to CLEARING, CLEARING to SECURING and SECURING to SECURED when the arms they wait for
are held down, a strayed arm is commanded to lower again, a held command in SECURING is the occupation of R69 (note
18), SECURED becomes BREACHED with the LMC told, and BREACHED returns to SECURED. That a displaced arm's lowering sets
the last commanded stroke is the model's choice (note 31), and that the entry-lowering mark ends with STOPPING its
reading (note 13). The steps of a reopening stand with OPEN-ROAD. The dwell of the deck-clear condition counts base
ticks, its reading too (note 5). -/
def Obligations.ArmLimitsMade : Prop :=
  (∀ (a : Fin 8) (s : State), s.running = true →
    let d : State := { s with pins := { s.pins with armDown := s.pins.armDown.set a true } }
    let u : State := { s with pins := { s.pins with armUp := s.pins.armUp.set a true } }
    ((s.arm a).state = .outOfService →
      exec (.armDownLimitMade a) s = .next d ∧ exec (.armUpLimitMade a) s = .next u) ∧
    ((s.arm a).state ≠ .outOfService →
      ¬((s.arm a).state = .stalled ∧ (s.arm a).cause = some .limitConflict) →
      (s.pins.armUp[a] = true → exec (.armDownLimitMade a) s = .next (reportArm a (stallArm a .limitConflict d))) ∧
      (s.pins.armDown[a] = true → exec (.armUpLimitMade a) s = .next (reportArm a (stallArm a .limitConflict u)))) ∧
    ((s.arm a).state = .stalled → (s.arm a).cause = some .limitConflict ∨
        (s.pins.armUp[a] = false ∧ s.pins.armDown[a] = false) →
      exec (.armDownLimitMade a) s = .next d ∧ exec (.armUpLimitMade a) s = .next u) ∧
    ((s.arm a).state = .lowering → s.pins.armUp[a] = false →
      exec (.armDownLimitMade a) s = .next (reportArm a
        ((if (s.arm a).full && !(s.arm a).edgeSeen then
            reportStroke (armActuator a) (s.arm a).nominal ((s.arm a).elapsed / 10) d else d).onArm a fun r =>
          { r with state := .down, displaced := false, obstructions := 0 }))) ∧
    ((s.arm a).state = .raising → s.pins.armDown[a] = false →
      exec (.armUpLimitMade a) s = .next (reportArm a
        ((if (s.arm a).full && !(s.arm a).edgeSeen then
            reportStroke (armActuator a) (s.arm a).nominal ((s.arm a).elapsed / 10) u else u).onArm a fun r =>
          { r with state := .up, upLost := false, reversal := false, relowerPending := r.reversal
                   relowerWait := if r.reversal then some 0 else none }))) ∧
    ((s.arm a).state = .raising → s.pins.armUp[a] = false → exec (.armDownLimitMade a) s = .next d) ∧
    ((s.arm a).state = .lowering → s.pins.armDown[a] = false → exec (.armUpLimitMade a) s = .next u) ∧
    ((s.arm a).state = .up → s.pins.armUp[a] = false →
      exec (.armDownLimitMade a) s = .next (reportArm a (latch .arm (d.onArm a fun r =>
        { r with state := .down, displaced := false, upLost := false, relowerPending := false
                 relowerWait := none, upTimer := none })))) ∧
    ((s.arm a).state = .down → s.pins.armDown[a] = false →
      exec (.armUpLimitMade a) s = .next (reportArm a (latchIf (!(s.arm a).displaced) .arm (u.onArm a fun r =>
        { r with state := .up, displaced := false, displaceTimer := none })))) ∧
    ((s.arm a).state = .down → s.pins.armUp[a] = false → (s.arm a).displaced = true →
      exec (.armDownLimitMade a) s = .next (reportArm a (d.onArm a fun r => { r with displaced := false }))) ∧
    ((s.arm a).state = .down → s.pins.armUp[a] = false → (s.arm a).displaced = false →
      exec (.armDownLimitMade a) s = .next (d.onArm a fun r => { r with displaceTimer := none })) ∧
    ((s.arm a).state = .up → s.pins.armDown[a] = false →
      exec (.armUpLimitMade a) s = .next (u.onArm a fun r => { r with upLost := false, upTimer := none }))) ∧
  (∀ (a : Fin 8) (s : State),
    let t := reportArm a s
    let wants := ((s.arm a).state = .up ∧ (s.arm a).relowerPending = false) ∨
      ((s.arm a).state = .down ∧ (s.arm a).displaced = true)
    (s.rcs.road = .prewarn ∨ s.rcs.road = .unknown → t = s) ∧
    (s.rcs.road = .opened → ((s.arm a).state ≠ .down → t = s) ∧
      ((s.arm a).state = .down → t = startRaising a .commanded s)) ∧
    (s.rcs.road = .stopping → s.rcs.entryLowering = false → t = s) ∧
    ((s.rcs.road = .stopping ∧ s.rcs.entryLowering = true) ∨ s.rcs.road = .clearing →
      (isExit a = false → wants → s.apu.restart = false → t = startLowering a .commanded s) ∧
      (isExit a = true ∨ ¬wants →
        (s.allHeld entryArms = false → t = s) ∧
        (s.allHeld entryArms = true → s.rcs.deckClear = false →
          (s.rcs.road = .clearing → t = s) ∧
          (s.rcs.road = .stopping → t.rcs = { s.rcs with
              road := .clearing, stepTimer := .clearanceLimit, stepElapsed := 0, entryLowering := false
              limitPassed := false } ∧
            t.bzu = s.bzu ∧ t.lmc = s.lmc ∧ t.cl.latched = s.cl.latched ||| 1)) ∧
        (s.allHeld allArms = true → s.rcs.deckClear = true →
          t.rcs.road = .secured ∧ t.rcs.stepTimer = .none ∧ t.rcs.limitPassed = false ∧ t.bzu = s.bzu ∧
            t.cl.latched = s.cl.latched ||| 1) ∧
        (s.allHeld entryArms = true → s.rcs.deckClear = true → s.apu.restart = false → s.pins.estop = false →
          s.deckCondition = true → s.allHeld exitArms = false →
          t.rcs.road = .securing ∧ t.rcs.stepTimer = .none ∧
            (∀ e : Fin 8, e ∈ exitArms → (s.arm e).state = .up → (s.arm e).relowerPending = false →
              s.pins.armEdge[e] = false → ¬(s.pins.armUp[e] = true ∧ s.pins.armDown[e] = true) →
              (t.arm e).state = .lowering)))) ∧
    (s.rcs.road = .securing →
      (s.allHeld allArms = true → t.rcs = { s.rcs with road := .secured } ∧ t.bzu = s.bzu ∧
        t.cl.latched = s.cl.latched ||| 1) ∧
      (s.allHeld allArms = false → ¬wants → t = s) ∧
      (wants → s.apu.restart = false → (isExit a = true → s.deckCondition = true) →
        t = startLowering a .commanded s) ∧
      (wants → s.apu.restart = false → isExit a = true → s.deckCondition = false →
        t.rcs.road = .clearing ∧ t.rcs.stepTimer = .clearanceLimit ∧ t.rcs.stepElapsed = 0 ∧
          t.rcs.deckClear = false ∧ (t.cl.latched &&& 5) = 5 ∧ t.arm a = s.arm a ∧
          (∀ e : Fin 8, e ∈ exitArms → s.pins.estop = false →
            ¬(s.pins.armUp[e] = true ∧ s.pins.armDown[e] = true) →
            ((s.arm e).state = .lowering → (t.arm e).state = .raising) ∧
            ((s.arm e).state = .up → (t.arm e).state = .up ∧ (t.arm e).relowerPending = false) ∧
            ((s.arm e).state = .down ∨ (s.arm e).state = .stalled → t.arm e = s.arm e)))) ∧
    (s.rcs.road = .secured →
      (s.allHeld allArms = true → t = s) ∧
      (s.allHeld allArms = false →
        t.rcs = { s.rcs with road := .breached } ∧ (t.cl.latched &&& 1) ≠ 0 ∧
          (s.lmc.leaf = .unlocking → t.lmc.leaf = .halted ∧ t.lpu.seqKind = .none) ∧
          (s.lmc.leaf = .raising ∨ s.lmc.leaf = .lowering →
            (¬(s.lmc.motion.leaves.north.reference = 0 ∧ s.lmc.motion.leaves.south.reference = 0) →
              t.lmc = { s.lmc with motion := { s.lmc.motion with halt := .breach } }) ∧
            (s.lmc.motion.leaves.north.reference = 0 → s.lmc.motion.leaves.south.reference = 0 →
              t.lmc.leaf = .halted)) ∧
          (s.lmc.leaf ≠ .unlocking → s.lmc.leaf ≠ .raising → s.lmc.leaf ≠ .lowering → t.lmc = s.lmc) ∧
          (∀ e : Fin 8, s.apu.restart = false → s.pins.estop = false → s.pins.armEdge[e] = false →
            ¬(s.pins.armUp[e] = true ∧ s.pins.armDown[e] = true) → (isExit e = true → s.deckCondition = true) →
            ((s.arm e).state = .up ∧ (s.arm e).relowerPending = false) ∨
              ((s.arm e).state = .down ∧ (s.arm e).displaced = true) → (t.arm e).state = .lowering) ∧
          (∀ e : Fin 8, (s.arm e).state = .stalled ∨ (s.arm e).state = .outOfService → t.arm e = s.arm e))) ∧
    (s.rcs.road = .breached →
      (s.allHeld allArms = true → t.rcs = { s.rcs with road := .secured } ∧ t.bzu = s.bzu ∧ t.lmc = s.lmc ∧
        t.cl.latched = s.cl.latched ||| 1) ∧
      (s.allHeld allArms = false → ¬wants → t = s) ∧
      (wants → s.apu.restart = false → (isExit a = true → s.deckCondition = true) →
        t = startLowering a .commanded s)))

/-- The limits' releases and the timers of an arm (R45, R49, R50): the 1 s timers start, an expiry marks the arm, and
a stroke that reaches its timeout stalls it; a timer that does not run has no expiry. In a tick the stroke's elapsed
time and every running timer of the arm count, and then what is due happens: the timeout at the captured 0.1 s, the 1
s and 2 s timers at their periods, the re-lowering when it may. The tick and its order are the model's choice (notes
1, 4, 12), and that 1 s and 2 s are 100 and 200 ticks is its reading (note 5, DEDUCED). -/
def Obligations.ArmLimitsReleased : Prop :=
  ∀ (a : Fin 8) (s : State), s.running = true →
    let d : State := { s with pins := { s.pins with armDown := s.pins.armDown.set a false } }
    let u : State := { s with pins := { s.pins with armUp := s.pins.armUp.set a false } }
    exec (.armDownLimitReleased a) s = .next
      (if (s.arm a).state = .down ∧ (s.arm a).displaced = false then
        d.onArm a fun r => { r with displaceTimer := some 0 } else d) ∧
    exec (.armUpLimitReleased a) s = .next
      (if (s.arm a).state ≠ .up then u
      else if s.pins.armDown[a] then reportArm a (latch .arm (u.onArm a fun r =>
        { r with state := .down, displaced := false, upLost := false, relowerPending := false
                 relowerWait := none, upTimer := none }))
      else u.onArm a fun r => { r with upTimer := some 0 }) ∧
    exec (.armDisplaced a) s = .next
      (if (s.arm a).displaceTimer = none then s
      else reportArm a (latch .arm (s.onArm a fun r => { r with displaced := true, displaceTimer := none }))) ∧
    exec (.upLimitLost a) s = .next
      (if (s.arm a).upTimer = none then s
      else latch .arm (s.onArm a fun r => { r with upLost := true, upTimer := none })) ∧
    exec (.armStrokeTimeout a) s = .next
      (if (s.arm a).state = .lowering ∨ (s.arm a).state = .raising then reportArm a (stallArm a .timeout s)
      else s) ∧
    ((tickTimers s).arm a).elapsed =
      (if (s.arm a).state = .lowering ∨ (s.arm a).state = .raising then (s.arm a).elapsed + 1
        else (s.arm a).elapsed) ∧
    ((tickTimers s).arm a).displaceTimer = (s.arm a).displaceTimer.map (· + 1) ∧
    ((tickTimers s).arm a).upTimer = (s.arm a).upTimer.map (· + 1) ∧
    ((tickTimers s).arm a).relowerWait = (s.arm a).relowerWait.map (· + 1) ∧
    armDue s a =
      (let s := s.happens (((s.arm a).state = .lowering || (s.arm a).state = .raising) &&
        10 * (s.arm a).timeout ≤ (s.arm a).elapsed) (.armStrokeTimeout a)
      let s := s.happens ((s.arm a).displaceTimer.any (100 ≤ ·)) (.armDisplaced a)
      let s := s.happens ((s.arm a).upTimer.any (100 ≤ ·)) (.upLimitLost a)
      let s := s.happens ((s.arm a).relowerWait.any (200 ≤ ·)) (.relowerWaitExpiry a)
      s.after (.armRelower a))

/-- The obstruction edge and the re-lowering (R46, R47): an active edge reverses a lowering arm three times in a
closure and then stalls it, marks a raising stroke and is nothing to an arm at rest; ARM_RELOWER starts the pending
lowering only once the wait is over, the edge inactive and, for an exit arm, the deck clear. That the end of the wait
and of the edge never start it in their own step is the model's choice (note 12); a reversal whose up limit is already
made stays RAISING, the model's reading (note 11). The dwell of the deck-clear condition counts base ticks, its
reading too (note 5). -/
def Obligations.EdgeAndRelowering : Prop :=
  ∀ (a : Fin 8) (s : State), s.running = true →
    let e : State := { s with pins := { s.pins with armEdge := s.pins.armEdge.set a true } }
    ((s.arm a).state = .lowering → (s.arm a).obstructions < 3 → s.pins.estop = false →
        ¬(s.pins.armUp[a] = true ∧ s.pins.armDown[a] = true) →
      ∃ t, exec (.obstructionEdgeActive a) s = .next (reportArm a t) ∧
        (t.arm a).state = .raising ∧ (t.arm a).obstructions = (s.arm a).obstructions + 1 ∧
        (t.arm a).last = (s.arm a).last ∧ (t.arm a).reversal = true ∧ (t.arm a).edgeSeen = true ∧
        (t.arm a).elapsed = 0 ∧ (t.arm a).full = s.pins.armDown[a] ∧ t.cl = s.cl ∧
        (∀ b : Fin 8, b ≠ a → t.arm b = s.arm b)) ∧
    ((s.arm a).state = .lowering → 3 ≤ (s.arm a).obstructions →
      exec (.obstructionEdgeActive a) s = .next (reportArm a
        (stallArm a .obstructed (e.onArm a fun r => { r with obstructions := 4, edgeSeen := true })))) ∧
    ((s.arm a).state = .raising →
      exec (.obstructionEdgeActive a) s = .next (e.onArm a fun r => { r with edgeSeen := true })) ∧
    ((s.arm a).state ≠ .lowering → (s.arm a).state ≠ .raising → exec (.obstructionEdgeActive a) s = .next e) ∧
    exec (.obstructionEdgeInactive a) s =
      .next { s with pins := { s.pins with armEdge := s.pins.armEdge.set a false } } ∧
    exec (.relowerWaitExpiry a) s = .next (s.onArm a fun r => { r with relowerWait := none }) ∧
    exec (.armRelower a) s = .next
      (if (s.arm a).state = .up ∧ (s.arm a).relowerPending = true ∧ (s.arm a).relowerWait = none ∧
          s.pins.armEdge[a] = false ∧ (isExit a = true → s.deckCondition = true) ∧ s.apu.restart = false then
        reportArm a (startLowering a .relower s) else s)

/-- A stroke's start (R41, R46, R48): the record of a lowering and of a raising stroke is set up from the table, the
WORN mark and the inputs; a command sets the last commanded stroke, a re-lowering and a reversal keep it. An edge
already active is an obstruction of a lowering as it starts: the first three reverse it, a later one stalls it
OBSTRUCTED. ESTOP or a limit conflict stops a stroke as it starts, ESTOP first where both hold, which is the model's
choice (note 21). With the edge active too, ESTOP and the conflict come first and no obstruction is counted, its
choice as well (note 45). While a soft reset waits no commanded stroke and no re-lowering starts; the raising of a
reversal starts as usual. A stroke whose own limit is made already is in progress all the same, the model's reading
(note 11). -/
def Obligations.StrokeStarts : Prop :=
  ∀ (a : Fin 8) (s : State),
    let nominal := if a.val % 2 = 0 then s.par pRoadArmNominal else s.par pFootArmNominal
    let timeout := nominal * (if s.worn (armActuator a) then 5 else 3) / 2
    let lowered (last : ArmStroke) : State := s.onArm a fun r => { r with
      state := .lowering, cause := none, last := last, relowerPending := false, relowerWait := none
      displaced := false, upLost := false, displaceTimer := none, upTimer := none, reversal := false
      nominal := nominal, timeout := timeout, elapsed := 0, full := s.pins.armUp[a], edgeSeen := false }
    let raised (last : ArmStroke) (reversal : Bool) : State := s.onArm a fun r => { r with
      state := .raising, cause := none, last := last, relowerPending := false, relowerWait := none
      displaced := false, upLost := false, displaceTimer := none, upTimer := none, reversal := reversal
      nominal := nominal, timeout := timeout, elapsed := 0, full := s.pins.armDown[a]
      edgeSeen := s.pins.armEdge[a] }
    (s.apu.restart = true → startLowering a .commanded s = s ∧ startLowering a .relower s = s ∧
      startRaising a .commanded s = s) ∧
    (s.pins.estop = false → ¬(s.pins.armUp[a] = true ∧ s.pins.armDown[a] = true) →
      startRaising a .reversal s = raised (s.arm a).last true) ∧
    (s.apu.restart = false → s.pins.estop = false → ¬(s.pins.armUp[a] = true ∧ s.pins.armDown[a] = true) →
      startRaising a .commanded s = raised .raise false ∧
      (s.pins.armEdge[a] = false → startLowering a .commanded s = lowered .lower ∧
        startLowering a .relower s = lowered (s.arm a).last) ∧
      (s.pins.armEdge[a] = true → ∀ start last, (start, last) ∈
          [(ArmStart.commanded, ArmStroke.lower), (.relower, (s.arm a).last)] →
        let t := startLowering a start s
        (∀ b : Fin 8, b ≠ a → t.arm b = s.arm b) ∧
        ((s.arm a).obstructions < 3 → t.cl = s.cl ∧ t.arm a = { (s.arm a) with
          state := .raising, cause := none, last := last, relowerPending := false, relowerWait := none
          displaced := false, upLost := false, displaceTimer := none, upTimer := none, reversal := true
          obstructions := (s.arm a).obstructions + 1, nominal := nominal, timeout := timeout, elapsed := 0
          full := s.pins.armDown[a], edgeSeen := true }) ∧
        (3 ≤ (s.arm a).obstructions → (t.arm a).state = .stalled ∧ (t.arm a).cause = some .obstructed ∧
          (t.arm a).obstructions = 4 ∧ (t.arm a).last = last ∧ t.cl.latched = s.cl.latched ||| 2))) ∧
    (s.apu.restart = false → s.pins.estop = true →
      ((startLowering a .commanded s).arm a).state = .stalled ∧
      ((startLowering a .commanded s).arm a).cause = some .estop ∧
      ((startRaising a .commanded s).arm a).state = .stalled ∧
      ((startRaising a .commanded s).arm a).cause = some .estop ∧
      ((startLowering a .commanded s).arm a).obstructions = (s.arm a).obstructions ∧
      ((startLowering a .commanded s).arm a).last = .lower ∧ ((startRaising a .commanded s).arm a).last = .raise) ∧
    (s.apu.restart = false → s.pins.estop = false → s.pins.armUp[a] = true → s.pins.armDown[a] = true →
      ((startLowering a .commanded s).arm a).cause = some .limitConflict ∧
      ((startLowering a .commanded s).arm a).obstructions = (s.arm a).obstructions ∧
      ((startRaising a .commanded s).arm a).cause = some .limitConflict)

/-- ARM-RETRY, ARM-SERVICE out and return (R52 to R54): each refusal in its order, and what an accepted one does. A
returned arm takes the state and the cause that its limits give by R54's table, with no last commanded stroke, no
obstructions and every mark and timer clear; a STALLED one latches ARM, and the RCS is told. The replies carry the
arm's number, state and cause. The model's choices: each of the three is one byte in the replies (note 27), and the
reply to a return to service carries the state that the limits give, before the RCS acts on it (note 33). A clear
duration counts base ticks, the model's reading (note 5). -/
def Obligations.ArmRequests : Prop :=
  ∀ (a : Fin 8) (b : Byte) (s : State), b.toNat = a.val →
    (s.allows (operateRequest 0x23) →
      ((s.arm a).state ≠ .stalled ∨ (s.arm a).last = .none →
        exec (.armRetry b) s = .next (answer 0x23 (s, .refused .state 0))) ∧
      ((s.arm a).state = .stalled → (s.arm a).last = .lower → isExit a = true → s.deckCondition = false →
        exec (.armRetry b) s = .next (answer 0x23 (s, .refused .interlock 16))) ∧
      ((s.arm a).state = .stalled → (s.arm a).last = .lower → (isExit a = true → s.deckCondition = true) →
        exec (.armRetry b) s = .next (answer 0x23 (reportArm a (startLowering a .commanded s),
          .accepted [b, BitVec.ofNat 8 ((startLowering a .commanded s).arm a).state.code]))) ∧
      ((s.arm a).state = .stalled → (s.arm a).last = .raise →
        exec (.armRetry b) s = .next (answer 0x23 (reportArm a (startRaising a .commanded s),
          .accepted [b, BitVec.ofNat 8 ((startRaising a .commanded s).arm a).state.code])))) ∧
    (s.allows (serviceRequest 0x24) →
      ((s.arm a).state = .outOfService → exec (.armServiceOut b) s =
        .next (answer 0x24 (s, .done [b, 5, BitVec.ofNat 8 (armCauseCode (s.arm a).cause)]))) ∧
      ((s.arm a).state ≠ .outOfService → ((s.arm a).state ≠ .up ∧ (s.arm a).state ≠ .stalled) ∨
          s.rcs.road = .secured ∨ s.rcs.road = .breached →
        exec (.armServiceOut b) s = .next (answer 0x24 (s, .refused .state 0))) ∧
      ((s.arm a).state = .up ∨ (s.arm a).state = .stalled → s.rcs.road ≠ .secured → s.rcs.road ≠ .breached →
        ∃ t, exec (.armServiceOut b) s = .next (answer 0x24 (reportArm a t, .done [b, 5, 0])) ∧
          (t.arm a).state = .outOfService ∧ (t.arm a).cause = none ∧ (t.arm a).last = .none ∧
          (t.arm a).obstructions = 0 ∧ (t.arm a).relowerPending = false ∧ (t.arm a).displaced = false ∧
          (t.arm a).upLost = false ∧ { t with bzu := s.bzu } = s ∧ (∀ k : Fin 8, k ≠ a → t.arm k = s.arm k)) ∧
      ((s.arm a).state ≠ .outOfService → exec (.armServiceReturn b) s = .next (answer 0x24 (s, .done
        [b, BitVec.ofNat 8 (s.arm a).state.code, BitVec.ofNat 8 (armCauseCode (s.arm a).cause)]))) ∧
      ((s.arm a).state = .outOfService →
        let same := s.pins.armUp[a] = s.pins.armDown[a]
        let state : ArmState := if same then .stalled else if s.pins.armUp[a] then .up else .down
        let cause : Option ArmCause :=
          if same then (if s.pins.armUp[a] then some .limitConflict else some .noLimit) else none
        ∃ t, exec (.armServiceReturn b) s = .next (answer 0x24
            (reportArm a (latchIf (decide (state = .stalled)) .arm t),
              .done [b, BitVec.ofNat 8 state.code, BitVec.ofNat 8 (armCauseCode cause)])) ∧
          (t.arm a).state = state ∧ (t.arm a).cause = cause ∧ (t.arm a).last = .none ∧
          (t.arm a).obstructions = 0 ∧ (t.arm a).relowerPending = false ∧ (t.arm a).relowerWait = none ∧
          (t.arm a).displaced = false ∧ (t.arm a).displaceTimer = none ∧ (t.arm a).upLost = false ∧
          (t.arm a).upTimer = none ∧ { t with bzu := s.bzu } = s ∧ t.bzu.zones = s.bzu.zones ∧
          (∀ k : Fin 8, k ≠ a → t.arm k = s.arm k)))

/-- The zone inputs (R55, R56): the occupancy filter starts on a level other than the filtered one and is cancelled by
a return to it; a fault is taken at once and ends 100 ms after its input; what is taken goes through `changeZone`.
ZONE-BYPASS set and clear (R57, R63): the mark follows the action, the counted status and the deck-clear view with it;
a mark already so changes nothing. In a tick the two 100 ms timers and a clear duration count, and a timer that has
reached 100 ms has its effect. That the end of a bypass goes through `changeZone`, which latches DECK for an
intrusion, is the model's choice (note 34), and so are the tick (notes 1 and 4) and the reply's single bytes (note
27). A clear duration counts base ticks, the model's reading (note 5). -/
def Obligations.ZoneInputsAndBypass : Prop :=
  (∀ (z : Fin 6) (level : Bool) (s : State), s.running = true →
     let raw : State := { s with pins := { s.pins with zoneOccupied := s.pins.zoneOccupied.set z level } }
     (level = (s.zone z).filtered →
       exec (.zoneOccupancyInput z level) s = .next (raw.onZone z fun r => { r with filter := none })) ∧
     (level ≠ (s.zone z).filtered → (s.zone z).filter = none →
       exec (.zoneOccupancyInput z level) s = .next (raw.onZone z fun r => { r with filter := some 0 })) ∧
     (level ≠ (s.zone z).filtered → (s.zone z).filter ≠ none →
       exec (.zoneOccupancyInput z level) s = .next raw) ∧
     ((s.zone z).filter = none → exec (.zoneFilterExpiry z) s = .next s) ∧
     ((s.zone z).filter ≠ none → exec (.zoneFilterExpiry z) s =
       .next (changeZone z (fun r => { r with filtered := s.pins.zoneOccupied[z], filter := none }) s)) ∧
     exec (.zoneFaultActive z) s = .next (changeZone z (fun r => { r with fault := true, faultEnd := none })
       { s with pins := { s.pins with zoneFault := s.pins.zoneFault.set z true } }) ∧
     exec (.zoneFaultInactive z) s = .next
       (({ s with pins := { s.pins with zoneFault := s.pins.zoneFault.set z false } } : State).onZone z fun r =>
         { r with faultEnd := if r.fault then some 0 else none }) ∧
     ((s.zone z).faultEnd = none → exec (.zoneFaultEnd z) s = .next s) ∧
     ((s.zone z).faultEnd ≠ none → exec (.zoneFaultEnd z) s =
       .next (changeZone z (fun r => { r with fault := false, faultEnd := none }) s)) ∧
     ((tickTimers s).zone z).filter = (s.zone z).filter.map (· + 1) ∧
     ((tickTimers s).zone z).faultEnd = (s.zone z).faultEnd.map (· + 1) ∧
     ((tickTimers s).zone z).clearTicks =
       (if (s.zone z).counted then (s.zone z).clearTicks else (s.zone z).clearTicks + 1) ∧
     zoneDue s z =
       (let s := s.happens ((s.zone z).filter.any (10 ≤ ·)) (.zoneFilterExpiry z)
       s.happens ((s.zone z).faultEnd.any (10 ≤ ·)) (.zoneFaultEnd z))) ∧
  (∀ (z : Fin 6) (b : Byte) (s : State), b.toNat = z.val + 1 → s.allows (serviceRequest 0x25) →
     ((s.zone z).bypassed = true → exec (.zoneBypassSet b) s =
       .next (answer 0x25 (s, .done [b, BitVec.ofNat 8 (s.zone z).code, 1, 0]))) ∧
     ((s.zone z).bypassed = false → exec (.zoneBypassClear b) s =
       .next (answer 0x25 (s, .done [b, BitVec.ofNat 8 (s.zone z).code, 0,
         BitVec.ofNat 8 (s.zone z).occupied.toNat]))) ∧
     ((s.zone z).bypassed = false → ∃ t d, exec (.zoneBypassSet b) s = .next (answer 0x25 (t, .done d)) ∧
       t = reviewDeck (changeZone z (fun r => { r with bypassed := true }) s) ∧
       (t.zone z).bypassed = true ∧ (t.zone z).counted = false ∧
       d = [b, BitVec.ofNat 8 (s.zone z).code, 1, 0]) ∧
     ((s.zone z).bypassed = true → ∃ t d, exec (.zoneBypassClear b) s = .next (answer 0x25 (t, .done d)) ∧
       t = reviewDeck (changeZone z (fun r => { r with bypassed := false }) s) ∧
       (t.zone z).bypassed = false ∧ (t.zone z).counted = (s.zone z).occupied ∧
       d = [b, BitVec.ofNat 8 (s.zone z).code, 0, BitVec.ofNat 8 (s.zone z).occupied.toNat]))

/-- What a zone's change does (R55, R56, R63, R69, R71, R72): the record changes with its clear duration restarted
where the counted status changes and its read latch set where it becomes OCCUPIED or FAULTED; becoming FAULTED latches
DECK, and so does a leaf zone counted occupied while the leaves are not SEATED_LOCKED, at the end of a bypass as well,
which is the model's choice (note 34); no other zone's record changes. The RCS is told: its view is not clear from an
occupation on, an occupation in SECURING reverses the lowering exit arms and returns to CLEARING with the clearance
limit from zero, one in SECURED latches DECK alone, and in every other state only the view follows. A clear duration
counts base ticks, the model's reading (note 5). -/
def Obligations.ZoneChangeIsTaken : Prop :=
  ∀ (z : Fin 6) (f : Zone → Zone) (s : State),
    let new := f (s.zone z)
    let t := changeZone z f s
    (t.zone z).filtered = new.filtered ∧ (t.zone z).fault = new.fault ∧ (t.zone z).bypassed = new.bypassed ∧
    (new.counted = (s.zone z).counted → (t.zone z).clearTicks = new.clearTicks) ∧
    (new.counted ≠ (s.zone z).counted → (t.zone z).clearTicks = 0) ∧
    ((s.zone z).occupied = false → new.occupied = true → (t.zone z).occupiedSinceRead = true) ∧
    ((s.zone z).fault = false → new.fault = true → (t.cl.latched &&& 4) ≠ 0) ∧
    ((s.zone z).counted = false → new.counted = true → z.val < 4 → s.lmc.leaf ≠ .seatedLocked →
      (t.cl.latched &&& 4) ≠ 0) ∧
    (∀ k : Fin 6, k ≠ z → t.zone k = s.zone k) ∧
    (new.counted = (s.zone z).counted → t.rcs = s.rcs ∧ t.bzu.arms = s.bzu.arms) ∧
    ((s.zone z).counted = false → new.counted = true →
      t.rcs.deckClear = false ∧ t.rcs.dwellWait = false ∧ t.lmc = s.lmc ∧
      (s.rcs.road ≠ .securing → t.rcs.road = s.rcs.road ∧ t.rcs.stepTimer = s.rcs.stepTimer ∧
        t.bzu.arms = s.bzu.arms) ∧
      (s.rcs.road = .secured → (t.cl.latched &&& 4) ≠ 0) ∧
      (s.rcs.road = .securing → t.rcs.road = .clearing ∧ t.rcs.stepTimer = .clearanceLimit ∧
        t.rcs.stepElapsed = 0 ∧ (t.cl.latched &&& 5) = 5 ∧
        (∀ a : Fin 8, a ∉ exitArms → t.arm a = s.arm a) ∧
        (∀ a : Fin 8, a ∈ exitArms →
          ((s.arm a).state = .lowering → s.apu.restart = false → s.pins.estop = false →
            ¬(s.pins.armUp[a] = true ∧ s.pins.armDown[a] = true) → (t.arm a).state = .raising) ∧
          ((s.arm a).state = .up → (t.arm a).state = .up ∧ (t.arm a).relowerPending = false) ∧
          ((s.arm a).state = .down ∨ (s.arm a).state = .stalled → t.arm a = s.arm a)))) ∧
    ((s.zone z).counted = true → new.counted = false → new.bypassed = false → 1 ≤ s.dwell →
      t.rcs = { s.rcs with deckClear := false, dwellWait := !t.deckOccupied } ∧ t.bzu.arms = s.bzu.arms ∧
        t.lmc = s.lmc)

/-! ### Road closure -/

/-- CLOSE-ROAD (R64, R65): the refusals in their order, and the acceptance: the timings are captured, the obstruction
counts cleared, and PREWARN begins with its timer from zero and the red flash from A where it was off. The
entry-lowering mark is clear then, the model's reading (note 13). A clear duration counts base ticks, the model's
reading (note 5). -/
def Obligations.CloseRoadOutcomes : Prop :=
  ∀ s : State, s.allows (operateRequest 0x20) →
    (s.rcs.road ≠ .opened → s.rcs.road ≠ .unknown →
      exec .closeRoad s = .next (answer 0x20 (s, .refused .state 0))) ∧
    (s.rcs.road = .opened ∨ s.rcs.road = .unknown →
      (s.storeUnusable = true → exec .closeRoad s = .next (answer 0x20 (s, .refused .interlock 15))) ∧
      (s.storeUnusable = false → s.redSignalLost = true →
        exec .closeRoad s = .next (answer 0x20 (s, .refused .interlock 13))) ∧
      (s.storeUnusable = false → s.redSignalLost = false → s.noEntryArm = true →
        exec .closeRoad s = .next (answer 0x20 (s, .refused .interlock 14))) ∧
      (s.storeUnusable = false → s.redSignalLost = false → s.noEntryArm = false →
        0 < s.intervalRemaining → s.intervalWaived = false →
        exec .closeRoad s = .next (answer 0x20 (s, .refused .interval 0))) ∧
      (s.storeUnusable = false → s.redSignalLost = false → s.noEntryArm = false →
        (s.intervalRemaining = 0 ∨ s.intervalWaived = true) →
        ∃ t, exec .closeRoad s = .next (answer 0x20 (t, .accepted
            (be16 (BitVec.ofNat 16 (s.par pPrewarn)) ++ be16 (BitVec.ofNat 16 (s.par pEntryDelay)) ++
              be16 (BitVec.ofNat 16 (s.par pClearDwell)) ++
              be16 (BitVec.ofNat 16 (s.par pClearanceLimit))))) ∧
          t.rcs.road = .prewarn ∧ t.rcs.stepTimer = .prewarn ∧ t.rcs.stepElapsed = 0 ∧
          t.rcs.capPrewarn = s.par pPrewarn ∧ t.rcs.capEntryDelay = s.par pEntryDelay ∧
          t.rcs.capClearDwell = s.par pClearDwell ∧ t.rcs.capClearanceLimit = s.par pClearanceLimit ∧
          t.rcs.deckClear = t.deckCondition ∧ t.rcs.limitPassed = false ∧ t.rcs.entryLowering = false ∧
          (s.rcs.road = .opened → t.rcs.flashA = true ∧ t.rcs.flashTicks = 0) ∧
          (∀ a : Fin 8, t.arm a = { s.arm a with obstructions := 0 }) ∧
          t.cl.latched = s.cl.latched ||| 1 ∧ t.lmc = s.lmc ∧ t.lpu = s.lpu))

/-- OPEN-ROAD (R73, R74): the refusals in their order, and the acceptance: the run-on is captured, the road is
REOPENING, no step timer but the run-on runs, and every exit arm in service, with no ESTOP and no conflict of its
limits, stands UP or RAISING. The steps of the reopening at an arm's report (R74, R75): an arm reported DOWN is raised
again, the entry arms are raised once the exit arms are UP, the run-on runs while all arms are UP and stops when one
leaves. That an entry arm still LOWERING is then raised too is the model's choice (note 35); that the entry-lowering
mark is cleared by the acceptance is its reading (note 13). -/
def Obligations.OpenRoadOutcomes : Prop :=
  (∀ s : State, s.allows (operateRequest 0x21) →
    (s.rcs.road = .opened ∨ s.rcs.road = .reopening →
      exec .openRoad s = .next (answer 0x21 (s, .refused .state 0))) ∧
    (s.rcs.road ≠ .opened → s.rcs.road ≠ .reopening → s.lmc.leaf ≠ .seatedLocked →
      exec .openRoad s = .next (answer 0x21 (s, .refused .interlock 2))) ∧
    (s.rcs.road ≠ .opened → s.rcs.road ≠ .reopening → s.lmc.leaf = .seatedLocked →
      ∃ t, exec .openRoad s = .next (answer 0x21 (t, .accepted (be16 (BitVec.ofNat 16 (s.par pRunOn))))) ∧
        t.rcs.road = .reopening ∧ t.rcs.capRunOn = s.par pRunOn ∧
        (t.rcs.stepTimer = .none ∨ t.rcs.stepTimer = .runOn) ∧ t.rcs.entryLowering = false ∧
        t.rcs.limitPassed = false ∧
        (∀ a : Fin 8, a ∈ exitArms → s.pins.estop = false →
          ¬(s.pins.armUp[a] = true ∧ s.pins.armDown[a] = true) →
          (t.arm a).state = .outOfService ∨ (t.arm a).state = .up ∨ (t.arm a).state = .raising))) ∧
  (∀ (a : Fin 8) (s : State), s.rcs.road = .reopening →
    let t := reportArm a s
    t.rcs.road = .reopening ∧
    ((s.arm a).state = .down → isExit a = true ∨ s.rcs.entryRaising = true → s.apu.restart = false →
      s.pins.estop = false → ¬(s.pins.armUp[a] = true ∧ s.pins.armDown[a] = true) →
      (t.arm a).state = .raising ∧ (t.arm a).last = .raise ∧ t.rcs.stepTimer ≠ .runOn) ∧
    (s.allUp exitArms = true → s.rcs.entryRaising = false → s.apu.restart = false → s.pins.estop = false →
      t.rcs.entryRaising = true ∧
      (∀ e : Fin 8, e ∈ entryArms → ¬(s.pins.armUp[e] = true ∧ s.pins.armDown[e] = true) →
        ((s.arm e).state = .down ∨ (s.arm e).state = .lowering ∨ (s.arm e).state = .stalled →
          (t.arm e).state = .raising) ∧
        ((s.arm e).state = .up → (t.arm e).state = .up ∧ (t.arm e).relowerPending = false))) ∧
    (s.allUp exitArms = false → s.rcs.entryRaising = false → t.rcs.entryRaising = false) ∧
    (s.rcs.entryRaising = true → s.allUp allArms = true →
      t = (if s.rcs.stepTimer = .runOn then s
        else { s with rcs := { s.rcs with stepTimer := .runOn, stepElapsed := 0 } })) ∧
    (s.rcs.entryRaising = true → s.allUp allArms = false → (s.arm a).state ≠ .down →
      t = (if s.rcs.stepTimer = .runOn then { s with rcs := { s.rcs with stepTimer := .none, stepElapsed := 0 } }
        else s)))

/-- The timers of the road (R62, R63, R66, R67, R68, R72, R74, R58): each expiry's step, and none where that timer
does not run. The entry delay's expiry ends the step timer, sets the entry-lowering mark and commands every entry arm
in service by R42's table: an arm held down, one already lowering and one with a re-lowering pending stay as they are,
a displaced one lowers, a STALLED one has its cause cleared and lowers; with the entry arms held down already CLEARING
follows at once, and SECURING or SECURED where the view is clear. That the mark ends on entering CLEARING is the
model's reading (note 13). The view becomes clear when the dwell has passed, and then CLEARING passes on to SECURING
with its exit arms lowering and BREACHED repeats the commands that were held; the red flash changes between A and B,
in the fail-safe pattern as well. In a tick the step timer and the flash count, and a timer that has reached its
captured period, the view's dwell and the 500 ms of the flash have the effect of their rows. An early dwell expiry
brings the clear durations to the dwell (note 17); the tick is the model's choice (notes 1 and 4), and that a captured
period and the dwell of n seconds are 100 n ticks is its reading (note 5, DEDUCED). -/
def Obligations.RoadTimersAndFlash : Prop :=
  (∀ s : State, s.running = true →
     (s.rcs.stepTimer ≠ .prewarn → exec .prewarnExpiry s = .next s) ∧
     (s.rcs.stepTimer = .prewarn → s.rcs.road = .prewarn → ∃ t, exec .prewarnExpiry s = .next t ∧
       t.rcs = { s.rcs with road := .stopping, stepTimer := .entryDelay, stepElapsed := 0 } ∧
       t.cl = { s.cl with latched := s.cl.latched ||| 1 } ∧ t.bzu = s.bzu ∧ t.lmc = s.lmc) ∧
     (s.rcs.stepTimer ≠ .entryDelay → exec .entryDelayExpiry s = .next s) ∧
     (s.rcs.stepTimer = .entryDelay → s.rcs.road = .stopping →
       let held := s.allHeld entryArms
       let onward := held = true ∧ s.rcs.deckClear = true
       ∃ t, exec .entryDelayExpiry s = .next t ∧ t.lmc = s.lmc ∧ t.bzu.zones = s.bzu.zones ∧
         (held = false →
           t.rcs = { s.rcs with stepTimer := .none, stepElapsed := 0, entryLowering := true }) ∧
         (held = true → s.rcs.deckClear = false → t = { s with
           rcs := { s.rcs with road := .clearing, stepTimer := .clearanceLimit, stepElapsed := 0
                               entryLowering := false, limitPassed := false }
           cl := { s.cl with latched := s.cl.latched ||| 1 } }) ∧
         (onward → s.deckCondition = true →
           t.rcs.road = (if s.allHeld exitArms then .secured else .securing) ∧ t.rcs.stepTimer = .none ∧
           t.rcs.entryLowering = false ∧ t.rcs.limitPassed = false ∧ (t.cl.latched &&& 1) ≠ 0) ∧
         (∀ a : Fin 8, ¬onward ∨ s.deckCondition = true →
           let commanded := ((s.arm a).state = .up ∧ (s.arm a).relowerPending = false) ∨
             ((s.arm a).state = .down ∧ (s.arm a).displaced = true) ∨ (s.arm a).state = .raising ∨
             (s.arm a).state = .stalled
           (¬commanded → t.arm a = s.arm a) ∧
           (a ∉ entryArms → ¬onward → t.arm a = s.arm a) ∧
           (a ∈ entryArms ∨ onward → commanded → t.arm a = (startLowering a .commanded s).arm a ∧
             (s.apu.restart = false → s.pins.estop = false → s.pins.armEdge[a] = false →
               ¬(s.pins.armUp[a] = true ∧ s.pins.armDown[a] = true) →
               (t.arm a).state = .lowering ∧ (t.arm a).cause = none ∧ (t.arm a).last = .lower ∧
                 (t.arm a).displaced = false)))) ∧
     (s.rcs.stepTimer ≠ .clearanceLimit → exec .clearanceLimitExpiry s = .next s) ∧
     (s.rcs.stepTimer = .clearanceLimit → exec .clearanceLimitExpiry s = .next
       { s with rcs := { s.rcs with stepTimer := .none, stepElapsed := 0, limitPassed := true }
                cl := { s.cl with latched := s.cl.latched ||| 4 } }) ∧
     (s.rcs.stepTimer ≠ .runOn → exec .runOnExpiry s = .next s) ∧
     (s.rcs.stepTimer = .runOn → ∃ t, exec .runOnExpiry s = .next t ∧
       t.rcs.road = .opened ∧ t.rcs.openTime = some s.tb.seconds ∧ t.rcs.stepTimer = .none ∧
       t.rcs.entryRaising = false ∧ (∀ z : Fin 6, (t.zone z).bypassed = false) ∧ t.bzu.arms = s.bzu.arms)) ∧
  (∀ s : State,
     (s.running = true → s.rcs.dwellWait = false → exec .dwellWaitExpiry s = .next s) ∧
     (s.running = true → s.rcs.dwellWait = true → s.deckOccupied = false → s.rcs.road ≠ .clearing →
       s.rcs.road ≠ .breached → ∃ t, exec .dwellWaitExpiry s = .next t ∧ t.rcs.deckClear = true ∧
         t.rcs.dwellWait = false ∧ t.rcs.road = s.rcs.road ∧ t.bzu.arms = s.bzu.arms ∧ t.cl = s.cl) ∧
     (s.running = true → s.rcs.dwellWait = true → s.rcs.deckClear = false → s.deckOccupied = false →
       s.apu.restart = false → s.pins.estop = false →
       ∃ t, exec .dwellWaitExpiry s = .next t ∧ t.rcs.deckClear = true ∧ t.rcs.dwellWait = false ∧
         (s.rcs.road = .clearing → s.allHeld entryArms = false →
           t.rcs.road = .clearing ∧ t.bzu.arms = s.bzu.arms ∧ t.cl = s.cl) ∧
         (s.rcs.road = .clearing → s.allHeld allArms = true →
           t.rcs.road = .secured ∧ t.rcs.stepTimer = .none ∧ t.rcs.limitPassed = false ∧
           t.bzu.arms = s.bzu.arms ∧ t.cl.latched = s.cl.latched ||| 1) ∧
         (s.rcs.road = .clearing → s.allHeld entryArms = true → s.allHeld exitArms = false →
           t.rcs.road = .securing ∧ t.rcs.stepTimer = .none ∧ t.rcs.limitPassed = false) ∧
         (s.rcs.road = .breached → t.rcs.road = .breached ∧ t.rcs.stepTimer = s.rcs.stepTimer) ∧
         ((s.rcs.road = .clearing ∧ s.allHeld entryArms = true) ∨ s.rcs.road = .breached →
           ∀ a : Fin 8, a ∈ exitArms → (s.arm a).state = .up → (s.arm a).relowerPending = false →
             s.pins.armEdge[a] = false → ¬(s.pins.armUp[a] = true ∧ s.pins.armDown[a] = true) →
             (t.arm a).state = .lowering ∧ (t.arm a).last = .lower)) ∧
     (s.flashOn = true → ∃ t, exec .redFlashChange s = .next t ∧
       t.rcs = { s.rcs with flashA := !s.rcs.flashA, flashTicks := 0 } ∧ t.redA = !s.redA ∧ t.redB = !s.redB ∧
       { t with rcs := s.rcs, phu := s.phu } = s) ∧
     (s.flashOn = false → exec .redFlashChange s = .next s)) ∧
  (∀ s : State, s.running = true →
     (tickTimers s).rcs.stepElapsed =
       (if s.rcs.stepTimer = .none then s.rcs.stepElapsed else s.rcs.stepElapsed + 1) ∧
     (tickFlash s).rcs.flashTicks =
       (if s.rcs.road = .opened then s.rcs.flashTicks else s.rcs.flashTicks + 1) ∧
     roadDue s =
       (let s := s.happens (s.rcs.dwellWait && s.deckCondition) .dwellWaitExpiry
       let s := s.happens (s.rcs.stepTimer = .prewarn && 100 * s.rcs.capPrewarn ≤ s.rcs.stepElapsed) .prewarnExpiry
       let s := s.happens (s.rcs.stepTimer = .entryDelay && 100 * s.rcs.capEntryDelay ≤ s.rcs.stepElapsed)
         .entryDelayExpiry
       let s := s.happens (s.rcs.stepTimer = .clearanceLimit &&
         100 * s.rcs.capClearanceLimit ≤ s.rcs.stepElapsed) .clearanceLimitExpiry
       let s := s.happens (s.rcs.stepTimer = .runOn && 100 * s.rcs.capRunOn ≤ s.rcs.stepElapsed) .runOnExpiry
       s.happens (s.rcs.road ≠ .opened && 50 ≤ s.rcs.flashTicks) .redFlashChange))

/-! ### Span locks and hydraulic power -/

/-- A bolt's stroke starts (R81) with its nominal and timeout from the table and the WORN mark, the direction last
commanded, and its output on at once and its full mark from the opposite switch, but a centre bolt's drive, which
waits (R84). ESTOP or both switches made jam it as it starts, ESTOP first (note 21, the model's choice; that the
output-on time it began with then stays is note 41, its choice), and a pending soft reset keeps it from starting. The
bolts' events (R82 to R84): a stroke completes at its switch, a full one reported to the PHU with its time from output
on; a second switch is a conflict; a rest position released starts the 1 s timer and made again cancels it; a lost
rest position and a stroke that reaches its timeout jam the bolt, MISALIGNED while its drive still waited; the waiting
drive comes on when the leaves are aligned. A drive whose DRIVEN switch is made before or as its output comes on goes
on DRIVING (note 11, the model's reading). What the sequence and the LMC are told is `reportBolt`: the steps of the
withdraw and the drive sequence, each starting strokes (R86, R87), the passage from UNLOCKING to RAISING, to LOCKING
with WIND latched where the wind bars it, and to HALTED where the road is not SECURED (R101, R102; the wind is tested
first, note 15), from LOCKING to SEATED_LOCKED, and from SEATED_LOCKED to HALTED (R105). In a tick the stroke and the
1 s timer count, and have their effect at their periods (notes 1 and 4; that 1 s is 100 ticks is note 5, DEDUCED, the
model's reading). -/
def Obligations.BoltEvents : Prop :=
  (∀ (b : Fin 4) (way : BoltWay) (s : State),
     let opposite := match way with | .withdraw => s.pins.boltDriven[b] | .drive => s.pins.boltWithdrawn[b]
     let waits := decide (b.val < 2 ∧ way = .drive)
     let begun (r : Bolt) : Bolt := { r with
       state := match way with | .withdraw => .withdrawing | .drive => .driving
       cause := none, last := match way with | .withdraw => .withdraw | .drive => .drive
       nominal := s.par pBoltNominal
       timeout := s.par pBoltNominal * (if s.worn (boltActuator b) then 5 else 3) / 2, elapsed := 0
       outputOn := if waits then none else some 0, full := !waits && opposite, restTimer := none }
     let jammed (cause : BoltCause) : State :=
       { s.onBolt b fun r => { begun r with state := .jammed, cause := some cause } with
         cl := { s.cl with latched := s.cl.latched ||| 0x20 } }
     let both := s.pins.boltDriven[b] = true ∧ s.pins.boltWithdrawn[b] = true
     (s.apu.restart = true → startBolt b way s = s) ∧
     (s.apu.restart = false → s.pins.estop = true → startBolt b way s = jammed .estop) ∧
     (s.apu.restart = false → s.pins.estop = false → both → startBolt b way s = jammed .switchConflict) ∧
     (s.apu.restart = false → s.pins.estop = false → ¬both → startBolt b way s = s.onBolt b begun)) ∧
  (∀ (b : Fin 4) (s : State), s.running = true →
     let w : State := { s with pins := { s.pins with boltWithdrawn := s.pins.boltWithdrawn.set b true } }
     let d : State := { s with pins := { s.pins with boltDriven := s.pins.boltDriven.set b true } }
     ((s.bolt b).state = .withdrawing → s.pins.boltDriven[b] = false → exec (.boltWithdrawnSwitchMade b) s =
       .next (reportBolt ((if (s.bolt b).full then reportStroke (boltActuator b) (s.bolt b).nominal
           (((s.bolt b).elapsed - (s.bolt b).outputOn.getD 0) / 10) w else w).onBolt b fun r =>
         { r with state := .withdrawn, restTimer := none }))) ∧
     ((s.bolt b).state = .driving → s.pins.boltWithdrawn[b] = false → (s.bolt b).outputOn ≠ none →
       exec (.boltDrivenSwitchMade b) s =
       .next (reportBolt ((if (s.bolt b).full then reportStroke (boltActuator b) (s.bolt b).nominal
           (((s.bolt b).elapsed - (s.bolt b).outputOn.getD 0) / 10) d else d).onBolt b fun r =>
         { r with state := .driven, restTimer := none }))) ∧
     ((s.bolt b).state = .driving → s.pins.boltWithdrawn[b] = false → (s.bolt b).outputOn = none →
       exec (.boltDrivenSwitchMade b) s = .next d) ∧
     (¬((s.bolt b).state = .jammed ∧ (s.bolt b).cause = some .switchConflict) →
       (s.pins.boltDriven[b] = true →
         exec (.boltWithdrawnSwitchMade b) s = .next (reportBolt (jamBolt b .switchConflict w))) ∧
       (s.pins.boltWithdrawn[b] = true →
         exec (.boltDrivenSwitchMade b) s = .next (reportBolt (jamBolt b .switchConflict d)))) ∧
     ((s.bolt b).state = .jammed → (s.bolt b).cause = some .switchConflict →
       exec (.boltWithdrawnSwitchMade b) s = .next w ∧ exec (.boltDrivenSwitchMade b) s = .next d) ∧
     ((s.bolt b).state = .withdrawn → s.pins.boltDriven[b] = false →
       exec (.boltWithdrawnSwitchMade b) s = .next (w.onBolt b fun r => { r with restTimer := none })) ∧
     ((s.bolt b).state = .driven → s.pins.boltWithdrawn[b] = false →
       exec (.boltDrivenSwitchMade b) s = .next (d.onBolt b fun r => { r with restTimer := none })) ∧
     exec (.boltSwitchReleased b .driven) s = .next
       (let r : State := { s with pins := { s.pins with boltDriven := s.pins.boltDriven.set b false } }
        if (s.bolt b).state = .driven then r.onBolt b fun k => { k with restTimer := some 0 } else r) ∧
     exec (.boltSwitchReleased b .withdrawn) s = .next
       (let r : State := { s with pins := { s.pins with boltWithdrawn := s.pins.boltWithdrawn.set b false } }
        if (s.bolt b).state = .withdrawn then r.onBolt b fun k => { k with restTimer := some 0 } else r)) ∧
  (∀ (b : Fin 4) (s : State), s.running = true →
     exec (.boltNoPosition b) s = .next
       (if (s.bolt b).restTimer = none then s else reportBolt (jamBolt b .noPosition s)) ∧
     ((s.bolt b).state ≠ .withdrawing → (s.bolt b).state ≠ .driving → exec (.boltStrokeTimeout b) s = .next s) ∧
     ((s.bolt b).state = .withdrawing →
       exec (.boltStrokeTimeout b) s = .next (reportBolt (jamBolt b .timeout s))) ∧
     ((s.bolt b).state = .driving → exec (.boltStrokeTimeout b) s =
       .next (reportBolt (jamBolt b (if (s.bolt b).outputOn = none then .misaligned else .timeout) s))) ∧
     (b.val < 2 → (s.bolt b).state = .driving → (s.bolt b).outputOn = none →
       s.msu.angles.north.source ≠ .lost → s.msu.angles.south.source ≠ .lost →
       (s.msu.angles.north.angle - s.msu.angles.south.angle).natAbs ≤ s.par pAlignment →
       ∃ t, exec (.centreBoltAligned b) s = .next t ∧
         t = s.onBolt b (fun r => { r with outputOn := some r.elapsed, full := s.pins.boltWithdrawn[b] }) ∧
         t.boltDriveOutput b = true) ∧
     (¬(b.val < 2) ∨ (s.bolt b).state ≠ .driving ∨ (s.bolt b).outputOn ≠ none ∨ s.aligned = false →
       exec (.centreBoltAligned b) s = .next s) ∧
     ((tickTimers s).bolt b).elapsed =
       (if (s.bolt b).state = .withdrawing ∨ (s.bolt b).state = .driving then (s.bolt b).elapsed + 1
         else (s.bolt b).elapsed) ∧
     ((tickTimers s).bolt b).restTimer = (s.bolt b).restTimer.map (· + 1) ∧
     boltDue s b =
       (let s := s.happens (((s.bolt b).state = .withdrawing || (s.bolt b).state = .driving) &&
         10 * (s.bolt b).timeout ≤ (s.bolt b).elapsed) (.boltStrokeTimeout b)
       s.happens ((s.bolt b).restTimer.any (100 ≤ ·)) (.boltNoPosition b))) ∧
  (∀ s : State,
     let t := reportBolt s
     let may := s.apu.restart = false ∧ s.pins.estop = false
     (s.lpu.seqKind = .none → s.lmc.leaf ≠ .unlocking → s.lmc.leaf ≠ .locking → s.lmc.leaf ≠ .seatedLocked → t = s) ∧
     (s.lpu.seqKind = .withdraw → s.lpu.seqStep = .centre → (s.bolt 0).state = .withdrawn →
       (s.bolt 1).state = .withdrawn → s.allWithdrawn = false → s.lmc.leaf ≠ .seatedLocked →
       t.lpu.seqKind = .withdraw ∧ t.lpu.seqStep = .heel ∧ t.bolt 0 = s.bolt 0 ∧ t.bolt 1 = s.bolt 1 ∧ t.lmc = s.lmc ∧
       (∀ b : Fin 4, 2 ≤ b.val →
         ((s.bolt b).state = .withdrawing ∨ (s.bolt b).state = .withdrawn → t.bolt b = s.bolt b) ∧
         ((s.bolt b).state = .driven ∨ (s.bolt b).state = .driving ∨ (s.bolt b).state = .jammed →
           t.bolt b = (startBolt b .withdraw s).bolt b ∧
           (may → ¬(s.pins.boltDriven[b] = true ∧ s.pins.boltWithdrawn[b] = true) →
             (t.bolt b).state = .withdrawing ∧ (t.bolt b).cause = none ∧ (t.bolt b).outputOn = some 0)))) ∧
     (s.lpu.seqKind = .drive → s.lpu.seqStep = .heel → (s.bolt 2).state = .driven → (s.bolt 3).state = .driven →
       s.allDriven = false → s.lmc.leaf ≠ .seatedLocked →
       t.lpu.seqKind = .drive ∧ t.lpu.seqStep = .centre ∧ t.bolt 2 = s.bolt 2 ∧ t.bolt 3 = s.bolt 3 ∧ t.lmc = s.lmc ∧
       (∀ b : Fin 4, b.val < 2 →
         ((s.bolt b).state = .driving ∨ (s.bolt b).state = .driven → t.bolt b = s.bolt b) ∧
         ((s.bolt b).state = .withdrawn ∨ (s.bolt b).state = .withdrawing ∨ (s.bolt b).state = .jammed →
           t.bolt b = (startBolt b .drive s).bolt b ∧
           (may → ¬(s.pins.boltDriven[b] = true ∧ s.pins.boltWithdrawn[b] = true) →
             (t.bolt b).state = .driving ∧ (t.bolt b).cause = none ∧ (t.bolt b).outputOn = none)))) ∧
     ((s.lpu.seqKind = .withdraw ∧ s.allWithdrawn = true) ∨ (s.lpu.seqKind = .drive ∧ s.allDriven = true) →
       s.lmc.leaf ≠ .unlocking → t.lpu.seqKind = .none ∧ t.lpu.bolts = s.lpu.bolts) ∧
     (s.lmc.leaf = .unlocking →
       (s.allWithdrawn = false ∨ s.bothReady = false ∨ s.apu.restart = true → t.lmc = s.lmc) ∧
       (s.allWithdrawn = true → s.bothReady = true → s.apu.restart = false →
         (s.msu.wind.known = true → s.msu.wind.w < s.par pStopLimit →
           t.lmc = { s.lmc with leaf := (if s.rcs.road = .secured then .raising else .halted) } ∧
           (s.lpu.seqKind = .withdraw → t.lpu.seqKind = .none) ∧ (t.cl.latched &&& 8) ≠ 0) ∧
         (s.msu.wind.known = false ∨ s.par pStopLimit ≤ s.msu.wind.w →
           t.lmc = { s.lmc with leaf := .locking } ∧ t.lpu.seqKind = .drive ∧ t.lpu.seqStep = .heel ∧
           (t.cl.latched &&& 0x48) = 0x48))) ∧
     (s.lmc.leaf = .locking →
       (s.allDriven = true → s.bothSeated = true →
         t.lmc = { s.lmc with leaf := .seatedLocked } ∧ (t.cl.latched &&& 8) ≠ 0) ∧
       (s.allDriven = false ∨ s.bothSeated = false → t.lmc = s.lmc)) ∧
     (s.lmc.leaf = .seatedLocked →
       (s.allDriven = true → t.lmc = s.lmc) ∧
       (s.allDriven = false → t.lmc = { s.lmc with leaf := .halted } ∧ (t.cl.latched &&& 8) ≠ 0)))

/-- The seat switches and the pump groups (R89 to R94): the seat filter; the pressure hold, its proof and its loss;
the start limit; the standby stop. What the LMC is told is `reportSeat`, which locks or unseats the leaves (R104,
R105), and `reportPump`, which lets UNLOCKING pass on, ends the wait of a lowering and trips a motion on a FAULT
(R101, R104, R115); UNLOCKING tests the wind before the road and waits while a RESTART does, the model's reading (note
15). In a tick their timers count and have their effect at their periods, the seats before the groups (notes 1 and 4),
and that 1 s, the start limit and the standby period are 100 ticks a second is the model's reading (note 5, DEDUCED;
R94 counts in seconds). The standby timer follows its run condition (R94) at every change of the leaf state, of the
batch state and of a group: it starts from zero as the condition becomes true, but not with a period of 0, stops as it
becomes false, and else runs on; so after a proof, a lost pressure and its own expiry in SEATED_LOCKED. -/
def Obligations.SeatsAndPumps : Prop :=
  ∀ (l : Leaf) (level : Bool) (s : State), s.running = true →
    let raw : State := { s with pins := { s.pins with seat := s.pins.seat.set l level } }
    let made : State := { s with pins := { s.pins with pressure := s.pins.pressure.set l true } }
    let gone : State := { s with pins := { s.pins with pressure := s.pins.pressure.set l false } }
    (level = (s.lpu.seats.get l).made → exec (.seatSwitchInput l level) s =
      .next (raw.onSeat l fun r => { r with filter := none })) ∧
    (level ≠ (s.lpu.seats.get l).made → (s.lpu.seats.get l).filter = none →
      exec (.seatSwitchInput l level) s = .next (raw.onSeat l fun r => { r with filter := some 0 })) ∧
    (level ≠ (s.lpu.seats.get l).made → (s.lpu.seats.get l).filter ≠ none →
      ∃ t, exec (.seatSwitchInput l level) s = .next t ∧ t.lpu.seats.get l = s.lpu.seats.get l) ∧
    exec (.seatSwitchFilterExpiry l) s = .next
      (if (s.lpu.seats.get l).filter = none then s
      else reportSeat (s.onSeat l fun _ => ⟨s.pins.seat.get l, none⟩)) ∧
    ((s.pump l).state = .starting → (s.pump l).hold = none →
      exec (.pressureOkMade l) s = .next (made.onPump l fun p => { p with hold := some 0 })) ∧
    ((s.pump l).state ≠ .starting → exec (.pressureOkMade l) s = .next made) ∧
    ((s.pump l).state = .starting →
      exec (.pressureOkReleased l) s = .next (gone.onPump l fun p => { p with hold := none })) ∧
    ((s.pump l).state = .ready → ∃ t, exec (.pressureOkReleased l) s = .next (reportPump t) ∧
      (t.pump l).state = .fault ∧ t.lpu.standby = none ∧ t.cl.latched = s.cl.latched ||| 0x20) ∧
    ((s.pump l).state = .stopped ∨ (s.pump l).state = .fault →
      exec (.pressureOkReleased l) s = .next gone) ∧
    ((s.pump l).state ≠ .starting ∨ (s.pump l).hold = none → exec (.pumpReady l) s = .next s) ∧
    ((s.pump l).state = .starting → (s.pump l).hold ≠ none →
      ∃ t, exec (.pumpReady l) s = .next (reportPump t) ∧ (t.pump l).state = .ready ∧ t.cl = s.cl) ∧
    ((s.pump l).state ≠ .starting → exec (.pumpStartLimitExpiry l) s = .next s) ∧
    ((s.pump l).state = .starting →
      ∃ t, exec (.pumpStartLimitExpiry l) s = .next (reportPump t) ∧ (t.pump l).state = .fault ∧
        t.cl.latched = s.cl.latched ||| 0x20) ∧
    (s.lpu.standby = none → exec .standbyExpiry s = .next s) ∧
    (s.lpu.standby ≠ none → ∃ t, exec .standbyExpiry s = .next t ∧ (t.pump .north).state = .stopped ∧
      (t.pump .south).state = .stopped ∧ t.lpu.standby = none ∧
      (s.lmc.leaf = .seatedLocked → t.cl = s.cl ∧ t.lmc = s.lmc)) ∧
    (s.lmc.leaf = .seatedLocked → reportPump s = s ∧
      (s.bothSeated = true → reportSeat s = s) ∧
      (s.bothSeated = false → (reportSeat s).lmc = { s.lmc with leaf := .halted })) ∧
    (s.lmc.leaf = .locking → reportPump s = s ∧
      (reportSeat s).lmc =
        { s.lmc with leaf := (if s.allDriven = true ∧ s.bothSeated = true then .seatedLocked else .locking) }) ∧
    (s.lmc.leaf = .unlocking → reportSeat s = s ∧
      (s.allWithdrawn = false ∨ s.bothReady = false ∨ s.apu.restart = true → reportPump s = s) ∧
      (s.allWithdrawn = true → s.bothReady = true → s.apu.restart = false →
        (reportPump s).lmc = { s.lmc with leaf :=
          (if s.msu.wind.known = true ∧ s.msu.wind.w < s.par pStopLimit then
            (if s.rcs.road = .secured then .raising else .halted) else .locking) })) ∧
    (s.lmc.leaf = .raising ∨ s.lmc.leaf = .lowering →
      (s.pumpFault = true → (reportPump s).lmc.leaf = .tripped ∧
        (reportPump s).lmc.motion.leaves.north.reference = 0 ∧ (reportPump s).lmc.motion.leaves.south.reference = 0) ∧
      (s.pumpFault = false → s.lmc.leaf = .raising → reportPump s = s ∧ reportSeat s = s)) ∧
    (s.lmc.leaf = .lowering →
      (s.pumpFault = false → s.bothReady = true → (reportPump s).lmc =
        { s.lmc with motion := { s.lmc.motion with awaitingPumps := false } }) ∧
      (s.pumpFault = false → s.bothReady = false → reportPump s = s) ∧
      (s.lmc.motion.bothArrived = true → s.lmc.motion.halt = .none → s.lmc.motion.awaitingPumps = false →
        s.bothSeated = true →
        (reportSeat s).lmc.leaf = .locking ∨ (reportSeat s).lmc.leaf = .seatedLocked) ∧
      (s.lmc.motion.bothArrived = false ∨ s.lmc.motion.halt ≠ .none ∨ s.lmc.motion.awaitingPumps = true ∨
        s.bothSeated = false → reportSeat s = s)) ∧
    ((tickTimers s).lpu.seats.get l).filter = (s.lpu.seats.get l).filter.map (· + 1) ∧
    ((tickTimers s).pump l).hold = (s.pump l).hold.map (· + 1) ∧
    ((tickTimers s).pump l).limitElapsed =
      (if (s.pump l).state = .starting then (s.pump l).limitElapsed + 1 else (s.pump l).limitElapsed) ∧
    (tickTimers s).lpu.standby = s.lpu.standby.map (· + 1) ∧
    seatDue s l = s.happens ((s.lpu.seats.get l).filter.any (10 ≤ ·)) (.seatSwitchFilterExpiry l) ∧
    pumpDue s l =
      (let s := s.happens ((s.pump l).hold.any (100 ≤ ·)) (.pumpReady l)
      s.happens ((s.pump l).state = .starting && 100 * (s.pump l).limit ≤ (s.pump l).limitElapsed)
        (.pumpStartLimitExpiry l)) ∧
    lpuDue s =
      (let s := seatDue (seatDue (boltDue (boltDue (boltDue (boltDue s 0) 1) 2) 3) .north) .south
      let s := pumpDue (pumpDue s .north) .south
      s.happens (s.lpu.standby.any (100 * s.par pStandby ≤ ·)) .standbyExpiry) ∧
    (let runs := fun t : State => t.lmc.leaf = .seatedLocked ∧ (t.pump .north).state = .ready ∧
       (t.pump .south).state = .ready ∧ t.psc.batch.state ≠ .formed ∧ t.psc.batch.state ≠ .running
     let follows := fun t : State =>
       (runs t → ¬runs s → t.lpu.standby = if s.par pStandby = 0 then none else some 0) ∧
       (runs t → runs s → t.lpu.standby = s.lpu.standby) ∧ (¬runs t → t.lpu.standby = none)
     (∀ m : LeafState, m ≠ s.lmc.leaf → follows (setLeaf m s)) ∧
     (∀ b : BatchState, follows (setBatchState b s)) ∧ (∀ f : Pump → Pump, follows (setPump l f s)) ∧
     (s.lmc.leaf = .seatedLocked →
       ((s.pump l).state = .starting → (s.pump l).hold ≠ none →
         ∃ t, exec (.pumpReady l) s = .next t ∧ follows t) ∧
       ((s.pump l).state = .ready → ∃ t, exec (.pressureOkReleased l) s = .next t ∧ follows t) ∧
       (s.lpu.standby ≠ none → ∃ t, exec .standbyExpiry s = .next t ∧ follows t)))

/-- PUMPS and LOCK-RETRY (R88, R92): the refusals, the groups a start takes and a stop, and the bolts a retry restarts
in their last commanded direction, each with the record of a stroke as it starts (R81); the reply gives their number
and the four bolts' states. A retried bolt whose end switch is already made stays in its stroke, the model's reading
(note 11); the count, a bolt's and a group's state are one byte each in the replies, its choice (note 27). -/
def Obligations.LockPowerRequests : Prop :=
  ∀ s : State,
    (s.allows (operateRequest 0x30) →
      (s.pins.estop = true → exec .pumpsStart s = .next (answer 0x30 (s, .refused .state 0))) ∧
      (s.pins.estop = false → ∃ t, exec .pumpsStart s = .next (answer 0x30 (t, .accepted
          [BitVec.ofNat 8 (t.pump .north).state.code, BitVec.ofNat 8 (t.pump .south).state.code])) ∧
        (∀ g : Leaf, ((s.pump g).state = .stopped ∨ (s.pump g).state = .fault →
            (t.pump g).state = .starting ∧ (t.pump g).limit = s.par pPumpLimit ∧ (t.pump g).limitElapsed = 0) ∧
          ((s.pump g).state = .starting ∨ (s.pump g).state = .ready → t.pump g = s.pump g))) ∧
      (s.lmc.leaf = .unlocking ∨ s.lmc.leaf = .raising ∨ s.lmc.leaf = .lowering ∨ s.lmc.leaf = .locking →
        exec .pumpsStop s = .next (answer 0x30 (s, .refused .state 0))) ∧
      (s.lmc.leaf = .seatedLocked ∨ s.lmc.leaf = .raised ∨ s.lmc.leaf = .halted ∨ s.lmc.leaf = .tripped →
        ∃ t, exec .pumpsStop s = .next (answer 0x30 (t, .done [0, 0])) ∧ t.lpu.standby = none ∧
          (∀ g : Leaf, (t.pump g).state = .stopped) ∧ t.lmc = s.lmc ∧ t.cl = s.cl)) ∧
    (s.allows (operateRequest 0x31) →
      ((∀ b : Fin 4, (s.bolt b).state = .jammed → (s.bolt b).last = .none) →
        exec .lockRetry s = .next (answer 0x31 (s, .refused .state 0))) ∧
      ((∃ b : Fin 4, (s.bolt b).state = .jammed ∧ (s.bolt b).last = .drive) →
        s.lmc.leaf ≠ .seatedLocked → s.lmc.leaf ≠ .unlocking → s.lmc.leaf ≠ .locking →
        exec .lockRetry s = .next (answer 0x31 (s, .refused .interlock 2))) ∧
      ((∃ b : Fin 4, (s.bolt b).state = .jammed ∧ (s.bolt b).last ≠ .none) →
        (∀ b : Fin 4, (s.bolt b).state = .jammed → (s.bolt b).last = .drive →
          s.lmc.leaf = .seatedLocked ∨ s.lmc.leaf = .unlocking ∨ s.lmc.leaf = .locking) →
        let count := ((List.finRange 4).filter fun b =>
          (s.bolt b).state = .jammed && decide ((s.bolt b).last ≠ .none)).length
        ∃ t, exec .lockRetry s = .next (answer 0x31 (reportBolt t, .accepted [BitVec.ofNat 8 count,
            BitVec.ofNat 8 (t.bolt 0).state.code, BitVec.ofNat 8 (t.bolt 1).state.code,
            BitVec.ofNat 8 (t.bolt 2).state.code, BitVec.ofNat 8 (t.bolt 3).state.code])) ∧
          { t with cl := s.cl, lpu := s.lpu } = s ∧ { t.lpu with bolts := s.lpu.bolts } = s.lpu ∧
          (s.pins.estop = false → (∀ b : Fin 4, ¬(s.pins.boltDriven[b] = true ∧ s.pins.boltWithdrawn[b] = true)) →
            t.cl = s.cl) ∧
          (∀ b : Fin 4,
            ((s.bolt b).state = .jammed → (s.bolt b).last = .withdraw →
              t.bolt b = (startBolt b .withdraw s).bolt b) ∧
            ((s.bolt b).state = .jammed → (s.bolt b).last = .drive → t.bolt b = (startBolt b .drive s).bolt b) ∧
            ((s.bolt b).state ≠ .jammed ∨ (s.bolt b).last = .none → t.bolt b = s.bolt b))))

/-! ### Leaf motion -/

/-- RAISE in both forms (R99 to R101): the leaf state, the batch for the short form, and the ten interlocks in their
order. The acceptance (State.raises) begins the motion with its target and every value captured from the table, each
leaf at 0 and not arrived, calls the withdraw sequence, whose bolts start their strokes, and orders each STOPPED pump
group to start; the leaves are UNLOCKING, or RAISING where all bolts are WITHDRAWN and both groups READY already. That
the leaf state is one byte in the reply is the model's choice (note 27). -/
def Obligations.RaiseOutcomes : Prop :=
  ∀ (target : Half) (s : State),
    let first : Option Nat :=
      if s.rcs.road ≠ .secured then some 1
      else if s.apu.storeStatus ≠ .valid then some 15
      else if s.pins.estop then some 7
      else if !s.msu.wind.known then some 4
      else if s.par pStopLimit ≤ s.msu.wind.w then some 3
      else if s.leafZoneOccupied then some 16
      else if s.positionLost then some 5
      else if s.disagreeing then some 6
      else if s.pumpFault then some 8
      else if s.lockFault then some 9
      else none
    (s.allows (operateRequest 0x32) →
      (s.lmc.leaf ≠ .seatedLocked → s.lmc.leaf ≠ .halted →
        exec .raise s = .next (answer 0x32 (s, .refused .state 0))) ∧
      (s.lmc.leaf = .seatedLocked ∨ s.lmc.leaf = .halted →
        (s.psc.batch.state ≠ .formed → exec .raise s = .next (answer 0x32 (s, .refused .interlock 12))) ∧
        (s.psc.batch.state = .formed → ∀ n, first = some n →
          exec .raise s = .next (answer 0x32 (s, .refused .interlock n))) ∧
        (s.psc.batch.state = .formed → first = none →
          ∃ t, exec .raise s = .next (answer 0x32 (t, .accepted
              (be16 (BitVec.ofNat 16 (min s.psc.batch.angle (s.par pTf))) ++
                [BitVec.ofNat 8 t.lmc.leaf.code]))) ∧
            t.lmc.motion.target = min s.psc.batch.angle (s.par pTf) ∧ t.lmc.motion.source = .batch ∧
            t.lmc.motion.direction = .raise ∧ t.lmc.motion.vc = s.par pVc ∧ t.lmc.motion.vk = s.par pVk ∧
            t.lmc.motion.startTime = s.tb.seconds ∧
            (t.lmc.leaf = .unlocking ∨ t.lmc.leaf = .raising) ∧
            t.raises s .batch (min s.psc.batch.angle (s.par pTf))))) ∧
    (s.allows (maintainRequest 0x32) →
      (s.lmc.leaf ≠ .seatedLocked → s.lmc.leaf ≠ .halted →
        exec (.raiseExplicit target) s = .next (answer 0x32 (s, .refused .state 0))) ∧
      (s.lmc.leaf = .seatedLocked ∨ s.lmc.leaf = .halted →
        (∀ n, first = some n →
          exec (.raiseExplicit target) s = .next (answer 0x32 (s, .refused .interlock n))) ∧
        (first = none →
          ∃ t, exec (.raiseExplicit target) s = .next (answer 0x32 (t, .accepted
              (be16 (BitVec.ofNat 16 (min (max target.toNat 500) (s.par pTf))) ++
                [BitVec.ofNat 8 t.lmc.leaf.code]))) ∧
            t.lmc.motion.target = min (max target.toNat 500) (s.par pTf) ∧ t.lmc.motion.source = .explicit ∧
            t.lmc.motion.direction = .raise ∧ (t.lmc.leaf = .unlocking ∨ t.lmc.leaf = .raising) ∧
            t.raises s .explicit (min (max target.toNat 500) (s.par pTf)))))

/-- LOWER (R99, R103, R104, R112): the states that refuse it, the seven tests in their order, the return to LOCKING
from UNLOCKING, which calls the drive sequence and begins no motion, and the lowering from RAISED and from HALTED: the
motion begins with target 0 and every value captured from the table, each leaf at 0 and not arrived, each STOPPED pump
group is ordered to start, and the motion waits for its pumps unless both are READY. That the leaf state is one byte
in the reply is the model's choice (note 27). -/
def Obligations.LowerOutcomes : Prop :=
  ∀ s : State, s.allows (operateRequest 0x33) →
    let first : Option Nat :=
      if s.apu.storeStatus ≠ .valid then some 15
      else if s.psc.batch.state = .formed ∨ s.psc.batch.state = .running then some 10
      else if !s.csu.sealed then some 11
      else if s.leafZoneOccupied then some 16
      else if s.positionLost then some 5
      else if s.disagreeing then some 6
      else if s.pumpFault then some 8
      else none
    (s.lmc.leaf = .seatedLocked ∨ s.lmc.leaf = .raising ∨ s.lmc.leaf = .lowering ∨ s.lmc.leaf = .locking ∨
        s.lmc.leaf = .tripped → exec .lower s = .next (answer 0x33 (s, .refused .state 0))) ∧
    (s.lmc.leaf = .unlocking → s.apu.storeStatus ≠ .valid →
      exec .lower s = .next (answer 0x33 (s, .refused .interlock 15))) ∧
    (s.lmc.leaf = .unlocking → s.apu.storeStatus = .valid →
      ∃ t, exec .lower s = .next (answer 0x33 (t, .accepted [BitVec.ofNat 8 t.lmc.leaf.code])) ∧
        t.lmc = { s.lmc with leaf := if s.allDriven && s.bothSeated then .seatedLocked else .locking } ∧
        (∀ b : Fin 4, 2 ≤ b.val → t.bolt b = s.boltCommanded .drive b) ∧
        (∀ b : Fin 4, b.val < 2 → t.bolt b =
          if (s.bolt 2).state = .driven ∧ (s.bolt 3).state = .driven then s.boltCommanded .drive b else s.bolt b) ∧
        t.lpu.seqKind = (if s.allDriven then .none else .drive) ∧
        t.lpu.seqStep = (if (s.bolt 2).state = .driven ∧ (s.bolt 3).state = .driven then .centre else .heel) ∧
        t.lpu.seats = s.lpu.seats ∧ t.lpu.pumps = s.lpu.pumps ∧ (t.cl.latched &&& 8) ≠ 0) ∧
    (s.lmc.leaf = .raised ∨ s.lmc.leaf = .halted →
      (∀ n, first = some n → exec .lower s = .next (answer 0x33 (s, .refused .interlock n))) ∧
      (first = none →
        ∃ t, exec .lower s = .next (answer 0x33 (t, .accepted [4])) ∧ t.lmc.leaf = .lowering ∧
          t.lmc.motion.target = 0 ∧ t.lmc.motion.source = .seat ∧ t.lmc.motion.direction = .lower ∧
          t.lmc.motion.awaitingPumps = !t.bothReady ∧
          t.lmc = { s.lmc with leaf := .lowering, motion :=
            { s.motionRecord .lower .seat 0 with awaitingPumps := !s.bothReady } } ∧
          (∀ g : Leaf, t.pump g = s.pumpOrdered g) ∧ t.lpu.bolts = s.lpu.bolts ∧ t.lpu.seats = s.lpu.seats ∧
          t.lpu.seqKind = s.lpu.seqKind ∧ (t.cl.latched &&& 8) ≠ 0 ∧
          (s.lmc.leaf = .halted → t.psc = s.psc ∧ t.csu = s.csu)))

/-- STOP (R114) at any authority level: a controlled halt in RAISING and LOWERING, HALTED at once from UNLOCKING and
LOCKING with the sequence cancelled, and DONE without effect in the other states. TRIP-CLEAR (R116): refused STATE
outside TRIPPED and TRIP_ACTIVE while a trip condition holds; else the leaves are HALTED with the cause cleared. That
the leaf state is one byte in the replies is the model's choice (note 27). -/
def Obligations.StopAndTripClear : Prop :=
  (∀ s : State, s.taking = true →
     (s.lmc.leaf = .seatedLocked ∨ s.lmc.leaf = .raised ∨ s.lmc.leaf = .halted ∨ s.lmc.leaf = .tripped →
       exec .stop s = .next (answer 0x34 (s, .done [BitVec.ofNat 8 s.lmc.leaf.code]))) ∧
     (s.lmc.leaf = .unlocking ∨ s.lmc.leaf = .locking →
       exec .stop s = .next (answer 0x34 (latch .leaf { s with
         lmc := { s.lmc with leaf := .halted }
         lpu := { s.lpu with seqKind := .none, standby := none } }, .accepted [6]))) ∧
     (s.lmc.leaf = .raising ∨ s.lmc.leaf = .lowering →
       (¬(s.lmc.motion.leaves.north.reference = 0 ∧ s.lmc.motion.leaves.south.reference = 0) →
         exec .stop s = .next (answer 0x34
           ({ s with lmc := { s.lmc with motion := { s.lmc.motion with halt := .stop } } },
             .accepted [BitVec.ofNat 8 s.lmc.leaf.code]))) ∧
       (s.lmc.motion.leaves.north.reference = 0 → s.lmc.motion.leaves.south.reference = 0 →
         exec .stop s = .next (answer 0x34 (latch .leaf { s with
           lmc := { s.lmc with leaf := .halted
                               motion := { s.lmc.motion with halt := .none, awaitingPumps := false } }
           lpu := { s.lpu with standby := none } }, .accepted [6]))))) ∧
  (∀ s : State, s.allows (operateRequest 0x35) →
     (s.lmc.leaf ≠ .tripped → exec .tripClear s = .next (answer 0x35 (s, .refused .state 0))) ∧
     (s.lmc.leaf = .tripped →
       (s.pins.estop = true ∨ s.leafZoneOccupied = true ∨ s.positionLost = true ∨ s.pumpFault = true →
         exec .tripClear s = .next (answer 0x35 (s, .refused .interlock 7))) ∧
       (s.pins.estop = false → s.leafZoneOccupied = false → s.positionLost = false → s.pumpFault = false →
         exec .tripClear s = .next (answer 0x35 (latch .leaf { s with
           lmc := { s.lmc with leaf := .halted, trip := none }
           lpu := { s.lpu with standby := none } }, .done [6])))))

/-- The trips (R98, R115): whatever command but a soft reset leaves the leaves TRIPPED from another state has set both
references to 0 in the same step, recorded a cause and latched TRIP. As the leaves leave RAISED, by a trip or by
LOWER, GO is withdrawn (R179): the turn of the side at GO is DONE, WITHDRAWN, the turns are ENDED with GO_WITHDRAWN,
the horn sounds 5.0 s, the seal starts from zero and a RUNNING batch closes; in CHANGEOVER the same without the horn,
and in IDLE or ENDED nothing. ESTOP stops every arm, bolt and pump group and trips the leaves from every state but
SEATED_LOCKED; its release starts nothing. Each arm that moves or is UP with a re-lowering pending becomes STALLED
ESTOP, its last stroke kept, LOWER for the pending one, with ARM latched; every other stays as it is but for one that
the RCS commands in the same step, which is STALLED ESTOP at once; where none stops, no arm and nothing of the road
changes (R51). Each bolt that moves becomes JAMMED ESTOP, its last stroke kept, with LOCKPOWER latched, and the rest
stay (R85). A group that is STARTING or READY stops, one in FAULT stays so, and the pumps latch no LOCKPOWER (R91).
What is said of a last stroke and of the rest excepts a state in which a report makes the RCS or the sequence take its
next step. That all stop before any report is taken is the model's choice for the order of the reports (note 43). -/
def Obligations.TripsStopTheLeaves : Prop :=
  (∀ (c : Instr) (s t : State), s.running = true → s.lmc.leaf ≠ .tripped → c ≠ .softResetEffect →
    exec c s = .next t → t.running = true → t.lmc.leaf = .tripped →
    t.lmc.motion.leaves.north.reference = 0 ∧ t.lmc.motion.leaves.south.reference = 0 ∧
    t.lmc.trip ≠ none ∧ (t.cl.latched &&& 0x10) ≠ 0) ∧
  (∀ (c : Instr) (s t : State), s.running = true → s.lmc.leaf = .raised → c ≠ .softResetEffect →
    exec c s = .next t → t.running = true → t.lmc.leaf ≠ .raised →
    (∀ d : Side, s.csu.phase = .turn → s.csu.current = some d →
      t.csu.phase = .ended ∧ t.csu.current = none ∧ t.csu.result = .goWithdrawn ∧ t.aspect d = .stop ∧
      t.csu.sides = s.csu.sides.set d { s.csu.sides.get d with
        status := .done, cause := some .withdrawn, goEnd := some s.tb.seconds } ∧
      t.csu.window = none ∧ t.csu.horn = 500 ∧ t.csu.sealTimer = some 0 ∧ t.csu.sealed = false ∧
      (t.cl.latched &&& 0x200) ≠ 0 ∧
      (s.psc.batch.state = .running → t.psc.batch.state = .closing ∧ t.aspect d.other = .stop) ∧
      (s.psc.batch.state ≠ .running → t.psc = s.psc ∧ t.aspect d.other = s.aspect d.other)) ∧
    (s.csu.phase = .changeover →
      t.csu = { s.csu with phase := .ended, current := none, result := .goWithdrawn, aspects := ⟨.stop, .stop⟩
                           changeover := none, window := t.csu.window } ∧
      (t.cl.latched &&& 0x200) ≠ 0 ∧
      (s.psc.batch.state = .running → t.psc.batch.state = (if s.csu.sealed then .closed else .closing)) ∧
      (s.psc.batch.state ≠ .running → t.psc = s.psc)) ∧
    (s.csu.phase = .idle ∨ s.csu.phase = .ended → t.csu = s.csu ∧ t.psc = s.psc)) ∧
  (∀ s : State, s.running = true → ∃ t, exec .estopAsserted s = .next t ∧ t.pins = { s.pins with estop := true } ∧
    (s.lmc.leaf ≠ .seatedLocked → t.lmc.leaf = .tripped) ∧
    (∀ g : Leaf, (t.pump g).state ≠ .starting ∧ (t.pump g).state ≠ .ready) ∧
    (∀ b : Fin 4, (t.bolt b).state ≠ .withdrawing ∧ (t.bolt b).state ≠ .driving) ∧
    (∀ a : Fin 8, (t.arm a).state ≠ .lowering ∧ (t.arm a).state ≠ .raising) ∧
    (let stops := fun a : Fin 8 => (s.arm a).state = .lowering ∨ (s.arm a).state = .raising ∨
       ((s.arm a).state = .up ∧ (s.arm a).relowerPending = true)
     let raises := s.rcs.road = .reopening ∧ s.rcs.entryRaising = false ∧ s.allUp exitArms = true
     (∀ a : Fin 8, stops a → (t.arm a).state = .stalled ∧ (t.arm a).cause = some .estop ∧
       (t.arm a).relowerPending = false ∧
       (¬raises → t.rcs.road = s.rcs.road → (t.arm a).last = (if (s.arm a).state = .up then .lower else (s.arm a).last))) ∧
     (∀ a : Fin 8, ¬raises → ¬stops a → t.arm a = s.arm a ∨
       ((t.arm a).state = .stalled ∧ (t.arm a).cause = some .estop)) ∧
     ((∀ a : Fin 8, ¬stops a) → t.bzu = s.bzu ∧ t.rcs = s.rcs) ∧
     ((∃ a : Fin 8, stops a) → (t.cl.latched &&& 2) ≠ 0)) ∧
    (let stops := fun b : Fin 4 => (s.bolt b).state = .withdrawing ∨ (s.bolt b).state = .driving
     let steps := (s.lpu.seqKind = .withdraw ∧ s.lpu.seqStep = .centre ∧ (s.bolt 0).state = .withdrawn ∧
         (s.bolt 1).state = .withdrawn) ∨
       (s.lpu.seqKind = .drive ∧ s.lpu.seqStep = .heel ∧ (s.bolt 2).state = .driven ∧ (s.bolt 3).state = .driven)
     (∀ b : Fin 4, stops b → (t.bolt b).state = .jammed ∧ (t.bolt b).cause = some .estop ∧
       (¬steps → (t.bolt b).last = (s.bolt b).last)) ∧
     (∀ b : Fin 4, ¬steps → ¬stops b → t.bolt b = s.bolt b) ∧
     ((∃ b : Fin 4, stops b) → (t.cl.latched &&& 0x20) ≠ 0) ∧
     ((∀ b : Fin 4, ¬stops b) → t.cl.latched &&& 0x20 = s.cl.latched &&& 0x20)) ∧
    (∀ g : Leaf, ((s.pump g).state = .starting ∨ (s.pump g).state = .ready →
        (t.pump g).state = .stopped ∧ (t.pump g).hold = none) ∧
      ((s.pump g).state = .stopped ∨ (s.pump g).state = .fault → t.pump g = s.pump g))) ∧
  (∀ s : State, exec .estopReleased s = .next { s with pins := { s.pins with estop := false } })

/-- CONTROL_PERIOD (R106, R111 to R115): a trip condition trips; a moving leaf state issues the references of the
motion record's period, and its end, RAISED when both leaves have arrived at a raise's target, where a FORMED batch
becomes RUNNING, BATCH is latched and the leading side is offered the first turn, in IDLE alone (R166, R176; the offer
is O50's), HALTED when a halt other than a wind reversal has come to rest, LOWERING again with the derate fixed after
a wind reversal (R118), also where both leaves have arrived in it (note 14, the model's reading); outside RAISING and
LOWERING, and while the pumps are awaited, nothing is issued. The conditions of R115 by their table, the first that
holds being the cause; the angle of a LOST leaf meets no test (R127), and a test over both leaves is not met then
(note 38, the model's reading). A tick runs a period every 20 ms, then tests the alignment of the centre bolts (notes
1 and 4). -/
def Obligations.ControlPeriodOutcomes : Prop :=
  ∀ s : State, s.running = true →
    let m := s.lmc.motion.period s.msu.angles.north.angle s.msu.angles.south.angle s.pctInUse
    let u : State := { s with lmc := { s.lmc with motion := m } }
    s.tripNow =
      (if s.lmc.leaf = .seatedLocked ∨ s.lmc.leaf = .tripped then none
      else if s.pins.estop = true then some .estop
      else if s.leafZoneOccupied = true then some .deck
      else if (s.lmc.leaf = .raising ∨ s.lmc.leaf = .lowering) ∧ s.msu.angles.north.source ≠ .lost ∧
          s.msu.angles.south.source ≠ .lost ∧
          s.lmc.motion.sTrip ≤ (s.msu.angles.north.angle - s.msu.angles.south.angle).natAbs then some .skew
      else if s.msu.angles.north.source = .lost ∨ s.msu.angles.south.source = .lost then some .position
      else if (s.lmc.leaf = .raising ∨ s.lmc.leaf = .lowering) ∧ s.pumpFault = true then some .pressure
      else if s.lmc.leaf = .raised ∧
          (s.msu.angles.north.angle + s.lmc.motion.driftLimit < s.lmc.motion.target ∨
            s.msu.angles.south.angle + s.lmc.motion.driftLimit < s.lmc.motion.target) then some .drift
      else none) ∧
    controlDue s = (if s.tb.subTick % 2 = 0 then
      ((s.after .controlPeriod).after (.centreBoltAligned 0)).after (.centreBoltAligned 1) else s) ∧
    (∀ c, s.tripNow = some c → exec .controlPeriod s = .next (trip c s)) ∧
    (s.tripNow = none → (s.lmc.leaf ≠ .raising ∧ s.lmc.leaf ≠ .lowering) ∨ s.lmc.motion.awaitingPumps = true →
      exec .controlPeriod s = .next s) ∧
    (s.tripNow = none → s.lmc.leaf = .raising ∨ s.lmc.leaf = .lowering → s.lmc.motion.awaitingPumps = false →
      (m.halt = .none → m.bothArrived = false → exec .controlPeriod s = .next u) ∧
      (m.halt = .none → m.bothArrived = true → m.direction = .raise →
        ∃ t, exec .controlPeriod s = .next t ∧ t.lmc.leaf = .raised ∧ t.lmc.motion = m ∧ (t.cl.latched &&& 8) ≠ 0 ∧
          (s.psc.batch.state ≠ .formed → t.psc = s.psc ∧ t.csu = s.csu) ∧
          (s.psc.batch.state = .formed → (t.cl.latched &&& 0x200) ≠ 0 ∧
            ∃ v : State, v.lmc = t.lmc ∧ v.csu = s.csu ∧ v.tb = s.tb ∧ v.phu.circuits = s.phu.circuits ∧
              v.psc = { s.psc with batch := { s.psc.batch with
                state := .running, raisedAt := some s.tb.seconds } } ∧
              (∀ d, s.csu.phase = .idle → s.psc.batch.leading = some d → t = offerTurn 4 d v ∧
                ((s.csu.sides.get d).status = .notYet → s.calledLeft d = true → s.redsFailed d.other = false →
                  s.greensFailed d = false → t.aspect d = .go ∧ t.csu.phase = .turn ∧ t.csu.current = some d ∧
                  t.psc.batch.state = .running)) ∧
              (s.csu.phase ≠ .idle ∨ s.psc.batch.leading = none → t = v))) ∧
      (m.halt = .none → m.bothArrived = true → m.direction = .lower → s.bothSeated = false →
        exec .controlPeriod s = .next u) ∧
      (m.halt = .none → m.bothArrived = true → m.direction = .lower → s.bothSeated = true →
        s.lmc.leaf = .lowering → ∃ t, exec .controlPeriod s = .next t ∧ t.lmc.motion = m ∧
          (t.lmc.leaf = .locking ∨ t.lmc.leaf = .seatedLocked)) ∧
      (m.halt ≠ .none → m.bothArrived = false → m.atRest = false → exec .controlPeriod s = .next u) ∧
      (m.halt ≠ .none → m.halt ≠ .wind ∨ s.apu.restart = true → m.bothArrived = true ∨ m.atRest = true →
        ∃ t, exec .controlPeriod s = .next t ∧ t.lmc.leaf = .halted ∧ t.lmc.motion.halt = .none) ∧
      (m.halt = .wind → s.apu.restart = false → m.bothArrived = true ∨ m.atRest = true →
        ∃ t, exec .controlPeriod s = .next t ∧ t.lmc.leaf = .lowering ∧ t.lmc.motion.source = .reversal ∧
          t.lmc.motion.target = 0 ∧ t.lmc.motion.derateFixed = true ∧ t.lmc.motion.direction = .lower ∧
          t.lmc.motion = { s.motionRecord .lower .reversal 0 with
            derateFixed := true, awaitingPumps := !s.bothReady } ∧
          (∀ g : Leaf, t.pump g = s.pumpOrdered g) ∧ (s.lmc.leaf = .raising → (t.cl.latched &&& 8) ≠ 0)))

/-- The reference computation (R106 to R110): the root is the floor of the square root; an arrived leaf stays arrived
at magnitude 0; the target speed (R107) is 0 in a halt, else the cap, Vk within B of the target or below Bs and the
floor of Vc × pct / 100 elsewhere, under the braking bound where the distance exceeds B, and never below Vk; so it
lies between the creep and the cruise speed. The magnitude rises by at most R and falls in a halt by at least the halt
step. The skew correction (R109): with neither leaf arrived, each leaf keeps its ramped speed within the dead band;
between the dead band and the trip limit the leading leaf, the one ahead in the motion's direction, is slowed in
proportion and the lagging one keeps its speed, in a halt as well; with the other leaf arrived no correction is made.
The ramp (R108) goes up by R to the target speed, down by R to it without a halt, and by the halt step in one. The
reference has the motion's sign and the stored magnitude. -/
def Obligations.ReferenceComputation : Prop :=
  (∀ n : Nat, n < 2 ^ 64 → isqrt n * isqrt n ≤ n ∧ n < (isqrt n + 1) * (isqrt n + 1)) ∧
  (∀ (m : Motion) (north south : Int) (pct : Nat) (l : Leaf), m.vk ≤ m.vc → pct ≤ 100 →
     let θ := match l with | .north => north | .south => south
     let d := m.leaves.get l
     let e := (m.period north south pct).leaves.get l
     let dist := ((m.target : Int) - θ).natAbs
     (d.arrived = true → e.arrived = true) ∧
     (e.arrived = true ↔ d.arrived = true ∨ dist ≤ m.w ∨ (m.direction = .raise ∧ (m.target : Int) < θ) ∨
       (m.direction = .lower ∧ θ < (m.target : Int))) ∧
     (e.arrived = true → e.vPrev = 0) ∧
     e.reference = (match m.direction with | .raise => (e.vPrev : Int) | .lower => -(e.vPrev : Int)) ∧
     (m.halt ≠ .none → m.targetSpeed θ pct = 0) ∧
     (m.halt = .none → m.targetSpeed θ pct =
       (let cap := if dist ≤ m.b ∨ θ < (m.bs : Int) then m.vk else m.vc * pct / 100
       max m.vk (if m.b < dist then min cap (isqrt (m.vk * m.vk + 2 * (50 * m.r) * (dist - m.b))) else cap))) ∧
     (m.halt = .none → m.vk ≤ m.targetSpeed θ pct ∧ m.targetSpeed θ pct ≤ m.vc) ∧
     (m.halt = .none → m.b < dist → dist < 2 ^ 20 → m.vk < 2 ^ 10 → m.r < 2 ^ 10 →
       m.targetSpeed θ pct = m.vk ∨
         m.targetSpeed θ pct * m.targetSpeed θ pct ≤ m.vk * m.vk + 100 * m.r * (dist - m.b)) ∧
     (m.halt = .none → (dist ≤ m.b ∨ θ < (m.bs : Int)) → m.targetSpeed θ pct = m.vk) ∧
     e.vPrev ≤ max d.vPrev (min (m.targetSpeed θ pct) (d.vPrev + m.r)) ∧
     (m.halt ≠ .none → e.vPrev ≤ d.vPrev - min (2 * m.r) 40) ∧
     (e.arrived = false → (north - south).natAbs ≤ m.sDead → e.vPrev = m.ramp (m.targetSpeed θ pct) d.vPrev) ∧
     (∀ vt v : Nat,
       (m.halt = .none → v < vt → m.ramp vt v = min vt (v + m.r)) ∧
       (m.halt = .none → vt ≤ v → m.ramp vt v = max vt (v - m.r)) ∧
       (m.halt ≠ .none → m.ramp vt v = v - min (2 * m.r) 40)) ∧
     (let o := (m.period north south pct).leaves.get (match l with | .north => .south | .south => .north)
      let ahead : Int := match m.direction, l with
        | .raise, .north => north - south
        | .raise, .south => south - north
        | .lower, .north => south - north
        | .lower, .south => north - south
      e.arrived = false →
        (o.arrived = true → e.vPrev = m.ramp (m.targetSpeed θ pct) d.vPrev) ∧
        (o.arrived = false → (m.sDead : Int) < ahead → e.vPrev =
          m.ramp (m.targetSpeed θ pct) d.vPrev * (m.sTrip - ahead.natAbs) / m.sTrip) ∧
        (ahead < 0 → e.vPrev = m.ramp (m.targetSpeed θ pct) d.vPrev)))

/-! ### Measurement -/

/-- ENCODER_PERIOD_END (R123 to R128), in the run and during start-up (R136), and nothing in another phase: each
encoder's record follows its own line's reply. Each leaf's angle is selected from its own two encoders (R126): the
primary's reading while that is VALID, else the check's while that is VALID; else the angle before is kept, with
source HELD while either encoder is SUSPECT and LOST where both are LOST, and a leaf whose source was LOST has nothing
to hold and stays LOST. A change of an encoder's state or of a source latches POSITION. A leaf's disagree mark follows
its run of five periods with both encoders VALID (R128); a mark newly set is told to the LMC, which ends an UNLOCKING
in HALTED and begins a controlled halt of a motion, or ends it at once where both references are 0 (R102, R113);
nothing is told during start-up. The first five periods of start-up are its listen of 100 ms (R123, R136; that they
are these five is note 37, DEDUCED): at the fifth an encoder's valid-since-read flag is yes if every period from its
first valid one onward was valid, and who answered by then and whether a position is LOST are kept; a later period is
none of the listen's. A tick ends a period one base tick before each control period (R123), with no reply begun on any
line unless the command has ended it: that form, and the mark of the model's own that keeps it, are its choice (note
42). -/
def Obligations.EncoderPeriods : Prop :=
  (∀ s : State,
    (s.tb.subTick % 2 = 0 → encoderDue s = s) ∧
    (s.tb.subTick % 2 = 1 → s.msu.heard = true → encoderDue s = { s with msu := { s.msu with heard := false } }) ∧
    (s.tb.subTick % 2 = 1 → s.msu.heard = false → encoderDue s =
      (let t := s.after (.encoderPeriodEnd .silent .silent .silent .silent)
      { t with msu := { t.msu with heard := false } }))) ∧
  (∀ (r : Fin 4 → EncoderReply) (s : State),
    (s.measuring = false → exec (.encoderPeriodEnd (r 0) (r 1) (r 2) (r 3)) s = .next s) ∧
    (s.measuring = true →
    let listening : Bool := decide (s.tb.phase = .startup) && decide (s.msu.listen.periods < 5)
    let ending : Bool := decide (s.tb.phase = .startup) && decide (s.msu.listen.periods = 4)
    ∃ t, exec (.encoderPeriodEnd (r 0) (r 1) (r 2) (r 3)) s = .next t ∧ t.msu.heard = true ∧
      (listening = false → t.msu.listen = s.msu.listen ∧
        ∀ i : Fin 4, t.msu.encoders[i].listen = s.msu.encoders[i].listen) ∧
      (listening = true → t.msu.listen.periods = s.msu.listen.periods + 1) ∧
      (listening = true → ending = false →
        t.msu.listen = { s.msu.listen with periods := s.msu.listen.periods + 1 } ∧
        ∀ i : Fin 4, t.msu.encoders[i].listen =
          (match s.msu.encoders[i].listen with
            | none => if t.msu.encoders[i].run = 0 then some true else none
            | some clean => some (clean && decide (t.msu.encoders[i].run = 0)))) ∧
      (ending = true →
        t.msu.listen.answered = t.msu.encoders[(0 : Fin 4)].last.isSome.toNat +
          2 * t.msu.encoders[(1 : Fin 4)].last.isSome.toNat + 4 * t.msu.encoders[(2 : Fin 4)].last.isSome.toNat +
          8 * t.msu.encoders[(3 : Fin 4)].last.isSome.toNat ∧
        t.msu.listen.lost = t.positionLost ∧
        ∀ i : Fin 4, (t.msu.encoders[i].validSinceRead = true ↔
            t.msu.encoders[i].run = 0 ∧ s.msu.encoders[i].listen ≠ some false) ∧
          t.msu.encoders[i].listen = none) ∧
      (∀ i : Fin 4,
        (∀ v : Half, r i = .reading v → (-100 ≤ v.toInt ∧ v.toInt ≤ 9000) →
          t.msu.encoders[i].state = .valid ∧ t.msu.encoders[i].run = 0 ∧ t.msu.encoders[i].last = some v ∧
          t.msu.encoders[i].cause = s.msu.encoders[i].cause ∧
          (ending = false → t.msu.encoders[i].validSinceRead = s.msu.encoders[i].validSinceRead) ∧
          t.msu.encoders[i].frameErrors = s.msu.encoders[i].frameErrors) ∧
        (∀ v : Half, r i = .reading v → ¬(-100 ≤ v.toInt ∧ v.toInt ≤ 9000) →
          t.msu.encoders[i].cause = .range ∧ t.msu.encoders[i].last = some v ∧
          t.msu.encoders[i].frameErrors = s.msu.encoders[i].frameErrors) ∧
        (r i = .silent ∨ r i = .corrupt →
          t.msu.encoders[i].cause = (if r i = .silent then .silent else .check) ∧
          t.msu.encoders[i].last = s.msu.encoders[i].last ∧
          t.msu.encoders[i].frameErrors = bump s.msu.encoders[i].frameErrors) ∧
        ((∀ v : Half, r i = .reading v → ¬(-100 ≤ v.toInt ∧ v.toInt ≤ 9000)) →
          t.msu.encoders[i].run = min 255 (s.msu.encoders[i].run + 1) ∧ t.msu.encoders[i].validSinceRead = false ∧
          t.msu.encoders[i].state = (if s.msu.encoders[i].run + 1 ≤ 2 then .suspect else .lost)) ∧
        (t.msu.encoders[i].state ≠ s.msu.encoders[i].state → (t.cl.latched &&& 0x80) ≠ 0)) ∧
      t.msu.wind = s.msu.wind ∧
      (∀ l : Leaf,
        let p := match l with | .north => t.msu.encoders[(0 : Fin 4)] | .south => t.msu.encoders[(2 : Fin 4)]
        let c := match l with | .north => t.msu.encoders[(1 : Fin 4)] | .south => t.msu.encoders[(3 : Fin 4)]
        let gap : Int := (p.last.getD 0).toInt - (c.last.getD 0).toInt
        let old := s.msu.angles.get l
        let new := t.msu.angles.get l
        (p.state = .valid → new.source = .primary ∧ new.angle = (p.last.getD 0).toInt) ∧
        (p.state ≠ .valid → c.state = .valid → new.source = .check ∧ new.angle = (c.last.getD 0).toInt) ∧
        (p.state ≠ .valid → c.state ≠ .valid → p.state = .suspect ∨ c.state = .suspect →
          new.source = (if old.source = .lost then .lost else .held) ∧ new.angle = old.angle) ∧
        (p.state = .lost → c.state = .lost → new.source = .lost ∧ new.angle = old.angle) ∧
        (new.source ≠ old.source → (t.cl.latched &&& 0x80) ≠ 0) ∧
        (p.state ≠ .valid ∨ c.state ≠ .valid →
          new.disagree = old.disagree ∧ new.run = 0 ∧ new.difference = old.difference) ∧
        (p.state = .valid → c.state = .valid → new.difference = gap ∧
          (old.disagree = decide (s.par pEncoderTolerance < gap.natAbs) →
            new.disagree = old.disagree ∧ new.run = 0) ∧
          (old.disagree ≠ decide (s.par pEncoderTolerance < gap.natAbs) →
            (old.run ≠ 4 → new.disagree = old.disagree ∧ new.run = old.run + 1) ∧
            (old.run = 4 → new.disagree = !old.disagree ∧ new.run = 0 ∧ (t.cl.latched &&& 0x80) ≠ 0)))) ∧
      (let told := s.running && ((t.msu.angles.north.disagree && !s.msu.angles.north.disagree) ||
        (t.msu.angles.south.disagree && !s.msu.angles.south.disagree))
       let still := s.lmc.motion.leaves.north.reference = 0 ∧ s.lmc.motion.leaves.south.reference = 0
       let moving := s.lmc.leaf = .raising ∨ s.lmc.leaf = .lowering
       (told = false ∨ (s.lmc.leaf ≠ .unlocking ∧ ¬moving) → t.lmc = s.lmc) ∧
       (told = true → s.lmc.leaf = .unlocking → t.lmc = { s.lmc with leaf := .halted } ∧ t.lpu.seqKind = .none) ∧
       (told = true → moving → ¬still →
         t.lmc = { s.lmc with motion := { s.lmc.motion with halt := .disagree } }) ∧
       (told = true → moving → still → t.lmc = { s.lmc with
         leaf := .halted, motion := { s.lmc.motion with halt := .none, awaitingPumps := false } }))))

/-- ANEMO_PULSE and ANEMO_INTERVAL_END (R129 to R132): the interval counts pulses but for a proving of circuit 14; its
end hands the count to the gust window of three, or discards it, and the wind value follows from three counts, also in
the interval that fills the window. KNOWN needs three counts and no failed mark (R131); the band is BELOW under Wd,
DERATE from Wd, STOP from Ws on and absent while UNKNOWN; a change of state or band latches WIND (R132). The derate
percentage (R133): 100 up to Wd, from 100 down to 41 between Wd and Ws, 40 from Ws on and while UNKNOWN, and never
rising with w. Where the wind becomes at or above Ws, or UNKNOWN, the LMC is told (R132): an UNLOCKING turns to
LOCKING, and a raise with no halt and no fixed derate takes the commit rule of R117, the derate fixed past the commit
point and a WIND halt before it; a LOST leaf is never past it (R127; note 38, the model's reading). In a tick the
interval ends with each second, then an epoch at every nonzero multiple of 16 s, then the tide is judged (notes 1 and
4). -/
def Obligations.WindAndDerate : Prop :=
  (∀ s : State, s.running = true →
     ((∀ p, s.phu.proving = some p → p.circuit.val ≠ 14) → exec .anemoPulse s =
       .next { s with msu := { s.msu with wind := { s.msu.wind with interval := bump s.msu.wind.interval } } }) ∧
     (∀ p, s.phu.proving = some p → p.circuit.val = 14 → exec .anemoPulse s = .next s) ∧
     (s.msu.wind.discard = true → exec .anemoIntervalEnd s = .next { s with msu := { s.msu with
       wind := { s.msu.wind with interval := 0, discard := s.msu.wind.failed } } }) ∧
     (s.msu.wind.discard = false → ∃ t, exec .anemoIntervalEnd s = .next t ∧ t.msu.wind.interval = 0 ∧
       (∀ a b c, s.msu.wind.window = [a, b, c] → t.msu.wind.window = [b, c, s.msu.wind.interval] ∧
         t.msu.wind.w = min 999 ((b + c + s.msu.wind.interval) * s.par pAnemoFactor / 30) ∧
         t.msu.wind.known = !s.msu.wind.failed) ∧
       (∀ a b, s.msu.wind.window = [a, b] →
         t.msu.wind.w = min 999 ((a + b + s.msu.wind.interval) * s.par pAnemoFactor / 30) ∧
         t.msu.wind.known = !s.msu.wind.failed) ∧
       (let w := t.msu.wind.w
        (t.msu.wind.known = false → t.msu.wind.band = none ∧ t.msu.wind.pct = 40) ∧
        (t.msu.wind.known = true → w < s.par pDerateLimit → t.msu.wind.band = some .below) ∧
        (t.msu.wind.known = true → s.par pDerateLimit ≤ w → w < s.par pStopLimit → t.msu.wind.band = some .derate) ∧
        (t.msu.wind.known = true → s.par pDerateLimit < s.par pStopLimit → s.par pStopLimit ≤ w →
          t.msu.wind.band = some .stop)) ∧
       (t.msu.wind.known = s.msu.wind.known → t.msu.wind.band = s.msu.wind.band → t.cl = s.cl) ∧
       (s.msu.wind.window.length < 3 → t.msu.wind.window = s.msu.wind.window ++ [s.msu.wind.interval]) ∧
       (s.msu.wind.window.length < 2 → t.msu.wind.w = s.msu.wind.w ∧ t.msu.wind.known = false) ∧
       (t.msu.wind.known ≠ s.msu.wind.known ∨ t.msu.wind.band ≠ s.msu.wind.band →
         (t.cl.latched &&& 0x40) ≠ 0) ∧
       t.msu.encoders = s.msu.encoders ∧ t.msu.angles = s.msu.angles ∧
       (let barred := fun u : State => !u.msu.wind.known || decide (u.msu.wind.band = some .stop)
        let told := barred t && !barred s
        (told = false → t.lmc = s.lmc) ∧
        (told = true → t.lmc = (reportWind { s with msu := t.msu }).lmc))) ∧
     secondDue s = (((s.after .anemoIntervalEnd).happens
       (s.tb.seconds ≠ 0 && s.tb.seconds.toNat % 16 = 0) .epochEnd).after .tideStale)) ∧
  (∀ s : State,
     let t := reportWind s
     let past := s.msu.angles.north.source ≠ .lost ∧ s.msu.angles.south.source ≠ .lost ∧
       ((s.lmc.motion.target * s.lmc.motion.commitFraction / 100 : Nat) : Int) ≤
         min s.msu.angles.north.angle s.msu.angles.south.angle
     let still := s.lmc.motion.leaves.north.reference = 0 ∧ s.lmc.motion.leaves.south.reference = 0
     (s.lmc.leaf ≠ .unlocking → s.lmc.leaf ≠ .raising → t = s) ∧
     (s.lmc.leaf = .unlocking → (t.lmc.leaf = .locking ∨ t.lmc.leaf = .seatedLocked) ∧
       t.lmc.motion = s.lmc.motion ∧ (t.cl.latched &&& 0x48) = 0x48) ∧
     (s.lmc.leaf = .raising → s.lmc.motion.halt ≠ .none ∨ s.lmc.motion.derateFixed = true → t = s) ∧
     (s.lmc.leaf = .raising → s.lmc.motion.halt = .none → s.lmc.motion.derateFixed = false →
       (t.cl.latched &&& 0x48) = 0x48 ∧
       (past → t.lmc = { s.lmc with motion := { s.lmc.motion with derateFixed := true } }) ∧
       (¬past → ¬still → t.lmc = { s.lmc with motion := { s.lmc.motion with halt := .wind } }) ∧
       (¬past → still → s.apu.restart = false → t.lmc.leaf = .lowering ∧ t.lmc.motion.target = 0 ∧
         t.lmc.motion.source = .reversal ∧ t.lmc.motion.derateFixed = true) ∧
       (¬past → still → s.apu.restart = true → t.lmc.leaf = .halted))) ∧
  (∀ (w : Wind) (wd ws : Nat), wd < ws →
     w.isKnown = (decide (w.window.length = 3) && !w.failed) ∧ (w.judge wd ws).known = w.isKnown ∧
     (w.isKnown = false → (w.judge wd ws).band = none) ∧
     (w.isKnown = true → (w.judge wd ws).band =
       some (if w.w < wd then .below else if w.w < ws then .derate else .stop)) ∧
     (w.isKnown = true → w.w ≤ wd → (w.judge wd ws).pct = 100) ∧
     (w.isKnown = true → wd < w.w → w.w < ws → (w.judge wd ws).pct = 100 - 60 * (w.w - wd) / (ws - wd)) ∧
     (w.isKnown = false ∨ ws ≤ w.w → (w.judge wd ws).pct = 40) ∧
     (∀ v : Nat, wd < v → v < ws → 41 ≤ pctOf v wd ws ∧ pctOf v wd ws ≤ 100) ∧
     (∀ v u : Nat, v ≤ u → pctOf u wd ws ≤ pctOf v wd ws))

/-! ### Vessels, queues and the batch -/

/-- VESSEL-REPORT, VESSEL-CLEAR and EPOCH_END (R140, R141, R144, R149): a report refreshes the entry that holds its
identity, or learns a new one into the lowest unused slot, or replaces the SIGHTED or PASSED entry with the least
life; a clear and an epoch end remove entries, take them from their queues, and never a CALLED one. A refresh keeps
the side of a WAITING or CALLED entry and the air draught of a CALLED one, and the reply says what it ignored, whether
the entry was known, learned or a replacement, and its record (R142). Each removal and each learning counts in the
change number, a WAITING vessel that an epoch removes in the lapsed counter; a clear that removes anything and a lapse
latch VESSEL. -/
def Obligations.VesselTable : Prop :=
  (∀ s : State,
     (∀ (identity : Word) (side : Byte) (air : Half), s.allows (operateRequest 0x40) → identity ≠ 0 → side.toNat ≤ 1 →
       (∀ k v, s.findVessel identity = some k → s.vessel k = some v →
         let reported : Side := if side = 0 then .seaward else .landward
         let given := some (min 999 air.toNat)
         let sideIgnored := (v.state = .waiting ∨ v.state = .called) ∧ reported ≠ v.side
         let airIgnored := v.state = .called ∧ air ≠ 0 ∧ v.air ≠ given
         ∃ t d, exec (.vesselReport identity side air) s = .next (answer 0x40 (t, .done d)) ∧
           d = [0, (if sideIgnored then 1 else 0) + (if airIgnored then 2 else 0), 0, 0, 0, 0] ++ t.vesselRecord k ∧
           { t with vt := s.vt } = s ∧ { t.vt with slots := s.vt.slots } = s.vt ∧ t.vt.change = s.vt.change ∧
           (∃ u, t.vessel k = some u ∧ u.identity = v.identity ∧ u.life = s.lifetime ∧
             u.state = (if v.state = .passed then .sighted else v.state) ∧
             (v.state = .sighted ∨ v.state = .passed → u.side = reported) ∧
             (v.state = .waiting ∨ v.state = .called → u.side = v.side) ∧
             (v.state = .called ∨ air = 0 → u.air = v.air) ∧
             (v.state ≠ .called → air ≠ 0 → u.air = some (min 999 air.toNat))) ∧
           (∀ j : Fin 32, j ≠ k → t.vessel j = s.vessel j)) ∧
       (∀ k : Fin 32, s.findVessel identity = none → s.vessel k = none →
         (∀ j : Fin 32, j.val < k.val → s.vessel j ≠ none) →
         ∃ t d, exec (.vesselReport identity side air) s = .next (answer 0x40 (t, .done d)) ∧
           d = [1, 0, 0, 0, 0, 0] ++ t.vesselRecord k ∧ t.vt.lapsed = s.vt.lapsed ∧
           { t with vt := s.vt } = s ∧ t.vt.change = s.vt.change + 1 ∧ t.vt.replaced = s.vt.replaced ∧
           t.vessel k = some ⟨identity, if side = 0 then .seaward else .landward,
             if air = 0 then none else some (min 999 air.toNat), s.lifetime, .sighted⟩ ∧
           (∀ j : Fin 32, j ≠ k → t.vessel j = s.vessel j))) ∧
     (∀ mask : Byte, s.allows (operateRequest 0x42) → 1 ≤ mask.toNat → mask.toNat ≤ 3 →
       let masked (p : VesselState → Bool) : List (Fin 32) := (List.finRange 32).filter fun k =>
         (s.vessel k).any fun v => inMask mask v.side && p v.state
       let gone := masked fun st => st ≠ .called
       ∃ t d, exec (.vesselClear mask) s = .next (answer 0x42 (t, .done d)) ∧ d.length = 3 ∧
         d = [BitVec.ofNat 8 gone.length, BitVec.ofNat 8 (masked fun st => st = .waiting).length,
           BitVec.ofNat 8 (masked fun st => st = .called).length] ∧
         t.cl = (if gone = [] then s.cl else { s.cl with latched := s.cl.latched ||| 0x100 }) ∧
         t.vt.change = s.vt.change + BitVec.ofNat 32 gone.length ∧ t.vt.replaced = s.vt.replaced ∧
         (∀ q : Fin 8, t.queue q = (s.queue q).filter fun e => e.slot ∉ gone) ∧
         { t with cl := s.cl, vt := s.vt, psc := s.psc } = s ∧ { t.psc with queues := s.psc.queues } = s.psc ∧
         (∀ (k : Fin 32) (v : Vessel), s.vessel k = some v →
           (v.state = .called ∨ inMask mask v.side = false → t.vessel k = some v) ∧
           (v.state ≠ .called → inMask mask v.side = true → t.vessel k = none ∧
             (∀ q : Fin 8, ∀ e ∈ t.queue q, e.slot ≠ k))) ∧
         (∀ k : Fin 32, s.vessel k = none → t.vessel k = none) ∧ t.vt.lapsed = s.vt.lapsed) ∧
     (s.running = true →
       let removed (p : VesselState → Bool) : List (Fin 32) := (List.finRange 32).filter fun k =>
         (s.vessel k).any fun v => v.state ≠ .called && v.life ≤ 1 && p v.state
       let gone := removed fun _ => true
       let lapsed := removed fun st => st = .waiting
       ∃ t, exec .epochEnd s = .next t ∧ t.vt.change = s.vt.change + BitVec.ofNat 32 gone.length ∧
       (s.vt.lapsed ≤ 65535 → t.vt.lapsed = min 65535 (s.vt.lapsed + lapsed.length)) ∧
       t.vt.replaced = s.vt.replaced ∧
       t.cl = (if lapsed = [] then s.cl else { s.cl with latched := s.cl.latched ||| 0x100 }) ∧
       (∀ q : Fin 8, t.queue q = (s.queue q).filter fun e => e.slot ∉ gone) ∧
       { t with cl := s.cl, vt := s.vt, psc := s.psc } = s ∧ { t.psc with queues := s.psc.queues } = s.psc ∧
       (∀ k : Fin 32, s.vessel k = none → t.vessel k = none) ∧
       (∀ (k : Fin 32) (v : Vessel), s.vessel k = some v →
         (v.state = .called → t.vessel k = some v) ∧
         (v.state ≠ .called → 1 < v.life → t.vessel k = some { v with life := v.life - 1 }) ∧
         (v.state ≠ .called → v.life ≤ 1 → t.vessel k = none ∧ (∀ q : Fin 8, ∀ e ∈ t.queue q, e.slot ≠ k)) ∧
         (v.state = .waiting → v.life ≤ 1 → (t.cl.latched &&& 0x100) ≠ 0)))) ∧
  (∀ (identity : Word) (side : Byte) (air : Half) (s : State), s.allows (operateRequest 0x40) → identity ≠ 0 →
     side.toNat ≤ 1 → s.findVessel identity = none → (∀ k : Fin 32, s.vessel k ≠ none) →
     ((∀ (k : Fin 32) (v : Vessel), s.vessel k = some v → v.state = .waiting ∨ v.state = .called) →
       exec (.vesselReport identity side air) s = .next (answer 0x40 (s, .refused .tableFull 0))) ∧
     (∀ (k : Fin 32) (v : Vessel), s.vessel k = some v → v.state = .sighted ∨ v.state = .passed →
       (∀ (j : Fin 32) (u : Vessel), s.vessel j = some u → u.state = .sighted ∨ u.state = .passed →
         v.life ≤ u.life ∧ (j.val < k.val → v.life < u.life)) →
       ∃ t d, exec (.vesselReport identity side air) s = .next (answer 0x40 (t, .done d)) ∧
         d = [2, 0] ++ be32 v.identity ++ t.vesselRecord k ∧ t.vt.lapsed = s.vt.lapsed ∧
         { t with vt := s.vt } = s ∧ t.vt.change = s.vt.change + 1 ∧ t.vt.replaced = bump s.vt.replaced ∧
         t.vessel k = some ⟨identity, if side = 0 then .seaward else .landward,
           if air = 0 then none else some (min 999 air.toNat), s.lifetime, .sighted⟩ ∧
         (∀ j : Fin 32, j ≠ k → t.vessel j = s.vessel j)))

/-- JOIN (R153 to R155, R165): a waiting vessel is refused; a full queue refuses with its counter; with room in the
pool the vessel is appended at the tail with the next join sequence, WAITING with a fresh life, and CALLED at once
where the batch is extended: its item stands after the last class-0 item of its side, else at the head of its side's
group, else at the head of the list for the leading side and at its end for the other, with the contribution and the
angle of R163. The reply says how the vessel was learned, whom it replaced or displaced, and whether it extends. An
unknown vessel is learned first, as VESSEL-REPORT learns it, refused TABLE_FULL where it cannot be. At a full pool the
victim of R154 is the first uncalled entry of the highest class on the side with more uncalled entries, the JOIN's own
where they are equal: it leaves its queue for a join of a higher priority, which then goes on as with room, else the
JOIN is refused POOL_FULL. The LMC hears of an extension that raises the opening angle, and takes it as R119 states:
in UNLOCKING, RAISING and HALTED with a batch's raise in its record the target becomes the new angle within the
captured Tf, and an arrived leaf short of it by more than W moves on from 0, but not a LOST one, whose angle meets no
test (R127). -/
def Obligations.JoinOutcomes : Prop :=
  (∀ (identity : Word) (side cls : Byte) (air : Half) (c : Fin 4) (k : Fin 32) (v : Vessel) (s : State),
     s.allows (operateRequest 0x50) → identity ≠ 0 → side.toNat ≤ 1 → cls.toNat = c.val →
     s.findVessel identity = some k → s.vessel k = some v →
     let d : Side := if side = 0 then .seaward else .landward
     let q := queueOf d c
     let seq : Word := if s.psc.joinSeq = 0xFFFFFFFF then 1 else s.psc.joinSeq + 1
     (v.state = .waiting ∨ v.state = .called →
       exec (.join identity side cls air) s = .next (answer 0x50 (s, .refused .alreadyWaiting 0))) ∧
     (v.state = .sighted ∨ v.state = .passed → 8 ≤ (s.queue q).length →
       exec (.join identity side cls air) s = .next (answer 0x50
         ({ s with psc := { s.psc with refused := bump s.psc.refused } }, .refused .queueFull 0))) ∧
     (v.state = .sighted ∨ v.state = .passed → (s.queue q).length < 8 → s.pool < 24 →
       let b := s.psc.batch
       let extended := c = 0 ∧ b.state = .formed ∧ b.items.length < b.size
       ∃ t data, exec (.join identity side cls air) s = .next (answer 0x50 (t, .done data)) ∧
         data = [0, 0, 0, 0, 0, 0, 0, 0, 0, if extended then 1 else 0] ++ t.vesselRecord k ∧
         t.psc.joinSeq = seq ∧ (∀ r : Fin 8, r ≠ q → (t.queue r).map (·.slot) = (s.queue r).map (·.slot)) ∧
         (∀ j : Fin 32, j ≠ k → t.vessel j = s.vessel j) ∧
         (∃ u, t.vessel k = some u ∧ u.identity = v.identity ∧ u.side = d ∧ u.life = s.lifetime ∧
           u.air = (if air = 0 then v.air else some (min 999 air.toNat)) ∧
           (extended → ∃ item pre post,
             item = (⟨k, v.identity, d, 0, s.contribution b.tf u.air, .called⟩ : Item) ∧ b.items = pre ++ post ∧
             t.psc.batch = { b with
               items := pre ++ item :: post, angle := max b.angle item.contribution
               tideWasStale := s.tideStaleNow, tableWasInvalid := !s.clearanceValid
               extensions := b.extensions + 1, remaining := b.remaining + 1 } ∧
             ((∃ i ∈ b.items, i.side = d ∧ i.cls = 0) →
               (∃ i, pre.getLast? = some i ∧ i.side = d ∧ i.cls = 0) ∧ (∀ i ∈ post, ¬(i.side = d ∧ i.cls = 0))) ∧
             ((∀ i ∈ b.items, ¬(i.side = d ∧ i.cls = 0)) → (∃ i ∈ b.items, i.side = d) →
               (∀ i ∈ pre, i.side ≠ d) ∧ (∃ i, post.head? = some i ∧ i.side = d)) ∧
             ((∀ i ∈ b.items, i.side ≠ d) → if b.leading = some d then pre = [] else post = []) ∧
             ((∀ r : Fin 8, ∀ e ∈ s.queue r, e.slot ≠ k) →
               t.queue q = s.queue q ++ [⟨k, seq, s.tb.seconds, true⟩] ∧
               (∀ r : Fin 8, r ≠ q → t.queue r = s.queue r)) ∧
             (t.cl.latched &&& 0x200) ≠ 0 ∧ (s.clearanceValid = false → (t.cl.latched &&& 0x4000) ≠ 0) ∧
             (s.csu.phase = .idle → t.aspect d = .standby)) ∧
           (if extended then
             u.state = .called ∧ t.psc.batch.extensions = s.psc.batch.extensions + 1 ∧
               t.psc.batch.items.length = s.psc.batch.items.length + 1 ∧ s.psc.batch.angle ≤ t.psc.batch.angle ∧
               t.lmc = (if s.psc.batch.angle < t.psc.batch.angle then
                 (reportExtension t.psc.batch.angle s).lmc else s.lmc)
           else u.state = .waiting ∧ t.queue q = s.queue q ++ [⟨k, seq, s.tb.seconds, false⟩] ∧
             t.psc.batch = s.psc.batch ∧ t.cl = s.cl ∧ t.csu = s.csu ∧ t.lmc = s.lmc ∧
             (∀ r : Fin 8, r ≠ q → t.queue r = s.queue r))))) ∧
  (∀ (identity : Word) (side cls : Byte) (air : Half) (c : Fin 4) (s : State),
     s.allows (operateRequest 0x50) → identity ≠ 0 → side.toNat ≤ 1 → cls.toNat = c.val →
     let d : Side := if side = 0 then .seaward else .landward
     let given : Option Nat := if air = 0 then none else some (min 999 air.toNat)
     (s.findVessel identity = none → learnVessel identity d given s = none →
       exec (.join identity side cls air) s = .next (answer 0x50 (s, .refused .tableFull 0))) ∧
     (∀ t k how, s.findVessel identity = none → learnVessel identity d given s = some (t, k, how) →
       exec (.join identity side cls air) s = .next (answer 0x50 (queueJoin k d c given how t)) ∧
       exec (.vesselReport identity side air) s = .next (answer 0x40
         (t, .done ([BitVec.ofNat 8 how.code, 0] ++ be32 how.oldIdentity ++ t.vesselRecord k))) ∧
       exec (.join identity side cls air) t = .next (answer 0x50 (queueJoin k d c given .known t)) ∧
       (∀ u tail, queueJoin k d c given .known t = (u, .done ([0, 0, 0, 0, 0] ++ tail)) →
         queueJoin k d c given how t = (u, .done ([BitVec.ofNat 8 how.code] ++ be32 how.oldIdentity ++ tail)))) ∧
     (∀ k v, s.findVessel identity = some k → s.vessel k = some v → v.state = .sighted ∨ v.state = .passed →
       (s.queue (queueOf d c)).length < 8 → 24 ≤ s.pool →
       let on (x : Side) : List (Fin 8) := match x with | .seaward => [0, 1, 2, 3] | .landward => [4, 5, 6, 7]
       let free (x : Side) : Nat := ((on x).map fun r => ((s.queue r).filter fun e => !e.called).length).sum
       let x : Side := if free d.other ≤ free d then d else d.other
       ((∀ r ∈ on x, ∀ e ∈ s.queue r, e.called = true) →
         exec (.join identity side cls air) s = .next (answer 0x50 (s, .refused .poolFull 0))) ∧
       (∀ (r : Fin 8) (i : Nat) (e : QueueEntry), r ∈ on x → (s.queue r)[i]? = some e → e.called = false →
         (∀ j y, j < i → (s.queue r)[j]? = some y → y.called = true) →
         (∀ z ∈ on x, r.val < z.val → ∀ y ∈ s.queue z, y.called = true) →
         (r.val % 4 ≤ c.val →
           exec (.join identity side cls air) s = .next (answer 0x50 (s, .refused .poolFull 0))) ∧
         (∀ w, c.val < r.val % 4 → e.slot ≠ k → s.vessel e.slot = some w →
           let freed : State := { s with
             vt := { s.vt with slots := s.vt.slots.set e.slot (some { w with state := .sighted }) }
             psc := { s.psc with
               queues := s.psc.queues.map fun l => l.filter fun y => decide (y.slot ≠ e.slot)
               displaced := bump s.psc.displaced }
             cl := { s.cl with latched := s.cl.latched ||| 0x100 } }
           ∃ t tail, exec (.join identity side cls air) s =
               .next (answer 0x50 (t, .done ([0, 0, 0, 0, 0] ++ be32 w.identity ++ tail))) ∧
             (s.pool = 24 → exec (.join identity side cls air) freed =
               .next (answer 0x50 (t, .done ([0, 0, 0, 0, 0, 0, 0, 0, 0] ++ tail)))) ∧
             t.psc.displaced = bump s.psc.displaced ∧ (t.cl.latched &&& 0x100) ≠ 0 ∧
             t.vessel e.slot = some { w with state := .sighted } ∧
             (∀ q : Fin 8, ∀ y ∈ t.queue q, y.slot ≠ e.slot))))) ∧
  (∀ (angle : Nat) (s : State),
     let m := s.lmc.motion
     let t := reportExtension angle s
     let taken := (s.lmc.leaf = .unlocking ∨ s.lmc.leaf = .raising ∨ s.lmc.leaf = .halted) ∧ m.present = true ∧
       m.source = .batch ∧ m.direction = .raise
     (¬taken → t = s) ∧
     (taken → t = { s with lmc := { s.lmc with motion := t.lmc.motion } } ∧
       t.lmc.motion = { m with target := min angle m.tf, leaves := t.lmc.motion.leaves } ∧
       (∀ l : Leaf,
         let d := m.leaves.get l
         let θ := (s.msu.angles.get l).angle
         let moves := d.arrived = true ∧ (s.msu.angles.get l).source ≠ .lost ∧
           m.w < (((min angle m.tf : Nat) : Int) - θ).natAbs ∧ θ < ((min angle m.tf : Nat) : Int)
         (moves → t.lmc.motion.leaves.get l = { d with arrived := false, vPrev := 0 }) ∧
         (¬moves → t.lmc.motion.leaves.get l = d))))

/-- WITHDRAW, and the removal of a vessel from its queue (R152, R156): a WAITING vessel leaves its queue and is
SIGHTED with its life kept; a CALLED one leaves it too, its item is WITHDRAWN at its place, the remaining count falls
by 1, a turn with no called vessel left ends, and a batch with every item PASSED or WITHDRAWN closes (R167, R177); one
that is neither is refused STATE. The reply carries the state before, whether an item changed, and the record. -/
def Obligations.WithdrawOutcomes : Prop :=
  ∀ (identity : Word) (s : State), s.allows (operateRequest 0x51) → identity ≠ 0 →
    (s.findVessel identity = none →
      exec (.withdraw identity) s = .next (answer 0x51 (s, .refused .notFound 0))) ∧
    (∀ k v, s.findVessel identity = some k → s.vessel k = some v →
      (v.state = .sighted ∨ v.state = .passed →
        exec (.withdraw identity) s = .next (answer 0x51 (s, .refused .state 0))) ∧
      (v.state = .waiting → ∃ t d, exec (.withdraw identity) s = .next (answer 0x51 (t, .done d)) ∧
        t.vessel k = some { v with state := .sighted } ∧ (∀ j : Fin 32, j ≠ k → t.vessel j = s.vessel j) ∧
        (∀ q : Fin 8, t.queue q = (s.queue q).filter fun e => decide (e.slot ≠ k)) ∧
        d = [1, 0] ++ t.vesselRecord k ∧
        { t with vt := s.vt, psc := s.psc } = s ∧ { t.psc with queues := s.psc.queues } = s.psc ∧
        t.psc.batch = s.psc.batch ∧ t.cl = s.cl ∧ t.csu = s.csu) ∧
      (v.state = .called → ∃ t d, exec (.withdraw identity) s = .next (answer 0x51 (t, .done d)) ∧
        d = [2, 1] ++ t.vesselRecord k ∧
        t.vessel k = some { v with state := .sighted } ∧ (∀ q : Fin 8, ∀ e ∈ t.queue q, e.slot ≠ k) ∧
        (∀ j : Fin 32, j ≠ k → t.vessel j = s.vessel j) ∧
        (∀ q : Fin 8, t.queue q = (s.queue q).filter fun e => decide (e.slot ≠ k)) ∧
        (∀ i ∈ t.psc.batch.items, i.slot = k → i.outcome ≠ .called) ∧ t.lmc = s.lmc ∧
        t.settles s (s.psc.batch.items.map fun i =>
          if i.slot = k ∧ i.outcome = .called then { i with outcome := .withdrawn } else i)))

/-- R158: CLASS-FLOOR refuses a value above 3 with detail 1; else the floor is set and the reply carries the floor
before and after; nothing is latched and no queue entry or batch changes. Only entries of a class no greater than the
floor are eligible, and an extension calls only class 0. -/
def Obligations.ClassFloorIsSet : Prop :=
  ∀ (floor : Byte) (s : State), s.allows (operateRequest 0x52) →
    (3 < floor.toNat → exec (.classFloor floor) s = .next (answer 0x52 (s, .refused .range 1))) ∧
    (floor.toNat ≤ 3 → exec (.classFloor floor) s = .next (answer 0x52
      ({ s with psc := { s.psc with floor := floor.toNat } }, .done [BitVec.ofNat 8 s.psc.floor, floor]))) ∧
    (∀ (d : Side) (p : Fin 4 × QueueEntry), p ∈ s.eligible d → p.1.val ≤ s.psc.floor) ∧
    (∀ (c : Fin 4), s.canExtend c = true → c = 0)

/-- TIDE and TIDE_STALE (R159): the level is clamped and stored with its time; the tide is stale while absent or older
than its validity; only a change from fresh to stale latches PARAMETER. The clearance table is valid when its gains
rise strictly and its angles do not fall from (0, 0) on (R164). The contribution (R163) is Tf for an unknown air
draught, a stale tide or an invalid table; else 0 for no gain needed, the rounded-up interpolation between the two
breakpoints about the gain, within Tf, and Tf from the last breakpoint on; so a taller vessel never contributes less.
The tide's age is a 32-bit difference, the model's choice (note 16). -/
def Obligations.TideAndContribution : Prop :=
  (∀ (level : Half) (s : State),
     let l : Int := max (-99) (min 199 level.toInt)
     let age := (s.tb.seconds - s.psc.tide.time).toNat
     (s.allows (operateRequest 0x53) → ∃ t, exec (.tide level) s = .next (answer 0x53 (t, .done
         (be16 (BitVec.ofInt 16 l) ++ [if l = level.toInt then 0 else 1] ++ be32 s.tb.seconds))) ∧
       t = { s with psc := { s.psc with
         tide := { level := l, time := s.tb.seconds, present := true, stale := false } } }) ∧
     (s.running = true → exec .tideStale s = .next
       (let stale := !s.psc.tide.present || decide (s.par pTideValidity < age)
        latchIf (stale && !s.psc.tide.stale) .parameter
         { s with psc := { s.psc with tide := { s.psc.tide with stale := stale } } }))) ∧
  (∀ (s : State) (tf : Nat),
     (∀ air, s.contribution tf air ≤ tf) ∧ s.contribution tf none = tf ∧
     (∀ air, s.tideStaleNow = true ∨ s.clearanceValid = false → s.contribution tf air = tf) ∧
     (∀ a b : Nat, a ≤ b → s.contribution tf (some a) ≤ s.contribution tf (some b)) ∧
     (let gain (k : Fin 8) : Nat := if k = 0 then 0 else s.par (Fin.ofNat 64 (34 + 2 * k.val))
      let angle (k : Fin 8) : Nat := if k = 0 then 0 else s.par (Fin.ofNat 64 (35 + 2 * k.val))
      s.tideStaleNow = (!s.psc.tide.present ||
        decide (s.par pTideValidity < (s.tb.seconds - s.psc.tide.time).toNat)) ∧
      (s.clearanceValid = true ↔
        ∀ k : Fin 7, gain k.castSucc < gain k.succ ∧ angle k.castSucc ≤ angle k.succ) ∧
      (s.tideStaleNow = false → s.clearanceValid = true → ∀ a : Nat,
        let g : Int := a + s.par pMargin - (s.par pSoffit - s.psc.tide.level)
        (g ≤ 0 → s.contribution tf (some a) = 0) ∧
        (∀ k : Fin 7, (gain k.castSucc : Int) < g → g ≤ gain k.succ → g < gain 7 →
          s.contribution tf (some a) = min tf (angle k.castSucc +
            ((g.toNat - gain k.castSucc) * (angle k.succ - angle k.castSucc) + (gain k.succ - gain k.castSucc) - 1) /
              (gain k.succ - gain k.castSucc))) ∧
        ((gain 7 : Int) ≤ g → s.contribution tf (some a) = tf))))

/-- FORM-BATCH and ABANDON-BATCH (R161 to R163, R93, R175, R168, R169): the refusals; a formation takes at most N
eligible entries, each CALLED in the vessel table and in its queue and of a class the floor admits. The leading side
is that of the oldest eligible entry of class 0, else the side with more eligible entries, else the side of the oldest
entry, and the call list is its entries in class and queue order, then the other side's, each with its contribution.
The record takes the next batch number, from 65535 on to 1, and the opening angle, the greatest contribution raised to
Tmin and within Tf; the CSU clears its turns and shows STANDBY on each side with an item; each STOPPED pump group is
ordered to start. The reply is R162's, with the interval remaining as ROAD and BATCH-READ give it. An abandon RETURNS
every CALLED item, its vessel WAITING at its place, with both sides at STOP, CLOSED at once where the channel is
sealed. -/
def Obligations.BatchFormationAndAbandon : Prop :=
  ∀ s : State,
    (s.allows (operateRequest 0x54) →
      (s.psc.batch.state = .formed ∨ s.psc.batch.state = .running ∨ s.psc.batch.state = .closing ∨
          s.lmc.leaf ≠ .seatedLocked →
        exec .formBatch s = .next (answer 0x54 (s, .refused .state 0))) ∧
      (s.psc.batch.state = .none ∨ s.psc.batch.state = .closed → s.lmc.leaf = .seatedLocked →
        (s.eligible .seaward = [] → s.eligible .landward = [] →
          exec .formBatch s = .next (answer 0x54 (s, .refused .noEligible 0))) ∧
        ((s.eligible .seaward ≠ [] ∨ s.eligible .landward ≠ []) → s.par pTmin ≤ s.par pTf →
          ∃ t d lead, exec .formBatch s = .next (answer 0x54 (t, .done d)) ∧ d.length = 12 ∧
            t.psc.batch.state = .formed ∧ t.psc.batch.leading = some lead ∧
            (∀ d : Side,
              let mine := s.eligible d
              let theirs := s.eligible d.other
              ((∃ p ∈ mine, p.1 = 0 ∧ ∀ q ∈ theirs, q.1 = 0 → p.2.seq.toNat < q.2.seq.toNat) → lead = d) ∧
              ((∀ p ∈ mine ++ theirs, p.1 ≠ 0) →
                (theirs.length < mine.length → lead = d) ∧
                (theirs.length = mine.length →
                  (∃ p ∈ mine, ∀ q ∈ theirs, p.2.seq.toNat < q.2.seq.toNat) → lead = d))) ∧
            t.psc.batch.items.map (fun i => (i.cls, i.slot)) =
              ((s.eligible lead ++ s.eligible lead.other).take (s.par pBatchSize)).map (fun p => (p.1, p.2.slot)) ∧
            t.psc.batch.items.length = min (s.par pBatchSize)
              ((s.eligible lead).length + (s.eligible lead.other).length) ∧
            (∀ i ∈ t.psc.batch.items, i.outcome = .called ∧ i.cls.val ≤ s.psc.floor) ∧
            s.par pTmin ≤ t.psc.batch.angle ∧ t.psc.batch.angle ≤ s.par pTf ∧
            t.psc.batch.remaining = t.psc.batch.items.length ∧ t.psc.batch.extensions = 0 ∧
            t.psc.batch.formedAt = some s.tb.seconds ∧ t.csu.phase = .idle ∧ t.csu.sealed = false ∧
            t.csu.sealTimer = some 0 ∧
            (let items := t.psc.batch.items
            let angle := min (s.par pTf) (max (s.par pTmin) ((items.map (·.contribution)).foldl max 0))
            let count (p : Item → Bool) : Byte := BitVec.ofNat 8 (items.filter p).length
            items.map (·.side) = ((s.eligible lead).map (fun _ => lead) ++
              (s.eligible lead.other).map fun _ => lead.other).take (s.par pBatchSize) ∧
            (∀ i ∈ items, ∃ v, s.vessel i.slot = some v ∧ i.identity = v.identity ∧
              i.contribution = s.contribution (s.par pTf) v.air ∧ t.vessel i.slot = some { v with state := .called }) ∧
            (∀ k : Fin 32, (∀ i ∈ items, i.slot ≠ k) → t.vessel k = s.vessel k) ∧
            (∀ q : Fin 8, t.queue q = (s.queue q).map fun e =>
              if items.any fun i => i.slot = e.slot then { e with called := true } else e) ∧
            t.psc.batch = {
              number := if s.psc.batch.number < 65535 then s.psc.batch.number + 1 else 1
              state := .formed, size := s.par pBatchSize, tf := s.par pTf, tmin := s.par pTmin
              leading := some lead, items := items, angle := angle, tideWasStale := s.tideStaleNow
              tableWasInvalid := !s.clearanceValid, extensions := 0, remaining := items.length
              formedAt := some s.tb.seconds, raisedAt := none, firstGoAt := none, closedAt := none } ∧
            t.csu.batchNumber = t.psc.batch.number ∧ t.csu.current = none ∧ t.csu.result = .none ∧
            t.csu.window = none ∧ t.csu.changeover = none ∧
            (∀ x : Side, (t.csu.sides.get x).status = .notYet ∧ (t.csu.sides.get x).cause = none ∧
              (t.csu.sides.get x).goStart = none ∧ (t.csu.sides.get x).goEnd = none ∧
              (t.csu.sides.get x).passed = 0 ∧
              t.aspect x = if items.any fun i => i.side = x then .standby else .stop) ∧
            (∀ g : Leaf, t.pump g = s.pumpOrdered g) ∧ t.lmc = s.lmc ∧ (t.cl.latched &&& 0x200) ≠ 0 ∧
            (s.clearanceValid = false → (t.cl.latched &&& 0x4000) ≠ 0) ∧
            d = be16 (BitVec.ofNat 16 t.psc.batch.number) ++
              [match lead with | .seaward => 0 | .landward => 1, BitVec.ofNat 8 items.length,
                count fun i => i.side = .seaward, count fun i => i.side = .landward] ++
              be16 (BitVec.ofNat 16 angle) ++
              [(if s.tideStaleNow then 1 else 0) + (if s.clearanceValid then 0 else 2)] ++
              be16 (BitVec.ofNat 16 s.intervalRemaining) ++ [if items.any fun i => i.cls = 0 then 1 else 0])))) ∧
    (s.allows (operateRequest 0x55) →
      (s.psc.batch.state ≠ .formed → s.psc.batch.state ≠ .running →
        exec .abandonBatch s = .next (answer 0x55 (s, .refused .state 0))) ∧
      (s.psc.batch.state = .formed ∨ s.psc.batch.state = .running →
        ∃ t, exec .abandonBatch s = .next (answer 0x55 (t, .done
            [BitVec.ofNat 8 t.psc.batch.remaining, BitVec.ofNat 8 t.psc.batch.state.code])) ∧
          (t.psc.batch.state = .closing ∨ t.psc.batch.state = .closed) ∧
          (∀ i ∈ t.psc.batch.items, i.outcome ≠ .called) ∧ t.csu.phase = .ended ∧
          t.psc.batch.items = (s.psc.batch.items.map fun i =>
            if i.outcome = .called then { i with outcome := .returned } else i) ∧
          t.psc.batch.remaining = (s.psc.batch.items.filter fun i => i.outcome = .called).length ∧
          (∀ i ∈ s.psc.batch.items, i.outcome = .called →
            (∀ v, s.vessel i.slot = some v → t.vessel i.slot = some { v with state := .waiting }) ∧
            (∀ q : Fin 8, ∀ e ∈ t.queue q, e.slot = i.slot → e.called = false)) ∧
          (∀ q : Fin 8, (t.queue q).map (·.slot) = (s.queue q).map (·.slot)) ∧
          (t.psc.batch.state = .closed ↔ t.csu.sealed = true) ∧
          t.aspect .seaward = .stop ∧ t.aspect .landward = .stop ∧ t.lmc = s.lmc))

/-- VESSEL-PASSED (R183, R184): refused for an identity with no CALLED item; else the passage is taken whatever the
aspects, a violation where its side does not show GO; the side's passed count rises, the item is PASSED, the remaining
count falls by 1, the vessel is PASSED with a fresh life and leaves its queue, a turn with no called vessel left ends,
and a batch with every item PASSED or WITHDRAWN closes (R167, R177). The reply carries the waiting and the passage
time, absent without a GO start, the marks, the batch state and the record. A span is a 32-bit difference, the model's
choice (note 16). -/
def Obligations.VesselPassedOutcomes : Prop :=
  ∀ (identity : Word) (s : State), s.allows (operateRequest 0x60) → identity ≠ 0 →
    (s.calledItem identity = none →
      exec (.vesselPassed identity) s = .next (answer 0x60 (s, .refused .notCalled 0))) ∧
    (∀ i v, s.calledItem identity = some i → s.vessel i.slot = some v →
      ∃ t d, exec (.vesselPassed identity) s = .next (answer 0x60 (t, .done d)) ∧
        t.vessel i.slot = some { v with state := .passed, life := s.lifetime } ∧
        (∀ q : Fin 8, ∀ e ∈ t.queue q, e.slot ≠ i.slot) ∧
        (∀ j ∈ t.psc.batch.items, j.slot = i.slot → j.outcome ≠ .called) ∧
        (s.aspect i.side ≠ .go → t.csu.violations = bump s.csu.violations ∧ (t.cl.latched &&& 0x400) ≠ 0) ∧
        (s.aspect i.side = .go → t.csu.violations = s.csu.violations) ∧ t.lmc = s.lmc ∧
        (∀ j : Fin 32, j ≠ i.slot → t.vessel j = s.vessel j) ∧
        (∀ q : Fin 8, t.queue q = (s.queue q).filter fun e => decide (e.slot ≠ i.slot)) ∧
        (t.csu.sides.get i.side).passed = (s.csu.sides.get i.side).passed + 1 ∧
        (let items := s.psc.batch.items.map fun j =>
          if j.slot = i.slot ∧ j.outcome = .called then { j with outcome := .passed } else j
        let ended := s.csu.phase = .turn ∧ s.csu.current = some i.side ∧ itemsLeft items i.side = false
        t.settles s items ∧
        (∀ (q : Fin 8) (e : QueueEntry), e ∈ s.queue q → e.slot = i.slot →
          (∀ r : Fin 8, ∀ y ∈ s.queue r, y.slot = i.slot → y = e) →
          d = (match (s.csu.sides.get i.side).goStart with
            | none => [0xFF, 0xFF, 0xFF, 0xFF, 0xFF, 0xFF, 0xFF, 0xFF]
            | some g => be32 (g - e.time) ++ be32 (s.tb.seconds - g)) ++
            [if s.aspect i.side = .go then 0 else 1, if ended then 1 else 0,
              BitVec.ofNat 8 t.psc.batch.state.code] ++ t.vesselRecord i.slot)))

/-! ### Channel signals, proving and health -/

/-- The timers of the channel (R177, R178, R181, R182): the window ends the turn and begins the changeover; the
changeover's end offers the opposite side a turn; the seal closes a batch in CLOSING; the horn falls silent. An early
CHANNEL_SEALED brings its timer to its period (note 17). In a tick the timers count up, the horn counts down, and a
timer that has reached the period its parameter holds now has the effect of its row (notes 1 and 4); that a period of
n seconds is 100 n ticks is the model's reading (note 5, DEDUCED). A turn start (R176) takes its steps in order: a
side that has had its turn or has no called vessel cannot be offered, and the offer passes to the other, or the turns
have ended; it shows GO, the other side's STOP first, with the leaves RAISED alone and reds that can be shown
opposite, and stamps the first GO of the batch where that is absent (R166); a side whose greens are FAILED is SKIPPED
and the offer passes at once. Where the turns are over, both sides show STOP and a RUNNING batch closes, to CLOSED at
once where the channel is sealed (R167, R169). -/
def Obligations.ChannelTimersAndTurns : Prop :=
  let closes : State → State → Prop := fun s t =>
    (s.psc.batch.state = .running →
      t.psc.batch.state = (if s.csu.sealed then .closed else .closing) ∧ (t.cl.latched &&& 0x200) ≠ 0) ∧
    (s.psc.batch.state ≠ .running → t.psc = s.psc)
  (∀ s : State, s.running = true →
     (∀ d : Side, s.csu.phase = .turn → s.csu.current = some d → s.csu.window ≠ none →
       ∃ t, exec .passageWindowExpiry s = .next t ∧ t.csu.phase = .changeover ∧ t.csu.changeover = some 0 ∧
         t.csu.window = none ∧ t.csu.sealTimer = some 0 ∧ t.csu.sealed = false ∧ t.aspect d = .stop ∧
         (t.csu.sides.get d).status = .done ∧ (t.csu.sides.get d).cause = some .window ∧
         (t.csu.sides.get d).goEnd = some s.tb.seconds ∧ t.psc = s.psc ∧
         t.aspect d.other =
           (if (s.csu.sides.get d.other).status = .notYet ∧ s.calledLeft d.other = true then .standby else .stop) ∧
         t.cl.latched = s.cl.latched ||| 0x200) ∧
     (s.csu.phase ≠ .turn ∨ s.csu.window = none → exec .passageWindowExpiry s = .next s) ∧
     (∀ d : Side, s.csu.phase = .changeover → s.csu.current = some d → s.csu.changeover ≠ none →
       exec .changeoverExpiry s =
         .next (offerTurn 4 d.other { s with csu := { s.csu with changeover := none } })) ∧
     (s.csu.phase ≠ .changeover ∨ s.csu.changeover = none → exec .changeoverExpiry s = .next s) ∧
     (s.csu.sealTimer = none → exec .channelSealed s = .next s) ∧
     (s.csu.sealTimer ≠ none → ∃ t, exec .channelSealed s = .next t ∧ t.csu.sealed = true ∧
       (s.csu.sealed = false → s.psc.batch.state = .closing →
         t.psc.batch.state = .closed ∧ t.psc.batch.closedAt = some s.tb.seconds) ∧
       (s.psc.batch.state ≠ .closing → t.psc = s.psc)) ∧
     (∃ t, exec .hornExpiry s = .next t ∧ t.csu = { s.csu with horn := 0 } ∧ t.hornOn = false) ∧
     (tickTimers s).csu = { s.csu with
       window := s.csu.window.map (· + 1), changeover := s.csu.changeover.map (· + 1)
       sealTimer := s.csu.sealTimer.map (· + 1) } ∧
     hornDue s = (if s.csu.horn = 0 then s else if s.csu.horn = 1 then s.after .hornExpiry
       else { s with csu := { s.csu with horn := s.csu.horn - 1 } }) ∧
     channelDue s =
       (let s := s.happens (s.csu.window.any (100 * s.par pWindow ≤ ·)) .passageWindowExpiry
       let s := s.happens (s.csu.changeover.any (100 * s.par pChangeover ≤ ·)) .changeoverExpiry
       s.happens (s.csu.sealTimer.any (100 * s.par pSealTime ≤ ·) && !s.csu.sealed) .channelSealed)) ∧
  (∀ (d : Side) (s : State),
     s.canOffer d = decide ((s.csu.sides.get d).status = .notYet ∧
       ∃ i ∈ s.psc.batch.items, i.side = d ∧ i.outcome = .called)) ∧
  (∀ (d : Side) (s : State), s.canOffer d = false →
     (s.canOffer d.other = true → offerTurn 4 d s = offerTurn 4 d.other s) ∧
     (s.canOffer d.other = false →
       let t := offerTurn 4 d s
       t.aspect .seaward = .stop ∧ t.aspect .landward = .stop ∧ t.csu.phase = .ended ∧ t.csu.current = none ∧
         t.csu.result = .turnsEnded ∧ t.csu.sides = s.csu.sides ∧ closes s t)) ∧
  (∀ (d : Side) (s : State), s.canOffer d = true →
     (s.lmc.leaf = .raised → s.redsFailed d.other = false → s.greensFailed d = true →
       ∃ u, offerTurn 4 d s = offerTurn 4 d.other u ∧
         u.csu = { s.csu with
           aspects := s.csu.aspects.set d .stop
           sides := s.csu.sides.set d { s.csu.sides.get d with status := .skipped, cause := some .greens } } ∧
         u.cl.latched = s.cl.latched ||| 0x200 ∧ u.psc = s.psc ∧ u.lmc = s.lmc ∧ u.tb = s.tb ∧
         u.phu.circuits = s.phu.circuits) ∧
     (s.lmc.leaf = .raised → s.redsFailed d.other = false → s.greensFailed d = false →
       let t := offerTurn 4 d s
       t.aspect d = .go ∧ t.aspect d.other = .stop ∧ t.csu.phase = .turn ∧ t.csu.current = some d ∧
         (t.csu.sides.get d).status = .go ∧ (t.csu.sides.get d).goStart = some s.tb.seconds ∧
         (t.csu.sides.get d).passed = (s.csu.sides.get d).passed ∧
         t.csu.sides.get d.other = s.csu.sides.get d.other ∧
         t.csu.window = some 0 ∧ t.csu.sealTimer = none ∧ t.csu.sealed = false ∧ t.csu.horn = 200 ∧
         t.cl.latched = s.cl.latched ||| 0x200 ∧
         t.psc = { s.psc with batch := { s.psc.batch with
           firstGoAt := some (s.psc.batch.firstGoAt.getD s.tb.seconds) } }) ∧
     (s.lmc.leaf ≠ .raised →
       let t := offerTurn 4 d s
       t.aspect .seaward = .stop ∧ t.aspect .landward = .stop ∧ t.csu.phase = .ended ∧
         t.csu.current = none ∧ t.csu.result = .goWithdrawn ∧ t.csu.sides = s.csu.sides ∧ t.hornOn = s.hornOn ∧
         closes s t) ∧
     (s.lmc.leaf = .raised → s.redsFailed d.other = true →
       let t := offerTurn 4 d s
       t.aspect .seaward = .stop ∧ t.aspect .landward = .stop ∧ t.csu.phase = .ended ∧
         t.csu.current = none ∧ t.csu.result = .signalDefect ∧ t.csu.sides = s.csu.sides ∧
         (t.cl.latched &&& 0x200) ≠ 0 ∧ closes s t))

/-- The circuit provings (R189 to R194): the scan requests the circuit at the index, reloads the counter and advances
the index; a held request starts when nothing is in progress. The end records the method and the result (R191): a
circuit that was on by its current against the limits of its class, OPEN, OVERLOAD or NORMAL, one that was off by its
pulse, OPEN below 2 mA, SHORT above 50, TEST_VOID where it was switched; two counted faults in a row declare the
circuit FAILED, two NORMAL recovered, latching CIRCUIT (R192). The CSU ends a turn whose greens are both FAILED and
withdraws a GO against two FAILED reds (R177, R179); the MSU empties the window and is UNKNOWN while circuit 14 is
FAILED (R131). CIRCUIT-TEST makes a request of its own. In a tick a proving of 20 ms ends, with a free reading where
the sender brought none (note 40), then the scan counter counts down and requests at 1, then a held request that may
starts (notes 1 and 4). PROVING_END may come before the 20 ms are over (note 2); it leaves no proving in progress and
a held request starts in a step of its own (note 12); a scan request that finds one still held is dropped (note 19).
The fields of the reply are one byte each (note 27). The notes are the model's choices and readings. -/
def Obligations.ProvingsAndTests : Prop :=
  ∀ s : State,
    (s.running = true → ∃ t, exec .provingRequest s = .next t ∧ t.phu.counter = s.par pProvingDivisor ∧
      t.phu.index = s.phu.index + 1 ∧ t.phu.circuits = s.phu.circuits ∧ { t with phu := s.phu } = s ∧
      (s.provingFree s.phu.index = true →
        t.phu.proving = some ⟨s.phu.index, false, s.circuitOn s.phu.index, false, 0⟩) ∧
      (s.provingFree s.phu.index = false → (∀ h ∈ s.phu.held, h.test = true) →
        t.phu.held = s.phu.held ++ [⟨s.phu.index, false⟩] ∧ t.phu.proving = s.phu.proving) ∧
      ((∃ h ∈ s.phu.held, h.test = false) → t.phu.held = s.phu.held ∧ t.phu.proving = s.phu.proving)) ∧
    (tickTimers s).phu =
      { s.phu with proving := s.phu.proving.map fun p => { p with elapsed := p.elapsed + 1 } } ∧
    (s.running = true → provingDue s =
      (let ended : State := ({ s with phu := { s.phu with readings := s.phu.readings + 1 } } : State).after
        (.provingEnd (Config.provingReading s.phu.readings))
      let s := if s.phu.proving.any fun p => 2 ≤ p.elapsed then ended else s
      (if s.phu.counter = 1 then s.after .provingRequest
        else { s with phu := { s.phu with counter := s.phu.counter - 1 } }).after .provingStart)) ∧
    (s.running = true → ∀ r rest, s.phu.held = r :: rest → s.phu.proving = none → s.flashHold r.circuit = false →
      exec .provingStart s = .next { s with phu := { s.phu with
        held := rest, proving := some ⟨r.circuit, r.test, s.circuitOn r.circuit, false, 0⟩ } }) ∧
    (s.running = true → (s.phu.held = [] ∨ s.phu.proving ≠ none) → exec .provingStart s = .next s) ∧
    (∀ current : Half, s.running = true → s.phu.proving = none → exec (.provingEnd current) s = .next s) ∧
    (∀ (current : Half) (p : Proving), s.running = true → s.phu.proving = some p →
      let c := p.circuit.val
      let low := if c < 6 then s.par 51 else if c < 14 then s.par 53 else s.par 55
      let high := if c < 6 then s.par 52 else if c < 14 then s.par 54 else s.par 56
      ∃ t, exec (.provingEnd current) s = .next t ∧ t.phu.proving = none ∧
        t.phu.circuits[p.circuit].lastMethod = (if p.wasOn then .current else .pulse) ∧
        t.phu.circuits[p.circuit].failedSinceRead = (s.phu.circuits[p.circuit].failedSinceRead ||
          (t.phu.circuits[p.circuit].failed && !s.phu.circuits[p.circuit].failed)) ∧
        (p.voided = true → t.phu.circuits[p.circuit].lastResult = .testVoid ∧
          t.phu.circuits[p.circuit].counted = s.phu.circuits[p.circuit].counted ∧
          t.phu.circuits[p.circuit].failed = s.phu.circuits[p.circuit].failed ∧ t.cl = s.cl) ∧
        (p.voided = false → t.phu.circuits[p.circuit].lastResult =
          (if p.wasOn then
            (if current.toNat < low then .opened else if high < current.toNat then .overload else .normal)
          else if current.toNat < 2 then .opened else if 50 < current.toNat then .short else .normal)) ∧
        (p.voided = false → t.phu.circuits[p.circuit].lastResult ≠ .normal →
          t.phu.circuits[p.circuit].counted = .fault ∧
          t.phu.circuits[p.circuit].failed =
            (s.phu.circuits[p.circuit].failed || decide (s.phu.circuits[p.circuit].counted = .fault))) ∧
        (p.voided = false → t.phu.circuits[p.circuit].lastResult = .normal →
          t.phu.circuits[p.circuit].counted = .normal ∧
          t.phu.circuits[p.circuit].failed =
            (s.phu.circuits[p.circuit].failed && !decide (s.phu.circuits[p.circuit].counted = .normal))) ∧
        (t.phu.circuits[p.circuit].failed ≠ s.phu.circuits[p.circuit].failed → (t.cl.latched &&& 0x800) ≠ 0) ∧
        { t.phu with proving := s.phu.proving, circuits := s.phu.circuits } = s.phu ∧
        (let quiet : State := { s with phu := { s.phu with proving := none, circuits := t.phu.circuits } }
        let told : State := { quiet with cl := { s.cl with latched := s.cl.latched ||| 0x800 } }
        let now := t.phu.circuits[p.circuit].failed
        let was := s.phu.circuits[p.circuit].failed
        let broken (k : Nat) : Bool := t.phu.circuits[(Fin.ofNat 16 k)].failed
        let base (d : Side) : Nat := match d with | .seaward => 6 | .landward => 10
        let greens (d : Side) := (c = base d + 2 ∨ c = base d + 3) ∧ broken (base d + 2) = true ∧
          broken (base d + 3) = true
        let reds (d : Side) := (c = base d ∨ c = base d + 1) ∧ broken (base d) = true ∧ broken (base d + 1) = true
        (now = was → t = quiet) ∧
        (now ≠ was → c < 6 ∨ c = 15 ∨ (now = false ∧ c ≠ 14) → t = told) ∧
        (now ≠ was → now = true → 6 ≤ c → c < 14 →
          (s.csu.phase ≠ .turn ∨ s.csu.current = none → t = told) ∧
          (∀ d : Side, s.csu.phase = .turn → s.csu.current = some d →
            (¬greens d → ¬reds d.other → t = told) ∧
            (greens d → t.psc = s.psc ∧ t.csu.phase = .changeover ∧ t.csu.changeover = some 0 ∧
              t.csu.window = none ∧ t.csu.sealTimer = some 0 ∧ t.csu.sealed = false ∧ t.aspect d = .stop ∧
              (t.csu.sides.get d).status = .done ∧ (t.csu.sides.get d).cause = some .greens ∧
              (t.csu.sides.get d).goEnd = some s.tb.seconds ∧ (t.cl.latched &&& 0xA00) = 0xA00) ∧
            (reds d.other → t.csu.phase = .ended ∧ t.csu.current = none ∧ t.csu.result = .goWithdrawn ∧
              t.csu.window = none ∧ t.csu.horn = 500 ∧ t.csu.sealTimer = some 0 ∧ t.csu.sealed = false ∧
              t.aspect d = .stop ∧ (t.csu.sides.get d).status = .done ∧
              (t.csu.sides.get d).cause = some .withdrawn ∧ (t.csu.sides.get d).goEnd = some s.tb.seconds ∧
              (t.cl.latched &&& 0xA00) = 0xA00 ∧
              t.psc.batch.state = (if s.psc.batch.state = .running then .closing else s.psc.batch.state)))) ∧
        (now ≠ was → c = 14 →
          let old := s.msu.wind
          let barred := old.known = false ∨ old.band = some .stop
          let bars := t.msu.wind.known = false ∨ t.msu.wind.band = some .stop
          t.msu.wind = (if now then { old with
              window := [], discard := true, failed := true, known := false, band := none, pct := 40 }
            else ({ old with failed := false } : Wind).judge (s.par pDerateLimit) (s.par pStopLimit)) ∧
          (t.msu.wind.known ≠ old.known ∨ t.msu.wind.band ≠ old.band → (t.cl.latched &&& 0x40) ≠ 0) ∧
          (barred ∨ ¬bars → t.lmc = s.lmc) ∧
          (¬barred → bars → t.lmc = (reportWind { s with msu := t.msu }).lmc) ∧
          t.csu = s.csu ∧ t.psc = s.psc)) ∧
        (∀ c : Fin 16, c ≠ p.circuit → t.phu.circuits[c] = s.phu.circuits[c])) ∧
    (∀ (b : Byte) (c : Fin 16), s.allows (maintainRequest 0x71) → b.toNat = c.val →
      (s.testCircuit ≠ none → exec (.circuitTest b) s = .next (answer 0x71 (s, .refused .state 0))) ∧
      (s.testCircuit = none → s.provingFree c = true → exec (.circuitTest b) s = .next (answer 0x71
        ({ s with phu := { s.phu with proving := some ⟨c, true, s.circuitOn c, false, 0⟩ } },
          .accepted [b, 1]))) ∧
      (s.testCircuit = none → s.provingFree c = false → exec (.circuitTest b) s = .next (answer 0x71
        ({ s with phu := { s.phu with held := s.phu.held ++ [⟨c, true⟩] } }, .accepted [b, 2]))))

/-- A health report and HEALTH-SET (R197 to R199): the ratio, the sample and the new value by their formulas, which
lie within 1 to 253; an actuator is WORN while its value is no greater than its class's threshold and the class's flag
is 1; a mark newly WORN latches HEALTH, on a report and on HEALTH-SET; no other actuator changes. The fields of the
reply are one byte each, the model's choice (note 27). -/
def Obligations.HealthUpdates : Prop :=
  ∀ s : State,
    (∀ n : Fin 12, s.wornCondition n = true ↔
      (if n.val < 8 then s.phu.health[n].value ≤ s.par pArmThreshold ∧ s.par pArmFlag = 1
      else s.phu.health[n].value ≤ s.par pBoltThreshold ∧ s.par pBoltFlag = 1)) ∧
    (∀ (n : Fin 12) (nominal time : Nat), 1 ≤ nominal →
      let t := reportStroke n nominal time s
      let ratio := min 400 (100 * time / nominal)
      let sample := if ratio ≤ 110 then 253 else if 200 ≤ ratio then 1 else 253 - (ratio - 110) * 252 / 90
      t.phu.health[n].value = max 1 (min 253 ((3 * s.phu.health[n].value + sample + 2) / 4)) ∧
        t.phu.health[n].ratio = some ratio ∧ t.phu.health[n].samples = bump s.phu.health[n].samples ∧
        1 ≤ sample ∧ sample ≤ 253 ∧ 1 ≤ t.phu.health[n].value ∧ t.phu.health[n].value ≤ 253 ∧
        t.phu.health[n].worn = t.wornCondition n ∧
        t.cl.latched = (if t.phu.health[n].worn && !s.phu.health[n].worn then s.cl.latched ||| 0x1000
          else s.cl.latched) ∧
        (∀ m : Fin 12, m ≠ n → t.phu.health[m] = s.phu.health[m])) ∧
    (∀ (n : Fin 12) (a v : Byte), a.toNat = n.val → s.allows (maintainRequest 0x73) →
      ∃ t, exec (.healthSet a v) s = .next (answer 0x73 (t, .done [a,
          BitVec.ofNat 8 (max 1 (min 253 v.toNat)), BitVec.ofNat 8 (t.wornCondition n).toNat])) ∧
        t.phu.health[n].value = max 1 (min 253 v.toNat) ∧ t.phu.health[n].worn = t.wornCondition n ∧
        t.phu.health[n].samples = s.phu.health[n].samples ∧ t.phu.health[n].ratio = s.phu.health[n].ratio ∧
        t.cl.latched = (if t.phu.health[n].worn && !s.phu.health[n].worn then s.cl.latched ||| 0x1000
          else s.cl.latched) ∧
        { t with cl := s.cl, phu := s.phu } = s ∧ { t.cl with latched := s.cl.latched } = s.cl ∧
        { t.phu with health := s.phu.health } = s.phu ∧
        (∀ m : Fin 12, m ≠ n → t.phu.health[m] = s.phu.health[m]))

/-- The operands out of range that no other statement covers, each refused RANGE with the offset of the field its rule
names (R52, R53, R57, R140, R149, R153, R156, R183, R194, R199), and nothing changed. -/
def Obligations.RangeRefusals : Prop :=
  ∀ s : State,
    (∀ b : Byte, 7 < b.toNat →
      (s.allows (operateRequest 0x23) → exec (.armRetry b) s = .next (answer 0x23 (s, .refused .range 1))) ∧
      (s.allows (serviceRequest 0x24) →
        exec (.armServiceOut b) s = .next (answer 0x24 (s, .refused .range 1)) ∧
        exec (.armServiceReturn b) s = .next (answer 0x24 (s, .refused .range 1)))) ∧
    (∀ b : Byte, b.toNat = 0 ∨ 6 < b.toNat → s.allows (serviceRequest 0x25) →
      exec (.zoneBypassSet b) s = .next (answer 0x25 (s, .refused .range 1)) ∧
      exec (.zoneBypassClear b) s = .next (answer 0x25 (s, .refused .range 1))) ∧
    (∀ (i : Word) (d c : Byte) (a : Half),
      (s.allows (operateRequest 0x40) →
        (i = 0 → exec (.vesselReport i d a) s = .next (answer 0x40 (s, .refused .range 1))) ∧
        (i ≠ 0 → 1 < d.toNat → exec (.vesselReport i d a) s = .next (answer 0x40 (s, .refused .range 5)))) ∧
      (s.allows (operateRequest 0x50) →
        (i = 0 → exec (.join i d c a) s = .next (answer 0x50 (s, .refused .range 1))) ∧
        (i ≠ 0 → 1 < d.toNat → exec (.join i d c a) s = .next (answer 0x50 (s, .refused .range 5))) ∧
        (i ≠ 0 → d.toNat ≤ 1 → 3 < c.toNat →
          exec (.join i d c a) s = .next (answer 0x50 (s, .refused .range 6))))) ∧
    (∀ m : Byte, m.toNat = 0 ∨ 3 < m.toNat → s.allows (operateRequest 0x42) →
      exec (.vesselClear m) s = .next (answer 0x42 (s, .refused .range 1))) ∧
    (s.allows (operateRequest 0x51) → exec (.withdraw 0) s = .next (answer 0x51 (s, .refused .range 1))) ∧
    (s.allows (operateRequest 0x60) → exec (.vesselPassed 0) s = .next (answer 0x60 (s, .refused .range 1))) ∧
    (∀ b : Byte, 15 < b.toNat → s.allows (maintainRequest 0x71) →
      exec (.circuitTest b) s = .next (answer 0x71 (s, .refused .range 1))) ∧
    (∀ a v : Byte, 11 < a.toNat → s.allows (maintainRequest 0x73) →
      exec (.healthSet a v) s = .next (answer 0x73 (s, .refused .range 1)))

/-! ### Whole-machine rules -/

/-- What the commands of each side of the part leave alone, in the run: a road, arm or zone event never touches the
measurements, the vessels, the queues, the channel signals, the bolts, the seats or the table; a lock, seat or pump
event nothing of the road, the arms, the measurements, the vessels, the circuits or the table; a measurement event
nothing of the arms, the road, the vessels, the queues or the channel; a vessel, queue or channel request or event
nothing of the arms, the zones, the road or the measurements. -/
def Obligations.SidesKeepApart : Prop :=
  ∀ (c : Instr) (s t : State), s.running = true → exec c s = .next t →
    (c.isRoadSide = true → t.tb = s.tb ∧ t.apu = s.apu ∧ t.msu = s.msu ∧ t.vt = s.vt ∧ t.psc = s.psc ∧
      t.csu = s.csu ∧ t.lpu.bolts = s.lpu.bolts ∧ t.lpu.seats = s.lpu.seats ∧
      t.phu.circuits = s.phu.circuits ∧ t.cl = { s.cl with latched := t.cl.latched }) ∧
    (c.isLockSide = true → t.tb = s.tb ∧ t.apu = s.apu ∧ t.bzu = s.bzu ∧ t.rcs = s.rcs ∧ t.msu = s.msu ∧
      t.vt = s.vt ∧ t.phu.circuits = s.phu.circuits ∧ t.cl = { s.cl with latched := t.cl.latched }) ∧
    (c.isMeasureSide = true → t.tb = s.tb ∧ t.apu = s.apu ∧ t.pins = s.pins ∧ t.bzu = s.bzu ∧ t.rcs = s.rcs ∧
      t.vt = s.vt ∧ t.psc = s.psc ∧ t.csu = s.csu ∧ t.phu = s.phu ∧
      t.cl = { s.cl with latched := t.cl.latched }) ∧
    (c.isChannelSide = true → t.tb = s.tb ∧ t.apu = s.apu ∧ t.pins = s.pins ∧ t.bzu = s.bzu ∧ t.rcs = s.rcs ∧
      t.msu = s.msu ∧ t.phu.health = s.phu.health ∧ t.phu.circuits = s.phu.circuits)

/-- Every step keeps the speed bound of R110: no reference exceeds the cruise speed of the motion record. -/
def Obligations.StepKeepsSpeedBound : Prop :=
  ∀ s t : State, s.speedBounded → step s = .next t → t.speedBounded

/-- Every step keeps R174's rule: one GO at most, with the leaves RAISED and the other side at STOP. -/
def Obligations.StepKeepsOneGo : Prop := ∀ s t : State, s.oneGo → step s = .next t → t.oneGo

/-- Every step keeps the bounds of R152: 24 entries in all, 8 in a queue. -/
def Obligations.StepKeepsPoolBound : Prop := ∀ s t : State, s.poolBounded → step s = .next t → t.poolBounded

/-- Every step keeps the references of R98 and R106: 0 for an arrived leaf and outside RAISING and LOWERING. -/
def Obligations.StepKeepsReferencesSafe : Prop :=
  ∀ s t : State, s.referencesSafe → step s = .next t → t.referencesSafe

/-- Every step keeps the mismatch count within 0 to 5 (R22) and every health value within 1 to 253 (R197). -/
def Obligations.StepKeepsCountBounds : Prop :=
  ∀ s t : State, s.mismatchBounded → s.healthBounded → step s = .next t → t.mismatchBounded ∧ t.healthBounded

/-- The state after reset meets every invariant above; the values the spec gives no reset for are the model's (note
7). -/
def Obligations.ResetMeetsInvariants : Prop :=
  State.reset.speedBounded ∧ State.reset.oneGo ∧ State.reset.poolBounded ∧ State.reset.referencesSafe ∧
    State.reset.mismatchBounded ∧ State.reset.healthBounded
end

