-- ==== Sys2Proof/Laws/State.lean ====
section
/-! SUPPORT. The update of one block: what it leaves alone, field by field, and what it gives. Each lemma is true by `rfl`
and tagged `@[simp]`, so no later proof unfolds a record update. -/

namespace Sys2Proof.Machine

variable (s : State)

/-! ### `State.onTb` -/

@[simp] theorem onTb_tb (f : TimeBase → TimeBase) : (s.onTb f).tb = f s.tb := rfl
@[simp] theorem onTb_cl (f : TimeBase → TimeBase) : (s.onTb f).cl = s.cl := rfl
@[simp] theorem onTb_apu (f : TimeBase → TimeBase) : (s.onTb f).apu = s.apu := rfl
@[simp] theorem onTb_pins (f : TimeBase → TimeBase) : (s.onTb f).pins = s.pins := rfl
@[simp] theorem onTb_bzu (f : TimeBase → TimeBase) : (s.onTb f).bzu = s.bzu := rfl
@[simp] theorem onTb_rcs (f : TimeBase → TimeBase) : (s.onTb f).rcs = s.rcs := rfl
@[simp] theorem onTb_lpu (f : TimeBase → TimeBase) : (s.onTb f).lpu = s.lpu := rfl
@[simp] theorem onTb_lmc (f : TimeBase → TimeBase) : (s.onTb f).lmc = s.lmc := rfl
@[simp] theorem onTb_msu (f : TimeBase → TimeBase) : (s.onTb f).msu = s.msu := rfl
@[simp] theorem onTb_vt (f : TimeBase → TimeBase) : (s.onTb f).vt = s.vt := rfl
@[simp] theorem onTb_psc (f : TimeBase → TimeBase) : (s.onTb f).psc = s.psc := rfl
@[simp] theorem onTb_csu (f : TimeBase → TimeBase) : (s.onTb f).csu = s.csu := rfl
@[simp] theorem onTb_phu (f : TimeBase → TimeBase) : (s.onTb f).phu = s.phu := rfl
@[simp] theorem onTb_pending (f : TimeBase → TimeBase) : (s.onTb f).pending = s.pending := rfl

/-! ### `State.onCl` -/

@[simp] theorem onCl_tb (f : Link → Link) : (s.onCl f).tb = s.tb := rfl
@[simp] theorem onCl_cl (f : Link → Link) : (s.onCl f).cl = f s.cl := rfl
@[simp] theorem onCl_apu (f : Link → Link) : (s.onCl f).apu = s.apu := rfl
@[simp] theorem onCl_pins (f : Link → Link) : (s.onCl f).pins = s.pins := rfl
@[simp] theorem onCl_bzu (f : Link → Link) : (s.onCl f).bzu = s.bzu := rfl
@[simp] theorem onCl_rcs (f : Link → Link) : (s.onCl f).rcs = s.rcs := rfl
@[simp] theorem onCl_lpu (f : Link → Link) : (s.onCl f).lpu = s.lpu := rfl
@[simp] theorem onCl_lmc (f : Link → Link) : (s.onCl f).lmc = s.lmc := rfl
@[simp] theorem onCl_msu (f : Link → Link) : (s.onCl f).msu = s.msu := rfl
@[simp] theorem onCl_vt (f : Link → Link) : (s.onCl f).vt = s.vt := rfl
@[simp] theorem onCl_psc (f : Link → Link) : (s.onCl f).psc = s.psc := rfl
@[simp] theorem onCl_csu (f : Link → Link) : (s.onCl f).csu = s.csu := rfl
@[simp] theorem onCl_phu (f : Link → Link) : (s.onCl f).phu = s.phu := rfl
@[simp] theorem onCl_pending (f : Link → Link) : (s.onCl f).pending = s.pending := rfl

/-! ### `State.onApu` -/

@[simp] theorem onApu_tb (f : Apu → Apu) : (s.onApu f).tb = s.tb := rfl
@[simp] theorem onApu_cl (f : Apu → Apu) : (s.onApu f).cl = s.cl := rfl
@[simp] theorem onApu_apu (f : Apu → Apu) : (s.onApu f).apu = f s.apu := rfl
@[simp] theorem onApu_pins (f : Apu → Apu) : (s.onApu f).pins = s.pins := rfl
@[simp] theorem onApu_bzu (f : Apu → Apu) : (s.onApu f).bzu = s.bzu := rfl
@[simp] theorem onApu_rcs (f : Apu → Apu) : (s.onApu f).rcs = s.rcs := rfl
@[simp] theorem onApu_lpu (f : Apu → Apu) : (s.onApu f).lpu = s.lpu := rfl
@[simp] theorem onApu_lmc (f : Apu → Apu) : (s.onApu f).lmc = s.lmc := rfl
@[simp] theorem onApu_msu (f : Apu → Apu) : (s.onApu f).msu = s.msu := rfl
@[simp] theorem onApu_vt (f : Apu → Apu) : (s.onApu f).vt = s.vt := rfl
@[simp] theorem onApu_psc (f : Apu → Apu) : (s.onApu f).psc = s.psc := rfl
@[simp] theorem onApu_csu (f : Apu → Apu) : (s.onApu f).csu = s.csu := rfl
@[simp] theorem onApu_phu (f : Apu → Apu) : (s.onApu f).phu = s.phu := rfl
@[simp] theorem onApu_pending (f : Apu → Apu) : (s.onApu f).pending = s.pending := rfl

/-! ### `State.onPins` -/

@[simp] theorem onPins_tb (f : Pins → Pins) : (s.onPins f).tb = s.tb := rfl
@[simp] theorem onPins_cl (f : Pins → Pins) : (s.onPins f).cl = s.cl := rfl
@[simp] theorem onPins_apu (f : Pins → Pins) : (s.onPins f).apu = s.apu := rfl
@[simp] theorem onPins_pins (f : Pins → Pins) : (s.onPins f).pins = f s.pins := rfl
@[simp] theorem onPins_bzu (f : Pins → Pins) : (s.onPins f).bzu = s.bzu := rfl
@[simp] theorem onPins_rcs (f : Pins → Pins) : (s.onPins f).rcs = s.rcs := rfl
@[simp] theorem onPins_lpu (f : Pins → Pins) : (s.onPins f).lpu = s.lpu := rfl
@[simp] theorem onPins_lmc (f : Pins → Pins) : (s.onPins f).lmc = s.lmc := rfl
@[simp] theorem onPins_msu (f : Pins → Pins) : (s.onPins f).msu = s.msu := rfl
@[simp] theorem onPins_vt (f : Pins → Pins) : (s.onPins f).vt = s.vt := rfl
@[simp] theorem onPins_psc (f : Pins → Pins) : (s.onPins f).psc = s.psc := rfl
@[simp] theorem onPins_csu (f : Pins → Pins) : (s.onPins f).csu = s.csu := rfl
@[simp] theorem onPins_phu (f : Pins → Pins) : (s.onPins f).phu = s.phu := rfl
@[simp] theorem onPins_pending (f : Pins → Pins) : (s.onPins f).pending = s.pending := rfl

/-! ### `State.onBzu` -/

@[simp] theorem onBzu_tb (f : Bzu → Bzu) : (s.onBzu f).tb = s.tb := rfl
@[simp] theorem onBzu_cl (f : Bzu → Bzu) : (s.onBzu f).cl = s.cl := rfl
@[simp] theorem onBzu_apu (f : Bzu → Bzu) : (s.onBzu f).apu = s.apu := rfl
@[simp] theorem onBzu_pins (f : Bzu → Bzu) : (s.onBzu f).pins = s.pins := rfl
@[simp] theorem onBzu_bzu (f : Bzu → Bzu) : (s.onBzu f).bzu = f s.bzu := rfl
@[simp] theorem onBzu_rcs (f : Bzu → Bzu) : (s.onBzu f).rcs = s.rcs := rfl
@[simp] theorem onBzu_lpu (f : Bzu → Bzu) : (s.onBzu f).lpu = s.lpu := rfl
@[simp] theorem onBzu_lmc (f : Bzu → Bzu) : (s.onBzu f).lmc = s.lmc := rfl
@[simp] theorem onBzu_msu (f : Bzu → Bzu) : (s.onBzu f).msu = s.msu := rfl
@[simp] theorem onBzu_vt (f : Bzu → Bzu) : (s.onBzu f).vt = s.vt := rfl
@[simp] theorem onBzu_psc (f : Bzu → Bzu) : (s.onBzu f).psc = s.psc := rfl
@[simp] theorem onBzu_csu (f : Bzu → Bzu) : (s.onBzu f).csu = s.csu := rfl
@[simp] theorem onBzu_phu (f : Bzu → Bzu) : (s.onBzu f).phu = s.phu := rfl
@[simp] theorem onBzu_pending (f : Bzu → Bzu) : (s.onBzu f).pending = s.pending := rfl

/-! ### `State.onRcs` -/

@[simp] theorem onRcs_tb (f : Rcs → Rcs) : (s.onRcs f).tb = s.tb := rfl
@[simp] theorem onRcs_cl (f : Rcs → Rcs) : (s.onRcs f).cl = s.cl := rfl
@[simp] theorem onRcs_apu (f : Rcs → Rcs) : (s.onRcs f).apu = s.apu := rfl
@[simp] theorem onRcs_pins (f : Rcs → Rcs) : (s.onRcs f).pins = s.pins := rfl
@[simp] theorem onRcs_bzu (f : Rcs → Rcs) : (s.onRcs f).bzu = s.bzu := rfl
@[simp] theorem onRcs_rcs (f : Rcs → Rcs) : (s.onRcs f).rcs = f s.rcs := rfl
@[simp] theorem onRcs_lpu (f : Rcs → Rcs) : (s.onRcs f).lpu = s.lpu := rfl
@[simp] theorem onRcs_lmc (f : Rcs → Rcs) : (s.onRcs f).lmc = s.lmc := rfl
@[simp] theorem onRcs_msu (f : Rcs → Rcs) : (s.onRcs f).msu = s.msu := rfl
@[simp] theorem onRcs_vt (f : Rcs → Rcs) : (s.onRcs f).vt = s.vt := rfl
@[simp] theorem onRcs_psc (f : Rcs → Rcs) : (s.onRcs f).psc = s.psc := rfl
@[simp] theorem onRcs_csu (f : Rcs → Rcs) : (s.onRcs f).csu = s.csu := rfl
@[simp] theorem onRcs_phu (f : Rcs → Rcs) : (s.onRcs f).phu = s.phu := rfl
@[simp] theorem onRcs_pending (f : Rcs → Rcs) : (s.onRcs f).pending = s.pending := rfl

/-! ### `State.onLpu` -/

@[simp] theorem onLpu_tb (f : Lpu → Lpu) : (s.onLpu f).tb = s.tb := rfl
@[simp] theorem onLpu_cl (f : Lpu → Lpu) : (s.onLpu f).cl = s.cl := rfl
@[simp] theorem onLpu_apu (f : Lpu → Lpu) : (s.onLpu f).apu = s.apu := rfl
@[simp] theorem onLpu_pins (f : Lpu → Lpu) : (s.onLpu f).pins = s.pins := rfl
@[simp] theorem onLpu_bzu (f : Lpu → Lpu) : (s.onLpu f).bzu = s.bzu := rfl
@[simp] theorem onLpu_rcs (f : Lpu → Lpu) : (s.onLpu f).rcs = s.rcs := rfl
@[simp] theorem onLpu_lpu (f : Lpu → Lpu) : (s.onLpu f).lpu = f s.lpu := rfl
@[simp] theorem onLpu_lmc (f : Lpu → Lpu) : (s.onLpu f).lmc = s.lmc := rfl
@[simp] theorem onLpu_msu (f : Lpu → Lpu) : (s.onLpu f).msu = s.msu := rfl
@[simp] theorem onLpu_vt (f : Lpu → Lpu) : (s.onLpu f).vt = s.vt := rfl
@[simp] theorem onLpu_psc (f : Lpu → Lpu) : (s.onLpu f).psc = s.psc := rfl
@[simp] theorem onLpu_csu (f : Lpu → Lpu) : (s.onLpu f).csu = s.csu := rfl
@[simp] theorem onLpu_phu (f : Lpu → Lpu) : (s.onLpu f).phu = s.phu := rfl
@[simp] theorem onLpu_pending (f : Lpu → Lpu) : (s.onLpu f).pending = s.pending := rfl

/-! ### `State.onLmc` -/

@[simp] theorem onLmc_tb (f : Lmc → Lmc) : (s.onLmc f).tb = s.tb := rfl
@[simp] theorem onLmc_cl (f : Lmc → Lmc) : (s.onLmc f).cl = s.cl := rfl
@[simp] theorem onLmc_apu (f : Lmc → Lmc) : (s.onLmc f).apu = s.apu := rfl
@[simp] theorem onLmc_pins (f : Lmc → Lmc) : (s.onLmc f).pins = s.pins := rfl
@[simp] theorem onLmc_bzu (f : Lmc → Lmc) : (s.onLmc f).bzu = s.bzu := rfl
@[simp] theorem onLmc_rcs (f : Lmc → Lmc) : (s.onLmc f).rcs = s.rcs := rfl
@[simp] theorem onLmc_lpu (f : Lmc → Lmc) : (s.onLmc f).lpu = s.lpu := rfl
@[simp] theorem onLmc_lmc (f : Lmc → Lmc) : (s.onLmc f).lmc = f s.lmc := rfl
@[simp] theorem onLmc_msu (f : Lmc → Lmc) : (s.onLmc f).msu = s.msu := rfl
@[simp] theorem onLmc_vt (f : Lmc → Lmc) : (s.onLmc f).vt = s.vt := rfl
@[simp] theorem onLmc_psc (f : Lmc → Lmc) : (s.onLmc f).psc = s.psc := rfl
@[simp] theorem onLmc_csu (f : Lmc → Lmc) : (s.onLmc f).csu = s.csu := rfl
@[simp] theorem onLmc_phu (f : Lmc → Lmc) : (s.onLmc f).phu = s.phu := rfl
@[simp] theorem onLmc_pending (f : Lmc → Lmc) : (s.onLmc f).pending = s.pending := rfl

/-! ### `State.onMsu` -/

@[simp] theorem onMsu_tb (f : Msu → Msu) : (s.onMsu f).tb = s.tb := rfl
@[simp] theorem onMsu_cl (f : Msu → Msu) : (s.onMsu f).cl = s.cl := rfl
@[simp] theorem onMsu_apu (f : Msu → Msu) : (s.onMsu f).apu = s.apu := rfl
@[simp] theorem onMsu_pins (f : Msu → Msu) : (s.onMsu f).pins = s.pins := rfl
@[simp] theorem onMsu_bzu (f : Msu → Msu) : (s.onMsu f).bzu = s.bzu := rfl
@[simp] theorem onMsu_rcs (f : Msu → Msu) : (s.onMsu f).rcs = s.rcs := rfl
@[simp] theorem onMsu_lpu (f : Msu → Msu) : (s.onMsu f).lpu = s.lpu := rfl
@[simp] theorem onMsu_lmc (f : Msu → Msu) : (s.onMsu f).lmc = s.lmc := rfl
@[simp] theorem onMsu_msu (f : Msu → Msu) : (s.onMsu f).msu = f s.msu := rfl
@[simp] theorem onMsu_vt (f : Msu → Msu) : (s.onMsu f).vt = s.vt := rfl
@[simp] theorem onMsu_psc (f : Msu → Msu) : (s.onMsu f).psc = s.psc := rfl
@[simp] theorem onMsu_csu (f : Msu → Msu) : (s.onMsu f).csu = s.csu := rfl
@[simp] theorem onMsu_phu (f : Msu → Msu) : (s.onMsu f).phu = s.phu := rfl
@[simp] theorem onMsu_pending (f : Msu → Msu) : (s.onMsu f).pending = s.pending := rfl

/-! ### `State.onVt` -/

@[simp] theorem onVt_tb (f : Vt → Vt) : (s.onVt f).tb = s.tb := rfl
@[simp] theorem onVt_cl (f : Vt → Vt) : (s.onVt f).cl = s.cl := rfl
@[simp] theorem onVt_apu (f : Vt → Vt) : (s.onVt f).apu = s.apu := rfl
@[simp] theorem onVt_pins (f : Vt → Vt) : (s.onVt f).pins = s.pins := rfl
@[simp] theorem onVt_bzu (f : Vt → Vt) : (s.onVt f).bzu = s.bzu := rfl
@[simp] theorem onVt_rcs (f : Vt → Vt) : (s.onVt f).rcs = s.rcs := rfl
@[simp] theorem onVt_lpu (f : Vt → Vt) : (s.onVt f).lpu = s.lpu := rfl
@[simp] theorem onVt_lmc (f : Vt → Vt) : (s.onVt f).lmc = s.lmc := rfl
@[simp] theorem onVt_msu (f : Vt → Vt) : (s.onVt f).msu = s.msu := rfl
@[simp] theorem onVt_vt (f : Vt → Vt) : (s.onVt f).vt = f s.vt := rfl
@[simp] theorem onVt_psc (f : Vt → Vt) : (s.onVt f).psc = s.psc := rfl
@[simp] theorem onVt_csu (f : Vt → Vt) : (s.onVt f).csu = s.csu := rfl
@[simp] theorem onVt_phu (f : Vt → Vt) : (s.onVt f).phu = s.phu := rfl
@[simp] theorem onVt_pending (f : Vt → Vt) : (s.onVt f).pending = s.pending := rfl

/-! ### `State.onPsc` -/

@[simp] theorem onPsc_tb (f : Psc → Psc) : (s.onPsc f).tb = s.tb := rfl
@[simp] theorem onPsc_cl (f : Psc → Psc) : (s.onPsc f).cl = s.cl := rfl
@[simp] theorem onPsc_apu (f : Psc → Psc) : (s.onPsc f).apu = s.apu := rfl
@[simp] theorem onPsc_pins (f : Psc → Psc) : (s.onPsc f).pins = s.pins := rfl
@[simp] theorem onPsc_bzu (f : Psc → Psc) : (s.onPsc f).bzu = s.bzu := rfl
@[simp] theorem onPsc_rcs (f : Psc → Psc) : (s.onPsc f).rcs = s.rcs := rfl
@[simp] theorem onPsc_lpu (f : Psc → Psc) : (s.onPsc f).lpu = s.lpu := rfl
@[simp] theorem onPsc_lmc (f : Psc → Psc) : (s.onPsc f).lmc = s.lmc := rfl
@[simp] theorem onPsc_msu (f : Psc → Psc) : (s.onPsc f).msu = s.msu := rfl
@[simp] theorem onPsc_vt (f : Psc → Psc) : (s.onPsc f).vt = s.vt := rfl
@[simp] theorem onPsc_psc (f : Psc → Psc) : (s.onPsc f).psc = f s.psc := rfl
@[simp] theorem onPsc_csu (f : Psc → Psc) : (s.onPsc f).csu = s.csu := rfl
@[simp] theorem onPsc_phu (f : Psc → Psc) : (s.onPsc f).phu = s.phu := rfl
@[simp] theorem onPsc_pending (f : Psc → Psc) : (s.onPsc f).pending = s.pending := rfl

/-! ### `State.onCsu` -/

@[simp] theorem onCsu_tb (f : Csu → Csu) : (s.onCsu f).tb = s.tb := rfl
@[simp] theorem onCsu_cl (f : Csu → Csu) : (s.onCsu f).cl = s.cl := rfl
@[simp] theorem onCsu_apu (f : Csu → Csu) : (s.onCsu f).apu = s.apu := rfl
@[simp] theorem onCsu_pins (f : Csu → Csu) : (s.onCsu f).pins = s.pins := rfl
@[simp] theorem onCsu_bzu (f : Csu → Csu) : (s.onCsu f).bzu = s.bzu := rfl
@[simp] theorem onCsu_rcs (f : Csu → Csu) : (s.onCsu f).rcs = s.rcs := rfl
@[simp] theorem onCsu_lpu (f : Csu → Csu) : (s.onCsu f).lpu = s.lpu := rfl
@[simp] theorem onCsu_lmc (f : Csu → Csu) : (s.onCsu f).lmc = s.lmc := rfl
@[simp] theorem onCsu_msu (f : Csu → Csu) : (s.onCsu f).msu = s.msu := rfl
@[simp] theorem onCsu_vt (f : Csu → Csu) : (s.onCsu f).vt = s.vt := rfl
@[simp] theorem onCsu_psc (f : Csu → Csu) : (s.onCsu f).psc = s.psc := rfl
@[simp] theorem onCsu_csu (f : Csu → Csu) : (s.onCsu f).csu = f s.csu := rfl
@[simp] theorem onCsu_phu (f : Csu → Csu) : (s.onCsu f).phu = s.phu := rfl
@[simp] theorem onCsu_pending (f : Csu → Csu) : (s.onCsu f).pending = s.pending := rfl

/-! ### `State.onPhu` -/

@[simp] theorem onPhu_tb (f : Phu → Phu) : (s.onPhu f).tb = s.tb := rfl
@[simp] theorem onPhu_cl (f : Phu → Phu) : (s.onPhu f).cl = s.cl := rfl
@[simp] theorem onPhu_apu (f : Phu → Phu) : (s.onPhu f).apu = s.apu := rfl
@[simp] theorem onPhu_pins (f : Phu → Phu) : (s.onPhu f).pins = s.pins := rfl
@[simp] theorem onPhu_bzu (f : Phu → Phu) : (s.onPhu f).bzu = s.bzu := rfl
@[simp] theorem onPhu_rcs (f : Phu → Phu) : (s.onPhu f).rcs = s.rcs := rfl
@[simp] theorem onPhu_lpu (f : Phu → Phu) : (s.onPhu f).lpu = s.lpu := rfl
@[simp] theorem onPhu_lmc (f : Phu → Phu) : (s.onPhu f).lmc = s.lmc := rfl
@[simp] theorem onPhu_msu (f : Phu → Phu) : (s.onPhu f).msu = s.msu := rfl
@[simp] theorem onPhu_vt (f : Phu → Phu) : (s.onPhu f).vt = s.vt := rfl
@[simp] theorem onPhu_psc (f : Phu → Phu) : (s.onPhu f).psc = s.psc := rfl
@[simp] theorem onPhu_csu (f : Phu → Phu) : (s.onPhu f).csu = s.csu := rfl
@[simp] theorem onPhu_phu (f : Phu → Phu) : (s.onPhu f).phu = f s.phu := rfl
@[simp] theorem onPhu_pending (f : Phu → Phu) : (s.onPhu f).pending = s.pending := rfl

/-! ### `State.onArm` -/

@[simp] theorem onArm_tb (a : Fin 8) (f : Arm → Arm) : (s.onArm a f).tb = s.tb := rfl
@[simp] theorem onArm_cl (a : Fin 8) (f : Arm → Arm) : (s.onArm a f).cl = s.cl := rfl
@[simp] theorem onArm_apu (a : Fin 8) (f : Arm → Arm) : (s.onArm a f).apu = s.apu := rfl
@[simp] theorem onArm_pins (a : Fin 8) (f : Arm → Arm) : (s.onArm a f).pins = s.pins := rfl
@[simp] theorem onArm_rcs (a : Fin 8) (f : Arm → Arm) : (s.onArm a f).rcs = s.rcs := rfl
@[simp] theorem onArm_lpu (a : Fin 8) (f : Arm → Arm) : (s.onArm a f).lpu = s.lpu := rfl
@[simp] theorem onArm_lmc (a : Fin 8) (f : Arm → Arm) : (s.onArm a f).lmc = s.lmc := rfl
@[simp] theorem onArm_msu (a : Fin 8) (f : Arm → Arm) : (s.onArm a f).msu = s.msu := rfl
@[simp] theorem onArm_vt (a : Fin 8) (f : Arm → Arm) : (s.onArm a f).vt = s.vt := rfl
@[simp] theorem onArm_psc (a : Fin 8) (f : Arm → Arm) : (s.onArm a f).psc = s.psc := rfl
@[simp] theorem onArm_csu (a : Fin 8) (f : Arm → Arm) : (s.onArm a f).csu = s.csu := rfl
@[simp] theorem onArm_phu (a : Fin 8) (f : Arm → Arm) : (s.onArm a f).phu = s.phu := rfl
@[simp] theorem onArm_pending (a : Fin 8) (f : Arm → Arm) : (s.onArm a f).pending = s.pending := rfl

/-! ### `State.onZone` -/

@[simp] theorem onZone_tb (z : Fin 6) (f : Zone → Zone) : (s.onZone z f).tb = s.tb := rfl
@[simp] theorem onZone_cl (z : Fin 6) (f : Zone → Zone) : (s.onZone z f).cl = s.cl := rfl
@[simp] theorem onZone_apu (z : Fin 6) (f : Zone → Zone) : (s.onZone z f).apu = s.apu := rfl
@[simp] theorem onZone_pins (z : Fin 6) (f : Zone → Zone) : (s.onZone z f).pins = s.pins := rfl
@[simp] theorem onZone_rcs (z : Fin 6) (f : Zone → Zone) : (s.onZone z f).rcs = s.rcs := rfl
@[simp] theorem onZone_lpu (z : Fin 6) (f : Zone → Zone) : (s.onZone z f).lpu = s.lpu := rfl
@[simp] theorem onZone_lmc (z : Fin 6) (f : Zone → Zone) : (s.onZone z f).lmc = s.lmc := rfl
@[simp] theorem onZone_msu (z : Fin 6) (f : Zone → Zone) : (s.onZone z f).msu = s.msu := rfl
@[simp] theorem onZone_vt (z : Fin 6) (f : Zone → Zone) : (s.onZone z f).vt = s.vt := rfl
@[simp] theorem onZone_psc (z : Fin 6) (f : Zone → Zone) : (s.onZone z f).psc = s.psc := rfl
@[simp] theorem onZone_csu (z : Fin 6) (f : Zone → Zone) : (s.onZone z f).csu = s.csu := rfl
@[simp] theorem onZone_phu (z : Fin 6) (f : Zone → Zone) : (s.onZone z f).phu = s.phu := rfl
@[simp] theorem onZone_pending (z : Fin 6) (f : Zone → Zone) : (s.onZone z f).pending = s.pending := rfl

/-! ### `State.onBolt` -/

@[simp] theorem onBolt_tb (b : Fin 4) (f : Bolt → Bolt) : (s.onBolt b f).tb = s.tb := rfl
@[simp] theorem onBolt_cl (b : Fin 4) (f : Bolt → Bolt) : (s.onBolt b f).cl = s.cl := rfl
@[simp] theorem onBolt_apu (b : Fin 4) (f : Bolt → Bolt) : (s.onBolt b f).apu = s.apu := rfl
@[simp] theorem onBolt_pins (b : Fin 4) (f : Bolt → Bolt) : (s.onBolt b f).pins = s.pins := rfl
@[simp] theorem onBolt_bzu (b : Fin 4) (f : Bolt → Bolt) : (s.onBolt b f).bzu = s.bzu := rfl
@[simp] theorem onBolt_rcs (b : Fin 4) (f : Bolt → Bolt) : (s.onBolt b f).rcs = s.rcs := rfl
@[simp] theorem onBolt_lmc (b : Fin 4) (f : Bolt → Bolt) : (s.onBolt b f).lmc = s.lmc := rfl
@[simp] theorem onBolt_msu (b : Fin 4) (f : Bolt → Bolt) : (s.onBolt b f).msu = s.msu := rfl
@[simp] theorem onBolt_vt (b : Fin 4) (f : Bolt → Bolt) : (s.onBolt b f).vt = s.vt := rfl
@[simp] theorem onBolt_psc (b : Fin 4) (f : Bolt → Bolt) : (s.onBolt b f).psc = s.psc := rfl
@[simp] theorem onBolt_csu (b : Fin 4) (f : Bolt → Bolt) : (s.onBolt b f).csu = s.csu := rfl
@[simp] theorem onBolt_phu (b : Fin 4) (f : Bolt → Bolt) : (s.onBolt b f).phu = s.phu := rfl
@[simp] theorem onBolt_pending (b : Fin 4) (f : Bolt → Bolt) : (s.onBolt b f).pending = s.pending := rfl

/-! ### `State.onPump` -/

@[simp] theorem onPump_tb (g : Leaf) (f : Pump → Pump) : (s.onPump g f).tb = s.tb := rfl
@[simp] theorem onPump_cl (g : Leaf) (f : Pump → Pump) : (s.onPump g f).cl = s.cl := rfl
@[simp] theorem onPump_apu (g : Leaf) (f : Pump → Pump) : (s.onPump g f).apu = s.apu := rfl
@[simp] theorem onPump_pins (g : Leaf) (f : Pump → Pump) : (s.onPump g f).pins = s.pins := rfl
@[simp] theorem onPump_bzu (g : Leaf) (f : Pump → Pump) : (s.onPump g f).bzu = s.bzu := rfl
@[simp] theorem onPump_rcs (g : Leaf) (f : Pump → Pump) : (s.onPump g f).rcs = s.rcs := rfl
@[simp] theorem onPump_lmc (g : Leaf) (f : Pump → Pump) : (s.onPump g f).lmc = s.lmc := rfl
@[simp] theorem onPump_msu (g : Leaf) (f : Pump → Pump) : (s.onPump g f).msu = s.msu := rfl
@[simp] theorem onPump_vt (g : Leaf) (f : Pump → Pump) : (s.onPump g f).vt = s.vt := rfl
@[simp] theorem onPump_psc (g : Leaf) (f : Pump → Pump) : (s.onPump g f).psc = s.psc := rfl
@[simp] theorem onPump_csu (g : Leaf) (f : Pump → Pump) : (s.onPump g f).csu = s.csu := rfl
@[simp] theorem onPump_phu (g : Leaf) (f : Pump → Pump) : (s.onPump g f).phu = s.phu := rfl
@[simp] theorem onPump_pending (g : Leaf) (f : Pump → Pump) : (s.onPump g f).pending = s.pending := rfl

/-! ### `State.onSeat` -/

@[simp] theorem onSeat_tb (l : Leaf) (f : Seat → Seat) : (s.onSeat l f).tb = s.tb := rfl
@[simp] theorem onSeat_cl (l : Leaf) (f : Seat → Seat) : (s.onSeat l f).cl = s.cl := rfl
@[simp] theorem onSeat_apu (l : Leaf) (f : Seat → Seat) : (s.onSeat l f).apu = s.apu := rfl
@[simp] theorem onSeat_pins (l : Leaf) (f : Seat → Seat) : (s.onSeat l f).pins = s.pins := rfl
@[simp] theorem onSeat_bzu (l : Leaf) (f : Seat → Seat) : (s.onSeat l f).bzu = s.bzu := rfl
@[simp] theorem onSeat_rcs (l : Leaf) (f : Seat → Seat) : (s.onSeat l f).rcs = s.rcs := rfl
@[simp] theorem onSeat_lmc (l : Leaf) (f : Seat → Seat) : (s.onSeat l f).lmc = s.lmc := rfl
@[simp] theorem onSeat_msu (l : Leaf) (f : Seat → Seat) : (s.onSeat l f).msu = s.msu := rfl
@[simp] theorem onSeat_vt (l : Leaf) (f : Seat → Seat) : (s.onSeat l f).vt = s.vt := rfl
@[simp] theorem onSeat_psc (l : Leaf) (f : Seat → Seat) : (s.onSeat l f).psc = s.psc := rfl
@[simp] theorem onSeat_csu (l : Leaf) (f : Seat → Seat) : (s.onSeat l f).csu = s.csu := rfl
@[simp] theorem onSeat_phu (l : Leaf) (f : Seat → Seat) : (s.onSeat l f).phu = s.phu := rfl
@[simp] theorem onSeat_pending (l : Leaf) (f : Seat → Seat) : (s.onSeat l f).pending = s.pending := rfl

/-! ### `State.onMotion` -/

@[simp] theorem onMotion_tb (f : Motion → Motion) : (s.onMotion f).tb = s.tb := rfl
@[simp] theorem onMotion_cl (f : Motion → Motion) : (s.onMotion f).cl = s.cl := rfl
@[simp] theorem onMotion_apu (f : Motion → Motion) : (s.onMotion f).apu = s.apu := rfl
@[simp] theorem onMotion_pins (f : Motion → Motion) : (s.onMotion f).pins = s.pins := rfl
@[simp] theorem onMotion_bzu (f : Motion → Motion) : (s.onMotion f).bzu = s.bzu := rfl
@[simp] theorem onMotion_rcs (f : Motion → Motion) : (s.onMotion f).rcs = s.rcs := rfl
@[simp] theorem onMotion_lpu (f : Motion → Motion) : (s.onMotion f).lpu = s.lpu := rfl
@[simp] theorem onMotion_msu (f : Motion → Motion) : (s.onMotion f).msu = s.msu := rfl
@[simp] theorem onMotion_vt (f : Motion → Motion) : (s.onMotion f).vt = s.vt := rfl
@[simp] theorem onMotion_psc (f : Motion → Motion) : (s.onMotion f).psc = s.psc := rfl
@[simp] theorem onMotion_csu (f : Motion → Motion) : (s.onMotion f).csu = s.csu := rfl
@[simp] theorem onMotion_phu (f : Motion → Motion) : (s.onMotion f).phu = s.phu := rfl
@[simp] theorem onMotion_pending (f : Motion → Motion) : (s.onMotion f).pending = s.pending := rfl

/-! ### `State.onBatch` -/

@[simp] theorem onBatch_tb (f : Batch → Batch) : (s.onBatch f).tb = s.tb := rfl
@[simp] theorem onBatch_cl (f : Batch → Batch) : (s.onBatch f).cl = s.cl := rfl
@[simp] theorem onBatch_apu (f : Batch → Batch) : (s.onBatch f).apu = s.apu := rfl
@[simp] theorem onBatch_pins (f : Batch → Batch) : (s.onBatch f).pins = s.pins := rfl
@[simp] theorem onBatch_bzu (f : Batch → Batch) : (s.onBatch f).bzu = s.bzu := rfl
@[simp] theorem onBatch_rcs (f : Batch → Batch) : (s.onBatch f).rcs = s.rcs := rfl
@[simp] theorem onBatch_lpu (f : Batch → Batch) : (s.onBatch f).lpu = s.lpu := rfl
@[simp] theorem onBatch_lmc (f : Batch → Batch) : (s.onBatch f).lmc = s.lmc := rfl
@[simp] theorem onBatch_msu (f : Batch → Batch) : (s.onBatch f).msu = s.msu := rfl
@[simp] theorem onBatch_vt (f : Batch → Batch) : (s.onBatch f).vt = s.vt := rfl
@[simp] theorem onBatch_csu (f : Batch → Batch) : (s.onBatch f).csu = s.csu := rfl
@[simp] theorem onBatch_phu (f : Batch → Batch) : (s.onBatch f).phu = s.phu := rfl
@[simp] theorem onBatch_pending (f : Batch → Batch) : (s.onBatch f).pending = s.pending := rfl

/-! ### `State.onTurn` -/

@[simp] theorem onTurn_tb (d : Side) (f : SideTurn → SideTurn) : (s.onTurn d f).tb = s.tb := rfl
@[simp] theorem onTurn_cl (d : Side) (f : SideTurn → SideTurn) : (s.onTurn d f).cl = s.cl := rfl
@[simp] theorem onTurn_apu (d : Side) (f : SideTurn → SideTurn) : (s.onTurn d f).apu = s.apu := rfl
@[simp] theorem onTurn_pins (d : Side) (f : SideTurn → SideTurn) : (s.onTurn d f).pins = s.pins := rfl
@[simp] theorem onTurn_bzu (d : Side) (f : SideTurn → SideTurn) : (s.onTurn d f).bzu = s.bzu := rfl
@[simp] theorem onTurn_rcs (d : Side) (f : SideTurn → SideTurn) : (s.onTurn d f).rcs = s.rcs := rfl
@[simp] theorem onTurn_lpu (d : Side) (f : SideTurn → SideTurn) : (s.onTurn d f).lpu = s.lpu := rfl
@[simp] theorem onTurn_lmc (d : Side) (f : SideTurn → SideTurn) : (s.onTurn d f).lmc = s.lmc := rfl
@[simp] theorem onTurn_msu (d : Side) (f : SideTurn → SideTurn) : (s.onTurn d f).msu = s.msu := rfl
@[simp] theorem onTurn_vt (d : Side) (f : SideTurn → SideTurn) : (s.onTurn d f).vt = s.vt := rfl
@[simp] theorem onTurn_psc (d : Side) (f : SideTurn → SideTurn) : (s.onTurn d f).psc = s.psc := rfl
@[simp] theorem onTurn_phu (d : Side) (f : SideTurn → SideTurn) : (s.onTurn d f).phu = s.phu := rfl
@[simp] theorem onTurn_pending (d : Side) (f : SideTurn → SideTurn) : (s.onTurn d f).pending = s.pending := rfl

/-! ### `State.onHealth` -/

@[simp] theorem onHealth_tb (n : Fin 12) (f : Health → Health) : (s.onHealth n f).tb = s.tb := rfl
@[simp] theorem onHealth_cl (n : Fin 12) (f : Health → Health) : (s.onHealth n f).cl = s.cl := rfl
@[simp] theorem onHealth_apu (n : Fin 12) (f : Health → Health) : (s.onHealth n f).apu = s.apu := rfl
@[simp] theorem onHealth_pins (n : Fin 12) (f : Health → Health) : (s.onHealth n f).pins = s.pins := rfl
@[simp] theorem onHealth_bzu (n : Fin 12) (f : Health → Health) : (s.onHealth n f).bzu = s.bzu := rfl
@[simp] theorem onHealth_rcs (n : Fin 12) (f : Health → Health) : (s.onHealth n f).rcs = s.rcs := rfl
@[simp] theorem onHealth_lpu (n : Fin 12) (f : Health → Health) : (s.onHealth n f).lpu = s.lpu := rfl
@[simp] theorem onHealth_lmc (n : Fin 12) (f : Health → Health) : (s.onHealth n f).lmc = s.lmc := rfl
@[simp] theorem onHealth_msu (n : Fin 12) (f : Health → Health) : (s.onHealth n f).msu = s.msu := rfl
@[simp] theorem onHealth_vt (n : Fin 12) (f : Health → Health) : (s.onHealth n f).vt = s.vt := rfl
@[simp] theorem onHealth_psc (n : Fin 12) (f : Health → Health) : (s.onHealth n f).psc = s.psc := rfl
@[simp] theorem onHealth_csu (n : Fin 12) (f : Health → Health) : (s.onHealth n f).csu = s.csu := rfl
@[simp] theorem onHealth_pending (n : Fin 12) (f : Health → Health) : (s.onHealth n f).pending = s.pending := rfl

/-! ### What an update of one record leaves of its block -/

@[simp] theorem onArm_zones (a : Fin 8) (f : Arm → Arm) : (s.onArm a f).bzu.zones = s.bzu.zones := rfl
@[simp] theorem onZone_arms (z : Fin 6) (f : Zone → Zone) : (s.onZone z f).bzu.arms = s.bzu.arms := rfl
@[simp] theorem onBolt_pumps (b : Fin 4) (f : Bolt → Bolt) : (s.onBolt b f).lpu.pumps = s.lpu.pumps := rfl
@[simp] theorem onBolt_seats (b : Fin 4) (f : Bolt → Bolt) : (s.onBolt b f).lpu.seats = s.lpu.seats := rfl
@[simp] theorem onBolt_standby (b : Fin 4) (f : Bolt → Bolt) : (s.onBolt b f).lpu.standby = s.lpu.standby := rfl
@[simp] theorem onBolt_seqKind (b : Fin 4) (f : Bolt → Bolt) : (s.onBolt b f).lpu.seqKind = s.lpu.seqKind := rfl
@[simp] theorem onBolt_seqStep (b : Fin 4) (f : Bolt → Bolt) : (s.onBolt b f).lpu.seqStep = s.lpu.seqStep := rfl
@[simp] theorem onPump_bolts (g : Leaf) (f : Pump → Pump) : (s.onPump g f).lpu.bolts = s.lpu.bolts := rfl
@[simp] theorem onPump_seats (g : Leaf) (f : Pump → Pump) : (s.onPump g f).lpu.seats = s.lpu.seats := rfl
@[simp] theorem onPump_standby (g : Leaf) (f : Pump → Pump) : (s.onPump g f).lpu.standby = s.lpu.standby := rfl
@[simp] theorem onSeat_bolts (l : Leaf) (f : Seat → Seat) : (s.onSeat l f).lpu.bolts = s.lpu.bolts := rfl
@[simp] theorem onSeat_pumps (l : Leaf) (f : Seat → Seat) : (s.onSeat l f).lpu.pumps = s.lpu.pumps := rfl
@[simp] theorem onMotion_leaf (f : Motion → Motion) : (s.onMotion f).lmc.leaf = s.lmc.leaf := rfl
@[simp] theorem onMotion_trip (f : Motion → Motion) : (s.onMotion f).lmc.trip = s.lmc.trip := rfl
@[simp] theorem onMotion_motion (f : Motion → Motion) : (s.onMotion f).lmc.motion = f s.lmc.motion := rfl
@[simp] theorem onBatch_queues (f : Batch → Batch) : (s.onBatch f).psc.queues = s.psc.queues := rfl
@[simp] theorem onBatch_tide (f : Batch → Batch) : (s.onBatch f).psc.tide = s.psc.tide := rfl
@[simp] theorem onBatch_batch (f : Batch → Batch) : (s.onBatch f).psc.batch = f s.psc.batch := rfl
@[simp] theorem onTurn_aspects (d : Side) (f : SideTurn → SideTurn) :
    (s.onTurn d f).csu.aspects = s.csu.aspects := rfl
@[simp] theorem onTurn_phase (d : Side) (f : SideTurn → SideTurn) : (s.onTurn d f).csu.phase = s.csu.phase := rfl
@[simp] theorem onTurn_current (d : Side) (f : SideTurn → SideTurn) :
    (s.onTurn d f).csu.current = s.csu.current := rfl
@[simp] theorem onHealth_circuits (n : Fin 12) (f : Health → Health) :
    (s.onHealth n f).phu.circuits = s.phu.circuits := rfl
@[simp] theorem onHealth_proving (n : Fin 12) (f : Health → Health) :
    (s.onHealth n f).phu.proving = s.phu.proving := rfl

/-! ### Reading a record that was written -/

@[simp] theorem PerLeaf.get_set_self {α : Type} (p : PerLeaf α) (l : Leaf) (x : α) : (p.set l x).get l = x := by
  cases l <;> rfl
@[simp] theorem PerLeaf.get_set_ne {α : Type} (p : PerLeaf α) {l k : Leaf} (h : k ≠ l) (x : α) :
    (p.set l x).get k = p.get k := by cases l <;> cases k <;> simp_all [PerLeaf.set, PerLeaf.get]
@[simp] theorem PerSide.get_set_self {α : Type} (p : PerSide α) (d : Side) (x : α) : (p.set d x).get d = x := by
  cases d <;> rfl
@[simp] theorem PerSide.get_set_ne {α : Type} (p : PerSide α) {d k : Side} (h : k ≠ d) (x : α) :
    (p.set d x).get k = p.get k := by cases d <;> cases k <;> simp_all [PerSide.set, PerSide.get]

@[simp] theorem arm_onArm_self (a : Fin 8) (f : Arm → Arm) : (s.onArm a f).arm a = f (s.arm a) := by
  simp [State.arm, State.onArm]
@[simp] theorem arm_onArm_ne {a b : Fin 8} (h : b ≠ a) (f : Arm → Arm) : (s.onArm a f).arm b = s.arm b := by
  simp [State.arm, State.onArm, Vector.getElem_set, Fin.val_inj, Ne.symm h]
@[simp] theorem zone_onZone_self (z : Fin 6) (f : Zone → Zone) : (s.onZone z f).zone z = f (s.zone z) := by
  simp [State.zone, State.onZone]
@[simp] theorem zone_onZone_ne {z k : Fin 6} (h : k ≠ z) (f : Zone → Zone) : (s.onZone z f).zone k = s.zone k := by
  simp [State.zone, State.onZone, Vector.getElem_set, Fin.val_inj, Ne.symm h]
@[simp] theorem bolt_onBolt_self (b : Fin 4) (f : Bolt → Bolt) : (s.onBolt b f).bolt b = f (s.bolt b) := by
  simp [State.bolt, State.onBolt]
@[simp] theorem bolt_onBolt_ne {b k : Fin 4} (h : k ≠ b) (f : Bolt → Bolt) : (s.onBolt b f).bolt k = s.bolt k := by
  simp [State.bolt, State.onBolt, Vector.getElem_set, Fin.val_inj, Ne.symm h]
@[simp] theorem pump_onPump_self (g : Leaf) (f : Pump → Pump) : (s.onPump g f).pump g = f (s.pump g) := by
  simp [State.pump, State.onPump]
@[simp] theorem pump_onPump_ne {g k : Leaf} (h : k ≠ g) (f : Pump → Pump) : (s.onPump g f).pump k = s.pump k := by
  simp [State.pump, State.onPump, h]

/-! ### Two updates of one record are one -/

@[simp] theorem onArm_onArm (a : Fin 8) (f g : Arm → Arm) : (s.onArm a f).onArm a g = s.onArm a (g ∘ f) := by
  simp [State.onArm, State.onBzu]
@[simp] theorem onBolt_onBolt (b : Fin 4) (f g : Bolt → Bolt) : (s.onBolt b f).onBolt b g = s.onBolt b (g ∘ f) := by
  simp [State.onBolt, State.onLpu]

end Sys2Proof.Machine
end

