-- ==== Sys2Proof/Laws/Moves.lean ====
section
/-! SUPPORT. What a command can do, said once: the smallest changes the meanings are made of, each with what is known where
it is made, and `Reach`, a sequence of them. Every operation has one lemma, `<operation>_reach` (Reach.lean), and every
command that is no reset has one (Runs.lean); a property is kept by such a command once each move keeps it
(`Reach.keeps`). -/

namespace Sys2Proof.Machine

/-- The kinds of move. A statement that a command leaves something alone names the kinds it can make. -/
inductive Part where
  | latched
  | cleared
  | link
  | apu
  | table
  | commit
  | restart
  | pins
  | arms
  | strokes
  | reversals
  | zones
  | rcs
  | bolts
  | drives
  | pumps
  | seats
  | locks
  | leaf
  | trip
  | fall
  | lower
  | motion
  | encoders
  | wind
  | vt
  | queues
  | joins
  | psc
  | batch
  | csu
  | turns
  | signals
  | leaves
  | proving
  | circuits
  | health
  | time
deriving DecidableEq, Repr

/-- Both leaves stand: both arrived, or both issued references 0. -/
def Motion.standing (m : Motion) : Prop := m.bothArrived = true ∨ m.atRest = true

/-- One move of a kind. -/
inductive Move : Part → State → State → Prop where
  /-- A condition is latched. -/
  | latch (c : Condition) (s : State) : Move .latched s (latch c s)
  /-- STATUS clears what it returned. -/
  | clear (s : State) : Move .cleared s (s.onCl fun l => { l with latched := 0 })
  /-- The link changes, its latched set kept. -/
  | link (f : Link → Link) (h : ∀ l, (f l).latched = l.latched) (s : State) : Move .link s (s.onCl f)
  /-- The authority record changes, the tables, the commit and the RESTART kept and the mismatch count in its bounds. -/
  | apu (f : Apu → Apu) (s : State)
      (h : ∀ a, (f a).table = a.table ∧ (f a).store = a.store ∧ (f a).commit = a.commit ∧
        (f a).restart = a.restart ∧ (a.frozen = true → (f a).frozen = true) ∧
        (a.mismatch ≤ 5 → (f a).mismatch ≤ 5)) : Move .apu s (s.onApu f)
  /-- An acceptable value is written. -/
  | write (i : Fin 64) (v : Nat) (s : State) (h : acceptable s.apu.table i v = true) :
      Move .table s (s.onApu fun a => { a with table := a.table.set i v, modified := true })
  /-- The defaults are loaded. -/
  | defaults (s : State) :
      Move .table s (s.onApu fun a => { a with table := defaultsKeeping s.apu.table })
  /-- A commit begins. -/
  | commit (s : State) (h : s.apu.restart = false) :
      Move .commit s (s.onApu fun a => { a with commit := some a.table })
  /-- A commit ends. -/
  | commitEnd (good : Bool) (t : Vector Nat 64) (s : State) (h : s.apu.commit = some t) :
      Move .commit s (s.onApu fun a =>
        if good then { a with commit := none, store := imageOf t, storeStatus := .valid, modified := false }
        else { a with commit := none, store := .broken, storeStatus := .writeFailed })
  /-- A RESTART waits from now on. -/
  | restart (s : State) : Move .restart s (s.onApu fun a => { a with restart := true })
  /-- An input moves. -/
  | pins (f : Pins → Pins) (s : State) : Move .pins s (s.onPins f)
  /-- An arm's record changes without a stroke starting or changing its way. -/
  | arm (a : Fin 8) (f : Arm → Arm) (s : State) (h : ∀ r, (f r).moving = true → (f r).state = r.state) :
      Move .arms s (s.onArm a f)
  /-- A stroke is set up, no RESTART waiting. -/
  | stroke (a : Fin 8) (way : ArmWay) (start : ArmStart) (s : State) (h : s.apu.restart = false) :
      Move .strokes s (setupStroke a way start s)
  /-- The lowering stroke in progress of an arm is reversed. -/
  | reverse (a : Fin 8) (s : State) (h : (s.arm a).state = .lowering) :
      Move .reversals s (setupStroke a .raise .reversal s)
  /-- Zone records change. -/
  | zones (f : Bzu → Bzu) (s : State) (h : ∀ b, (f b).arms = b.arms) : Move .zones s (s.onBzu f)
  /-- The road record changes. -/
  | rcs (f : Rcs → Rcs) (s : State) : Move .rcs s (s.onRcs f)
  /-- A bolt's record changes without a stroke starting or changing its way. -/
  | bolt (b : Fin 4) (f : Bolt → Bolt) (s : State) (h : ∀ r, (f r).moving = true → (f r).state = r.state) :
      Move .bolts s (s.onBolt b f)
  /-- A bolt stroke starts, no RESTART waiting. -/
  | drive (b : Fin 4) (f : Bolt → Bolt) (s : State) (h : s.apu.restart = false) : Move .drives s (s.onBolt b f)
  /-- A pump group's record changes. -/
  | pump (g : Leaf) (f : Pump → Pump) (s : State) : Move .pumps s (s.onPump g f)
  /-- A seat switch's record changes. -/
  | seat (l : Leaf) (f : Seat → Seat) (s : State) : Move .seats s (s.onSeat l f)
  /-- The sequence or the standby timer changes. -/
  | locks (f : Lpu → Lpu) (s : State)
      (h : ∀ l, (f l).bolts = l.bolts ∧ (f l).seats = l.seats ∧ (f l).pumps = l.pumps) : Move .locks s (s.onLpu f)
  /-- The leaf state changes, but from RAISED and to TRIPPED: to a moving state with no RESTART waiting, to a resting one
  with the leaves standing or at rest before. -/
  | leaf (l : LeafState) (s : State) (h : l ≠ .tripped) (hr : s.lmc.leaf ≠ .raised)
      (hm : l.moving = true → s.apu.restart = false)
      (hs : l.moving = false → s.lmc.leaf.moving = false ∨ s.lmc.motion.standing) :
      Move .leaf s (s.onLmc fun m => { m with leaf := l })
  /-- The recorded trip cause is cleared, in TRIPPED. -/
  | untrip (s : State) (h : s.lmc.leaf = .tripped) : Move .leaf s (s.onLmc fun m => { m with trip := none })
  /-- The leaves are tripped. -/
  | trip (c : TripCause) (s : State) (h : s.tripNow = some c) : Move .trip s (trip c s)
  /-- The leaves are tripped in another state than RAISED: the channel hears nothing. -/
  | fall (c : TripCause) (s : State) (h : s.tripNow = some c) (hr : s.lmc.leaf ≠ .raised) : Move .fall s (trip c s)
  /-- LOWER is accepted in RAISED or HALTED. -/
  | lower (s : State) (h : s.lmc.leaf = .raised ∨ s.lmc.leaf = .halted) (hr : s.apu.restart = false) :
      Move .lower s (beginLower s)
  /-- A mark or the target of the motion record changes, its speeds and leaves kept. -/
  | mark (f : Motion → Motion) (s : State)
      (h : ∀ m, (f m).leaves = m.leaves ∧ (f m).vc = m.vc ∧ (f m).vk = m.vk) : Move .motion s (s.onMotion f)
  /-- A motion begins. -/
  | begin (dir : Direction) (src : TargetSource) (target : Nat) (s : State) :
      Move .motion s (beginMotion dir src target s)
  /-- An extended batch moves the target. -/
  | extend (angle : Nat) (s : State) : Move .motion s (reportExtension angle s)
  /-- A period's references are issued. -/
  | period (s : State) (h : s.lmc.leaf.moving = true) :
      Move .motion s (s.onMotion fun m => m.period (s.angle .north) (s.angle .south) s.pctInUse)
  /-- The encoder and angle records change. -/
  | encoders (f : Msu → Msu) (s : State) (h : (f s.msu).wind = s.msu.wind) : Move .encoders s (s.onMsu f)
  /-- The wind record is judged. -/
  | wind (w : Wind) (wd ws : Nat) (s : State) : Move .wind s (s.onMsu fun m => { m with wind := w.judge wd ws })
  /-- The interval count or the discard mark changes. -/
  | interval (w : Wind) (s : State) (h : w.pct = s.msu.wind.pct) :
      Move .wind s (s.onMsu fun m => { m with wind := w })
  /-- The vessel table changes. -/
  | vt (f : Vt → Vt) (s : State) : Move .vt s (s.onVt f)
  /-- A vessel leaves its queue. -/
  | leave (k : Fin 32) (s : State) : Move .queues s (leaveQueue k s)
  /-- A CALLED mark is set or cleared. -/
  | called (k : Fin 32) (m : Bool) (s : State) : Move .queues s (markCalled k m s)
  /-- An entry joins a queue. -/
  | join (q : Fin 8) (e : QueueEntry) (s : State) : Move .joins s (s.onQueue q fun l => l ++ [e])
  /-- The scheduler changes, its queues and its batch kept. -/
  | psc (f : Psc → Psc) (s : State) (h : ∀ p, (f p).queues = p.queues ∧ (f p).batch = p.batch) :
      Move .psc s (s.onPsc f)
  /-- The batch record changes. -/
  | batch (f : Batch → Batch) (s : State) : Move .batch s (s.onBatch f)
  /-- The signal unit changes, its aspects, phase and current side kept. -/
  | csu (f : Csu → Csu) (s : State)
      (h : ∀ c, (f c).aspects = c.aspects ∧ (f c).phase = c.phase ∧ (f c).current = c.current) :
      Move .csu s (s.onCsu f)
  /-- A turn ends and the changeover begins. -/
  | endTurn (d : Side) (cause : EndCause) (s : State) (h : s.csu.phase = .turn) (hd : s.csu.current = some d) :
      Move .turns s (endTurn d cause s)
  /-- The signals follow a change of the items. -/
  | review (s : State) : Move .turns s (reviewItems s)
  /-- The batch closes. -/
  | closing (s : State) : Move .turns s (signalsClosing s)
  /-- The turns are over. -/
  | finish (r : TurnsResult) (s : State) : Move .turns s (endPhase r (showStop s))
  /-- A turn starts, the leaves RAISED. -/
  | start (d : Side) (s : State) (h : s.lmc.leaf = .raised) : Move .turns s (startTurn d s)
  /-- A turn is skipped, in no turn. -/
  | skip (d : Side) (s : State) : Move .turns s (skipTurn d s)
  /-- GO is withdrawn. -/
  | withdraw (d : Side) (s : State) (h : s.csu.phase = .turn) (hd : s.csu.current = some d) :
      Move .turns s (latch .batch (endPhase .goWithdrawn
        (restartSeal (soundHorn 50 (setAspect d .stop (endGo d .withdrawn s))))))
  /-- The leaves leave RAISED in a changeover. -/
  | leaveGap (s : State) (h : s.csu.phase = .changeover) :
      Move .turns s (latch .batch (endPhase .goWithdrawn (showStop (s.onCsu fun c => { c with changeover := none }))))
  /-- A batch is formed. -/
  | formed (s : State) (h : s.psc.batch.state = .formed) : Move .turns s (signalsFormed s)
  /-- The signal unit changes in any way: what a turn's moves are made of. -/
  | signals (f : Csu → Csu) (s : State) : Move .signals s (s.onCsu f)
  /-- The leaf unit changes in any way: what a trip and an accepted LOWER are made of. -/
  | leaves (f : Lmc → Lmc) (s : State) : Move .leaves s (s.onLmc f)
  /-- The scan or a proving changes, the circuits and the health records kept. -/
  | proving (f : Phu → Phu) (s : State) (h : ∀ p, (f p).circuits = p.circuits ∧ (f p).health = p.health) :
      Move .proving s (s.onPhu f)
  /-- A circuit's record changes. -/
  | circuits (f : Phu → Phu) (s : State) (h : ∀ p, (f p).health = p.health) : Move .circuits s (s.onPhu f)
  /-- A health record changes within its bounds. -/
  | health (n : Fin 12) (f : Health → Health) (s : State)
      (h : ∀ r, 1 ≤ r.value ∧ r.value ≤ 253 → 1 ≤ (f r).value ∧ (f r).value ≤ 253) :
      Move .health s (s.onHealth n f)
  /-- The time base moves. -/
  | clock (f : TimeBase → TimeBase) (s : State) : Move .time s (s.onTb f)
  /-- The timers count one tick. -/
  | tick (s : State) : Move .time s (tickTimers s)

/-- `t` is reached from `s` by moves of the kinds in `A`. -/
inductive Reach (A : List Part) : State → State → Prop where
  | refl (s : State) : Reach A s s
  | step {s t u : State} {p : Part} (h : Reach A s t) (hp : p ∈ A) (m : Move p t u) : Reach A s u

/-- Moves of fewer kinds are moves of more. -/
theorem Reach.mono {A B : List Part} {s t : State} (h : Reach A s t) (hs : A ⊆ B) : Reach B s t := by
  induction h with
  | refl => exact .refl _
  | step _ hp m ih => exact .step ih (hs hp) m

/-- Moves one after another. -/
theorem Reach.trans {A : List Part} {s t u : State} (h : Reach A s t) (k : Reach A t u) : Reach A s u := by
  induction k with
  | refl => exact h
  | step _ hp m ih => exact .step ih hp m

/-- An operation's moves after those that came before it. -/
theorem Reach.comp {A B : List Part} {s t u : State} (k : Reach B t u) (hs : B ⊆ A) (h : Reach A s t) :
    Reach A s u := h.trans (k.mono hs)

/-- One move alone. -/
theorem Move.reach {p : Part} {s t : State} (m : Move p s t) : Reach [p] s t :=
  .step (.refl s) (List.mem_singleton.mpr rfl) m

/-- A property that every move of the kinds keeps is kept. -/
theorem Reach.keeps {A : List Part} {s t : State} (h : Reach A s t) {P : State → Prop}
    (hk : ∀ p ∈ A, ∀ u v, Move p u v → P u → P v) (hs : P s) : P t := by
  induction h with
  | refl => exact hs
  | step _ hp m ih => exact hk _ hp _ _ m ih

/-! ### What a move leaves alone

A move outside the listed kinds leaves the field as it is. The moves of a turn, a trip and an accepted LOWER stand in every
list: Frames.lean says what those are made of. -/

theorem Move.tb_eq {p : Part} {s t : State} (m : Move p s t)
    (h : p ∉ ([.trip, .fall, .lower, .turns, .time] : List Part)) :
    t.tb = s.tb := by
  cases m <;> first
    | rfl
    | exact absurd (by decide) h
    | (unfold reportExtension; split <;> rfl)

theorem Move.apu_eq {p : Part} {s t : State} (m : Move p s t)
    (h : p ∉ ([.apu, .table, .commit, .restart, .trip, .fall, .lower, .turns] : List Part)) :
    t.apu = s.apu := by
  cases m <;> first
    | rfl
    | exact absurd (by decide) h
    | (unfold reportExtension; split <;> rfl)

theorem Move.pins_eq {p : Part} {s t : State} (m : Move p s t)
    (h : p ∉ ([.pins, .trip, .fall, .lower, .turns] : List Part)) :
    t.pins = s.pins := by
  cases m <;> first
    | rfl
    | exact absurd (by decide) h
    | (unfold reportExtension; split <;> rfl)

theorem Move.bzu_eq {p : Part} {s t : State} (m : Move p s t)
    (h : p ∉ ([.arms, .strokes, .reversals, .zones, .trip, .fall, .lower, .turns, .time] : List Part)) :
    t.bzu = s.bzu := by
  cases m <;> first
    | rfl
    | exact absurd (by decide) h
    | (unfold reportExtension; split <;> rfl)

theorem Move.arms_eq {p : Part} {s t : State} (m : Move p s t)
    (h : p ∉ ([.arms, .strokes, .reversals, .trip, .fall, .lower, .turns, .time] : List Part)) :
    t.bzu.arms = s.bzu.arms := by
  cases m <;> first
    | rfl
    | exact absurd (by decide) h
    | (unfold reportExtension; split <;> rfl)
    | (next hf => exact hf _)

theorem Move.zones_eq {p : Part} {s t : State} (m : Move p s t)
    (h : p ∉ ([.zones, .trip, .fall, .lower, .turns, .time] : List Part)) :
    t.bzu.zones = s.bzu.zones := by
  cases m <;> first
    | rfl
    | exact absurd (by decide) h
    | (unfold reportExtension; split <;> rfl)

theorem Move.rcs_eq {p : Part} {s t : State} (m : Move p s t)
    (h : p ∉ ([.rcs, .trip, .fall, .lower, .turns, .time] : List Part)) :
    t.rcs = s.rcs := by
  cases m <;> first
    | rfl
    | exact absurd (by decide) h
    | (unfold reportExtension; split <;> rfl)

theorem Move.lpu_eq {p : Part} {s t : State} (m : Move p s t)
    (h : p ∉ ([.bolts, .drives, .pumps, .seats, .locks, .trip, .fall, .lower, .turns, .time] : List Part)) :
    t.lpu = s.lpu := by
  cases m <;> first
    | rfl
    | exact absurd (by decide) h
    | (unfold reportExtension; split <;> rfl)

theorem Move.bolts_eq {p : Part} {s t : State} (m : Move p s t)
    (h : p ∉ ([.bolts, .drives, .trip, .fall, .lower, .turns, .time] : List Part)) :
    t.lpu.bolts = s.lpu.bolts := by
  cases m <;> first
    | rfl
    | exact absurd (by decide) h
    | (unfold reportExtension; split <;> rfl)
    | (next hf => exact (hf _).1)

theorem Move.pumps_eq {p : Part} {s t : State} (m : Move p s t)
    (h : p ∉ ([.pumps, .trip, .fall, .lower, .turns, .time] : List Part)) :
    t.lpu.pumps = s.lpu.pumps := by
  cases m <;> first
    | rfl
    | exact absurd (by decide) h
    | (unfold reportExtension; split <;> rfl)
    | (next hf => exact (hf _).2.2)

theorem Move.seats_eq {p : Part} {s t : State} (m : Move p s t)
    (h : p ∉ ([.seats, .trip, .fall, .lower, .turns, .time] : List Part)) :
    t.lpu.seats = s.lpu.seats := by
  cases m <;> first
    | rfl
    | exact absurd (by decide) h
    | (unfold reportExtension; split <;> rfl)
    | (next hf => exact (hf _).2.1)

theorem Move.lmc_eq {p : Part} {s t : State} (m : Move p s t)
    (h : p ∉ ([.leaf, .trip, .fall, .lower, .motion, .turns, .leaves] : List Part)) :
    t.lmc = s.lmc := by
  cases m <;> first
    | rfl
    | exact absurd (by decide) h
    | (unfold reportExtension; split <;> rfl)

theorem Move.leaf_eq {p : Part} {s t : State} (m : Move p s t)
    (h : p ∉ ([.leaf, .trip, .fall, .lower, .turns, .leaves] : List Part)) :
    t.lmc.leaf = s.lmc.leaf := by
  cases m <;> first
    | rfl
    | exact absurd (by decide) h
    | (unfold reportExtension; split <;> rfl)

theorem Move.motion_eq {p : Part} {s t : State} (m : Move p s t)
    (h : p ∉ ([.trip, .fall, .lower, .motion, .turns, .leaves] : List Part)) :
    t.lmc.motion = s.lmc.motion := by
  cases m <;> first
    | rfl
    | exact absurd (by decide) h
    | (unfold reportExtension; split <;> rfl)

theorem Move.msu_eq {p : Part} {s t : State} (m : Move p s t)
    (h : p ∉ ([.trip, .fall, .lower, .encoders, .wind, .turns] : List Part)) :
    t.msu = s.msu := by
  cases m <;> first
    | rfl
    | exact absurd (by decide) h
    | (unfold reportExtension; split <;> rfl)

theorem Move.winds_eq {p : Part} {s t : State} (m : Move p s t)
    (h : p ∉ ([.trip, .fall, .lower, .wind, .turns] : List Part)) :
    t.msu.wind = s.msu.wind := by
  cases m <;> first
    | rfl
    | exact absurd (by decide) h
    | (unfold reportExtension; split <;> rfl)
    | (next hf => exact hf)

theorem Move.vt_eq {p : Part} {s t : State} (m : Move p s t)
    (h : p ∉ ([.trip, .fall, .lower, .vt, .turns] : List Part)) :
    t.vt = s.vt := by
  cases m <;> first
    | rfl
    | exact absurd (by decide) h
    | (unfold reportExtension; split <;> rfl)

theorem Move.psc_eq {p : Part} {s t : State} (m : Move p s t)
    (h : p ∉ ([.trip, .fall, .lower, .queues, .joins, .psc, .batch, .turns] : List Part)) :
    t.psc = s.psc := by
  cases m <;> first
    | rfl
    | exact absurd (by decide) h
    | (unfold reportExtension; split <;> rfl)

theorem Move.queues_eq {p : Part} {s t : State} (m : Move p s t)
    (h : p ∉ ([.trip, .fall, .lower, .queues, .joins, .turns] : List Part)) :
    t.psc.queues = s.psc.queues := by
  cases m <;> first
    | rfl
    | exact absurd (by decide) h
    | (unfold reportExtension; split <;> rfl)
    | (next hf => exact (hf _).1)

theorem Move.batch_eq {p : Part} {s t : State} (m : Move p s t)
    (h : p ∉ ([.trip, .fall, .lower, .batch, .turns] : List Part)) :
    t.psc.batch = s.psc.batch := by
  cases m <;> first
    | rfl
    | exact absurd (by decide) h
    | (unfold reportExtension; split <;> rfl)
    | (next hf => exact (hf _).2)

theorem Move.csu_eq {p : Part} {s t : State} (m : Move p s t)
    (h : p ∉ ([.trip, .fall, .lower, .csu, .turns, .signals, .time] : List Part)) :
    t.csu = s.csu := by
  cases m <;> first
    | rfl
    | exact absurd (by decide) h
    | (unfold reportExtension; split <;> rfl)

theorem Move.phu_eq {p : Part} {s t : State} (m : Move p s t)
    (h : p ∉ ([.trip, .fall, .lower, .turns, .proving, .circuits, .health, .time] : List Part)) :
    t.phu = s.phu := by
  cases m <;> first
    | rfl
    | exact absurd (by decide) h
    | (unfold reportExtension; split <;> rfl)

theorem Move.circuits_eq {p : Part} {s t : State} (m : Move p s t)
    (h : p ∉ ([.trip, .fall, .lower, .turns, .circuits] : List Part)) :
    t.phu.circuits = s.phu.circuits := by
  cases m <;> first
    | rfl
    | exact absurd (by decide) h
    | (unfold reportExtension; split <;> rfl)
    | (next hf => exact (hf _).1)

theorem Move.health_eq {p : Part} {s t : State} (m : Move p s t)
    (h : p ∉ ([.trip, .fall, .lower, .turns, .health] : List Part)) :
    t.phu.health = s.phu.health := by
  cases m <;> first
    | rfl
    | exact absurd (by decide) h
    | (unfold reportExtension; split <;> rfl)
    | (next hf => exact (hf _).2)
    | (next hf => exact hf _)

theorem Move.latched_eq {p : Part} {s t : State} (m : Move p s t)
    (h : p ∉ ([.latched, .cleared, .trip, .fall, .lower, .turns] : List Part)) :
    t.cl.latched = s.cl.latched := by
  cases m <;> first
    | rfl
    | exact absurd (by decide) h
    | (unfold reportExtension; split <;> rfl)
    | (next hf => exact hf _)
    | (simp [tickTimers, Link.tick]; split <;> rfl)

theorem Move.link_eq {p : Part} {s t : State} (m : Move p s t)
    (h : p ∉ ([.link, .trip, .fall, .lower, .turns, .time] : List Part)) :
    { t.cl with latched := 0 } = { s.cl with latched := 0 } := by
  cases m <;> first
    | rfl
    | exact absurd (by decide) h
    | (unfold reportExtension; split <;> rfl)

theorem Move.pending_eq {p : Part} {s t : State} (m : Move p s t)
    (h : p ∉ ([.trip, .fall, .lower, .turns] : List Part)) :
    t.pending = s.pending := by
  cases m <;> first
    | rfl
    | exact absurd (by decide) h
    | (unfold reportExtension; split <;> rfl)

/-- A field that every move outside the listed kinds leaves alone. -/
theorem Reach.same {α : Type} {A bad : List Part} {g : State → α} {s t : State} (h : Reach A s t)
    (hm : ∀ p s t, Move p s t → p ∉ bad → g t = g s) (hA : ∀ p ∈ A, p ∉ bad) : g t = g s := by
  induction h with
  | refl => rfl
  | step _ hp m ih => exact (hm _ _ _ m (hA _ hp)).trans ih

end Sys2Proof.Machine
end

