-- ==== Sys2Proof/Laws/Reach.lean ====
section
/-! SUPPORT. What each shared operation can do, said once: the kinds of move it is made of (Moves.lean). A lemma about an
operation that is only called under a condition carries that condition. -/

namespace Sys2Proof.Machine

/-! ### Operations over one block -/

theorem latch_reach (c : Condition) (s : State) : Reach [.latched] s (latch c s) := (Move.latch c s).reach

theorem latchIf_reach (p : Bool) (c : Condition) (s : State) : Reach [.latched] s (latchIf p c s) := by
  unfold latchIf; split
  · exact latch_reach c s
  · exact .refl s

theorem onCl_reach (f : Link → Link) (s : State) (h : ∀ l, (f l).latched = l.latched) :
    Reach [.link] s (s.onCl f) := (Move.link f h s).reach
theorem onPins_reach (f : Pins → Pins) (s : State) : Reach [.pins] s (s.onPins f) := (Move.pins f s).reach
theorem onArm_reach (a : Fin 8) (f : Arm → Arm) (s : State) (h : ∀ r, (f r).moving = true → (f r).state = r.state) :
    Reach [.arms] s (s.onArm a f) := (Move.arm a f s h).reach
theorem onZone_reach (z : Fin 6) (f : Zone → Zone) (s : State) : Reach [.zones] s (s.onZone z f) :=
  (Move.zones (fun b => { b with zones := b.zones.set z (f b.zones[z]) }) s fun _ => rfl).reach
theorem onRcs_reach (f : Rcs → Rcs) (s : State) : Reach [.rcs] s (s.onRcs f) := (Move.rcs f s).reach
theorem onBolt_reach (b : Fin 4) (f : Bolt → Bolt) (s : State) (h : ∀ r, (f r).moving = true → (f r).state = r.state) :
    Reach [.bolts] s (s.onBolt b f) := (Move.bolt b f s h).reach
theorem onPump_reach (g : Leaf) (f : Pump → Pump) (s : State) : Reach [.pumps] s (s.onPump g f) :=
  (Move.pump g f s).reach
theorem onSeat_reach (l : Leaf) (f : Seat → Seat) (s : State) : Reach [.seats] s (s.onSeat l f) :=
  (Move.seat l f s).reach
theorem onLpu_reach (f : Lpu → Lpu) (s : State)
    (h : ∀ l, (f l).bolts = l.bolts ∧ (f l).seats = l.seats ∧ (f l).pumps = l.pumps) :
    Reach [.locks] s (s.onLpu f) := (Move.locks f s h).reach
theorem onMotion_reach (f : Motion → Motion) (s : State)
    (h : ∀ m, (f m).leaves = m.leaves ∧ (f m).vc = m.vc ∧ (f m).vk = m.vk) :
    Reach [.motion] s (s.onMotion f) := (Move.mark f s h).reach
theorem onVt_reach (f : Vt → Vt) (s : State) : Reach [.vt] s (s.onVt f) := (Move.vt f s).reach
theorem onPsc_reach (f : Psc → Psc) (s : State) (h : ∀ p, (f p).queues = p.queues ∧ (f p).batch = p.batch) :
    Reach [.psc] s (s.onPsc f) := (Move.psc f s h).reach
theorem onBatch_reach (f : Batch → Batch) (s : State) : Reach [.batch] s (s.onBatch f) := (Move.batch f s).reach
theorem onCsu_reach (f : Csu → Csu) (s : State)
    (h : ∀ c, (f c).aspects = c.aspects ∧ (f c).phase = c.phase ∧ (f c).current = c.current) :
    Reach [.csu] s (s.onCsu f) := (Move.csu f s h).reach
theorem onTurn_reach (d : Side) (f : SideTurn → SideTurn) (s : State) : Reach [.csu] s (s.onTurn d f) :=
  (Move.csu (fun c => { c with sides := c.sides.set d (f (c.sides.get d)) }) s fun _ => ⟨rfl, rfl, rfl⟩).reach
theorem onPhu_reach (f : Phu → Phu) (s : State) (h : ∀ p, (f p).circuits = p.circuits ∧ (f p).health = p.health) :
    Reach [.proving] s (s.onPhu f) := (Move.proving f s h).reach
theorem onTb_reach (f : TimeBase → TimeBase) (s : State) : Reach [.time] s (s.onTb f) := (Move.clock f s).reach
theorem onApu_reach (f : Apu → Apu) (s : State)
    (h : ∀ a, (f a).table = a.table ∧ (f a).store = a.store ∧ (f a).commit = a.commit ∧
      (f a).restart = a.restart ∧ (a.frozen = true → (f a).frozen = true) ∧
      (a.mismatch ≤ 5 → (f a).mismatch ≤ 5)) : Reach [.apu] s (s.onApu f) := (Move.apu f s h).reach

/-- A list of operations of some kinds is of those kinds. -/
theorem reach_foldl {α : Type} {A : List Part} {g : State → α → State} (h : ∀ t a, Reach A t (g t a)) :
    ∀ (l : List α) (s : State), Reach A s (l.foldl g s)
  | [], s => .refl s
  | a :: l, s => (h s a).trans (reach_foldl h l (g s a))

theorem voidSwitched_reach (before after : State) : Reach [.proving] after (voidSwitched before after) := by
  unfold voidSwitched; split
  · exact .refl _
  · split
    · exact onPhu_reach _ _ fun _ => ⟨rfl, rfl⟩
    · exact .refl _

theorem driveRcs_reach (f : Rcs → Rcs) (s : State) : Reach [.rcs, .proving] s (s.driveRcs f) :=
  (voidSwitched_reach s _).comp (by decide) ((onRcs_reach f s).mono (by decide))

theorem driveCsu_reach (f : Csu → Csu) (s : State)
    (h : ∀ c, (f c).aspects = c.aspects ∧ (f c).phase = c.phase ∧ (f c).current = c.current) :
    Reach [.csu, .proving] s (s.driveCsu f) :=
  (voidSwitched_reach s _).comp (by decide) ((onCsu_reach f s h).mono (by decide))

/-! ### Health, locks and power -/

theorem onHealth_reach (n : Fin 12) (f : Health → Health) (s : State)
    (h : ∀ r, 1 ≤ r.value ∧ r.value ≤ 253 → 1 ≤ (f r).value ∧ (f r).value ≤ 253) :
    Reach [.health] s (s.onHealth n f) := (Move.health n f s h).reach

theorem markWorn_reach (s : State) (n : Fin 12) : Reach [.health] s (markWorn s n) :=
  onHealth_reach n _ s fun _ h => h

theorem evaluateWorn_reach (group : List (Fin 12)) (s : State) :
    Reach [.latched, .health] s (evaluateWorn group s) :=
  (latchIf_reach _ _ _).comp (by decide) ((reach_foldl markWorn_reach group s).mono (by decide))

theorem reportStroke_reach (n : Fin 12) (nominal t : Nat) (s : State) :
    Reach [.latched, .health] s (reportStroke n nominal t s) :=
  (evaluateWorn_reach _ _).comp (by decide)
    ((onHealth_reach n _ s fun _ _ => by simp only [healthAfter]; omega).mono (by decide))

theorem standbyEdge_reach (before after : State) : Reach [.locks] after (standbyEdge before after) := by
  unfold standbyEdge
  repeat' (first
    | exact Reach.refl _
    | exact onLpu_reach _ _ fun _ => ⟨rfl, rfl, rfl⟩
    | split)

theorem setLeaf_reach (l : LeafState) (s : State) (h : l ≠ .tripped) (hr : s.lmc.leaf ≠ .raised)
    (hm : l.moving = true → s.apu.restart = false)
    (hs : l.moving = false → s.lmc.leaf.moving = false ∨ s.lmc.motion.standing) :
    Reach [.latched, .locks, .leaf]
      s (setLeaf l s) := by
  unfold setLeaf; split
  · exact .refl s
  · exact (latch_reach _ _).comp (by decide) ((standbyEdge_reach s _).comp (by decide)
      ((Move.leaf l s h hr hm hs).reach.mono (by decide)))

theorem setBatchState_reach (b : BatchState) (s : State) :
    Reach [.latched, .locks, .batch] s (setBatchState b s) := by
  unfold setBatchState
  repeat' (first
    | with_reducible exact Reach.refl _
    | with_reducible apply Reach.comp (latch_reach _ _)
    | with_reducible apply Reach.comp (onBatch_reach _ _)
    | with_reducible apply Reach.comp (standbyEdge_reach ..)
    | decide)

theorem setPump_reach (g : Leaf) (f : Pump → Pump) (s : State) : Reach [.pumps, .locks] s (setPump g f s) := by
  unfold setPump
  repeat' (first
    | with_reducible exact Reach.refl _
    | with_reducible apply Reach.comp (onPump_reach _ _ _)
    | with_reducible apply Reach.comp (standbyEdge_reach ..)
    | decide)

theorem jamBolt_reach (b : Fin 4) (cause : BoltCause) (s : State) :
    Reach [.latched, .bolts] s (jamBolt b cause s) := by
  unfold jamBolt
  repeat' (first
    | with_reducible exact Reach.refl _
    | with_reducible apply Reach.comp (latch_reach _ _)
    | with_reducible apply Reach.comp (onBolt_reach _ _ _ ?_)
    | decide
    | (intro _; simp [Bolt.moving]))

/-- A bolt's stroke starts, and ESTOP or a switch conflict may jam it at once. -/
theorem startBolt_reach (b : Fin 4) (way : BoltWay) (s : State) :
    Reach [.latched, .bolts, .drives] s (startBolt b way s) := by
  unfold startBolt
  split
  · exact .refl s
  · next h =>
    have k (f : Bolt → Bolt) : Reach [.drives] s (s.onBolt b f) := (Move.drive b f s (by simpa using h)).reach
    dsimp only
    repeat' (first
      | exact (k _).mono (by decide)
      | exact (jamBolt_reach ..).comp (by decide) ((k _).mono (by decide))
      | split)

theorem commandBolt_reach (way : BoltWay) (s : State) (b : Fin 4) :
    Reach [.latched, .bolts, .drives] s (commandBolt way s b) := by
  unfold commandBolt
  repeat' (first
    | with_reducible exact Reach.refl _
    | with_reducible apply Reach.comp (startBolt_reach ..)
    | split
    | decide)

theorem commandBolts_reach (way : BoltWay) (l : List (Fin 4)) (s : State) :
    Reach [.latched, .bolts, .drives] s (l.foldl (commandBolt way) s) := reach_foldl (commandBolt_reach way) l s

theorem setSequence_reach (kind : SeqKind) (step : SeqStep) (s : State) :
    Reach [.locks] s (setSequence kind step s) := by
  unfold setSequence
  repeat' (first
    | with_reducible exact Reach.refl _
    | with_reducible apply Reach.comp (onLpu_reach _ _ ?_)
    | decide
    | (intro _; exact ⟨rfl, rfl, rfl⟩))

theorem cancelSequence_reach (s : State) : Reach [.locks] s (cancelSequence s) := by
  unfold cancelSequence
  repeat' (first
    | with_reducible exact Reach.refl _
    | with_reducible apply Reach.comp (onLpu_reach _ _ ?_)
    | decide
    | (intro _; exact ⟨rfl, rfl, rfl⟩))

theorem withdrawHeelStep_reach (s : State) : Reach [.latched, .bolts, .drives, .locks] s (withdrawHeelStep s) := by
  unfold withdrawHeelStep
  repeat' (first
    | with_reducible exact Reach.refl _
    | with_reducible apply Reach.comp (setSequence_reach ..)
    | with_reducible apply Reach.comp (commandBolts_reach ..)
    | split
    | decide)

theorem driveCentreStep_reach (s : State) : Reach [.latched, .bolts, .drives, .locks] s (driveCentreStep s) := by
  unfold driveCentreStep
  repeat' (first
    | with_reducible exact Reach.refl _
    | with_reducible apply Reach.comp (setSequence_reach ..)
    | with_reducible apply Reach.comp (commandBolts_reach ..)
    | split
    | decide)

theorem endSequence_reach (s : State) : Reach [.locks] s (endSequence s) := by
  unfold endSequence
  repeat' (first
    | with_reducible exact Reach.refl _
    | with_reducible apply Reach.comp (cancelSequence_reach ..)
    | split
    | decide)

theorem advanceSequence_reach (s : State) : Reach [.latched, .bolts, .drives, .locks] s (advanceSequence s) := by
  unfold advanceSequence
  repeat' (first
    | with_reducible exact Reach.refl _
    | with_reducible apply Reach.comp (withdrawHeelStep_reach ..)
    | with_reducible apply Reach.comp (driveCentreStep_reach ..)
    | with_reducible apply Reach.comp (endSequence_reach ..)
    | decide)

theorem callWithdraw_reach (s : State) : Reach [.latched, .bolts, .drives, .locks] s (callWithdraw s) := by
  unfold callWithdraw
  repeat' (first
    | with_reducible exact Reach.refl _
    | with_reducible apply Reach.comp (setSequence_reach ..)
    | with_reducible apply Reach.comp (advanceSequence_reach ..)
    | with_reducible apply Reach.comp (commandBolts_reach ..)
    | decide)

theorem callDrive_reach (s : State) : Reach [.latched, .bolts, .drives, .locks] s (callDrive s) := by
  unfold callDrive
  repeat' (first
    | with_reducible exact Reach.refl _
    | with_reducible apply Reach.comp (setSequence_reach ..)
    | with_reducible apply Reach.comp (advanceSequence_reach ..)
    | with_reducible apply Reach.comp (commandBolts_reach ..)
    | decide)

theorem startPump_reach (g : Leaf) (s : State) : Reach [.pumps, .locks] s (startPump g s) := by
  unfold startPump
  repeat' (first
    | with_reducible exact Reach.refl _
    | with_reducible apply Reach.comp (setPump_reach ..)
    | split
    | decide)

theorem orderPump_reach (s : State) (g : Leaf) : Reach [.pumps, .locks] s (orderPump s g) := by
  unfold orderPump
  repeat' (first
    | with_reducible exact Reach.refl _
    | with_reducible apply Reach.comp (startPump_reach ..)
    | split
    | decide)

theorem orderPumps_reach (s : State) : Reach [.pumps, .locks] s (orderPumps s) := by
  unfold orderPumps
  repeat' (first
    | with_reducible exact Reach.refl _
    | with_reducible apply Reach.comp (orderPump_reach ..)
    | decide)

theorem stopPump_reach (s : State) (g : Leaf) : Reach [.pumps, .locks] s (stopPump s g) := by
  unfold stopPump
  repeat' (first
    | with_reducible exact Reach.refl _
    | with_reducible apply Reach.comp (setPump_reach ..)
    | decide)

theorem faultPump_reach (g : Leaf) (s : State) : Reach [.latched, .pumps, .locks] s (faultPump g s) := by
  unfold faultPump
  repeat' (first
    | with_reducible exact Reach.refl _
    | with_reducible apply Reach.comp (latch_reach _ _)
    | with_reducible apply Reach.comp (setPump_reach ..)
    | decide)

/-! ### Vessels, queues and the batch -/

theorem setSlot_reach (k : Fin 32) (v : Option Vessel) (s : State) : Reach [.vt] s (setSlot k v s) := by
  unfold setSlot
  repeat' (first
    | with_reducible exact Reach.refl _
    | with_reducible apply Reach.comp (onVt_reach _ _)
    | decide)

theorem onVessel_reach (s : State) (k : Fin 32) (f : Vessel → Vessel) : Reach [.vt] s (State.onVessel s k f) := by
  unfold State.onVessel
  repeat' (first
    | with_reducible exact Reach.refl _
    | with_reducible apply Reach.comp (setSlot_reach ..)
    | split
    | decide)

theorem setVesselState_reach (k : Fin 32) (st : VesselState) (s : State) : Reach [.vt] s (setVesselState k st s) := by
  unfold setVesselState
  repeat' (first
    | with_reducible exact Reach.refl _
    | with_reducible apply Reach.comp (onVessel_reach ..)
    | decide)

theorem countChange_reach (s : State) : Reach [.vt] s (countChange s) := by
  unfold countChange
  repeat' (first
    | with_reducible exact Reach.refl _
    | with_reducible apply Reach.comp (onVt_reach _ _)
    | decide)

theorem leaveQueue_reach (k : Fin 32) (s : State) : Reach [.queues] s (leaveQueue k s) := (Move.leave k s).reach

theorem markCalled_reach (k : Fin 32) (called : Bool) (s : State) : Reach [.queues] s (markCalled k called s) := (Move.called k called s).reach

theorem setOutcome_reach (k : Fin 32) (o : ItemOutcome) (s : State) : Reach [.batch] s (setOutcome k o s) := by
  unfold setOutcome
  repeat' (first
    | with_reducible exact Reach.refl _
    | with_reducible apply Reach.comp (onBatch_reach _ _)
    | split
    | decide)

theorem reviewItems_reach (s : State) : Reach [.turns] s (reviewItems s) := (Move.review s).reach

theorem signalsClosing_reach (s : State) : Reach [.turns] s (signalsClosing s) := (Move.closing s).reach

theorem closeBatch_reach (s : State) : Reach [.latched, .locks, .batch] s (closeBatch s) := by
  unfold closeBatch
  repeat' (first
    | with_reducible exact Reach.refl _
    | with_reducible apply Reach.comp (onBatch_reach _ _)
    | with_reducible apply Reach.comp (setBatchState_reach ..)
    | decide)

theorem returnItem_reach (s : State) (i : Item) : Reach [.vt, .queues, .batch] s (returnItem s i) := by
  unfold returnItem
  repeat' (first
    | with_reducible exact Reach.refl _
    | with_reducible apply Reach.comp (setVesselState_reach ..)
    | with_reducible apply Reach.comp (markCalled_reach ..)
    | with_reducible apply Reach.comp (setOutcome_reach ..)
    | split
    | decide)

theorem returnEach_reach (l : List Item) (s : State) :
    Reach [.vt, .queues, .batch] s (l.foldl returnItem s) := reach_foldl returnItem_reach l s

theorem returnItems_reach (s : State) : Reach [.vt, .queues, .batch] s (returnItems s) := by
  unfold returnItems
  dsimp only
  repeat' (first
    | with_reducible exact Reach.refl _
    | with_reducible apply Reach.comp (onBatch_reach _ _)
    | with_reducible apply Reach.comp (returnEach_reach ..)
    | decide)

theorem enterClosing_reach (s : State) :
    Reach [.latched, .locks, .vt, .queues, .batch, .turns] s (enterClosing s) := by
  unfold enterClosing
  dsimp only
  repeat' (first
    | with_reducible exact Reach.refl _
    | with_reducible apply Reach.comp (setBatchState_reach ..)
    | with_reducible apply Reach.comp (signalsClosing_reach ..)
    | with_reducible apply Reach.comp (closeBatch_reach ..)
    | with_reducible apply Reach.comp (returnItems_reach ..)
    | split
    | decide)

theorem testBatchEnd_reach (s : State) :
    Reach [.latched, .locks, .vt, .queues, .batch, .turns] s (testBatchEnd s) := by
  unfold testBatchEnd
  repeat' (first
    | with_reducible exact Reach.refl _
    | with_reducible apply Reach.comp (enterClosing_reach ..)
    | split
    | decide)

theorem turnsOver_reach (s : State) : Reach [.latched, .locks, .vt, .queues, .batch, .turns] s (turnsOver s) := by
  unfold turnsOver
  repeat' (first
    | with_reducible exact Reach.refl _
    | with_reducible apply Reach.comp (enterClosing_reach ..)
    | split
    | decide)

theorem finishTurns_reach (r : TurnsResult) (s : State) :
    Reach [.latched, .locks, .vt, .queues, .batch, .turns] s (finishTurns r s) :=   (turnsOver_reach _).comp (by decide) ((Move.finish r s).reach.mono (by decide))

/-- An offer starts a turn in RAISED alone; a turn that is skipped leaves the leaves as they are. -/
theorem offerTurn_reach : ∀ (n : Nat) (d : Side) (s : State), Reach [.latched, .locks, .vt, .queues, .batch, .turns] s (offerTurn n d s)
  | 0, _, s => .refl s
  | n + 1, d, s => by
    unfold offerTurn
    split
    · split
      · exact offerTurn_reach n _ s
      · exact (finishTurns_reach _ s).mono (by decide)
    · split
      · exact (finishTurns_reach _ s).mono (by decide)
      · next h =>
        split
        · exact (latch_reach _ _).comp (by decide) ((finishTurns_reach _ s).mono (by decide))
        · split
          · exact ((Move.skip d s).reach.mono (by decide)).trans (offerTurn_reach n _ _)
          · exact (Move.start d s (by simpa using h)).reach.mono (by decide)

theorem signalsRunning_reach (s : State) :
    Reach [.latched, .locks, .vt, .queues, .batch, .turns] s (signalsRunning s) := by
  unfold signalsRunning
  repeat' (first
    | with_reducible exact Reach.refl _
    | with_reducible apply Reach.comp (offerTurn_reach ..)
    | split
    | decide)

theorem batchRaised_reach (s : State) : Reach [.latched, .locks, .vt, .queues, .batch, .turns] s (batchRaised s) := by
  unfold batchRaised
  repeat' (first
    | with_reducible exact Reach.refl _
    | with_reducible apply Reach.comp (onBatch_reach _ _)
    | with_reducible apply Reach.comp (setBatchState_reach ..)
    | with_reducible apply Reach.comp (signalsRunning_reach ..)
    | split
    | decide)

theorem withdrawGo_reach (d : Side) (s : State) (h : s.csu.phase = .turn) (hd : s.csu.current = some d) :
    Reach [.latched, .locks, .vt, .queues, .batch, .turns] s (withdrawGo d s) :=   (turnsOver_reach _).comp (by decide) ((Move.withdraw d s h hd).reach.mono (by decide))

theorem leavesLeftRaised_reach (s : State) :
    Reach [.latched, .locks, .vt, .queues, .batch, .turns] s (leavesLeftRaised s) := by
  unfold leavesLeftRaised
  split
  · next h hd => exact (withdrawGo_reach _ s h hd).mono (by decide)
  · next h => exact (turnsOver_reach _).comp (by decide) ((Move.leaveGap s h).reach.mono (by decide))
  · exact .refl s

theorem signalsCircuitFailed_reach (c : Fin 16) (s : State) :
    Reach [.latched, .locks, .vt, .queues, .batch, .turns] s (signalsCircuitFailed c s) := by
  unfold signalsCircuitFailed
  split
  · next d h hd =>
    dsimp only
    split
    · exact (Move.endTurn d .greens s h hd).reach.mono (by decide)
    · split
      · exact (withdrawGo_reach _ s h hd).mono (by decide)
      · exact .refl s
  · exact .refl s

theorem becomeSealed_reach (s : State) : Reach [.latched, .locks, .batch, .csu] s (becomeSealed s) := by
  unfold becomeSealed
  dsimp only
  repeat' (first
    | with_reducible exact Reach.refl _
    | with_reducible apply Reach.comp (onCsu_reach _ _ ?_)
    | with_reducible apply Reach.comp (closeBatch_reach ..)
    | split
    | decide
    | (intro _; exact ⟨rfl, rfl, rfl⟩))

theorem reviewSeal_reach (s : State) : Reach [.latched, .locks, .batch, .csu] s (reviewSeal s) := by
  unfold reviewSeal
  repeat' (first
    | with_reducible exact Reach.refl _
    | with_reducible apply Reach.comp (onCsu_reach _ _ ?_)
    | with_reducible apply Reach.comp (becomeSealed_reach ..)
    | split
    | decide
    | (intro _; exact ⟨rfl, rfl, rfl⟩))

theorem windowExpires_reach (s : State) : Reach [.turns] s (windowExpires s) := by
  unfold windowExpires
  split
  · next d _ h hd _ => exact (Move.endTurn d .window s h hd).reach
  · exact .refl s

theorem changeoverExpires_reach (s : State) :
    Reach [.latched, .locks, .vt, .queues, .batch, .csu, .turns] s (changeoverExpires s) := by
  unfold changeoverExpires
  repeat' (first
    | with_reducible exact Reach.refl _
    | with_reducible apply Reach.comp (onCsu_reach _ _ ?_)
    | with_reducible apply Reach.comp (offerTurn_reach ..)
    | split
    | decide
    | (intro _; exact ⟨rfl, rfl, rfl⟩))

/-! ### Leaf motion -/

theorem beginMotion_reach (dir : Direction) (src : TargetSource) (target : Nat) (s : State) :
    Reach [.motion] s (beginMotion dir src target s) := (Move.begin dir src target s).reach

theorem testTrip_reach (s : State) : Reach [.trip] s (testTrip s) := by
  unfold testTrip; split
  · next c h => exact (Move.trip c s h).reach
  · exact .refl s

theorem prepareLowering_reach (s : State) : Reach [.pumps, .locks, .motion] s (prepareLowering s) := by
  unfold prepareLowering
  dsimp only
  repeat' (first
    | with_reducible exact Reach.refl _
    | with_reducible apply Reach.comp (onMotion_reach _ _ ?_)
    | with_reducible apply Reach.comp (orderPumps_reach ..)
    | decide
    | (intro _; exact ⟨rfl, rfl, rfl⟩))

/-- A halt ends with the leaves standing. -/
theorem endHalt_reach (s : State) (hm : s.lmc.leaf.moving = true) (hs : s.lmc.motion.standing) :
    Reach [.latched, .pumps, .locks, .leaf, .motion] s (endHalt s) := by
  have hr : s.lmc.leaf ≠ .raised := by rintro h; simp [h, LeafState.moving] at hm
  unfold endHalt
  split
  · next h =>
    refine (prepareLowering_reach _).comp (by decide) ((setLeaf_reach _ _ (by decide) (by exact hr) (by exact fun _ => h.2) ?_).comp
      (by decide) ((onMotion_reach _ _ (by intro _; exact ⟨rfl, rfl, rfl⟩)).comp (by decide)
        ((beginMotion_reach ..).mono (by decide))))
    simp [LeafState.moving]
  · exact (setLeaf_reach .halted _ (by decide) (by exact hr) (by simp [LeafState.moving])
      (by exact fun _ => .inr hs)).comp (by decide)
      ((onMotion_reach _ _ (by intro _; exact ⟨rfl, rfl, rfl⟩)).mono (by decide))

theorem beginHalt_reach (h : Halt) (s : State) :
    Reach [.latched, .pumps, .locks, .leaf, .motion] s (beginHalt h s) := by
  unfold beginHalt
  split
  · next hm =>
    have k := onMotion_reach (fun m => { m with halt := h }) s fun _ => ⟨rfl, rfl, rfl⟩
    dsimp only
    split
    · next hr => exact (endHalt_reach _ (by exact hm) (.inr (by exact hr))).comp (by decide) (k.mono (by decide))
    · exact k.mono (by decide)
  · exact .refl s

theorem testLocked_reach (s : State) : Reach [.latched, .locks, .leaf] s (testLocked s) := by
  unfold testLocked
  split
  · next h =>
    exact setLeaf_reach _ s (by decide) (by simp [h.1]) (by simp [LeafState.moving])
      fun _ => .inl (by simp [h.1, LeafState.moving])
  · exact .refl s

theorem enterLocking_reach (s : State) (hr : s.lmc.leaf ≠ .raised)
    (hs : s.lmc.leaf.moving = false ∨ s.lmc.motion.standing) :
    Reach [.latched, .bolts, .drives, .locks, .leaf]
      s (enterLocking s) :=   (testLocked_reach _).comp (by decide) ((callDrive_reach _).comp (by decide)
    ((setLeaf_reach _ s (by decide) hr (by simp [LeafState.moving]) fun _ => hs).mono (by decide)))

theorem haltUnlocking_reach (s : State) (h : s.lmc.leaf = .unlocking ∨ s.lmc.leaf = .locking) :
    Reach [.latched, .locks, .leaf] s (haltUnlocking s) :=   (setLeaf_reach _ _ (by decide) (by rcases h with h | h <;> simp [cancelSequence, h]) (by simp [LeafState.moving])
    fun _ => .inl (by rcases h with h | h <;> simp [cancelSequence, h, LeafState.moving])).comp (by decide)
      ((cancelSequence_reach s).mono (by decide))

theorem testUnlocked_reach (s : State) : Reach [.latched, .bolts, .drives, .locks, .leaf] s (testUnlocked s) := by
  unfold testUnlocked
  split
  · next h =>
    have hr : s.lmc.leaf ≠ .raised := by simp [h.1]
    have hs : s.lmc.leaf.moving = false := by simp [h.1, LeafState.moving]
    split
    · exact (latch_reach _ _).comp (by decide) ((enterLocking_reach s hr (.inl hs)).mono (by decide))
    · split
      · exact (setLeaf_reach _ s (by decide) hr (fun _ => h.2.2.2) fun _ => .inl hs).mono (by decide)
      · exact (haltUnlocking_reach s (.inl h.1)).mono (by decide)
  · exact .refl s

theorem testSeating_reach (s : State) : Reach [.latched, .bolts, .drives, .locks, .leaf] s (testSeating s) := by
  unfold testSeating
  split
  · next h => exact enterLocking_reach s (by simp [h.1]) (.inr (.inl h.2.1))
  · exact .refl s

theorem leavesTakeBolts_reach (s : State) :
    Reach [.latched, .bolts, .drives, .locks, .leaf] s (leavesTakeBolts s) := by
  unfold leavesTakeBolts
  split
  all_goals first
    | exact .refl s
    | exact (testUnlocked_reach s).mono (by decide)
    | exact (testLocked_reach s).mono (by decide)
    | skip
  next hl =>
    split
    · exact .refl s
    · exact (setLeaf_reach _ s (by decide) (by simp [hl]) (by simp [LeafState.moving])
        fun _ => .inl (by simp [hl, LeafState.moving])).mono (by decide)

theorem reportBolt_reach (s : State) : Reach [.latched, .bolts, .drives, .locks, .leaf] s (reportBolt s) := by
  unfold reportBolt
  repeat' (first
    | with_reducible exact Reach.refl _
    | with_reducible apply Reach.comp (advanceSequence_reach ..)
    | with_reducible apply Reach.comp (leavesTakeBolts_reach ..)
    | decide)

theorem reportPump_reach (s : State) :
    Reach [.latched, .bolts, .drives, .locks, .leaf, .fall, .motion] s (reportPump s) := by
  have k (hr : s.lmc.leaf ≠ .raised) : Reach [.fall] s (testTrip s) := by
    unfold testTrip; split
    · next c h => exact (Move.fall c s h hr).reach
    · exact .refl s
  unfold reportPump
  repeat' (first
    | with_reducible exact Reach.refl _
    | exact (testUnlocked_reach s).mono (by decide)
    | (next hl _ => exact (k (by simp [hl])).mono (by decide))
    | with_reducible apply Reach.comp (onMotion_reach _ _ ?_)
    | split
    | decide
    | intro _; exact ⟨rfl, rfl, rfl⟩)

theorem reportSeat_reach (s : State) : Reach [.latched, .bolts, .drives, .locks, .leaf] s (reportSeat s) := by
  unfold reportSeat
  split
  all_goals first
    | exact .refl s
    | exact (testLocked_reach s).mono (by decide)
    | exact (testSeating_reach s).mono (by decide)
    | skip
  next hl =>
    split
    · exact .refl s
    · exact (setLeaf_reach _ s (by decide) (by simp [hl]) (by simp [LeafState.moving])
        fun _ => .inl (by simp [hl, LeafState.moving])).mono (by decide)

theorem reportBreach_reach (s : State) : Reach [.latched, .pumps, .locks, .leaf, .motion] s (reportBreach s) := by
  unfold reportBreach
  split
  all_goals first
    | exact .refl s
    | exact beginHalt_reach _ s
    | skip
  next hl => exact (haltUnlocking_reach s (.inl hl)).mono (by decide)

theorem reportDisagree_reach (s : State) : Reach [.latched, .pumps, .locks, .leaf, .motion] s (reportDisagree s) := by
  unfold reportDisagree
  split
  all_goals first
    | exact .refl s
    | exact beginHalt_reach _ s
    | skip
  next hl => exact (haltUnlocking_reach s (.inl hl)).mono (by decide)

theorem reportWind_reach (s : State) :
    Reach [.latched, .bolts, .drives, .pumps, .locks, .leaf, .motion] s (reportWind s) := by
  unfold reportWind
  split
  · next hl =>
    exact (latch_reach _ _).comp (by decide)
      ((enterLocking_reach s (by simp [hl]) (.inl (by simp [hl, LeafState.moving]))).mono (by decide))
  · dsimp only
    repeat' (first
      | with_reducible exact Reach.refl _
      | with_reducible apply Reach.comp (beginHalt_reach ..)
      | with_reducible apply Reach.comp (onMotion_reach _ _ ?_)
      | with_reducible apply Reach.comp (latch_reach _ _)
      | split
      | decide
      | intro _; exact ⟨rfl, rfl, rfl⟩)
  all_goals exact .refl s

theorem reportExtension_reach (angle : Nat) (s : State) : Reach [.motion] s (reportExtension angle s) :=
  (Move.extend angle s).reach

theorem settleMotion_reach (s : State) (hm : s.lmc.leaf.moving = true) :
    Reach [.latched, .bolts, .drives, .pumps, .locks, .leaf, .motion, .vt, .queues, .batch, .turns]
      s (settleMotion s) := by
  have hr : s.lmc.leaf ≠ .raised := by rintro h; simp [h, LeafState.moving] at hm
  unfold settleMotion
  dsimp only
  split
  · split
    · next h => exact (endHalt_reach s hm (by simpa [Motion.standing] using h)).mono (by decide)
    · exact .refl s
  · split
    · next h =>
      split
      · exact (batchRaised_reach _).comp (by decide) ((setLeaf_reach _ s (by decide) hr
          (by simp [LeafState.moving]) fun _ => .inr (.inl h)).mono (by decide))
      · exact (testSeating_reach s).mono (by decide)
    · exact .refl s

theorem computePeriod_reach (s : State) (hm : s.lmc.leaf.moving = true) :
    Reach [.latched, .bolts, .drives, .pumps, .locks, .leaf, .motion, .vt, .queues, .batch, .turns]
      s (computePeriod s) :=   (settleMotion_reach _ (by exact hm)).comp (by decide) ((Move.period s hm).reach.mono (by decide))

theorem controlPeriod_reach (s : State) :
    Reach [.latched, .bolts, .drives, .pumps, .locks, .leaf, .trip, .motion, .vt, .queues, .batch, .turns]
      s (controlPeriod s) := by
  unfold controlPeriod
  split
  · next c h => exact (Move.trip c s h).reach.mono (by decide)
  · split
    · next h => exact (computePeriod_reach s h.1).mono (by decide)
    · exact .refl s

/-! ### Arms, zones and the road -/

theorem stallArm_reach (a : Fin 8) (cause : ArmCause) (s : State) :
    Reach [.latched, .arms] s (stallArm a cause s) := by
  unfold stallArm
  repeat' (first
    | with_reducible exact Reach.refl _
    | with_reducible apply Reach.comp (latch_reach _ _)
    | with_reducible apply Reach.comp (onArm_reach _ _ _ ?_)
    | decide
    | (intro _; simp [Arm.moving]))

theorem meetStart_reach (a : Fin 8) (s : State) : Reach [.latched, .arms] s (meetStart a s) := by
  unfold meetStart
  repeat' (first
    | with_reducible exact Reach.refl _
    | exact stallArm_reach ..
    | split)

/-- A raising stroke starts that is no reversal, or with no RESTART waiting. -/
theorem startRaising_reach (a : Fin 8) (start : ArmStart) (s : State) (h : start ≠ .reversal ∨ s.apu.restart = false) :
    Reach [.latched, .arms, .strokes] s (startRaising a start s) := by
  unfold startRaising
  split
  · exact .refl s
  · next n =>
    refine (meetStart_reach _ _).comp (by decide) ((Move.stroke a .raise start s ?_).reach.mono (by decide))
    rcases h with h | h
    · by_contra hr; exact n ⟨by simpa using hr, h⟩
    · exact h

/-- A lowering arm is reversed, a RESTART waiting or not. -/
theorem reverse_reach (a : Fin 8) (s : State) (h : (s.arm a).state = .lowering) :
    Reach [.latched, .arms, .reversals] s (startRaising a .reversal s) := by
  unfold startRaising
  split
  · exact .refl s
  · exact (meetStart_reach _ _).comp (by decide) ((Move.reverse a s h).reach.mono (by decide))

/-- A lowering arm meets an obstruction as its stroke starts: it reverses or stalls. -/
theorem obstruct_reach_free (a : Fin 8) (s : State) (h : s.apu.restart = false) :
    Reach [.latched, .arms, .strokes] s (obstruct a s) := by
  unfold obstruct
  split
  · exact (startRaising_reach _ _ _ (.inr (by exact h))).comp (by decide)
      ((onArm_reach _ _ _ (by simp [Arm.moving])).mono (by decide))
  · exact (stallArm_reach _ _ _).comp (by decide) ((onArm_reach _ _ _ (by simp [Arm.moving])).mono (by decide))

/-- A lowering arm meets an obstruction: it reverses or stalls. -/
theorem obstruct_reach (a : Fin 8) (s : State) (h : (s.arm a).state = .lowering) :
    Reach [.latched, .arms, .reversals] s (obstruct a s) := by
  unfold obstruct
  split
  · refine (reverse_reach _ _ ?_).comp (by decide) ((onArm_reach _ _ _ (by simp [Arm.moving])).mono (by decide))
    rw [arm_onArm_self]; exact h
  · exact (stallArm_reach _ _ _).comp (by decide) ((onArm_reach _ _ _ (by simp [Arm.moving])).mono (by decide))

theorem startLowering_reach (a : Fin 8) (start : ArmStart) (s : State) :
    Reach [.latched, .arms, .strokes] s (startLowering a start s) := by
  unfold startLowering
  split
  · exact .refl s
  · next n =>
    have hr : s.apu.restart = false := by simpa using n
    have k : Reach [.latched, .arms, .strokes] s (meetStart a (setupStroke a .lower start s)) :=
      (meetStart_reach _ _).comp (by decide) ((Move.stroke a .lower start s hr).reach.mono (by decide))
    dsimp only
    split
    · exact (obstruct_reach_free a _ (by rw [k.same (g := State.apu) (fun _ _ _ m => m.apu_eq) (by decide)]; exact hr)).comp (by decide) k
    · exact k

theorem lowerSubject_reach (a : Fin 8) (s : State) : Reach [.latched, .arms, .strokes] s (lowerSubject a s).1 := by
  unfold lowerSubject
  repeat' (first
    | with_reducible exact Reach.refl _
    | with_reducible apply Reach.comp (startLowering_reach ..)
    | dsimp only
    | split
    | decide)

theorem commandLower_reach (a : Fin 8) (s : State) : Reach [.latched, .arms, .strokes] s (commandLower a s).1 := by
  unfold commandLower
  repeat' (first
    | with_reducible exact Reach.refl _
    | with_reducible apply Reach.comp (lowerSubject_reach ..)
    | dsimp only
    | split
    | decide)

theorem commandRaise_reach (s : State) (a : Fin 8) : Reach [.latched, .arms, .strokes] s (commandRaise s a) := by
  unfold commandRaise
  split
  all_goals first
    | exact .refl s
    | exact (onArm_reach _ _ _ (by simp [Arm.moving])).mono (by decide)
    | exact startRaising_reach _ _ _ (.inl (by decide))

theorem commandLowers_reach (p : Arm → Bool) (group : List (Fin 8)) (s : State) :
    Reach [.latched, .arms, .strokes] s (commandLowers p group s).1 := by
  have k : ∀ (l : List (Fin 8)) (r : State × Bool), Reach [.latched, .arms, .strokes] s r.1 →
      Reach [.latched, .arms, .strokes] s (l.foldl (fun (r : State × Bool) a =>
        if p (r.1.arm a) then ((commandLower a r.1).1, r.2 || (commandLower a r.1).2) else r) r).1 := by
    intro l
    induction l with
    | nil => exact fun r h => h
    | cons a l ih =>
      intro r h
      refine ih _ ?_
      dsimp only
      split
      · exact h.trans (commandLower_reach a r.1)
      · exact h
  exact k group (s, false) (.refl s)

theorem commandRaises_reach (p : Arm → Bool) (group : List (Fin 8)) (s : State) :
    Reach [.latched, .arms, .strokes] s (commandRaises p group s) := by
  refine reach_foldl (fun t a => ?_) group s
  split
  · exact commandRaise_reach t a
  · exact .refl t

theorem viewDeck_reach (s : State) : Reach [.rcs] s (viewDeck s) := by
  unfold viewDeck
  repeat' (first
    | with_reducible exact Reach.refl _
    | with_reducible apply Reach.comp (onRcs_reach _ _)
    | decide)

theorem setRoad_reach (st : RoadState) (s : State) : Reach [.latched, .rcs, .proving] s (setRoad st s) := by
  unfold setRoad
  repeat' (first
    | with_reducible exact Reach.refl _
    | with_reducible apply Reach.comp (latch_reach _ _)
    | with_reducible apply Reach.comp (driveRcs_reach _ _)
    | decide)

theorem setStep_reach (t : StepTimer) (s : State) : Reach [.rcs] s (setStep t s) := by
  unfold setStep
  repeat' (first
    | with_reducible exact Reach.refl _
    | with_reducible apply Reach.comp (onRcs_reach _ _)
    | decide)

theorem reverseSecuring_reach (s : State) :
    Reach [.latched, .arms, .strokes, .rcs, .proving] s (reverseSecuring s) := by
  unfold reverseSecuring
  dsimp only
  repeat' (first
    | with_reducible exact Reach.refl _
    | with_reducible apply Reach.comp (latch_reach _ _)
    | with_reducible apply Reach.comp (commandRaises_reach ..)
    | with_reducible apply Reach.comp (viewDeck_reach ..)
    | with_reducible apply Reach.comp (setRoad_reach ..)
    | with_reducible apply Reach.comp (setStep_reach ..)
    | decide)

theorem testSecured_reach (s : State) : Reach [.latched, .rcs, .proving] s (testSecured s) := by
  unfold testSecured
  repeat' (first
    | with_reducible exact Reach.refl _
    | with_reducible apply Reach.comp (setRoad_reach ..)
    | split
    | decide)

theorem enterSecuring_reach (s : State) : Reach [.latched, .arms, .strokes, .rcs, .proving] s (enterSecuring s) := by
  unfold enterSecuring
  dsimp only
  repeat' (first
    | with_reducible exact Reach.refl _
    | with_reducible apply Reach.comp (onRcs_reach _ _)
    | with_reducible apply Reach.comp (commandLowers_reach ..)
    | with_reducible apply Reach.comp (setRoad_reach ..)
    | with_reducible apply Reach.comp (setStep_reach ..)
    | with_reducible apply Reach.comp (reverseSecuring_reach ..)
    | with_reducible apply Reach.comp (testSecured_reach ..)
    | split
    | decide)

theorem testSecuring_reach (s : State) : Reach [.latched, .arms, .strokes, .rcs, .proving] s (testSecuring s) := by
  unfold testSecuring
  repeat' (first
    | with_reducible exact Reach.refl _
    | with_reducible apply Reach.comp (enterSecuring_reach ..)
    | split
    | decide)

theorem enterClearing_reach (s : State) : Reach [.latched, .arms, .strokes, .rcs, .proving] s (enterClearing s) := by
  unfold enterClearing
  repeat' (first
    | with_reducible exact Reach.refl _
    | with_reducible apply Reach.comp (onRcs_reach _ _)
    | with_reducible apply Reach.comp (setRoad_reach ..)
    | with_reducible apply Reach.comp (setStep_reach ..)
    | with_reducible apply Reach.comp (testSecuring_reach ..)
    | decide)

theorem testClearing_reach (s : State) : Reach [.latched, .arms, .strokes, .rcs, .proving] s (testClearing s) := by
  unfold testClearing
  repeat' (first
    | with_reducible exact Reach.refl _
    | with_reducible apply Reach.comp (enterClearing_reach ..)
    | split
    | decide)

theorem enterBreached_reach (s : State) :
    Reach [.latched, .arms, .strokes, .rcs, .pumps, .locks, .leaf, .motion, .proving] s (enterBreached s) := by
  unfold enterBreached
  repeat' (first
    | with_reducible exact Reach.refl _
    | with_reducible apply Reach.comp (reportBreach_reach ..)
    | with_reducible apply Reach.comp (commandLowers_reach ..)
    | with_reducible apply Reach.comp (setRoad_reach ..)
    | decide)

theorem testRestored_reach (s : State) : Reach [.latched, .rcs, .proving] s (testRestored s) := by
  unfold testRestored
  repeat' (first
    | with_reducible exact Reach.refl _
    | with_reducible apply Reach.comp (setRoad_reach ..)
    | split
    | decide)

theorem testReopening_reach (s : State) : Reach [.latched, .arms, .strokes, .rcs] s (testReopening s) := by
  unfold testReopening
  dsimp only
  repeat' (first
    | with_reducible exact Reach.refl _
    | with_reducible apply Reach.comp (onRcs_reach _ _)
    | with_reducible apply Reach.comp (commandRaises_reach ..)
    | with_reducible apply Reach.comp (setStep_reach ..)
    | split
    | decide)

theorem reportArm_reach (a : Fin 8) (s : State) :
    Reach [.latched, .arms, .strokes, .rcs, .pumps, .locks, .leaf, .motion, .proving] s (reportArm a s) := by
  unfold reportArm
  dsimp only
  repeat' (first
    | with_reducible exact Reach.refl _
    | with_reducible apply Reach.comp (commandLower_reach ..)
    | with_reducible apply Reach.comp (commandRaise_reach ..)
    | with_reducible apply Reach.comp (reverseSecuring_reach ..)
    | with_reducible apply Reach.comp (testSecured_reach ..)
    | with_reducible apply Reach.comp (testSecuring_reach ..)
    | with_reducible apply Reach.comp (testClearing_reach ..)
    | with_reducible apply Reach.comp (enterBreached_reach ..)
    | with_reducible apply Reach.comp (testRestored_reach ..)
    | with_reducible apply Reach.comp (testReopening_reach ..)
    | split
    | decide)

theorem deckBecameClear_reach (s : State) :
    Reach [.latched, .arms, .strokes, .rcs, .proving] s (deckBecameClear s) := by
  unfold deckBecameClear
  repeat' (first
    | with_reducible exact Reach.refl _
    | with_reducible apply Reach.comp (commandLowers_reach ..)
    | with_reducible apply Reach.comp (testSecuring_reach ..)
    | split
    | decide)

theorem reviewDeck_reach (s : State) : Reach [.latched, .arms, .strokes, .rcs, .proving] s (reviewDeck s) := by
  unfold reviewDeck
  dsimp only
  repeat' (first
    | with_reducible exact Reach.refl _
    | with_reducible apply Reach.comp (viewDeck_reach ..)
    | with_reducible apply Reach.comp (deckBecameClear_reach ..)
    | split
    | decide)

theorem reportZone_reach (nowOccupied : Bool) (s : State) :
    Reach [.latched, .arms, .strokes, .rcs, .proving] s (reportZone nowOccupied s) := by
  unfold reportZone
  dsimp only
  repeat' (first
    | with_reducible exact Reach.refl _
    | with_reducible apply Reach.comp (latch_reach _ _)
    | with_reducible apply Reach.comp (reverseSecuring_reach ..)
    | with_reducible apply Reach.comp (reviewDeck_reach ..)
    | split
    | decide)

theorem changeZone_reach (z : Fin 6) (f : Zone → Zone) (s : State) :
    Reach [.latched, .arms, .strokes, .zones, .rcs, .proving] s (changeZone z f s) := by
  unfold changeZone
  dsimp only
  repeat' (first
    | with_reducible exact Reach.refl _
    | with_reducible apply Reach.comp (latchIf_reach _ _ _)
    | with_reducible apply Reach.comp (onZone_reach _ _ _)
    | with_reducible apply Reach.comp (reportZone_reach ..)
    | split
    | decide)

theorem setBypass_reach (z : Fin 6) (mark : Bool) (s : State) :
    Reach [.latched, .arms, .strokes, .zones, .rcs, .proving] s (setBypass z mark s) := by
  unfold setBypass
  repeat' (first
    | with_reducible exact Reach.refl _
    | with_reducible apply Reach.comp (reviewDeck_reach ..)
    | with_reducible apply Reach.comp (changeZone_reach ..)
    | split
    | decide)

theorem endBypass_reach (s : State) (z : Fin 6) :
    Reach [.latched, .arms, .strokes, .zones, .rcs, .proving] s (endBypass s z) := by
  unfold endBypass
  repeat' (first
    | with_reducible exact Reach.refl _
    | with_reducible apply Reach.comp (setBypass_reach ..)
    | decide)

theorem reportArmStroke_reach (a : Fin 8) (s : State) : Reach [.latched, .health] s (reportArmStroke a s) := by
  unfold reportArmStroke
  dsimp only
  repeat' (first
    | with_reducible exact Reach.refl _
    | with_reducible apply Reach.comp (reportStroke_reach ..)
    | split
    | decide)

theorem conflictArm_reach (a : Fin 8) (s : State) :
    Reach [.latched, .arms, .strokes, .rcs, .pumps, .locks, .leaf, .motion, .proving] s (conflictArm a s) := by
  unfold conflictArm
  repeat' (first
    | with_reducible exact Reach.refl _
    | with_reducible apply Reach.comp (stallArm_reach ..)
    | with_reducible apply Reach.comp (reportArm_reach ..)
    | split
    | decide)

theorem completeLowering_reach (a : Fin 8) (s : State) :
    Reach [.latched, .arms, .strokes, .rcs, .pumps, .locks, .leaf, .motion, .proving, .health]
      s (completeLowering a s) := by
  unfold completeLowering
  repeat' (first
    | with_reducible exact Reach.refl _
    | with_reducible apply Reach.comp (onArm_reach _ _ _ ?_)
    | with_reducible apply Reach.comp (reportArm_reach ..)
    | with_reducible apply Reach.comp (reportArmStroke_reach ..)
    | decide
    | (intro _; simp [Arm.moving]))

theorem completeRaising_reach (a : Fin 8) (s : State) :
    Reach [.latched, .arms, .strokes, .rcs, .pumps, .locks, .leaf, .motion, .proving, .health]
      s (completeRaising a s) := by
  unfold completeRaising
  repeat' (first
    | with_reducible exact Reach.refl _
    | with_reducible apply Reach.comp (onArm_reach _ _ _ ?_)
    | with_reducible apply Reach.comp (reportArm_reach ..)
    | with_reducible apply Reach.comp (reportArmStroke_reach ..)
    | split
    | decide
    | (intro _; simp [Arm.moving]))

theorem movedDown_reach (a : Fin 8) (s : State) :
    Reach [.latched, .arms, .strokes, .rcs, .pumps, .locks, .leaf, .motion, .proving] s (movedDown a s) := by
  unfold movedDown
  repeat' (first
    | with_reducible exact Reach.refl _
    | with_reducible apply Reach.comp (latch_reach _ _)
    | with_reducible apply Reach.comp (onArm_reach _ _ _ ?_)
    | with_reducible apply Reach.comp (reportArm_reach ..)
    | decide
    | (intro _; simp [Arm.moving]))

theorem movedUp_reach (a : Fin 8) (s : State) :
    Reach [.latched, .arms, .strokes, .rcs, .pumps, .locks, .leaf, .motion, .proving] s (movedUp a s) := by
  unfold movedUp
  dsimp only
  repeat' (first
    | with_reducible exact Reach.refl _
    | with_reducible apply Reach.comp (latchIf_reach _ _ _)
    | with_reducible apply Reach.comp (onArm_reach _ _ _ ?_)
    | with_reducible apply Reach.comp (reportArm_reach ..)
    | decide
    | (intro _; simp [Arm.moving]))

theorem downLimitMade_reach (a : Fin 8) (s : State) :
    Reach [.latched, .arms, .strokes, .rcs, .pumps, .locks, .leaf, .motion, .proving, .health]
      s (downLimitMade a s) := by
  unfold downLimitMade
  repeat' (first
    | with_reducible exact Reach.refl _
    | with_reducible apply Reach.comp (onArm_reach _ _ _ ?_)
    | with_reducible apply Reach.comp (reportArm_reach ..)
    | with_reducible apply Reach.comp (conflictArm_reach ..)
    | with_reducible apply Reach.comp (completeLowering_reach ..)
    | with_reducible apply Reach.comp (movedDown_reach ..)
    | split
    | decide
    | (intro _; simp [Arm.moving]))

theorem upLimitMade_reach (a : Fin 8) (s : State) :
    Reach [.latched, .arms, .strokes, .rcs, .pumps, .locks, .leaf, .motion, .proving, .health]
      s (upLimitMade a s) := by
  unfold upLimitMade
  repeat' (first
    | with_reducible exact Reach.refl _
    | with_reducible apply Reach.comp (onArm_reach _ _ _ ?_)
    | with_reducible apply Reach.comp (conflictArm_reach ..)
    | with_reducible apply Reach.comp (completeRaising_reach ..)
    | with_reducible apply Reach.comp (movedUp_reach ..)
    | split
    | decide
    | (intro _; simp [Arm.moving]))

theorem downLimitReleased_reach (a : Fin 8) (s : State) : Reach [.arms] s (downLimitReleased a s) := by
  unfold downLimitReleased
  repeat' (first
    | with_reducible exact Reach.refl _
    | with_reducible apply Reach.comp (onArm_reach _ _ _ ?_)
    | split
    | decide
    | (intro _; simp [Arm.moving]))

theorem upLimitReleased_reach (a : Fin 8) (s : State) :
    Reach [.latched, .arms, .strokes, .rcs, .pumps, .locks, .leaf, .motion, .proving] s (upLimitReleased a s) := by
  unfold upLimitReleased
  repeat' (first
    | with_reducible exact Reach.refl _
    | with_reducible apply Reach.comp (onArm_reach _ _ _ ?_)
    | with_reducible apply Reach.comp (movedDown_reach ..)
    | split
    | decide
    | (intro _; simp [Arm.moving]))

theorem displaceArm_reach (a : Fin 8) (s : State) :
    Reach [.latched, .arms, .strokes, .rcs, .pumps, .locks, .leaf, .motion, .proving] s (displaceArm a s) := by
  unfold displaceArm
  repeat' (first
    | with_reducible exact Reach.refl _
    | with_reducible apply Reach.comp (latch_reach _ _)
    | with_reducible apply Reach.comp (onArm_reach _ _ _ ?_)
    | with_reducible apply Reach.comp (reportArm_reach ..)
    | split
    | decide
    | (intro _; simp [Arm.moving]))

theorem loseUpLimit_reach (a : Fin 8) (s : State) : Reach [.latched, .arms] s (loseUpLimit a s) := by
  unfold loseUpLimit
  repeat' (first
    | with_reducible exact Reach.refl _
    | with_reducible apply Reach.comp (latch_reach _ _)
    | with_reducible apply Reach.comp (onArm_reach _ _ _ ?_)
    | split
    | decide
    | (intro _; simp [Arm.moving]))

theorem timeOutArm_reach (a : Fin 8) (s : State) :
    Reach [.latched, .arms, .strokes, .rcs, .pumps, .locks, .leaf, .motion, .proving] s (timeOutArm a s) := by
  unfold timeOutArm
  repeat' (first
    | with_reducible exact Reach.refl _
    | with_reducible apply Reach.comp (stallArm_reach ..)
    | with_reducible apply Reach.comp (reportArm_reach ..)
    | split
    | decide)

theorem edgeActive_reach (a : Fin 8) (s : State) :
    Reach [.latched, .arms, .strokes, .reversals, .rcs, .pumps, .locks, .leaf, .motion, .proving] s
      (edgeActive a s) := by
  have k : Reach [.arms] s (s.onArm a fun r => { r with edgeSeen := true }) :=
    onArm_reach _ _ _ (by simp [Arm.moving])
  unfold edgeActive
  split
  · next h =>
    exact (reportArm_reach _ _).comp (by decide) ((obstruct_reach a _ (by
      rw [arm_onArm_self]; exact h)).comp (by decide) (k.mono (by decide)))
  · exact k.mono (by decide)
  all_goals exact .refl s

theorem endRelowerWait_reach (a : Fin 8) (s : State) : Reach [.arms] s (endRelowerWait a s) := by
  unfold endRelowerWait
  repeat' (first
    | with_reducible exact Reach.refl _
    | with_reducible apply Reach.comp (onArm_reach _ _ _ ?_)
    | decide
    | (intro _; simp [Arm.moving]))

theorem relowerArm_reach (a : Fin 8) (s : State) :
    Reach [.latched, .arms, .strokes, .rcs, .pumps, .locks, .leaf, .motion, .proving] s (relowerArm a s) := by
  unfold relowerArm
  repeat' (first
    | with_reducible exact Reach.refl _
    | with_reducible apply Reach.comp (startLowering_reach ..)
    | with_reducible apply Reach.comp (reportArm_reach ..)
    | split
    | decide)

theorem estopArm_reach (s : State) (a : Fin 8) :
    Reach [.latched, .arms] s (estopArm s a) :=
  (stallArm_reach _ _ _).comp (by decide) ((onArm_reach _ _ _ (by simp [Arm.moving])).mono (by decide))

theorem prewarnExpires_reach (s : State) : Reach [.latched, .rcs, .proving] s (prewarnExpires s) := by
  unfold prewarnExpires
  repeat' (first
    | with_reducible exact Reach.refl _
    | with_reducible apply Reach.comp (setRoad_reach ..)
    | with_reducible apply Reach.comp (setStep_reach ..)
    | split
    | decide)

theorem entryDelayExpires_reach (s : State) :
    Reach [.latched, .arms, .strokes, .rcs, .proving] s (entryDelayExpires s) := by
  unfold entryDelayExpires
  dsimp only
  repeat' (first
    | with_reducible exact Reach.refl _
    | with_reducible apply Reach.comp (onRcs_reach _ _)
    | with_reducible apply Reach.comp (commandLowers_reach ..)
    | with_reducible apply Reach.comp (setStep_reach ..)
    | with_reducible apply Reach.comp (testClearing_reach ..)
    | split
    | decide)

theorem clearanceLimitExpires_reach (s : State) : Reach [.latched, .rcs] s (clearanceLimitExpires s) := by
  unfold clearanceLimitExpires
  repeat' (first
    | with_reducible exact Reach.refl _
    | with_reducible apply Reach.comp (latch_reach _ _)
    | with_reducible apply Reach.comp (onRcs_reach _ _)
    | with_reducible apply Reach.comp (setStep_reach ..)
    | split
    | decide)

theorem endBypasses_reach (l : List (Fin 6)) (s : State) :
    Reach [.latched, .arms, .strokes, .zones, .rcs, .proving] s (l.foldl endBypass s) := reach_foldl endBypass_reach l s

theorem runOnExpires_reach (s : State) :
    Reach [.latched, .arms, .strokes, .zones, .rcs, .proving] s (runOnExpires s) := by
  unfold runOnExpires
  dsimp only
  repeat' (first
    | with_reducible exact Reach.refl _
    | with_reducible apply Reach.comp (onRcs_reach _ _)
    | with_reducible apply Reach.comp (setRoad_reach ..)
    | with_reducible apply Reach.comp (setStep_reach ..)
    | with_reducible apply Reach.comp (endBypasses_reach ..)
    | split
    | decide)

theorem dwellExpires_reach (s : State) :
    Reach [.latched, .arms, .strokes, .zones, .rcs, .proving] s (dwellExpires s) := by
  unfold dwellExpires
  split
  · exact (reviewDeck_reach _).comp (by decide)
      ((reach_foldl (fun t z => onZone_reach z _ t) allZones s).mono (by decide))
  · exact .refl s

theorem flashChanges_reach (s : State) : Reach [.rcs, .proving] s (flashChanges s) := by
  unfold flashChanges
  repeat' (first
    | with_reducible exact Reach.refl _
    | with_reducible apply Reach.comp (driveRcs_reach _ _)
    | split
    | decide)

/-! ### Field events of the locks, the seats and the pumps -/

theorem jamAndTell_reach (b : Fin 4) (cause : BoltCause) (s : State) :
    Reach [.latched, .bolts, .drives, .locks, .leaf] s (jamAndTell b cause s) := by
  unfold jamAndTell
  repeat' (first
    | with_reducible exact Reach.refl _
    | with_reducible apply Reach.comp (jamBolt_reach ..)
    | with_reducible apply Reach.comp (reportBolt_reach ..)
    | decide)

theorem conflictBolt_reach (b : Fin 4) (s : State) :
    Reach [.latched, .bolts, .drives, .locks, .leaf] s (conflictBolt b s) := by
  unfold conflictBolt
  repeat' (first
    | with_reducible exact Reach.refl _
    | with_reducible apply Reach.comp (jamAndTell_reach ..)
    | split
    | decide)

theorem completeBolt_reach (b : Fin 4) (home : BoltState) (s : State) (hh : home = .withdrawn ∨ home = .driven) :
    Reach [.latched, .bolts, .drives, .locks, .leaf, .health]
      s (completeBolt b home s) := by
  have k (t : State) : Reach [.bolts] t (t.onBolt b fun r => { r with state := home, restTimer := none }) :=
    onBolt_reach _ _ _ (by rcases hh with h | h <;> simp [Bolt.moving, h])
  unfold completeBolt
  dsimp only
  split
  · exact (reportBolt_reach _).comp (by decide) ((k _).comp (by decide)
      ((reportStroke_reach _ _ _ _).mono (by decide)))
  · exact (reportBolt_reach _).comp (by decide) ((k _).mono (by decide))

theorem cancelRest_reach (b : Fin 4) (s : State) : Reach [.bolts] s (cancelRest b s) := by
  unfold cancelRest
  repeat' (first
    | with_reducible exact Reach.refl _
    | with_reducible apply Reach.comp (onBolt_reach _ _ _ ?_)
    | decide
    | (intro _; simp [Bolt.moving]))

theorem withdrawnMade_reach (b : Fin 4) (s : State) :
    Reach [.latched, .bolts, .drives, .locks, .leaf, .health] s (withdrawnMade b s) := by
  unfold withdrawnMade
  repeat' (first
    | with_reducible exact Reach.refl _
    | exact (conflictBolt_reach _ _).mono (by decide)
    | exact (completeBolt_reach _ _ _ (.inl rfl)).mono (by decide)
    | exact (cancelRest_reach _ _).mono (by decide)
    | split)

theorem drivenMade_reach (b : Fin 4) (s : State) :
    Reach [.latched, .bolts, .drives, .locks, .leaf, .health] s (drivenMade b s) := by
  unfold drivenMade
  repeat' (first
    | with_reducible exact Reach.refl _
    | exact (conflictBolt_reach _ _).mono (by decide)
    | exact (completeBolt_reach _ _ _ (.inr rfl)).mono (by decide)
    | exact (cancelRest_reach _ _).mono (by decide)
    | split)

theorem switchReleased_reach (b : Fin 4) (sw : BoltSwitch) (s : State) :
    Reach [.bolts] s (switchReleased b sw s) := by
  unfold switchReleased
  repeat' (first
    | with_reducible exact Reach.refl _
    | with_reducible apply Reach.comp (onBolt_reach _ _ _ ?_)
    | split
    | decide
    | (intro _; simp [Bolt.moving]))

theorem losePosition_reach (b : Fin 4) (s : State) :
    Reach [.latched, .bolts, .drives, .locks, .leaf] s (losePosition b s) := by
  unfold losePosition
  repeat' (first
    | with_reducible exact Reach.refl _
    | with_reducible apply Reach.comp (jamAndTell_reach ..)
    | split
    | decide)

theorem timeOutBolt_reach (b : Fin 4) (s : State) :
    Reach [.latched, .bolts, .drives, .locks, .leaf] s (timeOutBolt b s) := by
  unfold timeOutBolt
  repeat' (first
    | with_reducible exact Reach.refl _
    | with_reducible apply Reach.comp (jamAndTell_reach ..)
    | split
    | decide)

theorem alignBolt_reach (b : Fin 4) (s : State) : Reach [.bolts] s (alignBolt b s) := by
  unfold alignBolt
  repeat' (first
    | with_reducible exact Reach.refl _
    | with_reducible apply Reach.comp (onBolt_reach _ _ _ ?_)
    | split
    | decide
    | (intro _; simp [Bolt.moving]))

theorem filterSeat_reach (l : Leaf) (made : Bool) (s : State) : Reach [.seats] s (filterSeat l made s) := by
  unfold filterSeat
  repeat' (first
    | with_reducible exact Reach.refl _
    | with_reducible apply Reach.comp (onSeat_reach _ _ _)
    | split
    | decide)

theorem takeSeat_reach (l : Leaf) (s : State) :
    Reach [.latched, .bolts, .drives, .seats, .locks, .leaf] s (takeSeat l s) := by
  unfold takeSeat
  repeat' (first
    | with_reducible exact Reach.refl _
    | with_reducible apply Reach.comp (onSeat_reach _ _ _)
    | with_reducible apply Reach.comp (reportSeat_reach ..)
    | split
    | decide)

theorem pressureMade_reach (g : Leaf) (s : State) : Reach [.pumps] s (pressureMade g s) := by
  unfold pressureMade
  repeat' (first
    | with_reducible exact Reach.refl _
    | with_reducible apply Reach.comp (onPump_reach _ _ _)
    | split
    | decide)

theorem pressureLost_reach (g : Leaf) (s : State) :
    Reach [.latched, .bolts, .drives, .pumps, .locks, .leaf, .fall, .motion] s (pressureLost g s) := by
  unfold pressureLost
  repeat' (first
    | with_reducible exact Reach.refl _
    | with_reducible apply Reach.comp (onPump_reach _ _ _)
    | with_reducible apply Reach.comp (faultPump_reach ..)
    | with_reducible apply Reach.comp (reportPump_reach ..)
    | split
    | decide)

theorem provePump_reach (g : Leaf) (s : State) :
    Reach [.latched, .bolts, .drives, .pumps, .locks, .leaf, .fall, .motion] s (provePump g s) := by
  unfold provePump
  repeat' (first
    | with_reducible exact Reach.refl _
    | with_reducible apply Reach.comp (setPump_reach ..)
    | with_reducible apply Reach.comp (reportPump_reach ..)
    | split
    | decide)

theorem expirePump_reach (g : Leaf) (s : State) :
    Reach [.latched, .bolts, .drives, .pumps, .locks, .leaf, .fall, .motion] s (expirePump g s) := by
  unfold expirePump
  repeat' (first
    | with_reducible exact Reach.refl _
    | with_reducible apply Reach.comp (faultPump_reach ..)
    | with_reducible apply Reach.comp (reportPump_reach ..)
    | split
    | decide)

theorem stopAndTell_reach (s : State) (g : Leaf) :
    Reach [.latched, .bolts, .drives, .pumps, .locks, .leaf, .fall, .motion] s (stopAndTell s g) := by
  unfold stopAndTell
  repeat' (first
    | with_reducible exact Reach.refl _
    | with_reducible apply Reach.comp (stopPump_reach ..)
    | with_reducible apply Reach.comp (reportPump_reach ..)
    | decide)

theorem expireStandby_reach (s : State) :
    Reach [.latched, .bolts, .drives, .pumps, .locks, .leaf, .fall, .motion] s (expireStandby s) := by
  unfold expireStandby
  repeat' (first
    | with_reducible exact Reach.refl _
    | with_reducible apply Reach.comp (onLpu_reach _ _ ?_)
    | with_reducible apply Reach.comp (stopAndTell_reach ..)
    | split
    | decide
    | (intro _; exact ⟨rfl, rfl, rfl⟩))

theorem reviewStandby_reach (s : State) :
    Reach [.latched, .bolts, .drives, .pumps, .locks, .leaf, .fall, .motion] s (reviewStandby s) := by
  unfold reviewStandby
  repeat' (first
    | with_reducible exact Reach.refl _
    | with_reducible apply Reach.comp (onLpu_reach _ _ ?_)
    | with_reducible apply Reach.comp (expireStandby_reach ..)
    | split
    | decide
    | (intro _; exact ⟨rfl, rfl, rfl⟩))

theorem takeEstop_reach (s : State) :
    Reach [.latched, .arms, .strokes, .rcs, .bolts, .drives, .pumps, .locks, .leaf, .trip, .fall, .motion, .proving] s
      (takeEstop s) := by
  unfold takeEstop
  exact (testTrip_reach _).comp (by decide) ((reach_foldl (fun t _ => reportPump_reach t) _ _).comp (by decide)
    ((reach_foldl (fun t _ => reportBolt_reach t) _ _).comp (by decide)
      ((reach_foldl (fun t a => reportArm_reach a t) _ _).comp (by decide)
        ((reach_foldl stopPump_reach _ _).comp (by decide)
          ((reach_foldl (fun t b => jamBolt_reach b .estop t) _ _).comp (by decide)
            ((reach_foldl estopArm_reach _ _).mono (by decide)))))))

theorem retryBolt_reach (s : State) (b : Fin 4) : Reach [.latched, .bolts, .drives] s (retryBolt s b) := by
  unfold retryBolt
  repeat' (first
    | with_reducible exact Reach.refl _
    | with_reducible apply Reach.comp (startBolt_reach ..)
    | split
    | decide)

/-! ### Measurement and proving -/

theorem tellDisagree_reach (old new : LeafAngle) (s : State) :
    Reach [.latched, .pumps, .locks, .leaf, .motion] s (tellDisagree old new s) := by
  unfold tellDisagree; split
  · exact reportDisagree_reach s
  · exact .refl s

/-- A period leaves the wind record as it was. -/
@[simp] theorem Msu.period_wind (m : Msu) (starting : Bool) (tolerance : Nat) (r : Vector EncoderReply 4) :
    (m.period starting tolerance r).wind = m.wind := by
  unfold Msu.period Msu.countListen Msu.endListen Msu.measure
  repeat' split
  all_goals rfl

/-- A period of the listen counts one (note 37). -/
theorem Msu.period_periods {m : Msu} (h : m.listen.periods < 5) (tolerance : Nat) (r : Vector EncoderReply 4) :
    (m.period true tolerance r).listen.periods = m.listen.periods + 1 := by
  unfold Msu.period Msu.countListen Msu.endListen Msu.measure
  simp only [h, decide_true, Bool.and_self, if_true]
  split
  · rfl
  · simp only; omega

@[simp] theorem Msu.hearSilence_wind (tolerance n : Nat) (m : Msu) : (Msu.hearSilence tolerance n m).wind = m.wind := by
  induction n generalizing m with
  | zero => rfl
  | succ n ih => rw [Msu.hearSilence, ih, Msu.period_wind]

@[simp] theorem Msu.finishListen_wind (m : Msu) (tolerance : Nat) : (m.finishListen tolerance).wind = m.wind :=
  Msu.hearSilence_wind ..

/-- A listen that is over stays as it is. -/
theorem Msu.finishListen_over {m : Msu} (h : 5 ≤ m.listen.periods) (tolerance : Nat) :
    m.finishListen tolerance = m := by
  unfold Msu.finishListen
  rw [show 5 - m.listen.periods = 0 by omega]; rfl

/-- A silent period of the listen is one of those that its end supplies (note 44). -/
theorem Msu.finishListen_silent {m : Msu} (h : m.listen.periods < 5) (tolerance : Nat) :
    (m.period true tolerance silentLines).finishListen tolerance = m.finishListen tolerance := by
  unfold Msu.finishListen
  rw [Msu.period_periods h, show 5 - m.listen.periods = (5 - (m.listen.periods + 1)) + 1 by omega]; rfl

theorem encoderPeriod_reach (r : Vector EncoderReply 4) (s : State) :
    Reach [.latched, .pumps, .locks, .leaf, .motion, .encoders] s (encoderPeriod r s) := by
  unfold encoderPeriod
  split
  · exact (tellDisagree_reach ..).comp (by decide) ((tellDisagree_reach ..).comp (by decide)
      ((latchIf_reach _ _ _).comp (by decide) ((Move.encoders _ s (Msu.period_wind ..)).reach.mono (by decide))))
  · exact .refl s

theorem setHeard_reach (b : Bool) (s : State) : Reach [.encoders] s (s.setHeard b) :=
  (Move.encoders (fun m => { m with heard := b }) s rfl).reach

theorem hearPeriod_reach (r : Vector EncoderReply 4) (s : State) :
    Reach [.latched, .pumps, .locks, .leaf, .motion, .encoders] s (hearPeriod r s) := by
  unfold hearPeriod
  split
  · exact (setHeard_reach true _).comp (by decide) ((encoderPeriod_reach r s).mono (by decide))
  · exact .refl s

theorem endDuePeriod_reach (s : State) :
    Reach [.latched, .pumps, .locks, .leaf, .motion, .encoders] s (endDuePeriod s) := by
  unfold endDuePeriod
  split
  · exact (setHeard_reach false s).mono (by decide)
  · exact encoderPeriod_reach silentLines s

theorem judgeWind_reach (w : Wind) (s : State) :
    Reach [.latched, .bolts, .drives, .pumps, .locks, .leaf, .motion, .wind] s (judgeWind w s) := by
  have k := (latchIf_reach (decide (s.msu.wind.band ≠ (w.judge (s.par pDerateLimit) (s.par pStopLimit)).band) ||
      (s.msu.wind.known != (w.judge (s.par pDerateLimit) (s.par pStopLimit)).known)) .wind _).comp
    (A := [.latched, .bolts, .drives, .pumps, .locks, .leaf, .motion, .wind]) (by decide) ((Move.wind w (s.par pDerateLimit) (s.par pStopLimit) s).reach.mono (by decide))
  unfold judgeWind
  dsimp only
  split
  · exact (reportWind_reach _).comp (by decide) k
  · exact k

theorem recomputeWind_reach (w : Wind) (s : State) :
    Reach [.latched, .bolts, .drives, .pumps, .locks, .leaf, .motion, .wind] s (recomputeWind w s) := by
  unfold recomputeWind
  repeat' (first
    | with_reducible exact Reach.refl _
    | with_reducible apply Reach.comp (judgeWind_reach ..)
    | decide)

theorem countPulse_reach (s : State) : Reach [.wind] s (countPulse s) := by
  unfold countPulse
  repeat' (first
    | with_reducible exact Reach.refl _
    | split
    | dsimp only
    | exact (Move.interval { s.msu.wind with interval := bump s.msu.wind.interval } s rfl).reach)

theorem anemoInterval_reach (s : State) :
    Reach [.latched, .bolts, .drives, .pumps, .locks, .leaf, .motion, .wind] s (anemoInterval s) := by
  unfold anemoInterval
  dsimp only
  split
  · split
    · exact (Move.interval { s.msu.wind with interval := 0, discard := s.msu.wind.failed } s rfl).reach.mono (by decide)
    · exact recomputeWind_reach _ s
  · exact .refl s

theorem anemometerFailed_reach (s : State) :
    Reach [.latched, .bolts, .drives, .pumps, .locks, .leaf, .motion, .wind] s (anemometerFailed s) := by
  unfold anemometerFailed
  repeat' (first
    | with_reducible exact Reach.refl _
    | with_reducible apply Reach.comp (judgeWind_reach ..)
    | decide)

theorem anemometerRecovered_reach (s : State) :
    Reach [.latched, .bolts, .drives, .pumps, .locks, .leaf, .motion, .wind] s (anemometerRecovered s) := by
  unfold anemometerRecovered
  repeat' (first
    | with_reducible exact Reach.refl _
    | with_reducible apply Reach.comp (judgeWind_reach ..)
    | decide)

theorem windWritten_reach (s : State) :
    Reach [.latched, .bolts, .drives, .pumps, .locks, .leaf, .motion, .wind] s (windWritten s) := by
  unfold windWritten
  repeat' (first
    | with_reducible exact Reach.refl _
    | with_reducible apply Reach.comp (recomputeWind_reach ..)
    | decide)

theorem startProving_reach (r : ProvingRequest) (s : State) : Reach [.proving] s (startProving r s) := by
  unfold startProving
  repeat' (first
    | with_reducible exact Reach.refl _
    | with_reducible apply Reach.comp (onPhu_reach _ _ ?_)
    | decide
    | (intro _; exact ⟨rfl, rfl⟩))

theorem submitProving_reach (r : ProvingRequest) (s : State) : Reach [.proving] s (submitProving r s) := by
  unfold submitProving
  repeat' (first
    | with_reducible exact Reach.refl _
    | with_reducible apply Reach.comp (onPhu_reach _ _ ?_)
    | with_reducible apply Reach.comp (startProving_reach ..)
    | split
    | decide
    | (intro _; exact ⟨rfl, rfl⟩))

theorem scanRequest_reach (s : State) : Reach [.proving] s (scanRequest s) := by
  unfold scanRequest
  repeat' (first
    | with_reducible exact Reach.refl _
    | with_reducible apply Reach.comp (onPhu_reach _ _ ?_)
    | with_reducible apply Reach.comp (submitProving_reach ..)
    | decide
    | (intro _; exact ⟨rfl, rfl⟩))

theorem startHeld_reach (s : State) : Reach [.proving] s (startHeld s) := by
  unfold startHeld
  repeat' (first
    | with_reducible exact Reach.refl _
    | with_reducible apply Reach.comp (onPhu_reach _ _ ?_)
    | with_reducible apply Reach.comp (startProving_reach ..)
    | split
    | decide
    | (intro _; exact ⟨rfl, rfl⟩))

theorem tellDeclared_reach (c : Fin 16) (failed : Bool) (s : State) :
    Reach [.latched, .bolts, .drives, .pumps, .locks, .leaf, .motion, .wind, .vt, .queues, .batch, .turns]
      s (tellDeclared c failed s) := by
  unfold tellDeclared
  repeat' (first
    | with_reducible exact Reach.refl _
    | with_reducible apply Reach.comp (signalsCircuitFailed_reach ..)
    | with_reducible apply Reach.comp (anemometerFailed_reach ..)
    | with_reducible apply Reach.comp (anemometerRecovered_reach ..)
    | split
    | decide)

theorem endProving_reach (reading : Nat) (s : State) :
    Reach [.latched, .bolts, .drives, .pumps, .locks, .leaf, .motion, .wind, .vt, .queues, .batch, .turns, .circuits]
      s (endProving reading s) := by
  unfold endProving
  split
  · exact .refl s
  · next p _ =>
    have k (u : Circuit) : Reach [.circuits] s (s.onPhu fun v =>
        { v with proving := none, circuits := v.circuits.set p.circuit u }) :=
      (Move.circuits _ s (by intro _; rfl)).reach
    dsimp only
    split
    · exact (k _).mono (by decide)
    · exact (tellDeclared_reach _ _ _).comp (by decide) ((latch_reach _ _).comp (by decide)
        ((k _).mono (by decide)))

theorem endDueProving_reach (s : State) :
    Reach [.latched, .bolts, .drives, .pumps, .locks, .leaf, .motion, .wind, .vt, .queues, .batch, .turns, .circuits,
      .proving] s (endDueProving s) := by
  unfold endDueProving
  exact (endProving_reach _ _).comp (by decide) ((onPhu_reach _ s (by intro _; exact ⟨rfl, rfl⟩)).mono (by decide))

/-! ### Authority and parameters -/

theorem reviewTide_reach (s : State) : Reach [.latched, .psc] s (reviewTide s) := by
  unfold reviewTide
  repeat' (first
    | with_reducible exact Reach.refl _
    | with_reducible apply Reach.comp (latchIf_reach _ _ _)
    | with_reducible apply Reach.comp (onPsc_reach _ _ ?_)
    | decide
    | (intro _; exact ⟨rfl, rfl⟩))

theorem copyMask_reach (s : State) : Reach [.link] s (copyMask s) := by
  unfold copyMask
  repeat' (first
    | with_reducible exact Reach.refl _
    | with_reducible apply Reach.comp (onCl_reach _ _ ?_)
    | decide
    | (intro _; rfl))

/-- What a written value does at once. -/
theorem reach_reach (i : Fin 64) (s : State) :
    Reach [.latched, .link, .bolts, .drives, .pumps, .locks, .leaf, .fall, .motion, .wind, .vt, .queues, .psc, .batch, .csu, .turns, .health]
      s (reach i s) := by
  unfold reach
  repeat' (first
    | with_reducible exact Reach.refl _
    | with_reducible apply Reach.comp (evaluateWorn_reach ..)
    | with_reducible apply Reach.comp (reviewSeal_reach ..)
    | with_reducible apply Reach.comp (windowExpires_reach ..)
    | with_reducible apply Reach.comp (changeoverExpires_reach ..)
    | with_reducible apply Reach.comp (reviewStandby_reach ..)
    | with_reducible apply Reach.comp (windWritten_reach ..)
    | with_reducible apply Reach.comp (reviewTide_reach ..)
    | with_reducible apply Reach.comp (copyMask_reach ..)
    | split
    | decide)

theorem writeParam_reach (i : Fin 64) (v : Nat) (s : State) (h : acceptable s.apu.table i v = true) :
    Reach [.latched, .link, .table, .bolts, .drives, .pumps, .locks, .leaf, .fall, .motion, .wind, .vt, .queues, .psc, .batch, .csu, .turns, .health]
      s (writeParam i v s) :=   (reach_reach i _).comp (by decide) ((Move.write i v s h).reach.mono (by decide))

theorem writeValues_reach : ∀ (i : Nat) (l : List Word) (s : State),
    Reach [.latched, .link, .table, .bolts, .drives, .pumps, .locks, .leaf, .fall, .motion, .wind, .vt, .queues, .psc, .batch, .csu, .turns, .health]
      s (writeValues i l s).1
  | _, [], s => .refl s
  | i, v :: rest, s => by
    unfold writeValues
    split
    · split
      · next h => exact (writeParam_reach _ _ s h).trans (writeValues_reach (i + 1) rest _)
      · exact .refl s
    · exact .refl s

theorem paramWriteOp_reach (start : Byte) (values : List Word) (s : State) :
    Reach [.latched, .link, .table, .bolts, .drives, .pumps, .locks, .leaf, .fall, .motion, .wind, .vt, .queues, .psc, .batch, .csu, .turns, .health]
      s (paramWriteOp start values s).1 := by
  have k := writeValues_reach start.toNat values s
  unfold paramWriteOp
  split
  · next t h => rw [h] at k; exact k
  · next t i h => rw [h] at k; exact k

theorem paramDefaultsOp_reach (s : State) :
    Reach [.latched, .link, .apu, .table, .bolts, .drives, .pumps, .locks, .leaf, .fall, .motion, .wind, .vt, .queues, .psc, .batch, .csu, .turns, .health]
      s (paramDefaultsOp s).1 := by
  have k (l : List (Fin 64)) (t : State) := reach_foldl (fun t i => reach_reach i t) l t
  have d := (Move.defaults s).reach
  unfold paramDefaultsOp loadTable
  dsimp only
  exact (onApu_reach _ _ (by intro _; exact ⟨rfl, rfl, rfl, rfl, id, id⟩)).comp (by decide)
    ((k _ _).comp (by decide) (d.mono (by decide)))

theorem paramCommitOp_reach (s : State) (h : s.apu.restart = false) : Reach [.commit] s (paramCommitOp s).1 := (Move.commit s h).reach

theorem endCommit_reach (good : Bool) (s : State) : Reach [.latched, .commit] s (endCommit good s) := by
  unfold endCommit
  split
  · exact .refl s
  · next t h => exact (latch_reach _ _).comp (by decide) ((Move.commitEnd good t s h).reach.mono (by decide))

theorem grant_reach (l : Level) (s : State) : Reach [.latched, .apu] s (grant l s).1 :=   (latch_reach _ _).comp (by decide) ((onApu_reach _ s
    (by intro _; exact ⟨rfl, rfl, rfl, rfl, id, fun _ => Nat.zero_le 5⟩)).mono (by decide))

theorem denyLogon_reach (s : State) : Reach [.latched] s (denyLogon s).1 := latch_reach _ s

theorem compareCode_reach (l : Level) (i : Fin 64) (code : Word) (s : State) :
    Reach [.latched, .apu] s (compareCode l i code s).1 := by
  unfold compareCode
  split
  · exact (denyLogon_reach s).mono (by decide)
  · split
    · exact grant_reach l s
    · exact (latch_reach _ _).comp (by decide) ((onApu_reach _ s
        (by intro _; exact ⟨rfl, rfl, rfl, rfl, id, fun _ => Nat.min_le_left 5 _⟩)).mono (by decide))

theorem logonOp_reach (level : Byte) (code : Word) (s : State) :
    Reach [.latched, .apu] s (logonOp level code s).1 := by
  unfold logonOp
  repeat' (first
    | with_reducible exact Reach.refl _
    | exact compareCode_reach ..
    | exact grant_reach ..
    | exact (denyLogon_reach s).mono (by decide)
    | split)

theorem logoffOp_reach (s : State) : Reach [.apu] s (logoffOp s).1 :=   onApu_reach (fun a => { a with level := .view }) s fun _ => ⟨rfl, rfl, rfl, rfl, id, id⟩

theorem freezeOp_reach (s : State) : Reach [.latched, .apu] s (freezeOp s).1 :=   (latchIf_reach _ _ _).comp (by decide) ((onApu_reach _ s
    (by intro _; exact ⟨rfl, rfl, rfl, rfl, fun _ => rfl, id⟩)).mono (by decide))

theorem restartOp_reach (s : State) :
    Reach [.latched, .restart, .pumps, .locks, .leaf, .motion] s (restartOp s).1 := by
  unfold restartOp
  split
  · exact .refl s
  · exact (beginHalt_reach _ _).comp (by decide) ((Move.restart s).reach.mono (by decide))

theorem identifyOp_reach (s : State) : Reach [] s (identifyOp s).1 := .refl s

theorem paramReadOp_reach (start count : Byte) (s : State) : Reach [] s (paramReadOp start count s).1 := by
  unfold paramReadOp
  repeat' (first
    | exact .refl s
    | split)

theorem healthReadOp_reach (s : State) : Reach [] s (healthReadOp s).1 := .refl s

theorem leafReadOp_reach (s : State) : Reach [] s (leafReadOp s).1 := .refl s

theorem batchReadOp_reach (s : State) : Reach [] s (batchReadOp s).1 := .refl s

theorem statusOp_reach (s : State) : Reach [.cleared] s (statusOp s).1 := (Move.clear s).reach

theorem countersOp_reach (s : State) : Reach [.link] s (countersOp s).1 := by
  unfold countersOp
  repeat' (first
    | with_reducible exact Reach.refl _
    | with_reducible apply Reach.comp (onCl_reach _ _ ?_)
    | dsimp only
    | decide
    | (intro _; rfl))

/-! ### Requests of the leaves -/

theorem beginRaise_reach (src : TargetSource) (target : Nat) (s : State) (h : s.lmc.leaf.takesRaise = true) :
    Reach [.latched, .bolts, .drives, .pumps, .locks, .leaf, .motion] s (beginRaise src target s) := by
  have hr : s.lmc.leaf ≠ .raised := by rintro k; simp [k, LeafState.takesRaise] at h
  have hm : s.lmc.leaf.moving = false := by
    simp [LeafState.takesRaise] at h; rcases h with h | h <;> simp [h, LeafState.moving]
  exact (testUnlocked_reach _).comp (by decide) ((orderPumps_reach _).comp (by decide)
    ((callWithdraw_reach _).comp (by decide) ((setLeaf_reach _ _ (by decide) (by exact hr)
      (by simp [LeafState.moving]) (by exact fun _ => .inl hm)).comp (by decide)
        ((beginMotion_reach ..).mono (by decide)))))

theorem raiseOp_reach (s : State) :
    Reach [.latched, .bolts, .drives, .pumps, .locks, .leaf, .motion] s (raiseOp s).1 := by
  unfold raiseOp
  split
  · exact .refl s
  · next h =>
    repeat' (first
      | with_reducible exact Reach.refl _
      | split
      | dsimp only
      | exact beginRaise_reach _ _ s (by simpa using h))

theorem raiseExplicitOp_reach (target : Half) (s : State) :
    Reach [.latched, .bolts, .drives, .pumps, .locks, .leaf, .motion] s (raiseExplicitOp target s).1 := by
  unfold raiseExplicitOp
  split
  · exact .refl s
  · next h =>
    repeat' (first
      | with_reducible exact Reach.refl _
      | split
      | dsimp only
      | exact beginRaise_reach _ _ s (by simpa using h))

theorem lowerOp_reach (s : State) (h : s.apu.restart = false) :
    Reach [.latched, .bolts, .drives, .locks, .leaf, .lower] s (lowerOp s).1 := by
  unfold lowerOp
  split
  · next hl =>
    split
    · exact .refl s
    · dsimp only
      exact (enterLocking_reach s (by simp [hl]) (.inl (by simp [hl, LeafState.moving]))).mono (by decide)
  · next hl =>
    split
    · exact .refl s
    · dsimp only
      exact (Move.lower s (.inl hl) h).reach.mono (by decide)
  · next hl =>
    split
    · exact .refl s
    · dsimp only
      exact (Move.lower s (.inr hl) h).reach.mono (by decide)
  all_goals exact .refl s

theorem stopOp_reach (s : State) : Reach [.latched, .pumps, .locks, .leaf, .motion] s (stopOp s).1 := by
  unfold stopOp
  split <;> dsimp only
  · exact beginHalt_reach _ s
  · exact beginHalt_reach _ s
  · next hl => exact (haltUnlocking_reach s (.inl hl)).mono (by decide)
  · next hl => exact (haltUnlocking_reach s (.inr hl)).mono (by decide)
  all_goals exact .refl s

theorem tripClearOp_reach (s : State) : Reach [.latched, .locks, .leaf] s (tripClearOp s).1 := by
  unfold tripClearOp
  split
  · exact .refl s
  · next h =>
    split
    · exact .refl s
    · have hl : s.lmc.leaf = .tripped := by simpa using h
      exact (setLeaf_reach _ _ (by decide) (by simp [hl]) (by simp [LeafState.moving])
        (by intro _; left; simp [hl, LeafState.moving])).comp (by decide) ((Move.untrip s hl).reach.mono (by decide))

theorem measureReadOp_reach (s : State) : Reach [.encoders] s (measureReadOp s).1 :=   (Move.encoders (fun m => { m with encoders := m.encoders.map Encoder.restartHistory }) s rfl).reach

/-! ### Requests of the road, the arms, the zones and the locks -/

theorem clearObstructions_reach (s : State) : Reach [.arms] s (clearObstructions s) :=
  reach_foldl (fun t a => onArm_reach a _ t (by simp [Arm.moving])) allArms s

theorem captureTimings_reach (s : State) : Reach [.rcs] s (captureTimings s) := by
  unfold captureTimings
  repeat' (first
    | with_reducible exact Reach.refl _
    | with_reducible apply Reach.comp (onRcs_reach _ _)
    | decide)

theorem beginClosure_reach (s : State) : Reach [.latched, .arms, .strokes, .rcs, .proving] s (beginClosure s) := by
  unfold beginClosure
  repeat' (first
    | with_reducible exact Reach.refl _
    | with_reducible apply Reach.comp (setRoad_reach ..)
    | with_reducible apply Reach.comp (setStep_reach ..)
    | with_reducible apply Reach.comp (reviewDeck_reach ..)
    | with_reducible apply Reach.comp (clearObstructions_reach ..)
    | with_reducible apply Reach.comp (captureTimings_reach ..)
    | decide)

theorem closeRoadOp_reach (s : State) : Reach [.latched, .arms, .strokes, .rcs, .proving] s (closeRoadOp s).1 := by
  unfold closeRoadOp
  dsimp only
  repeat' (first
    | with_reducible exact Reach.refl _
    | with_reducible apply Reach.comp (beginClosure_reach ..)
    | dsimp only
    | split
    | decide)

theorem beginReopening_reach (s : State) :
    Reach [.latched, .arms, .strokes, .rcs, .proving] s (beginReopening s) := by
  unfold beginReopening
  dsimp only
  repeat' (first
    | with_reducible exact Reach.refl _
    | with_reducible apply Reach.comp (onRcs_reach _ _)
    | with_reducible apply Reach.comp (commandRaises_reach ..)
    | with_reducible apply Reach.comp (setRoad_reach ..)
    | with_reducible apply Reach.comp (setStep_reach ..)
    | with_reducible apply Reach.comp (testReopening_reach ..)
    | decide)

theorem openRoadOp_reach (s : State) : Reach [.latched, .arms, .strokes, .rcs, .proving] s (openRoadOp s).1 := by
  unfold openRoadOp
  repeat' (first
    | with_reducible exact Reach.refl _
    | with_reducible apply Reach.comp (beginReopening_reach ..)
    | dsimp only
    | split
    | decide)

theorem roadReadOp_reach (s : State) : Reach [.zones] s (roadReadOp s).1 :=   (Move.zones (fun b => { b with zones := b.zones.map fun z => { z with occupiedSinceRead := false } }) s
    fun _ => rfl).reach

theorem retryArm_reach (a : Fin 8) (s : State) :
    Reach [.latched, .arms, .strokes, .rcs, .pumps, .locks, .leaf, .motion, .proving] s (retryArm a s).1 := by
  have k (t : State) (h : Reach [.latched, .arms, .strokes] s t) : Reach [.latched, .arms, .strokes, .rcs, .pumps, .locks, .leaf, .motion, .proving] s (reportArm a t) :=
    (reportArm_reach a t).comp (by decide) (h.mono (by decide))
  unfold retryArm
  repeat' (first
    | with_reducible exact Reach.refl _
    | split
    | dsimp only
    | exact k _ (startLowering_reach a .commanded s)
    | exact k _ (startRaising_reach a .commanded s (.inl (by decide))))

theorem armRetryOp_reach (arm : Byte) (s : State) :
    Reach [.latched, .arms, .strokes, .rcs, .pumps, .locks, .leaf, .motion, .proving] s (armRetryOp arm s).1 := by
  unfold armRetryOp
  repeat' (first
    | with_reducible exact Reach.refl _
    | with_reducible apply Reach.comp (retryArm_reach ..)
    | dsimp only
    | split
    | decide)

/-- An arm's record derived from its limits is at rest. -/
theorem derivedArm_moving (a : Fin 8) (s : State) : (s.derivedArm a).moving = false := by
  unfold State.derivedArm stateOfLimits
  dsimp only
  split <;> rfl

theorem serviceOut_reach (a : Fin 8) (s : State) :
    Reach [.latched, .arms, .strokes, .rcs, .pumps, .locks, .leaf, .motion, .proving] s (serviceOut a s).1 := by
  unfold serviceOut
  repeat' (first
    | with_reducible exact Reach.refl _
    | split
    | dsimp only
    | exact (reportArm_reach _ _).comp (by decide)
        ((onArm_reach _ _ _ (by simp [Arm.cleared, Arm.moving])).mono (by decide)))

theorem serviceReturn_reach (a : Fin 8) (s : State) :
    Reach [.latched, .arms, .strokes, .rcs, .pumps, .locks, .leaf, .motion, .proving] s (serviceReturn a s).1 := by
  unfold serviceReturn
  repeat' (first
    | with_reducible exact Reach.refl _
    | split
    | dsimp only
    | exact (reportArm_reach _ _).comp (by decide) ((latchIf_reach _ _ _).comp (by decide)
        ((onArm_reach _ _ _ (by simp [derivedArm_moving])).mono (by decide))))

theorem armServiceOp_reach (arm action : Byte) (s : State) :
    Reach [.latched, .arms, .strokes, .rcs, .pumps, .locks, .leaf, .motion, .proving]
      s (armServiceOp arm action s).1 := by
  unfold armServiceOp
  repeat' (first
    | with_reducible exact Reach.refl _
    | with_reducible apply Reach.comp (serviceOut_reach ..)
    | with_reducible apply Reach.comp (serviceReturn_reach ..)
    | dsimp only
    | split
    | decide)

theorem bypassZone_reach (z : Fin 6) (mark : Bool) (s : State) :
    Reach [.latched, .arms, .strokes, .zones, .rcs, .proving] s (bypassZone z mark s).1 := by
  unfold bypassZone
  dsimp only
  repeat' (first
    | with_reducible exact Reach.refl _
    | with_reducible apply Reach.comp (setBypass_reach ..)
    | dsimp only
    | decide)

theorem zoneBypassOp_reach (zone action : Byte) (s : State) :
    Reach [.latched, .arms, .strokes, .zones, .rcs, .proving] s (zoneBypassOp zone action s).1 := by
  unfold zoneBypassOp
  dsimp only
  repeat' (first
    | with_reducible exact Reach.refl _
    | with_reducible apply Reach.comp (bypassZone_reach ..)
    | dsimp only
    | split
    | decide)

theorem lockRetryOp_reach (s : State) : Reach [.latched, .bolts, .drives, .locks, .leaf] s (lockRetryOp s).1 := by
  unfold lockRetryOp
  repeat' (first
    | with_reducible exact Reach.refl _
    | split
    | dsimp only
    | exact (reportBolt_reach _).comp (by decide) ((reach_foldl retryBolt_reach _ s).mono (by decide)))

theorem requestPump_reach (s : State) (g : Leaf) :
    Reach [.latched, .bolts, .drives, .pumps, .locks, .leaf, .fall, .motion] s (requestPump s g) := by
  unfold requestPump
  repeat' (first
    | with_reducible exact Reach.refl _
    | with_reducible apply Reach.comp (startPump_reach ..)
    | with_reducible apply Reach.comp (reportPump_reach ..)
    | split
    | decide)

theorem pumpsStartOp_reach (s : State) :
    Reach [.latched, .bolts, .drives, .pumps, .locks, .leaf, .fall, .motion] s (pumpsStartOp s).1 := by
  unfold pumpsStartOp
  dsimp only
  repeat' (first
    | with_reducible exact Reach.refl _
    | with_reducible apply Reach.comp (requestPump_reach ..)
    | dsimp only
    | split
    | decide)

theorem pumpsStopOp_reach (s : State) :
    Reach [.latched, .bolts, .drives, .pumps, .locks, .leaf, .fall, .motion] s (pumpsStopOp s).1 := by
  unfold pumpsStopOp
  dsimp only
  repeat' (first
    | with_reducible exact Reach.refl _
    | with_reducible apply Reach.comp (stopAndTell_reach ..)
    | dsimp only
    | split
    | decide)

/-! ### Requests of the vessels, the queues and the channel -/

theorem learnInto_reach (k : Fin 32) (identity : Word) (d : Side) (air : Option Nat) (s : State) :
    Reach [.vt] s (learnInto k identity d air s) := by
  unfold learnInto
  repeat' (first
    | with_reducible exact Reach.refl _
    | with_reducible apply Reach.comp (setSlot_reach ..)
    | with_reducible apply Reach.comp (countChange_reach ..)
    | decide)

theorem learnVessel_reach {identity : Word} {d : Side} {air : Option Nat} {s t : State} {k : Fin 32} {how : Learned}
    (h : learnVessel identity d air s = some (t, k, how)) : Reach [.vt] s t := by
  unfold learnVessel at h
  split at h
  · cases h; exact learnInto_reach ..
  · split at h
    · cases h; exact (onVt_reach _ _).comp (by decide) (learnInto_reach ..)
    · cases h

theorem vesselReportOp_reach (identity : Word) (side : Byte) (air : Half) (s : State) :
    Reach [.vt] s (vesselReportOp identity side air s).1 := by
  unfold vesselReportOp
  repeat' (first
    | with_reducible exact Reach.refl _
    | split
    | dsimp only
    | exact onVessel_reach ..)
  next h => exact learnVessel_reach h

theorem removeVessel_reach (k : Fin 32) (s : State) : Reach [.vt, .queues] s (removeVessel k s) := by
  unfold removeVessel
  repeat' (first
    | with_reducible exact Reach.refl _
    | with_reducible apply Reach.comp (setSlot_reach ..)
    | with_reducible apply Reach.comp (countChange_reach ..)
    | with_reducible apply Reach.comp (leaveQueue_reach ..)
    | decide)

theorem ageSlot_reach (s : State) (k : Fin 32) : Reach [.latched, .vt, .queues] s (ageSlot s k) := by
  unfold ageSlot
  repeat' (first
    | with_reducible exact Reach.refl _
    | with_reducible apply Reach.comp (latch_reach _ _)
    | with_reducible apply Reach.comp (onVt_reach _ _)
    | with_reducible apply Reach.comp (setSlot_reach ..)
    | with_reducible apply Reach.comp (removeVessel_reach ..)
    | split
    | decide)

theorem endEpoch_reach (s : State) : Reach [.latched, .vt, .queues] s (endEpoch s) := reach_foldl ageSlot_reach allSlots s

theorem vesselClearOp_reach (mask : Byte) (s : State) :
    Reach [.latched, .vt, .queues] s (vesselClearOp mask s).1 := by
  unfold vesselClearOp
  repeat' (first
    | with_reducible exact Reach.refl _
    | split
    | dsimp only
    | exact (latchIf_reach _ _ _).comp (by decide)
        ((reach_foldl (fun t k => removeVessel_reach k t) _ s).mono (by decide)))

theorem vesselReadOp_reach (cursor : Byte) (s : State) : Reach [.vt] s (vesselReadOp cursor s).1 := by
  unfold vesselReadOp
  dsimp only
  repeat' (first
    | with_reducible exact Reach.refl _
    | with_reducible apply Reach.comp (onVt_reach _ _)
    | dsimp only
    | split
    | decide)

theorem displace_reach {d : Side} {cls : Fin 4} {s t : State} {old : Word} (h : displace d cls s = some (t, old)) :
    Reach [.latched, .vt, .queues, .psc] s t := by
  unfold displace at h
  split at h
  · split at h
    · cases h
      exact (latch_reach _ _).comp (by decide) ((onPsc_reach _ _ (by intro _; exact ⟨rfl, rfl⟩)).comp (by decide)
        ((setVesselState_reach ..).comp (by decide) ((leaveQueue_reach ..).mono (by decide))))
    · cases h
  · cases h

theorem appendJoin_reach (k : Fin 32) (d : Side) (cls : Fin 4) (air : Option Nat) (s : State) :
    Reach [.vt, .joins, .psc] s (appendJoin k d cls air s) :=   (onVessel_reach ..).comp (by decide) ((Move.join _ _ _).reach.comp (by decide)
    ((onPsc_reach _ s (by intro _; exact ⟨rfl, rfl⟩)).mono (by decide)))

theorem extendBatch_reach (k : Fin 32) (d : Side) (s : State) :
    Reach [.latched, .motion, .vt, .queues, .batch, .turns] s (extendBatch k d s) := by
  unfold extendBatch
  dsimp only
  repeat' (first
    | with_reducible exact Reach.refl _
    | with_reducible apply Reach.comp (latch_reach _ _)
    | with_reducible apply Reach.comp (latchIf_reach _ _ _)
    | with_reducible apply Reach.comp (onBatch_reach _ _)
    | with_reducible apply Reach.comp (setVesselState_reach ..)
    | with_reducible apply Reach.comp (markCalled_reach ..)
    | with_reducible apply Reach.comp (reviewItems_reach ..)
    | with_reducible apply Reach.comp (reportExtension_reach ..)
    | split
    | decide)

theorem completeJoin_reach (k : Fin 32) (d : Side) (cls : Fin 4) (air : Option Nat) (how : Learned) (displaced : Word) (s : State) :
    Reach [.latched, .motion, .vt, .queues, .joins, .psc, .batch, .turns]
      s (completeJoin k d cls air how displaced s).1 := by
  unfold completeJoin
  dsimp only
  repeat' (first
    | with_reducible exact Reach.refl _
    | with_reducible apply Reach.comp (appendJoin_reach ..)
    | with_reducible apply Reach.comp (extendBatch_reach ..)
    | dsimp only
    | split
    | decide)

theorem queueJoin_reach (k : Fin 32) (d : Side) (cls : Fin 4) (air : Option Nat) (how : Learned) (s : State) :
    Reach [.latched, .motion, .vt, .queues, .joins, .psc, .batch, .turns] s (queueJoin k d cls air how s).1 := by
  have c (old : Word) (t : State) : Reach [.latched, .motion, .vt, .queues, .joins, .psc, .batch, .turns] t
      (completeJoin k d cls air how old t).1 := (completeJoin_reach k d cls air how old t).mono (by decide)
  unfold queueJoin
  repeat' (first
    | with_reducible exact Reach.refl _
    | split
    | dsimp only
    | exact c _ _
    | exact (onPsc_reach _ s (by intro _; exact ⟨rfl, rfl⟩)).mono (by decide))
  all_goals exact ((displace_reach (by assumption)).mono (by decide)).trans (c _ _)

theorem joinOp_reach (identity : Word) (side cls : Byte) (air : Half) (s : State) :
    Reach [.latched, .motion, .vt, .queues, .joins, .psc, .batch, .turns] s (joinOp identity side cls air s).1 := by
  unfold joinOp
  split
  · exact .refl s
  · split
    · exact .refl s
    · split
      · split
        · exact queueJoin_reach ..
        · split
          · next h => exact ((learnVessel_reach h).mono (by decide)).trans (queueJoin_reach ..)
          · exact .refl s
      · exact .refl s

theorem withdrawCalled_reach (k : Fin 32) (s : State) :
    Reach [.latched, .locks, .vt, .queues, .batch, .turns] s (withdrawCalled k s) := by
  unfold withdrawCalled
  dsimp only
  repeat' (first
    | with_reducible exact Reach.refl _
    | with_reducible apply Reach.comp (onBatch_reach _ _)
    | with_reducible apply Reach.comp (setVesselState_reach ..)
    | with_reducible apply Reach.comp (leaveQueue_reach ..)
    | with_reducible apply Reach.comp (setOutcome_reach ..)
    | with_reducible apply Reach.comp (reviewItems_reach ..)
    | with_reducible apply Reach.comp (testBatchEnd_reach ..)
    | decide)

theorem withdrawOp_reach (identity : Word) (s : State) :
    Reach [.latched, .locks, .vt, .queues, .batch, .turns] s (withdrawOp identity s).1 := by
  unfold withdrawOp
  dsimp only
  repeat' (first
    | with_reducible exact Reach.refl _
    | with_reducible apply Reach.comp (setVesselState_reach ..)
    | with_reducible apply Reach.comp (leaveQueue_reach ..)
    | with_reducible apply Reach.comp (withdrawCalled_reach ..)
    | dsimp only
    | split
    | decide)

theorem classFloorOp_reach (floor : Byte) (s : State) : Reach [.psc] s (classFloorOp floor s).1 := by
  unfold classFloorOp
  repeat' (first
    | with_reducible exact Reach.refl _
    | with_reducible apply Reach.comp (onPsc_reach _ _ ?_)
    | dsimp only
    | split
    | decide
    | (intro _; exact ⟨rfl, rfl⟩))

theorem tideOp_reach (level : Half) (s : State) : Reach [.latched, .psc] s (tideOp level s).1 := by
  unfold tideOp
  dsimp only
  repeat' (first
    | with_reducible exact Reach.refl _
    | with_reducible apply Reach.comp (onPsc_reach _ _ ?_)
    | with_reducible apply Reach.comp (reviewTide_reach ..)
    | dsimp only
    | decide
    | (intro _; exact ⟨rfl, rfl⟩))

theorem callItem_reach (s : State) (i : Item) : Reach [.vt, .queues] s (callItem s i) := by
  unfold callItem
  repeat' (first
    | with_reducible exact Reach.refl _
    | with_reducible apply Reach.comp (setVesselState_reach ..)
    | with_reducible apply Reach.comp (markCalled_reach ..)
    | decide)

/-- A batch forms with the leaves at their seat, where a pump report tells the LMC nothing. -/
theorem formBatch_reach (lead : Side) (s : State) (h : s.lmc.leaf = .seatedLocked) :
    Reach [.latched, .pumps, .locks, .vt, .queues, .batch, .turns] s (formBatch lead s) := by
  unfold formBatch
  dsimp only
  generalize hu : (setBatchState .formed _ : State) = u
  have hs : u.psc.batch.state = .formed := by
    rw [← hu]
    exact congrArg (·.batch.state) ((latch_reach _ _).same (g := State.psc) (fun _ _ _ m => m.psc_eq) (by decide) |>.trans
      ((standbyEdge_reach _ _).same (g := State.psc) (fun _ _ _ m => m.psc_eq) (by decide)))
  have hr : Reach [.latched, .locks, .vt, .queues, .batch] s u := by
    rw [← hu]
    exact (setBatchState_reach _ _).comp (by decide) ((onBatch_reach _ _).comp (by decide)
      ((reach_foldl callItem_reach _ _).comp (by decide) ((latchIf_reach _ _ _).mono (by decide))))
  have hl : (orderPumps u).lmc = s.lmc := (orderPumps_reach u |>.same (g := State.lmc) (fun _ _ _ m => m.lmc_eq)
    (by decide)).trans (hr.same (g := State.lmc) (fun _ _ _ m => m.lmc_eq) (by decide))
  have hp : reportPump (orderPumps u) = orderPumps u := by unfold reportPump; rw [hl, h]
  rw [hp]
  refine (Move.formed _ ?_).reach.comp (by decide) ((orderPumps_reach u).comp (by decide) (hr.mono (by decide)))
  rw [(orderPumps_reach u).same (g := State.psc) (fun _ _ _ m => m.psc_eq) (by decide)]
  exact hs

theorem formBatchOp_reach (s : State) :
    Reach [.latched, .pumps, .locks, .vt, .queues, .batch, .turns] s (formBatchOp s).1 := by
  unfold formBatchOp
  split
  · exact .refl s
  · split
    · exact .refl s
    · next h =>
      split
      · exact .refl s
      · dsimp only
        exact formBatch_reach _ s (by simpa using h)

theorem abandonBatchOp_reach (s : State) :
    Reach [.latched, .locks, .vt, .queues, .batch, .turns] s (abandonBatchOp s).1 := by
  unfold abandonBatchOp
  dsimp only
  repeat' (first
    | with_reducible exact Reach.refl _
    | with_reducible apply Reach.comp (enterClosing_reach ..)
    | dsimp only
    | split
    | decide)

theorem queueReadOp_reach (side cls : Byte) (s : State) : Reach [.psc] s (queueReadOp side cls s).1 := by
  unfold queueReadOp
  repeat' (first
    | with_reducible exact Reach.refl _
    | split
    | dsimp only
    | exact onPsc_reach _ s fun _ => ⟨rfl, rfl⟩)

theorem countViolation_reach (d : Side) (s : State) : Reach [.latched, .csu] s (countViolation d s) := by
  unfold countViolation
  repeat' (first
    | with_reducible exact Reach.refl _
    | with_reducible apply Reach.comp (latch_reach _ _)
    | with_reducible apply Reach.comp (onCsu_reach _ _ ?_)
    | split
    | decide
    | (intro _; exact ⟨rfl, rfl, rfl⟩))

theorem passItem_reach (i : Item) (s : State) :
    Reach [.latched, .locks, .vt, .queues, .batch, .csu, .turns] s (passItem i s) := by
  unfold passItem
  dsimp only
  repeat' (first
    | with_reducible exact Reach.refl _
    | with_reducible apply Reach.comp (onBatch_reach _ _)
    | with_reducible apply Reach.comp (onTurn_reach _ _ _)
    | with_reducible apply Reach.comp (onVessel_reach ..)
    | with_reducible apply Reach.comp (leaveQueue_reach ..)
    | with_reducible apply Reach.comp (setOutcome_reach ..)
    | with_reducible apply Reach.comp (reviewItems_reach ..)
    | with_reducible apply Reach.comp (testBatchEnd_reach ..)
    | with_reducible apply Reach.comp (countViolation_reach ..)
    | decide)

theorem vesselPassedOp_reach (identity : Word) (s : State) :
    Reach [.latched, .locks, .vt, .queues, .batch, .csu, .turns] s (vesselPassedOp identity s).1 := by
  unfold vesselPassedOp
  repeat' (first
    | with_reducible exact Reach.refl _
    | split
    | dsimp only
    | exact passItem_reach _ s)

theorem channelReadOp_reach (s : State) : Reach [.csu] s (channelReadOp s).1 := by
  unfold channelReadOp
  repeat' (first
    | with_reducible exact Reach.refl _
    | with_reducible apply Reach.comp (onCsu_reach _ _ ?_)
    | dsimp only
    | decide
    | (intro _; exact ⟨rfl, rfl, rfl⟩))

theorem circuitTestOp_reach (c : Byte) (s : State) : Reach [.proving] s (circuitTestOp c s).1 := by
  unfold circuitTestOp
  repeat' (first
    | with_reducible exact Reach.refl _
    | split
    | dsimp only
    | exact submitProving_reach _ s)

theorem circuitReadOp_reach (s : State) : Reach [.circuits] s (circuitReadOp s).1 :=   (Move.circuits (fun p => { p with circuits := p.circuits.map fun c => { c with failedSinceRead := c.failed } }) s
    fun _ => rfl).reach

theorem healthSetOp_reach (actuator value : Byte) (s : State) :
    Reach [.latched, .health] s (healthSetOp actuator value s).1 := by
  unfold healthSetOp
  split
  · exact (evaluateWorn_reach _ _).comp (by decide)
      ((onHealth_reach _ _ s fun _ _ => by dsimp only; omega).mono (by decide))
  · exact .refl s

end Sys2Proof.Machine
end

