-- ==== Sys2Proof/Laws/Requests.lean ====
section
/-! SUPPORT. What a request does once, for every request row: served where the link takes it and the tests of R20 pass,
refused by the first test that fails, an overrun or nothing where the link does not take it. -/

namespace Sys2Proof.Machine

variable {s : State} {q : Request} {op : State → State × Verdict}

/-- A request that is taken and admitted is decided by its owner and answered. -/
theorem serve_allows (h : s.allows q) : serve q op s = answer q.code (op s) := by
  unfold serve; rw [if_pos h.1, h.2]

/-- A request that is taken and fails a test of R20 is refused with that test's reason. -/
theorem serve_refuses {r : Reason} (h : s.taking = true) (hr : admission q s = some r) :
    serve q op s = answer q.code (latchIf (decide (r = .expired)) .authority s, .refused r 0) := by
  unfold serve; rw [if_pos h, hr]

/-- A request that is not taken is an overrun while a reply is pending, and nothing otherwise. -/
theorem serve_untaken (h : s.taking = false) :
    serve q op s = if s.running && s.cl.reply.isSome then overrun s else s := by
  unfold serve; rw [if_neg (by simp [h])]

/-- A request at VIEW passes every test of R20. -/
theorem allows_view (h : s.taking = true) (code : Nat) : s.allows (viewRequest code) :=
  ⟨h, by simp [admission, viewRequest, Level.code]⟩

/-- What a taken link says of the part. -/
theorem taking_iff : s.taking = true ↔ s.running = true ∧ s.cl.reply = none ∧ s.apu.restart = false := by
  simp [State.taking, and_assoc]

/-- Building a reply changes the pending reply alone. -/
theorem answer_eq (code : Nat) (r : State × Verdict) :
    answer code r = { r.1 with cl := { r.1.cl with reply := some (replyBody code r.1 r.2) } } := rfl

/-- Latching a condition sets its bit alone. -/
theorem latch_eq (c : Condition) (s : State) :
    latch c s = { s with cl := { s.cl with latched := s.cl.latched ||| c.bit } } := rfl

theorem exec_identify (h : s.taking = true) :
    exec .identify s = .next (answer 0x01 (identifyOp s)) := congrArg _ (serve_allows (allows_view h _))
theorem exec_status (h : s.taking = true) :
    exec .status s = .next (answer 0x02 (statusOp s)) := congrArg _ (serve_allows (allows_view h _))
theorem exec_counters (h : s.taking = true) :
    exec .counters s = .next (answer 0x03 (countersOp s)) := congrArg _ (serve_allows (allows_view h _))
theorem exec_logon {level : Byte} {code : Word} (h : s.allows (logonRequest)) :
    exec (.logon level code) s = .next (answer 0x10 (logonOp level code s)) := congrArg _ (serve_allows h)
theorem exec_logoff (h : s.taking = true) :
    exec .logoff s = .next (answer 0x11 (logoffOp s)) := congrArg _ (serve_allows (allows_view h _))
theorem exec_freeze (h : s.allows (maintainRequest 0x12)) :
    exec .freeze s = .next (answer 0x12 (freezeOp s)) := congrArg _ (serve_allows h)
theorem exec_paramRead {start count : Byte} (h : s.taking = true) :
    exec (.paramRead start count) s = .next (answer 0x13 (paramReadOp start count s)) := congrArg _ (serve_allows (allows_view h _))
theorem exec_paramWrite {start : Byte} {values : List Word} (h : s.allows (tableRequest 0x14)) :
    exec (.paramWrite start values) s = .next (answer 0x14 (paramWriteOp start values s)) := congrArg _ (serve_allows h)
theorem exec_paramCommit (h : s.allows (tableRequest 0x15)) :
    exec .paramCommit s = .next (answer 0x15 (paramCommitOp s)) := congrArg _ (serve_allows h)
theorem exec_paramDefaults (h : s.allows (tableRequest 0x16)) :
    exec .paramDefaults s = .next (answer 0x16 (paramDefaultsOp s)) := congrArg _ (serve_allows h)
theorem exec_restart (h : s.allows (operateRequest 0x17)) :
    exec .restart s = .next (answer 0x17 (restartOp s)) := congrArg _ (serve_allows h)
theorem exec_closeRoad (h : s.allows (operateRequest 0x20)) :
    exec .closeRoad s = .next (answer 0x20 (closeRoadOp s)) := congrArg _ (serve_allows h)
theorem exec_openRoad (h : s.allows (operateRequest 0x21)) :
    exec .openRoad s = .next (answer 0x21 (openRoadOp s)) := congrArg _ (serve_allows h)
theorem exec_roadRead (h : s.taking = true) :
    exec .roadRead s = .next (answer 0x22 (roadReadOp s)) := congrArg _ (serve_allows (allows_view h _))
theorem exec_armRetry {arm : Byte} (h : s.allows (operateRequest 0x23)) :
    exec (.armRetry arm) s = .next (answer 0x23 (armRetryOp arm s)) := congrArg _ (serve_allows h)
theorem exec_armServiceOut {arm : Byte} (h : s.allows (serviceRequest 0x24)) :
    exec (.armServiceOut arm) s = .next (answer 0x24 (armServiceOp arm 1 s)) := congrArg _ (serve_allows h)
theorem exec_armServiceReturn {arm : Byte} (h : s.allows (serviceRequest 0x24)) :
    exec (.armServiceReturn arm) s = .next (answer 0x24 (armServiceOp arm 0 s)) := congrArg _ (serve_allows h)
theorem exec_zoneBypassSet {zone : Byte} (h : s.allows (serviceRequest 0x25)) :
    exec (.zoneBypassSet zone) s = .next (answer 0x25 (zoneBypassOp zone 1 s)) := congrArg _ (serve_allows h)
theorem exec_zoneBypassClear {zone : Byte} (h : s.allows (serviceRequest 0x25)) :
    exec (.zoneBypassClear zone) s = .next (answer 0x25 (zoneBypassOp zone 0 s)) := congrArg _ (serve_allows h)
theorem exec_pumpsStart (h : s.allows (operateRequest 0x30)) :
    exec .pumpsStart s = .next (answer 0x30 (pumpsStartOp s)) := congrArg _ (serve_allows h)
theorem exec_pumpsStop (h : s.allows (operateRequest 0x30)) :
    exec .pumpsStop s = .next (answer 0x30 (pumpsStopOp s)) := congrArg _ (serve_allows h)
theorem exec_lockRetry (h : s.allows (operateRequest 0x31)) :
    exec .lockRetry s = .next (answer 0x31 (lockRetryOp s)) := congrArg _ (serve_allows h)
theorem exec_raise (h : s.allows (operateRequest 0x32)) :
    exec .raise s = .next (answer 0x32 (raiseOp s)) := congrArg _ (serve_allows h)
theorem exec_raiseExplicit {target : Half} (h : s.allows (maintainRequest 0x32)) :
    exec (.raiseExplicit target) s = .next (answer 0x32 (raiseExplicitOp target s)) := congrArg _ (serve_allows h)
theorem exec_lower (h : s.allows (operateRequest 0x33)) :
    exec .lower s = .next (answer 0x33 (lowerOp s)) := congrArg _ (serve_allows h)
theorem exec_stop (h : s.taking = true) :
    exec .stop s = .next (answer 0x34 (stopOp s)) := congrArg _ (serve_allows (allows_view h _))
theorem exec_tripClear (h : s.allows (operateRequest 0x35)) :
    exec .tripClear s = .next (answer 0x35 (tripClearOp s)) := congrArg _ (serve_allows h)
theorem exec_leafRead (h : s.taking = true) :
    exec .leafRead s = .next (answer 0x36 (leafReadOp s)) := congrArg _ (serve_allows (allows_view h _))
theorem exec_measureRead (h : s.taking = true) :
    exec .measureRead s = .next (answer 0x37 (measureReadOp s)) := congrArg _ (serve_allows (allows_view h _))
theorem exec_vesselReport {identity : Word} {side : Byte} {air : Half} (h : s.allows (operateRequest 0x40)) :
    exec (.vesselReport identity side air) s = .next (answer 0x40 (vesselReportOp identity side air s)) := congrArg _ (serve_allows h)
theorem exec_vesselRead {cursor : Byte} (h : s.taking = true) :
    exec (.vesselRead cursor) s = .next (answer 0x41 (vesselReadOp cursor s)) := congrArg _ (serve_allows (allows_view h _))
theorem exec_vesselClear {mask : Byte} (h : s.allows (operateRequest 0x42)) :
    exec (.vesselClear mask) s = .next (answer 0x42 (vesselClearOp mask s)) := congrArg _ (serve_allows h)
theorem exec_join {identity : Word} {side cls : Byte} {air : Half} (h : s.allows (operateRequest 0x50)) :
    exec (.join identity side cls air) s = .next (answer 0x50 (joinOp identity side cls air s)) := congrArg _ (serve_allows h)
theorem exec_withdraw {identity : Word} (h : s.allows (operateRequest 0x51)) :
    exec (.withdraw identity) s = .next (answer 0x51 (withdrawOp identity s)) := congrArg _ (serve_allows h)
theorem exec_classFloor {floor : Byte} (h : s.allows (operateRequest 0x52)) :
    exec (.classFloor floor) s = .next (answer 0x52 (classFloorOp floor s)) := congrArg _ (serve_allows h)
theorem exec_tide {level : Half} (h : s.allows (operateRequest 0x53)) :
    exec (.tide level) s = .next (answer 0x53 (tideOp level s)) := congrArg _ (serve_allows h)
theorem exec_formBatch (h : s.allows (operateRequest 0x54)) :
    exec .formBatch s = .next (answer 0x54 (formBatchOp s)) := congrArg _ (serve_allows h)
theorem exec_abandonBatch (h : s.allows (operateRequest 0x55)) :
    exec .abandonBatch s = .next (answer 0x55 (abandonBatchOp s)) := congrArg _ (serve_allows h)
theorem exec_queueRead {side cls : Byte} (h : s.taking = true) :
    exec (.queueRead side cls) s = .next (answer 0x56 (queueReadOp side cls s)) := congrArg _ (serve_allows (allows_view h _))
theorem exec_batchRead (h : s.taking = true) :
    exec .batchRead s = .next (answer 0x57 (batchReadOp s)) := congrArg _ (serve_allows (allows_view h _))
theorem exec_vesselPassed {identity : Word} (h : s.allows (operateRequest 0x60)) :
    exec (.vesselPassed identity) s = .next (answer 0x60 (vesselPassedOp identity s)) := congrArg _ (serve_allows h)
theorem exec_channelRead (h : s.taking = true) :
    exec .channelRead s = .next (answer 0x61 (channelReadOp s)) := congrArg _ (serve_allows (allows_view h _))
theorem exec_circuitRead (h : s.taking = true) :
    exec .circuitRead s = .next (answer 0x70 (circuitReadOp s)) := congrArg _ (serve_allows (allows_view h _))
theorem exec_circuitTest {circuit : Byte} (h : s.allows (maintainRequest 0x71)) :
    exec (.circuitTest circuit) s = .next (answer 0x71 (circuitTestOp circuit s)) := congrArg _ (serve_allows h)
theorem exec_healthRead (h : s.taking = true) :
    exec .healthRead s = .next (answer 0x72 (healthReadOp s)) := congrArg _ (serve_allows (allows_view h _))
theorem exec_healthSet {actuator value : Byte} (h : s.allows (maintainRequest 0x73)) :
    exec (.healthSet actuator value) s = .next (answer 0x73 (healthSetOp actuator value s)) := congrArg _ (serve_allows h)

end Sys2Proof.Machine
end

