-- ==== Sys2Proof/Laws/Runs.lean ====
section
/-! SUPPORT. What each command that is no reset can do, and what a tick can do: the kinds of move they are made of
(Moves.lean), from the lemmas about the shared operations (Reach.lean). -/

namespace Sys2Proof.Machine

/-! ### Requests -/

theorem answer_reach (code : Nat) (r : State × Verdict) : Reach [.link] r.1 (answer code r) :=
  onCl_reach _ _ fun _ => rfl

theorem overrun_reach (s : State) : Reach [.latched, .link] s (overrun s) :=
  (latch_reach _ _).comp (by decide) ((onCl_reach _ _ (by intro _; rfl)).mono (by decide))

/-- A request makes its owner's moves, where the link takes it, and those of the link. -/
theorem serve_reach {A : List Part} (q : Request) (op : State → State × Verdict) (s : State)
    (h : s.taking = true → Reach A s (op s).1) (hA : [.latched, .link] ⊆ A) : Reach A s (serve q op s) := by
  have hl : [Part.link] ⊆ A := fun p hp => hA (List.mem_cons_of_mem _ hp)
  have ha : [Part.latched] ⊆ A := fun p hp => hA (by simp_all)
  unfold serve
  split
  · next t =>
    split
    · exact (answer_reach _ _).comp hl ((latchIf_reach _ _ _).mono ha)
    · exact (answer_reach _ _).comp hl (h t)
  · split
    · exact (overrun_reach s).mono hA
    · exact .refl s

theorem taking_restart {s : State} (h : s.taking = true) : s.apu.restart = false := (taking_iff.mp h).2.2

theorem serveIdentify_reach (s : State) : Reach [.latched, .link] s (serveIdentify s) :=
  serve_reach _ _ s (fun _ => (identifyOp_reach ..).mono (by decide)) (by decide)

theorem serveStatus_reach (s : State) : Reach [.latched, .cleared, .link] s (serveStatus s) :=
  serve_reach _ _ s (fun _ => (statusOp_reach ..).mono (by decide)) (by decide)

theorem serveCounters_reach (s : State) : Reach [.latched, .link] s (serveCounters s) :=
  serve_reach _ _ s (fun _ => (countersOp_reach ..).mono (by decide)) (by decide)

theorem serveLogon_reach (level : Byte) (code : Word) (s : State) :
    Reach [.latched, .link, .apu] s (serveLogon level code s) :=
  serve_reach _ _ s (fun _ => (logonOp_reach ..).mono (by decide)) (by decide)

theorem serveLogoff_reach (s : State) : Reach [.latched, .link, .apu] s (serveLogoff s) :=
  serve_reach _ _ s (fun _ => (logoffOp_reach ..).mono (by decide)) (by decide)

theorem serveFreeze_reach (s : State) : Reach [.latched, .link, .apu] s (serveFreeze s) :=
  serve_reach _ _ s (fun _ => (freezeOp_reach ..).mono (by decide)) (by decide)

theorem serveParamRead_reach (start count : Byte) (s : State) :
    Reach [.latched, .link] s (serveParamRead start count s) :=
  serve_reach _ _ s (fun _ => (paramReadOp_reach ..).mono (by decide)) (by decide)

theorem serveParamWrite_reach (start : Byte) (values : List Word) (s : State) :
    Reach [.latched, .link, .table, .bolts, .drives, .pumps, .locks, .leaf, .fall, .motion, .wind, .vt, .queues, .psc, .batch, .csu, .turns, .health]
      s (serveParamWrite start values s) :=
  serve_reach _ _ s (fun _ => (paramWriteOp_reach ..).mono (by decide)) (by decide)

theorem serveParamCommit_reach (s : State) : Reach [.latched, .link, .commit] s (serveParamCommit s) :=
  serve_reach _ _ s (fun h => (paramCommitOp_reach s (taking_restart h)).mono (by decide)) (by decide)

theorem serveParamDefaults_reach (s : State) :
    Reach [.latched, .link, .apu, .table, .bolts, .drives, .pumps, .locks, .leaf, .fall, .motion, .wind, .vt, .queues, .psc, .batch, .csu, .turns, .health]
      s (serveParamDefaults s) :=
  serve_reach _ _ s (fun _ => (paramDefaultsOp_reach ..).mono (by decide)) (by decide)

theorem serveRestart_reach (s : State) :
    Reach [.latched, .link, .restart, .pumps, .locks, .leaf, .motion] s (serveRestart s) :=
  serve_reach _ _ s (fun _ => (restartOp_reach ..).mono (by decide)) (by decide)

theorem serveCloseRoad_reach (s : State) :
    Reach [.latched, .link, .arms, .strokes, .rcs, .proving] s (serveCloseRoad s) :=
  serve_reach _ _ s (fun _ => (closeRoadOp_reach ..).mono (by decide)) (by decide)

theorem serveOpenRoad_reach (s : State) :
    Reach [.latched, .link, .arms, .strokes, .rcs, .proving] s (serveOpenRoad s) :=
  serve_reach _ _ s (fun _ => (openRoadOp_reach ..).mono (by decide)) (by decide)

theorem serveRoadRead_reach (s : State) : Reach [.latched, .link, .zones] s (serveRoadRead s) :=
  serve_reach _ _ s (fun _ => (roadReadOp_reach ..).mono (by decide)) (by decide)

theorem serveArmRetry_reach (arm : Byte) (s : State) :
    Reach [.latched, .link, .arms, .strokes, .rcs, .pumps, .locks, .leaf, .motion, .proving]
      s (serveArmRetry arm s) :=
  serve_reach _ _ s (fun _ => (armRetryOp_reach ..).mono (by decide)) (by decide)

theorem serveArmServiceOut_reach (arm : Byte) (s : State) :
    Reach [.latched, .link, .arms, .strokes, .rcs, .pumps, .locks, .leaf, .motion, .proving]
      s (serveArmServiceOut arm s) :=
  serve_reach _ _ s (fun _ => (armServiceOp_reach ..).mono (by decide)) (by decide)

theorem serveArmServiceReturn_reach (arm : Byte) (s : State) :
    Reach [.latched, .link, .arms, .strokes, .rcs, .pumps, .locks, .leaf, .motion, .proving]
      s (serveArmServiceReturn arm s) :=
  serve_reach _ _ s (fun _ => (armServiceOp_reach ..).mono (by decide)) (by decide)

theorem serveZoneBypassSet_reach (zone : Byte) (s : State) :
    Reach [.latched, .link, .arms, .strokes, .zones, .rcs, .proving] s (serveZoneBypassSet zone s) :=
  serve_reach _ _ s (fun _ => (zoneBypassOp_reach ..).mono (by decide)) (by decide)

theorem serveZoneBypassClear_reach (zone : Byte) (s : State) :
    Reach [.latched, .link, .arms, .strokes, .zones, .rcs, .proving] s (serveZoneBypassClear zone s) :=
  serve_reach _ _ s (fun _ => (zoneBypassOp_reach ..).mono (by decide)) (by decide)

theorem servePumpsStart_reach (s : State) :
    Reach [.latched, .link, .bolts, .drives, .pumps, .locks, .leaf, .fall, .motion] s (servePumpsStart s) :=
  serve_reach _ _ s (fun _ => (pumpsStartOp_reach ..).mono (by decide)) (by decide)

theorem servePumpsStop_reach (s : State) :
    Reach [.latched, .link, .bolts, .drives, .pumps, .locks, .leaf, .fall, .motion] s (servePumpsStop s) :=
  serve_reach _ _ s (fun _ => (pumpsStopOp_reach ..).mono (by decide)) (by decide)

theorem serveLockRetry_reach (s : State) :
    Reach [.latched, .link, .bolts, .drives, .locks, .leaf] s (serveLockRetry s) :=
  serve_reach _ _ s (fun _ => (lockRetryOp_reach ..).mono (by decide)) (by decide)

theorem serveRaise_reach (s : State) :
    Reach [.latched, .link, .bolts, .drives, .pumps, .locks, .leaf, .motion] s (serveRaise s) :=
  serve_reach _ _ s (fun _ => (raiseOp_reach ..).mono (by decide)) (by decide)

theorem serveRaiseExplicit_reach (target : Half) (s : State) :
    Reach [.latched, .link, .bolts, .drives, .pumps, .locks, .leaf, .motion] s (serveRaiseExplicit target s) :=
  serve_reach _ _ s (fun _ => (raiseExplicitOp_reach ..).mono (by decide)) (by decide)

theorem serveLower_reach (s : State) :
    Reach [.latched, .link, .bolts, .drives, .locks, .leaf, .lower] s (serveLower s) :=
  serve_reach _ _ s (fun h => (lowerOp_reach s (taking_restart h)).mono (by decide)) (by decide)

theorem serveStop_reach (s : State) : Reach [.latched, .link, .pumps, .locks, .leaf, .motion] s (serveStop s) :=
  serve_reach _ _ s (fun _ => (stopOp_reach ..).mono (by decide)) (by decide)

theorem serveTripClear_reach (s : State) : Reach [.latched, .link, .locks, .leaf] s (serveTripClear s) :=
  serve_reach _ _ s (fun _ => (tripClearOp_reach ..).mono (by decide)) (by decide)

theorem serveLeafRead_reach (s : State) : Reach [.latched, .link] s (serveLeafRead s) :=
  serve_reach _ _ s (fun _ => (leafReadOp_reach ..).mono (by decide)) (by decide)

theorem serveMeasureRead_reach (s : State) : Reach [.latched, .link, .encoders] s (serveMeasureRead s) :=
  serve_reach _ _ s (fun _ => (measureReadOp_reach ..).mono (by decide)) (by decide)

theorem serveVesselReport_reach (identity : Word) (side : Byte) (air : Half) (s : State) :
    Reach [.latched, .link, .vt] s (serveVesselReport identity side air s) :=
  serve_reach _ _ s (fun _ => (vesselReportOp_reach ..).mono (by decide)) (by decide)

theorem serveVesselRead_reach (cursor : Byte) (s : State) :
    Reach [.latched, .link, .vt] s (serveVesselRead cursor s) :=
  serve_reach _ _ s (fun _ => (vesselReadOp_reach ..).mono (by decide)) (by decide)

theorem serveVesselClear_reach (mask : Byte) (s : State) :
    Reach [.latched, .link, .vt, .queues] s (serveVesselClear mask s) :=
  serve_reach _ _ s (fun _ => (vesselClearOp_reach ..).mono (by decide)) (by decide)

theorem serveJoin_reach (identity : Word) (side cls : Byte) (air : Half) (s : State) :
    Reach [.latched, .link, .motion, .vt, .queues, .joins, .psc, .batch, .turns]
      s (serveJoin identity side cls air s) :=
  serve_reach _ _ s (fun _ => (joinOp_reach ..).mono (by decide)) (by decide)

theorem serveWithdraw_reach (identity : Word) (s : State) :
    Reach [.latched, .link, .locks, .vt, .queues, .batch, .turns] s (serveWithdraw identity s) :=
  serve_reach _ _ s (fun _ => (withdrawOp_reach ..).mono (by decide)) (by decide)

theorem serveClassFloor_reach (floor : Byte) (s : State) :
    Reach [.latched, .link, .psc] s (serveClassFloor floor s) :=
  serve_reach _ _ s (fun _ => (classFloorOp_reach ..).mono (by decide)) (by decide)

theorem serveTide_reach (level : Half) (s : State) : Reach [.latched, .link, .psc] s (serveTide level s) :=
  serve_reach _ _ s (fun _ => (tideOp_reach ..).mono (by decide)) (by decide)

theorem serveFormBatch_reach (s : State) :
    Reach [.latched, .link, .pumps, .locks, .vt, .queues, .batch, .turns] s (serveFormBatch s) :=
  serve_reach _ _ s (fun _ => (formBatchOp_reach ..).mono (by decide)) (by decide)

theorem serveAbandonBatch_reach (s : State) :
    Reach [.latched, .link, .locks, .vt, .queues, .batch, .turns] s (serveAbandonBatch s) :=
  serve_reach _ _ s (fun _ => (abandonBatchOp_reach ..).mono (by decide)) (by decide)

theorem serveQueueRead_reach (side cls : Byte) (s : State) :
    Reach [.latched, .link, .psc] s (serveQueueRead side cls s) :=
  serve_reach _ _ s (fun _ => (queueReadOp_reach ..).mono (by decide)) (by decide)

theorem serveBatchRead_reach (s : State) : Reach [.latched, .link] s (serveBatchRead s) :=
  serve_reach _ _ s (fun _ => (batchReadOp_reach ..).mono (by decide)) (by decide)

theorem serveVesselPassed_reach (identity : Word) (s : State) :
    Reach [.latched, .link, .locks, .vt, .queues, .batch, .csu, .turns] s (serveVesselPassed identity s) :=
  serve_reach _ _ s (fun _ => (vesselPassedOp_reach ..).mono (by decide)) (by decide)

theorem serveChannelRead_reach (s : State) : Reach [.latched, .link, .csu] s (serveChannelRead s) :=
  serve_reach _ _ s (fun _ => (channelReadOp_reach ..).mono (by decide)) (by decide)

theorem serveCircuitRead_reach (s : State) : Reach [.latched, .link, .circuits] s (serveCircuitRead s) :=
  serve_reach _ _ s (fun _ => (circuitReadOp_reach ..).mono (by decide)) (by decide)

theorem serveCircuitTest_reach (circuit : Byte) (s : State) :
    Reach [.latched, .link, .proving] s (serveCircuitTest circuit s) :=
  serve_reach _ _ s (fun _ => (circuitTestOp_reach ..).mono (by decide)) (by decide)

theorem serveHealthRead_reach (s : State) : Reach [.latched, .link] s (serveHealthRead s) :=
  serve_reach _ _ s (fun _ => (healthReadOp_reach ..).mono (by decide)) (by decide)

theorem serveHealthSet_reach (actuator value : Byte) (s : State) :
    Reach [.latched, .link, .health] s (serveHealthSet actuator value s) :=
  serve_reach _ _ s (fun _ => (healthSetOp_reach ..).mono (by decide)) (by decide)

/-! ### The console line -/

/-- The kinds of move that requests are made of. -/
def requestKinds : List Part :=
  [.latched, .cleared, .link, .apu, .table, .commit, .restart, .arms, .strokes, .zones, .rcs, .bolts, .drives, .pumps, .locks, .leaf, .fall, .lower,
    .motion, .encoders, .wind, .vt, .queues, .joins, .psc, .batch, .csu, .turns, .proving, .circuits, .health]

theorem serveCommand_reach (i : Instr) (s : State) : Reach requestKinds s (serveCommand i s) := by
  unfold serveCommand
  split
  · exact (serveIdentify_reach ..).mono (by decide)
  · exact (serveStatus_reach ..).mono (by decide)
  · exact (serveCounters_reach ..).mono (by decide)
  · exact (serveLogon_reach ..).mono (by decide)
  · exact (serveLogoff_reach ..).mono (by decide)
  · exact (serveFreeze_reach ..).mono (by decide)
  · exact (serveParamRead_reach ..).mono (by decide)
  · exact (serveParamWrite_reach ..).mono (by decide)
  · exact (serveParamCommit_reach ..).mono (by decide)
  · exact (serveParamDefaults_reach ..).mono (by decide)
  · exact (serveRestart_reach ..).mono (by decide)
  · exact (serveCloseRoad_reach ..).mono (by decide)
  · exact (serveOpenRoad_reach ..).mono (by decide)
  · exact (serveRoadRead_reach ..).mono (by decide)
  · exact (serveArmRetry_reach ..).mono (by decide)
  · exact (serveArmServiceOut_reach ..).mono (by decide)
  · exact (serveArmServiceReturn_reach ..).mono (by decide)
  · exact (serveZoneBypassSet_reach ..).mono (by decide)
  · exact (serveZoneBypassClear_reach ..).mono (by decide)
  · exact (servePumpsStart_reach ..).mono (by decide)
  · exact (servePumpsStop_reach ..).mono (by decide)
  · exact (serveLockRetry_reach ..).mono (by decide)
  · exact (serveRaise_reach ..).mono (by decide)
  · exact (serveRaiseExplicit_reach ..).mono (by decide)
  · exact (serveLower_reach ..).mono (by decide)
  · exact (serveStop_reach ..).mono (by decide)
  · exact (serveTripClear_reach ..).mono (by decide)
  · exact (serveLeafRead_reach ..).mono (by decide)
  · exact (serveMeasureRead_reach ..).mono (by decide)
  · exact (serveVesselReport_reach ..).mono (by decide)
  · exact (serveVesselRead_reach ..).mono (by decide)
  · exact (serveVesselClear_reach ..).mono (by decide)
  · exact (serveJoin_reach ..).mono (by decide)
  · exact (serveWithdraw_reach ..).mono (by decide)
  · exact (serveClassFloor_reach ..).mono (by decide)
  · exact (serveTide_reach ..).mono (by decide)
  · exact (serveFormBatch_reach ..).mono (by decide)
  · exact (serveAbandonBatch_reach ..).mono (by decide)
  · exact (serveQueueRead_reach ..).mono (by decide)
  · exact (serveBatchRead_reach ..).mono (by decide)
  · exact (serveVesselPassed_reach ..).mono (by decide)
  · exact (serveChannelRead_reach ..).mono (by decide)
  · exact (serveCircuitRead_reach ..).mono (by decide)
  · exact (serveCircuitTest_reach ..).mono (by decide)
  · exact (serveHealthRead_reach ..).mono (by decide)
  · exact (serveHealthSet_reach ..).mono (by decide)
  all_goals exact .refl s

theorem setFramer_reach (f : Framer) (s : State) : Reach [.link] s (setFramer f s) := onCl_reach _ s fun _ => rfl

theorem dispatch_reach (body : List Byte) (s : State) : Reach requestKinds s (dispatch body s) := by
  unfold dispatch
  split
  · exact (answer_reach _ (s, _)).mono (by decide)
  · exact (answer_reach _ (s, _)).mono (by decide)
  · exact serveCommand_reach _ s
  · exact serve_reach _ _ s (fun _ => (armServiceOp_reach ..).mono (by decide)) (by decide)
  · exact serve_reach _ _ s (fun _ => (zoneBypassOp_reach ..).mono (by decide)) (by decide)
  · exact serve_reach _ _ s (fun _ => .refl s) (by decide)

theorem frameDone_reach (length : Nat) (body : List Byte) (received : Half) (s : State) :
    Reach requestKinds s (frameDone length body received s) := by
  have k := setFramer_reach .hunt s
  unfold frameDone
  dsimp only
  split
  · exact (overrun_reach _).comp (by decide) (k.mono (by decide))
  · split
    · exact k.mono (by decide)
    · split
      · exact (k.mono (by decide)).trans (dispatch_reach body _)
      · exact (latch_reach _ _).comp (by decide) ((onCl_reach _ _ (by intro _; rfl)).comp (by decide)
          (k.mono (by decide)))

theorem receiveByte_reach (b : Byte) (s : State) : Reach requestKinds s (receiveByte b s) := by
  have f (g : Framer) : Reach requestKinds s (setFramer g s) := (setFramer_reach g s).mono (by decide)
  have e : Reach requestKinds s (lengthError s) :=
    (latch_reach _ _).comp (by decide) ((onCl_reach _ _ (by intro _; rfl)).comp (by decide) (f .hunt))
  unfold receiveByte takeLength takeBody
  repeat' (first
    | with_reducible exact Reach.refl _
    | split
    | exact f _
    | exact e
    | exact frameDone_reach ..)

theorem gapExpires_reach (s : State) : Reach [.latched, .link] s (gapExpires s) := by
  unfold gapExpires
  split
  · exact (latch_reach _ _).comp (by decide) ((onCl_reach _ _ (by intro _; rfl)).comp (by decide)
      ((setFramer_reach _ s).mono (by decide)))
  · exact .refl s

/-! ### Events -/

/-- An event that the blocks take in the run alone. -/
theorem inRun_reach {A : List Part} {f : State → State} (h : ∀ s, Reach A s (f s)) (s : State) :
    Reach A s (inRun f s) := by
  unfold inRun; split
  · exact h s
  · exact .refl s

theorem filterZone_reach (z : Fin 6) (occupied : Bool) (s : State) : Reach [.zones] s (filterZone z occupied s) := by
  unfold filterZone
  repeat' (first
    | with_reducible exact Reach.refl _
    | with_reducible apply Reach.comp (onZone_reach _ _ _)
    | split
    | decide)

theorem takeZone_reach (z : Fin 6) (s : State) :
    Reach [.latched, .arms, .strokes, .zones, .rcs, .proving] s (takeZone z s) := by
  unfold takeZone
  repeat' (first
    | with_reducible exact Reach.refl _
    | with_reducible apply Reach.comp (changeZone_reach ..)
    | split
    | decide)

theorem takeFault_reach (z : Fin 6) (s : State) :
    Reach [.latched, .arms, .strokes, .zones, .rcs, .proving] s (takeFault z s) := by
  unfold takeFault
  repeat' (first
    | with_reducible exact Reach.refl _
    | with_reducible apply Reach.comp (changeZone_reach ..)
    | decide)

theorem waitFaultEnd_reach (z : Fin 6) (s : State) : Reach [.zones] s (waitFaultEnd z s) := by
  unfold waitFaultEnd
  repeat' (first
    | with_reducible exact Reach.refl _
    | with_reducible apply Reach.comp (onZone_reach _ _ _)
    | split
    | decide)

theorem endFault_reach (z : Fin 6) (s : State) :
    Reach [.latched, .arms, .strokes, .zones, .rcs, .proving] s (endFault z s) := by
  unfold endFault
  repeat' (first
    | with_reducible exact Reach.refl _
    | with_reducible apply Reach.comp (changeZone_reach ..)
    | split
    | decide)

theorem sealReached_reach (s : State) : Reach [.latched, .locks, .batch, .csu] s (sealReached s) := by
  unfold sealReached
  repeat' (first
    | with_reducible exact Reach.refl _
    | with_reducible apply Reach.comp (onCsu_reach _ _ ?_)
    | with_reducible apply Reach.comp (reviewSeal_reach ..)
    | split
    | decide
    | (intro _; exact ⟨rfl, rfl, rfl⟩))

theorem hornExpires_reach (s : State) : Reach [.csu, .proving] s (hornExpires s) := by
  unfold hornExpires
  repeat' (first
    | with_reducible exact Reach.refl _
    | with_reducible apply Reach.comp (driveCsu_reach _ _ ?_)
    | decide
    | (intro _; exact ⟨rfl, rfl, rfl⟩))

/-! ### Every command that is no reset -/

/-- The six commands that set blocks anew: supply, RESET, the end of start-up and the soft reset. -/
def resets : Instr → Bool
  | .powerOn _ _ | .hardResetAssert | .hardResetRelease _ _ | .startupEnd | .softResetEffect | .supplyLoss => true
  | .frameComplete _ | .lengthByteError _ | .consoleByteReceived _ | .gapTimeout | .identify | .counters
  | .paramRead _ _ | .leafRead | .batchRead | .healthRead | .replyEnd | .status | .logon _ _ | .logoff | .freeze
  | .paramWrite _ _ | .paramCommit | .commitEnd _ | .paramDefaults | .restart | .closeRoad | .openRoad | .roadRead
  | .armRetry _ | .armServiceOut _ | .armServiceReturn _ | .zoneBypassSet _ | .zoneBypassClear _ | .pumpsStart
  | .pumpsStop | .lockRetry | .raise | .raiseExplicit _ | .lower | .stop | .tripClear | .measureRead
  | .vesselReport _ _ _ | .vesselRead _ | .vesselClear _ | .join _ _ _ _ | .withdraw _ | .abandonBatch
  | .classFloor _ | .tide _ | .queueRead _ _ | .formBatch | .vesselPassed _ | .channelRead | .circuitRead
  | .circuitTest _ | .healthSet _ _ | .armDownLimitMade _ | .armUpLimitMade _ | .armDownLimitReleased _
  | .armDisplaced _ | .armStrokeTimeout _ | .armRelower _ | .armUpLimitReleased _ | .obstructionEdgeActive _
  | .upLimitLost _ | .relowerWaitExpiry _ | .estopAsserted | .zoneOccupancyInput _ _ | .zoneFaultInactive _
  | .zoneFilterExpiry _ | .zoneFaultEnd _ | .dwellWaitExpiry | .runOnExpiry | .zoneFaultActive _ | .prewarnExpiry
  | .entryDelayExpiry | .clearanceLimitExpiry | .redFlashChange | .boltWithdrawnSwitchMade _
  | .boltDrivenSwitchMade _ | .boltSwitchReleased _ _ | .boltNoPosition _ | .boltStrokeTimeout _
  | .centreBoltAligned _ | .seatSwitchInput _ _ | .seatSwitchFilterExpiry _ | .pressureOkMade _
  | .pressureOkReleased _ | .pumpReady _ | .pumpStartLimitExpiry _ | .standbyExpiry | .controlPeriod
  | .encoderPeriodEnd _ _ _ _ | .anemoPulse | .anemoIntervalEnd | .epochEnd | .tideStale | .passageWindowExpiry
  | .changeoverExpiry | .channelSealed | .hornExpiry | .provingRequest | .provingStart | .provingEnd _
  | .estopReleased | .obstructionEdgeInactive _ => false

/-- The kinds of move a command that is no reset is made of. -/
def kinds : Instr → List Part
  | .powerOn _ _ | .hardResetAssert | .hardResetRelease _ _ | .startupEnd | .softResetEffect | .supplyLoss => []
  | .frameComplete _ | .lengthByteError _ | .consoleByteReceived _ => requestKinds
  | .gapTimeout | .identify | .counters | .paramRead _ _ | .leafRead | .batchRead | .healthRead => [.latched, .link]
  | .replyEnd => [.link]
  | .status => [.latched, .cleared, .link]
  | .logon _ _ | .logoff | .freeze => [.latched, .link, .apu]
  | .paramWrite _ _ =>
    [.latched, .link, .table, .bolts, .drives, .pumps, .locks, .leaf, .fall, .motion, .wind, .vt,
      .queues, .psc, .batch, .csu, .turns, .health]
  | .paramCommit => [.latched, .link, .commit]
  | .commitEnd _ => [.latched, .commit]
  | .paramDefaults =>
    [.latched, .link, .apu, .table, .bolts, .drives, .pumps, .locks, .leaf, .fall, .motion, .wind, .vt,
      .queues, .psc, .batch, .csu, .turns, .health]
  | .restart => [.latched, .link, .restart, .pumps, .locks, .leaf, .motion]
  | .closeRoad | .openRoad => [.latched, .link, .arms, .strokes, .rcs, .proving]
  | .roadRead => [.latched, .link, .zones]
  | .armRetry _ | .armServiceOut _ | .armServiceReturn _ =>
    [.latched, .link, .arms, .strokes, .rcs, .pumps, .locks, .leaf, .motion, .proving]
  | .zoneBypassSet _ | .zoneBypassClear _ => [.latched, .link, .arms, .strokes, .zones, .rcs, .proving]
  | .pumpsStart | .pumpsStop => [.latched, .link, .bolts, .drives, .pumps, .locks, .leaf, .fall, .motion]
  | .lockRetry => [.latched, .link, .bolts, .drives, .locks, .leaf]
  | .raise | .raiseExplicit _ => [.latched, .link, .bolts, .drives, .pumps, .locks, .leaf, .motion]
  | .lower => [.latched, .link, .bolts, .drives, .locks, .leaf, .lower]
  | .stop => [.latched, .link, .pumps, .locks, .leaf, .motion]
  | .tripClear => [.latched, .link, .locks, .leaf]
  | .measureRead => [.latched, .link, .encoders]
  | .vesselReport _ _ _ | .vesselRead _ => [.latched, .link, .vt]
  | .vesselClear _ => [.latched, .link, .vt, .queues]
  | .join _ _ _ _ => [.latched, .link, .motion, .vt, .queues, .joins, .psc, .batch, .turns]
  | .withdraw _ | .abandonBatch => [.latched, .link, .locks, .vt, .queues, .batch, .turns]
  | .classFloor _ | .tide _ | .queueRead _ _ => [.latched, .link, .psc]
  | .formBatch => [.latched, .link, .pumps, .locks, .vt, .queues, .batch, .turns]
  | .vesselPassed _ => [.latched, .link, .locks, .vt, .queues, .batch, .csu, .turns]
  | .channelRead => [.latched, .link, .csu]
  | .circuitRead => [.latched, .link, .circuits]
  | .circuitTest _ => [.latched, .link, .proving]
  | .healthSet _ _ => [.latched, .link, .health]
  | .armDownLimitMade _ | .armUpLimitMade _ =>
    [.latched, .pins, .arms, .strokes, .rcs, .pumps, .locks, .leaf, .motion, .proving, .health]
  | .armDownLimitReleased _ => [.pins, .arms]
  | .armDisplaced _ | .armStrokeTimeout _ | .armRelower _ =>
    [.latched, .arms, .strokes, .rcs, .pumps, .locks, .leaf, .motion, .proving]
  | .armUpLimitReleased _ => [.latched, .pins, .arms, .strokes, .rcs, .pumps, .locks, .leaf, .motion, .proving]
  | .obstructionEdgeActive _ =>
    [.latched, .pins, .arms, .strokes, .reversals, .rcs, .pumps, .locks, .leaf, .motion, .proving]
  | .upLimitLost _ => [.latched, .arms]
  | .relowerWaitExpiry _ => [.arms]
  | .estopAsserted =>
    [.latched, .pins, .arms, .strokes, .rcs, .bolts, .drives, .pumps, .locks, .leaf, .trip, .fall,
      .motion, .proving]
  | .zoneOccupancyInput _ _ | .zoneFaultInactive _ => [.pins, .zones]
  | .zoneFilterExpiry _ | .zoneFaultEnd _ | .dwellWaitExpiry | .runOnExpiry =>
    [.latched, .arms, .strokes, .zones, .rcs, .proving]
  | .zoneFaultActive _ => [.latched, .pins, .arms, .strokes, .zones, .rcs, .proving]
  | .prewarnExpiry => [.latched, .rcs, .proving]
  | .entryDelayExpiry => [.latched, .arms, .strokes, .rcs, .proving]
  | .clearanceLimitExpiry => [.latched, .rcs]
  | .redFlashChange => [.rcs, .proving]
  | .boltWithdrawnSwitchMade _ | .boltDrivenSwitchMade _ =>
    [.latched, .pins, .bolts, .drives, .locks, .leaf, .health]
  | .boltSwitchReleased _ _ => [.pins, .bolts]
  | .boltNoPosition _ | .boltStrokeTimeout _ => [.latched, .bolts, .drives, .locks, .leaf]
  | .centreBoltAligned _ => [.bolts]
  | .seatSwitchInput _ _ => [.pins, .seats]
  | .seatSwitchFilterExpiry _ => [.latched, .bolts, .drives, .seats, .locks, .leaf]
  | .pressureOkMade _ => [.pins, .pumps]
  | .pressureOkReleased _ => [.latched, .pins, .bolts, .drives, .pumps, .locks, .leaf, .fall, .motion]
  | .pumpReady _ | .pumpStartLimitExpiry _ | .standbyExpiry =>
    [.latched, .bolts, .drives, .pumps, .locks, .leaf, .fall, .motion]
  | .controlPeriod =>
    [.latched, .bolts, .drives, .pumps, .locks, .leaf, .trip, .motion, .vt, .queues, .batch, .turns]
  | .encoderPeriodEnd _ _ _ _ => [.latched, .pumps, .locks, .leaf, .motion, .encoders]
  | .anemoPulse => [.wind]
  | .anemoIntervalEnd => [.latched, .bolts, .drives, .pumps, .locks, .leaf, .motion, .wind]
  | .epochEnd => [.latched, .vt, .queues]
  | .tideStale => [.latched, .psc]
  | .passageWindowExpiry => [.turns]
  | .changeoverExpiry => [.latched, .locks, .vt, .queues, .batch, .csu, .turns]
  | .channelSealed => [.latched, .locks, .batch, .csu]
  | .hornExpiry => [.csu, .proving]
  | .provingRequest | .provingStart => [.proving]
  | .provingEnd _ =>
    [.latched, .bolts, .drives, .pumps, .locks, .leaf, .motion, .wind, .vt, .queues, .batch, .turns,
      .circuits]
  | .estopReleased | .obstructionEdgeInactive _ => [.pins]

/-- A command that is no reset makes moves of its kinds alone. -/
theorem exec_reach {c : Instr} {s t : State} (h : exec c s = .next t) (hc : resets c = false) :
    Reach (kinds c) s t := by
  cases c <;> first
    | (cases hc; done)
    | (injection h with h; subst h; dsimp only [kinds])
  · show Reach _ s (if s.awaitsLast then _ else s); split
    · exact receiveByte_reach _ s
    · exact .refl s
  · show Reach _ s (if _ then _ else s); split
    · exact receiveByte_reach _ s
    · exact .refl s
  · exact gapExpires_reach s
  · exact onCl_reach (fun l => { l with reply := none }) s fun _ => rfl
  · exact serveIdentify_reach ..
  · exact serveStatus_reach ..
  · exact serveCounters_reach ..
  · exact serveLogon_reach ..
  · exact serveLogoff_reach ..
  · exact serveFreeze_reach ..
  · exact serveParamRead_reach ..
  · exact serveParamWrite_reach ..
  · exact serveParamCommit_reach ..
  · show Reach _ s (if _ then _ else s); split
    · exact endCommit_reach _ s
    · exact .refl s
  · exact serveParamDefaults_reach ..
  · exact serveRestart_reach ..
  · exact serveCloseRoad_reach ..
  · exact serveOpenRoad_reach ..
  · exact serveRoadRead_reach ..
  · exact serveArmRetry_reach ..
  · exact serveArmServiceOut_reach ..
  · exact serveArmServiceReturn_reach ..
  · exact serveZoneBypassSet_reach ..
  · exact serveZoneBypassClear_reach ..
  · exact servePumpsStart_reach ..
  · exact servePumpsStop_reach ..
  · exact serveLockRetry_reach ..
  · exact serveRaise_reach ..
  · exact serveRaiseExplicit_reach ..
  · exact serveLower_reach ..
  · exact serveStop_reach ..
  · exact serveTripClear_reach ..
  · exact serveLeafRead_reach ..
  · exact serveMeasureRead_reach ..
  · exact serveVesselReport_reach ..
  · exact serveVesselRead_reach ..
  · exact serveVesselClear_reach ..
  · exact serveJoin_reach ..
  · exact serveWithdraw_reach ..
  · exact serveClassFloor_reach ..
  · exact serveTide_reach ..
  · exact serveFormBatch_reach ..
  · exact serveAbandonBatch_reach ..
  · exact serveQueueRead_reach ..
  · exact serveBatchRead_reach ..
  · exact serveVesselPassed_reach ..
  · exact serveChannelRead_reach ..
  · exact serveCircuitRead_reach ..
  · exact serveCircuitTest_reach ..
  · exact serveHealthRead_reach ..
  · exact serveHealthSet_reach ..
  · exact (inRun_reach (fun t => downLimitMade_reach ..) _).comp (by decide) ((onPins_reach _ s).mono (by decide))
  · exact (inRun_reach (fun t => upLimitMade_reach ..) _).comp (by decide) ((onPins_reach _ s).mono (by decide))
  · exact (inRun_reach (fun t => downLimitReleased_reach ..) _).comp (by decide) ((onPins_reach _ s).mono (by decide))
  · exact inRun_reach (fun t => displaceArm_reach ..) s
  · exact (inRun_reach (fun t => upLimitReleased_reach ..) _).comp (by decide) ((onPins_reach _ s).mono (by decide))
  · exact inRun_reach (fun t => loseUpLimit_reach ..) s
  · exact inRun_reach (fun t => timeOutArm_reach ..) s
  · exact (inRun_reach (fun t => edgeActive_reach ..) _).comp (by decide) ((onPins_reach _ s).mono (by decide))
  · exact inRun_reach (fun t => endRelowerWait_reach ..) s
  · exact inRun_reach (fun t => relowerArm_reach ..) s
  · exact (inRun_reach (fun t => takeEstop_reach ..) _).comp (by decide) ((onPins_reach _ s).mono (by decide))
  · exact (inRun_reach (fun t => filterZone_reach ..) _).comp (by decide) ((onPins_reach _ s).mono (by decide))
  · exact inRun_reach (fun t => takeZone_reach ..) s
  · exact (inRun_reach (fun t => takeFault_reach ..) _).comp (by decide) ((onPins_reach _ s).mono (by decide))
  · exact (inRun_reach (fun t => waitFaultEnd_reach ..) _).comp (by decide) ((onPins_reach _ s).mono (by decide))
  · exact inRun_reach (fun t => endFault_reach ..) s
  · exact inRun_reach (fun t => dwellExpires_reach ..) s
  · exact inRun_reach (fun t => prewarnExpires_reach ..) s
  · exact inRun_reach (fun t => entryDelayExpires_reach ..) s
  · exact inRun_reach (fun t => clearanceLimitExpires_reach ..) s
  · exact inRun_reach (fun t => runOnExpires_reach ..) s
  · exact flashChanges_reach s
  · exact (inRun_reach (fun t => withdrawnMade_reach ..) _).comp (by decide) ((onPins_reach _ s).mono (by decide))
  · exact (inRun_reach (fun t => drivenMade_reach ..) _).comp (by decide) ((onPins_reach _ s).mono (by decide))
  · refine ((inRun_reach (switchReleased_reach _ _) _).comp (by decide) ?_)
    cases ‹BoltSwitch› <;> exact (onPins_reach _ s).mono (by decide)
  · exact inRun_reach (fun t => losePosition_reach ..) s
  · exact inRun_reach (fun t => timeOutBolt_reach ..) s
  · exact inRun_reach (fun t => alignBolt_reach ..) s
  · exact (inRun_reach (fun t => filterSeat_reach ..) _).comp (by decide) ((onPins_reach _ s).mono (by decide))
  · exact inRun_reach (fun t => takeSeat_reach ..) s
  · exact (inRun_reach (fun t => pressureMade_reach ..) _).comp (by decide) ((onPins_reach _ s).mono (by decide))
  · exact (inRun_reach (fun t => pressureLost_reach ..) _).comp (by decide) ((onPins_reach _ s).mono (by decide))
  · exact inRun_reach (fun t => provePump_reach ..) s
  · exact inRun_reach (fun t => expirePump_reach ..) s
  · exact inRun_reach (fun t => expireStandby_reach ..) s
  · exact inRun_reach (fun t => controlPeriod_reach ..) s
  · exact hearPeriod_reach _ s
  · exact countPulse_reach s
  · exact anemoInterval_reach s
  · exact inRun_reach (fun t => endEpoch_reach ..) s
  · exact inRun_reach (fun t => reviewTide_reach ..) s
  · exact inRun_reach (fun t => windowExpires_reach ..) s
  · exact inRun_reach (fun t => changeoverExpires_reach ..) s
  · exact inRun_reach (fun t => sealReached_reach ..) s
  · exact inRun_reach (fun t => hornExpires_reach ..) s
  · exact inRun_reach (fun t => scanRequest_reach ..) s
  · exact inRun_reach (fun t => startHeld_reach ..) s
  · exact inRun_reach (fun t => endProving_reach ..) s
  · exact onPins_reach _ s
  · exact onPins_reach _ s
  · exact receiveByte_reach _ s

/-! ### A tick -/

theorem when_reach {A : List Part} {f : State → State} (due : Bool) (h : ∀ s, Reach A s (f s)) (s : State) :
    Reach A s (when due f s) := by
  unfold when; split
  · exact h s
  · exact .refl s

theorem tickFlash_reach (s : State) : Reach [.rcs] s (tickFlash s) := by
  unfold tickFlash
  repeat' (first
    | with_reducible exact Reach.refl _
    | with_reducible apply Reach.comp (onRcs_reach _ _)
    | split
    | decide)

theorem armDue_reach (s : State) (a : Fin 8) :
    Reach [.latched, .arms, .strokes, .rcs, .pumps, .locks, .leaf, .motion, .proving] s (armDue s a) := by
  unfold armDue
  dsimp only
  repeat' (first
    | with_reducible exact Reach.refl _
    | with_reducible apply Reach.comp (when_reach _ (fun t => timeOutArm_reach _ t) _)
    | with_reducible apply Reach.comp (when_reach _ (fun t => displaceArm_reach _ t) _)
    | with_reducible apply Reach.comp (when_reach _ (fun t => loseUpLimit_reach _ t) _)
    | with_reducible apply Reach.comp (when_reach _ (fun t => endRelowerWait_reach _ t) _)
    | with_reducible apply Reach.comp (relowerArm_reach ..)
    | decide)

theorem zoneDue_reach (s : State) (z : Fin 6) :
    Reach [.latched, .arms, .strokes, .zones, .rcs, .proving] s (zoneDue s z) := by
  unfold zoneDue
  dsimp only
  repeat' (first
    | with_reducible exact Reach.refl _
    | with_reducible apply Reach.comp (when_reach _ (fun t => takeZone_reach _ t) _)
    | with_reducible apply Reach.comp (when_reach _ (fun t => endFault_reach _ t) _)
    | decide)

theorem flashDue_reach (s : State) : Reach [.rcs, .proving] s (flashDue s) := by
  unfold flashDue
  repeat' (first
    | with_reducible exact Reach.refl _
    | with_reducible apply Reach.comp (when_reach _ (fun t => flashChanges_reach t) _)
    | decide)

theorem roadDue_reach (s : State) : Reach [.latched, .arms, .strokes, .zones, .rcs, .proving] s (roadDue s) := by
  unfold roadDue
  dsimp only
  repeat' (first
    | with_reducible exact Reach.refl _
    | with_reducible apply Reach.comp (when_reach _ (fun t => reviewDeck_reach t) _)
    | with_reducible apply Reach.comp (when_reach _ (fun t => prewarnExpires_reach t) _)
    | with_reducible apply Reach.comp (when_reach _ (fun t => entryDelayExpires_reach t) _)
    | with_reducible apply Reach.comp (when_reach _ (fun t => clearanceLimitExpires_reach t) _)
    | with_reducible apply Reach.comp (when_reach _ (fun t => runOnExpires_reach t) _)
    | with_reducible apply Reach.comp (flashDue_reach ..)
    | decide)

theorem boltDue_reach (s : State) (b : Fin 4) : Reach [.latched, .bolts, .drives, .locks, .leaf] s (boltDue s b) := by
  unfold boltDue
  dsimp only
  repeat' (first
    | with_reducible exact Reach.refl _
    | with_reducible apply Reach.comp (when_reach _ (fun t => timeOutBolt_reach _ t) _)
    | with_reducible apply Reach.comp (when_reach _ (fun t => losePosition_reach _ t) _)
    | decide)

theorem seatDue_reach (s : State) (l : Leaf) :
    Reach [.latched, .bolts, .drives, .seats, .locks, .leaf] s (seatDue s l) := by
  unfold seatDue
  repeat' (first
    | with_reducible exact Reach.refl _
    | with_reducible apply Reach.comp (when_reach _ (fun t => takeSeat_reach _ t) _)
    | decide)

theorem pumpDue_reach (s : State) (g : Leaf) :
    Reach [.latched, .bolts, .drives, .pumps, .locks, .leaf, .fall, .motion] s (pumpDue s g) := by
  unfold pumpDue
  dsimp only
  repeat' (first
    | with_reducible exact Reach.refl _
    | with_reducible apply Reach.comp (when_reach _ (fun t => provePump_reach _ t) _)
    | with_reducible apply Reach.comp (when_reach _ (fun t => expirePump_reach _ t) _)
    | decide)

theorem lpuDue_reach (s : State) :
    Reach [.latched, .bolts, .drives, .pumps, .seats, .locks, .leaf, .fall, .motion] s (lpuDue s) :=   (when_reach _ expireStandby_reach _).comp (by decide) ((reach_foldl pumpDue_reach _ _).comp (by decide)
    ((reach_foldl seatDue_reach _ _).comp (by decide) ((reach_foldl boltDue_reach _ s).mono (by decide))))

theorem controlDue_reach (s : State) :
    Reach [.latched, .bolts, .drives, .pumps, .locks, .leaf, .trip, .motion, .vt, .queues, .batch, .turns]
      s (controlDue s) :=   when_reach _ (fun t => (alignBolt_reach 1 _).comp (by decide) ((alignBolt_reach 0 _).comp (by decide)
    ((controlPeriod_reach t).mono (by decide)))) s

theorem encoderDue_reach (s : State) :
    Reach [.latched, .pumps, .locks, .leaf, .motion, .encoders] s (encoderDue s) :=
  when_reach _ endDuePeriod_reach s

theorem secondDue_reach (s : State) :
    Reach [.latched, .bolts, .drives, .pumps, .locks, .leaf, .motion, .wind, .vt, .queues, .psc] s (secondDue s) := by
  unfold secondDue
  repeat' (first
    | with_reducible exact Reach.refl _
    | with_reducible apply Reach.comp (when_reach _ (fun t => endEpoch_reach t) _)
    | with_reducible apply Reach.comp (reviewTide_reach ..)
    | with_reducible apply Reach.comp (anemoInterval_reach ..)
    | decide)

theorem channelDue_reach (s : State) :
    Reach [.latched, .locks, .vt, .queues, .batch, .csu, .turns] s (channelDue s) := by
  unfold channelDue
  dsimp only
  repeat' (first
    | with_reducible exact Reach.refl _
    | with_reducible apply Reach.comp (when_reach _ (fun t => windowExpires_reach t) _)
    | with_reducible apply Reach.comp (when_reach _ (fun t => changeoverExpires_reach t) _)
    | with_reducible apply Reach.comp (when_reach _ (fun t => reviewSeal_reach t) _)
    | decide)

theorem provingDue_reach (s : State) :
    Reach [.latched, .bolts, .drives, .pumps, .locks, .leaf, .motion, .wind, .vt, .queues, .batch, .turns, .circuits,
      .proving] s (provingDue s) := by
  unfold provingDue
  dsimp only
  split
  · exact (when_reach _ startHeld_reach _).comp (by decide) ((scanRequest_reach _).comp (by decide)
      ((when_reach _ endDueProving_reach s).mono (by decide)))
  · exact (when_reach _ startHeld_reach _).comp (by decide)
      ((onPhu_reach _ _ (by intro _; exact ⟨rfl, rfl⟩)).comp (by decide)
        ((when_reach _ endDueProving_reach s).mono (by decide)))

theorem linkDue_reach (s : State) : Reach [.latched, .link] s (linkDue s) := by
  unfold linkDue
  repeat' (first
    | with_reducible exact Reach.refl _
    | with_reducible apply Reach.comp (when_reach _ (fun t => gapExpires_reach t) _)
    | decide)

theorem hornDue_reach (s : State) : Reach [.csu, .proving] s (hornDue s) := by
  unfold hornDue
  repeat' (first
    | with_reducible exact Reach.refl _
    | with_reducible apply Reach.comp (onCsu_reach _ _ ?_)
    | with_reducible apply Reach.comp (hornExpires_reach ..)
    | split
    | decide
    | (intro _; exact ⟨rfl, rfl, rfl⟩))

/-- The kinds of move a tick of the running part is made of. -/
def tickKinds : List Part :=
  [.latched, .link, .arms, .strokes, .zones, .rcs, .bolts, .drives, .pumps, .seats, .locks, .leaf, .trip, .fall,
    .motion, .encoders, .wind, .vt, .queues, .psc, .batch, .csu, .turns, .proving, .circuits, .time]

theorem tickRun_reach (s : State) : Reach tickKinds s (tickRun s) :=
  (linkDue_reach _).comp (by decide) ((provingDue_reach _).comp (by decide) ((channelDue_reach _).comp (by decide)
    ((when_reach _ secondDue_reach _).comp (by decide) ((controlDue_reach _).comp (by decide)
      ((encoderDue_reach _).comp (by decide) ((lpuDue_reach _).comp (by decide) ((roadDue_reach _).comp (by decide)
        ((reach_foldl zoneDue_reach _ _).comp (by decide) ((reach_foldl armDue_reach _ _).comp (by decide)
          ((hornDue_reach _).comp (by decide) ((onTb_reach _ _).comp (by decide)
            ((tickFlash_reach _).comp (by decide) ((Move.tick s).reach.mono (by decide))))))))))))))

/-- A tick, whatever the phase, makes moves of these kinds alone. -/
theorem tick_reach (s : State) : Reach tickKinds s (tick s) := by
  unfold tick
  split
  · exact .refl s
  · exact (flashDue_reach _).comp (by decide) ((tickFlash_reach s).mono (by decide))
  · exact (flashDue_reach _).comp (by decide) ((when_reach _ anemoInterval_reach _).comp (by decide)
      ((encoderDue_reach _).comp (by decide) ((onTb_reach _ _).comp (by decide) ((tickFlash_reach s).mono (by decide)))))
  · exact tickRun_reach s

end Sys2Proof.Machine
end

