-- ==== Sys2Proof/Laws/Frames.lean ====
section
/-! SUPPORT. What a command or a tick leaves alone, field by field: the moves of a turn, a trip and an accepted LOWER
taken apart, and one lemma for each field. -/

namespace Sys2Proof.Machine

/-! ### What a turn's moves are made of -/

/-- What a change of a turn touches. -/
abbrev turnKinds : List Part := [.latched, .batch, .signals, .proving]

theorem onCsu_loose (f : Csu → Csu) (s : State) : Reach turnKinds s (s.onCsu f) :=
  (Move.signals f s).reach.mono (by decide)
theorem onTurn_loose (d : Side) (f : SideTurn → SideTurn) (s : State) : Reach turnKinds s (s.onTurn d f) :=
  onCsu_loose (fun c => { c with sides := c.sides.set d (f (c.sides.get d)) }) s
theorem driveCsu_loose (f : Csu → Csu) (s : State) : Reach turnKinds s (s.driveCsu f) :=
  (voidSwitched_reach s _).comp (by decide) (onCsu_loose f s)
theorem latch_loose (c : Condition) (s : State) : Reach turnKinds s (latch c s) := (latch_reach c s).mono (by decide)
theorem latchIf_loose (p : Bool) (c : Condition) (s : State) : Reach turnKinds s (latchIf p c s) :=
  (latchIf_reach p c s).mono (by decide)
theorem setAspect_loose (d : Side) (a : Aspect) (s : State) : Reach turnKinds s (setAspect d a s) := driveCsu_loose _ s
theorem showStop_loose (s : State) : Reach turnKinds s (showStop s) := driveCsu_loose _ s
theorem soundHorn_loose (t : Nat) (s : State) : Reach turnKinds s (soundHorn t s) := driveCsu_loose _ s
theorem restartSeal_loose (s : State) : Reach turnKinds s (restartSeal s) := onCsu_loose _ s
theorem endPhase_loose (r : TurnsResult) (s : State) : Reach turnKinds s (endPhase r s) := onCsu_loose _ s
theorem endGo_loose (d : Side) (c : EndCause) (s : State) : Reach turnKinds s (endGo d c s) :=
  (onTurn_loose d _ s).trans (onCsu_loose _ _)
theorem endTurn_loose (d : Side) (c : EndCause) (s : State) : Reach turnKinds s (endTurn d c s) :=
  (endGo_loose d c s).trans <| (setAspect_loose d _ _).trans <| (onCsu_loose _ _).trans <|
    (restartSeal_loose _).trans <| (setAspect_loose _ _ _).trans (latch_loose _ _)
theorem turnBegun_loose (s : State) : Reach turnKinds s (turnBegun s) := (onBatch_reach _ s).mono (by decide)
theorem reviewItems_loose (s : State) : Reach turnKinds s (reviewItems s) := by
  have k (d e : Side) (a b : Aspect) : Reach turnKinds s (setAspect d a (setAspect e b s)) :=
    (setAspect_loose e b s).trans (setAspect_loose d a _)
  unfold reviewItems
  repeat' (first
    | with_reducible exact Reach.refl _
    | with_reducible exact k _ _ _ _
    | with_reducible exact setAspect_loose _ _ s
    | with_reducible exact endTurn_loose _ _ s
    | split)
theorem signalsClosing_loose (s : State) : Reach turnKinds s (signalsClosing s) := by
  have k (t : State) (h : Reach turnKinds s t) (w : Bool) : Reach turnKinds s (latchIf w .batch
      (endPhase s.csu.result (showStop (t.onCsu fun c => { c with window := none, changeover := none })))) :=
    h.trans <| (onCsu_loose _ _).trans <| (showStop_loose _).trans <| (endPhase_loose _ _).trans (latchIf_loose _ _ _)
  unfold signalsClosing
  dsimp only
  split
  · exact k _ ((endGo_loose _ _ s).trans <| (soundHorn_loose _ _).trans (restartSeal_loose _)) _
  · exact k _ (.refl s) _

/-- A move of a turn touches the signal unit, the batch record, a proving and the latched set alone. -/
theorem Move.turns_loose {s t : State} (m : Move .turns s t) : Reach turnKinds s t := by
  cases m
  · exact endTurn_loose _ _ s
  · exact reviewItems_loose s
  · exact signalsClosing_loose s
  · exact (showStop_loose s).trans (endPhase_loose _ _)
  · exact (setAspect_loose _ _ s).trans <| (setAspect_loose _ _ _).trans <| (onTurn_loose _ _ _).trans <|
      (onCsu_loose _ _).trans <| (soundHorn_loose _ _).trans <| (latch_loose _ _).trans (turnBegun_loose _)
  · exact (onTurn_loose _ _ s).trans <| (setAspect_loose _ _ _).trans (latch_loose _ _)
  · exact (endGo_loose _ _ s).trans <| (setAspect_loose _ _ _).trans <| (soundHorn_loose _ _).trans <|
      (restartSeal_loose _).trans <| (endPhase_loose _ _).trans (latch_loose _ _)
  · exact (onCsu_loose _ s).trans <| (showStop_loose _).trans <| (endPhase_loose _ _).trans (latch_loose _ _)
  · exact (onCsu_loose _ s).trans <| (restartSeal_loose _).trans (reviewItems_loose _)

/-! ### What a trip and an accepted LOWER are made of -/

/-- What the end of a turn at the leaves' leaving touches, with its turn's moves. -/
abbrev leftKinds : List Part := [.latched, .pumps, .locks, .vt, .queues, .batch, .turns, .leaves]

theorem onLmc_loose (f : Lmc → Lmc) (s : State) : Reach leftKinds s (s.onLmc f) := (Move.leaves f s).reach.mono (by decide)
theorem setLeaf_loose (l : LeafState) (s : State) : Reach leftKinds s (setLeaf l s) := by
  unfold setLeaf; split
  · exact .refl s
  · exact (onLmc_loose _ s).trans <| ((standbyEdge_reach s _).mono (by decide)).trans
      ((latch_reach _ _).mono (by decide))

theorem trip_loose (c : TripCause) (s : State) : Reach leftKinds s (trip c s) := by
  have k : Reach leftKinds s (latch .trip (setLeaf .tripped ((cancelSequence ((zeroReferences s).onMotion fun m =>
      { m with halt := .none, awaitingPumps := false })).onLmc fun l => { l with trip := some c }))) :=
    (onLmc_loose _ s).trans <| (onLmc_loose _ _).trans <| ((cancelSequence_reach _).mono (by decide)).trans <|
      (onLmc_loose _ _).trans <| (setLeaf_loose _ _).trans ((latch_reach _ _).mono (by decide))
  unfold trip
  dsimp only
  split
  · exact (leavesLeftRaised_reach _).comp (by decide) k
  · exact k

theorem fall_loose (c : TripCause) (s : State) (hr : s.lmc.leaf ≠ .raised) :
    Reach [.latched, .locks, .leaves] s (trip c s) := by
  have m (f : Lmc → Lmc) (t : State) : Reach [.latched, .locks, .leaves] t (t.onLmc f) :=
    (Move.leaves f t).reach.mono (by decide)
  have l (t : State) : Reach [.latched, .locks, .leaves] t (setLeaf .tripped t) := by
    unfold setLeaf; split
    · exact .refl t
    · exact (m _ t).trans <| ((standbyEdge_reach t _).mono (by decide)).trans ((latch_reach _ _).mono (by decide))
  unfold trip
  rw [if_neg hr]
  exact (m _ s).trans <| (m _ _).trans <| ((cancelSequence_reach _).mono (by decide)).trans <|
    (m _ _).trans <| (l _).trans ((latch_reach _ _).mono (by decide))

theorem beginLower_loose (s : State) : Reach leftKinds s (beginLower s) := by
  have k : Reach leftKinds s (prepareLowering (setLeaf .lowering (beginMotion .lower .seat 0 s))) :=
    (onLmc_loose (fun _ => (beginMotion .lower .seat 0 s).lmc) s).trans <| (setLeaf_loose .lowering _).trans <|
      ((orderPumps_reach _).mono (by decide)).trans (onLmc_loose (fun l =>
        { l with motion := { l.motion with awaitingPumps :=
          !(orderPumps (setLeaf .lowering (beginMotion .lower .seat 0 s))).bothReady } }) _)
  unfold beginLower
  dsimp only
  split
  · exact (leavesLeftRaised_reach _).comp (by decide) k
  · exact k

/-- A kind with the trip and the LOWER taken apart. -/
def Part.apart : Part → List Part
  | .trip | .lower => leftKinds
  | .fall => [.latched, .locks, .leaves]
  | p => [p]

/-- A kind with the moves of a turn taken apart. -/
def Part.atoms : Part → List Part
  | .turns => turnKinds
  | p => [p]

/-- The kinds that those of a list are made of. -/
def atomsOf (A : List Part) : List Part := (A.flatMap Part.apart).flatMap Part.atoms

/-- Moves taken apart. -/
theorem Reach.flat {A : List Part} {s t : State} {f : Part → List Part} (h : Reach A s t)
    (hf : ∀ p u v, Move p u v → Reach (f p) u v) : Reach (A.flatMap f) s t := by
  induction h with
  | refl => exact .refl _
  | step _ hp m ih => exact ih.trans ((hf _ _ _ m).mono fun q hq => List.mem_flatMap.mpr ⟨_, hp, hq⟩)

/-- What is reached by moves is reached by those they are made of. -/
theorem Reach.atoms {A : List Part} {s t : State} (h : Reach A s t) : Reach (atomsOf A) s t := by
  refine (h.flat (f := Part.apart) fun p u v m => ?_).flat (f := Part.atoms) fun p u v m => ?_
  · cases p
    case trip => cases m; exact trip_loose _ u
    case fall => cases m; next hr => exact fall_loose _ u hr
    case lower => cases m; exact beginLower_loose u
    all_goals exact m.reach
  · cases p
    case turns => exact m.turns_loose
    all_goals exact m.reach

/-! ### What moves of some kinds leave alone -/

variable {A : List Part} {s t : State}

theorem Reach.tb_eq (h : Reach A s t)
    (hA : ∀ p ∈ atomsOf A, p ∉ ([.trip, .fall, .lower, .turns, .time] : List Part)) :
    t.tb = s.tb := h.atoms.same (g := State.tb) (fun _ _ _ m => m.tb_eq) hA
theorem Reach.apu_eq (h : Reach A s t)
    (hA : ∀ p ∈ atomsOf A, p ∉ ([.apu, .table, .commit, .restart, .trip, .fall, .lower, .turns] : List Part)) :
    t.apu = s.apu := h.atoms.same (g := State.apu) (fun _ _ _ m => m.apu_eq) hA
theorem Reach.pins_eq (h : Reach A s t)
    (hA : ∀ p ∈ atomsOf A, p ∉ ([.pins, .trip, .fall, .lower, .turns] : List Part)) :
    t.pins = s.pins := h.atoms.same (g := State.pins) (fun _ _ _ m => m.pins_eq) hA
theorem Reach.bzu_eq (h : Reach A s t)
    (hA : ∀ p ∈ atomsOf A, p ∉ ([.arms, .strokes, .reversals, .zones, .trip, .fall, .lower, .turns, .time] : List Part)) :
    t.bzu = s.bzu := h.atoms.same (g := State.bzu) (fun _ _ _ m => m.bzu_eq) hA
theorem Reach.arms_eq (h : Reach A s t)
    (hA : ∀ p ∈ atomsOf A, p ∉ ([.arms, .strokes, .reversals, .trip, .fall, .lower, .turns, .time] : List Part)) :
    t.bzu.arms = s.bzu.arms := h.atoms.same (g := (·.bzu.arms)) (fun _ _ _ m => m.arms_eq) hA
theorem Reach.zones_eq (h : Reach A s t)
    (hA : ∀ p ∈ atomsOf A, p ∉ ([.zones, .trip, .fall, .lower, .turns, .time] : List Part)) :
    t.bzu.zones = s.bzu.zones := h.atoms.same (g := (·.bzu.zones)) (fun _ _ _ m => m.zones_eq) hA
theorem Reach.rcs_eq (h : Reach A s t)
    (hA : ∀ p ∈ atomsOf A, p ∉ ([.rcs, .trip, .fall, .lower, .turns, .time] : List Part)) :
    t.rcs = s.rcs := h.atoms.same (g := State.rcs) (fun _ _ _ m => m.rcs_eq) hA
theorem Reach.lpu_eq (h : Reach A s t)
    (hA : ∀ p ∈ atomsOf A, p ∉ ([.bolts, .drives, .pumps, .seats, .locks, .trip, .fall, .lower, .turns, .time] : List Part)) :
    t.lpu = s.lpu := h.atoms.same (g := State.lpu) (fun _ _ _ m => m.lpu_eq) hA
theorem Reach.bolts_eq (h : Reach A s t)
    (hA : ∀ p ∈ atomsOf A, p ∉ ([.bolts, .drives, .trip, .fall, .lower, .turns, .time] : List Part)) :
    t.lpu.bolts = s.lpu.bolts := h.atoms.same (g := (·.lpu.bolts)) (fun _ _ _ m => m.bolts_eq) hA
theorem Reach.pumps_eq (h : Reach A s t)
    (hA : ∀ p ∈ atomsOf A, p ∉ ([.pumps, .trip, .fall, .lower, .turns, .time] : List Part)) :
    t.lpu.pumps = s.lpu.pumps := h.atoms.same (g := (·.lpu.pumps)) (fun _ _ _ m => m.pumps_eq) hA
theorem Reach.seats_eq (h : Reach A s t)
    (hA : ∀ p ∈ atomsOf A, p ∉ ([.seats, .trip, .fall, .lower, .turns, .time] : List Part)) :
    t.lpu.seats = s.lpu.seats := h.atoms.same (g := (·.lpu.seats)) (fun _ _ _ m => m.seats_eq) hA
theorem Reach.lmc_eq (h : Reach A s t)
    (hA : ∀ p ∈ atomsOf A, p ∉ ([.leaf, .trip, .fall, .lower, .motion, .turns, .leaves] : List Part)) :
    t.lmc = s.lmc := h.atoms.same (g := State.lmc) (fun _ _ _ m => m.lmc_eq) hA
theorem Reach.leaf_eq (h : Reach A s t)
    (hA : ∀ p ∈ atomsOf A, p ∉ ([.leaf, .trip, .fall, .lower, .turns, .leaves] : List Part)) :
    t.lmc.leaf = s.lmc.leaf := h.atoms.same (g := (·.lmc.leaf)) (fun _ _ _ m => m.leaf_eq) hA
theorem Reach.motion_eq (h : Reach A s t)
    (hA : ∀ p ∈ atomsOf A, p ∉ ([.trip, .fall, .lower, .motion, .turns, .leaves] : List Part)) :
    t.lmc.motion = s.lmc.motion := h.atoms.same (g := (·.lmc.motion)) (fun _ _ _ m => m.motion_eq) hA
theorem Reach.msu_eq (h : Reach A s t)
    (hA : ∀ p ∈ atomsOf A, p ∉ ([.trip, .fall, .lower, .encoders, .wind, .turns] : List Part)) :
    t.msu = s.msu := h.atoms.same (g := State.msu) (fun _ _ _ m => m.msu_eq) hA
theorem Reach.winds_eq (h : Reach A s t)
    (hA : ∀ p ∈ atomsOf A, p ∉ ([.trip, .fall, .lower, .wind, .turns] : List Part)) :
    t.msu.wind = s.msu.wind := h.atoms.same (g := (·.msu.wind)) (fun _ _ _ m => m.winds_eq) hA
theorem Reach.vt_eq (h : Reach A s t)
    (hA : ∀ p ∈ atomsOf A, p ∉ ([.trip, .fall, .lower, .vt, .turns] : List Part)) :
    t.vt = s.vt := h.atoms.same (g := State.vt) (fun _ _ _ m => m.vt_eq) hA
theorem Reach.psc_eq (h : Reach A s t)
    (hA : ∀ p ∈ atomsOf A, p ∉ ([.trip, .fall, .lower, .queues, .joins, .psc, .batch, .turns] : List Part)) :
    t.psc = s.psc := h.atoms.same (g := State.psc) (fun _ _ _ m => m.psc_eq) hA
theorem Reach.queues_eq (h : Reach A s t)
    (hA : ∀ p ∈ atomsOf A, p ∉ ([.trip, .fall, .lower, .queues, .joins, .turns] : List Part)) :
    t.psc.queues = s.psc.queues := h.atoms.same (g := (·.psc.queues)) (fun _ _ _ m => m.queues_eq) hA
theorem Reach.batch_eq (h : Reach A s t)
    (hA : ∀ p ∈ atomsOf A, p ∉ ([.trip, .fall, .lower, .batch, .turns] : List Part)) :
    t.psc.batch = s.psc.batch := h.atoms.same (g := (·.psc.batch)) (fun _ _ _ m => m.batch_eq) hA
theorem Reach.csu_eq (h : Reach A s t)
    (hA : ∀ p ∈ atomsOf A, p ∉ ([.trip, .fall, .lower, .csu, .turns, .signals, .time] : List Part)) :
    t.csu = s.csu := h.atoms.same (g := State.csu) (fun _ _ _ m => m.csu_eq) hA
theorem Reach.phu_eq (h : Reach A s t)
    (hA : ∀ p ∈ atomsOf A, p ∉ ([.trip, .fall, .lower, .turns, .proving, .circuits, .health, .time] : List Part)) :
    t.phu = s.phu := h.atoms.same (g := State.phu) (fun _ _ _ m => m.phu_eq) hA
theorem Reach.circuits_eq (h : Reach A s t)
    (hA : ∀ p ∈ atomsOf A, p ∉ ([.trip, .fall, .lower, .turns, .circuits] : List Part)) :
    t.phu.circuits = s.phu.circuits := h.atoms.same (g := (·.phu.circuits)) (fun _ _ _ m => m.circuits_eq) hA
theorem Reach.health_eq (h : Reach A s t)
    (hA : ∀ p ∈ atomsOf A, p ∉ ([.trip, .fall, .lower, .turns, .health] : List Part)) :
    t.phu.health = s.phu.health := h.atoms.same (g := (·.phu.health)) (fun _ _ _ m => m.health_eq) hA
theorem Reach.latched_eq (h : Reach A s t)
    (hA : ∀ p ∈ atomsOf A, p ∉ ([.latched, .cleared, .trip, .fall, .lower, .turns] : List Part)) :
    t.cl.latched = s.cl.latched := h.atoms.same (g := (·.cl.latched)) (fun _ _ _ m => m.latched_eq) hA
/-- The link but for its latched set. -/
theorem Reach.link_eq (h : Reach A s t)
    (hA : ∀ p ∈ atomsOf A, p ∉ ([.link, .trip, .fall, .lower, .turns, .time] : List Part)) : { t.cl with latched := 0 } = { s.cl with latched := 0 } :=
  h.atoms.same (g := fun s => { s.cl with latched := 0 }) (fun _ _ _ m => m.link_eq) hA
theorem Reach.pending_eq (h : Reach A s t)
    (hA : ∀ p ∈ atomsOf A, p ∉ ([.trip, .fall, .lower, .turns] : List Part)) :
    t.pending = s.pending := h.atoms.same (g := State.pending) (fun _ _ _ m => m.pending_eq) hA

/-! ### A latched condition stays -/

/-- A condition that is latched stays so under every move but STATUS's (R14). -/
theorem Move.latched_stays {p : Part} {s t : State} (m : Move p s t)
    (h : p ∉ ([.cleared, .trip, .fall, .lower, .turns] : List Part)) {i : Nat}
    (hi : s.cl.latched.getLsbD i = true) : t.cl.latched.getLsbD i = true := by
  cases m <;> first
    | exact hi
    | exact absurd (by decide) h
    | (next f hf => show (f s.cl).latched.getLsbD i = true; rw [hf]; exact hi)
    | (unfold reportExtension; split <;> exact hi)
    | (have e : (tickTimers s).cl.latched = s.cl.latched := by simp [tickTimers, Link.tick]; split <;> rfl
       rw [e]; exact hi)
    | (simp only [Machine.latch, State.onCl, BitVec.getLsbD_or, hi, Bool.true_or])

/-- What moves other than STATUS's leave latched. -/
theorem Reach.latched_stays (h : Reach A s t)
    (hA : ∀ p ∈ atomsOf A, p ∉ ([.cleared, .trip, .fall, .lower, .turns] : List Part)) {i : Nat}
    (hi : s.cl.latched.getLsbD i = true) : t.cl.latched.getLsbD i = true :=
  h.atoms.keeps (P := fun s => s.cl.latched.getLsbD i = true) (fun p hp _ _ m hu => m.latched_stays (hA p hp) hu) hi

/-! ### While a RESTART waits -/

/-- From `s` to `t` no new work begins, a RESTART waiting in both: an arm, a bolt or the leaves that move do so in the way
they moved before, but for the reversal of a lowering arm, and a commit is one already under way (R38). -/
structure NoNewWork (reversal : Prop) (s t : State) : Prop where
  waits : t.apu.restart = true
  arms : ∀ a, (t.arm a).moving = true → (t.arm a).state = (s.arm a).state ∨
    (reversal ∧ (s.arm a).state = .lowering ∧ (t.arm a).state = .raising)
  bolts : ∀ b, (t.bolt b).moving = true → (t.bolt b).state = (s.bolt b).state
  leaves : t.lmc.leaf.moving = true → t.lmc.leaf = s.lmc.leaf
  commit : ∀ x, t.apu.commit = some x → s.apu.commit = some x

theorem NoNewWork.trans {p : Prop} {s t u : State} (h : NoNewWork p s t) (k : NoNewWork p t u) : NoNewWork p s u where
  waits := k.waits
  arms a hm := by
    rcases k.arms a hm with e | ⟨r, e, e'⟩
    · rcases h.arms a (by simpa [Arm.moving, e] using hm) with e2 | ⟨r, e2, e3⟩
      · exact .inl (e.trans e2)
      · exact .inr ⟨r, e2, e.trans e3⟩
    · rcases h.arms a (by simp [Arm.moving, e]) with e2 | ⟨_, _, e3⟩
      · exact .inr ⟨r, e2 ▸ e, e'⟩
      · rw [e] at e3; cases e3
  bolts b hm := by
    have e := k.bolts b hm
    exact e.trans (h.bolts b (by simpa [Bolt.moving, e] using hm))
  leaves hm := by
    have e := k.leaves hm
    exact e.trans (h.leaves (e ▸ hm))
  commit x hx := h.commit x (k.commit x hx)

/-- What moves neither arms, bolts, leaves nor the authority record begins nothing. -/
theorem noNewWork_of_eq (p : Prop) (hr : s.apu.restart = true) (ha : t.apu = s.apu) (hb : t.bzu.arms = s.bzu.arms)
    (hl : t.lpu.bolts = s.lpu.bolts) (hm : t.lmc.leaf.moving = true → t.lmc.leaf = s.lmc.leaf) : NoNewWork p s t where
  waits := ha ▸ hr
  arms a _ := .inl (by unfold State.arm; rw [hb])
  bolts b _ := by unfold State.bolt; rw [hl]
  leaves := hm
  commit x hx := ha ▸ hx


/-- A trip leaves the leaves TRIPPED (R115). -/
@[simp] theorem trip_leaf (c : TripCause) (s : State) : (trip c s).lmc.leaf = .tripped := by
  have k (u : State) : (latch .trip (setLeaf .tripped u)).lmc.leaf = .tripped := by
    unfold setLeaf; split
    · next h => exact h
    · unfold standbyEdge; repeat' split
      all_goals rfl
  unfold trip
  dsimp only
  split
  · rw [(leavesLeftRaised_reach _).leaf_eq (by decide)]; exact k _
  · exact k _

theorem Move.noNewWork {p : Part} (m : Move p s t) (hr : s.apu.restart = true) (hp : p ≠ .leaves) :
    NoNewWork (p = .reversals) s t := by
  have rest (ha : t.apu = s.apu) (hb : t.bzu.arms = s.bzu.arms) (hl : t.lpu.bolts = s.lpu.bolts)
      (hm : t.lmc.leaf = s.lmc.leaf) : NoNewWork (p = .reversals) s t :=
    noNewWork_of_eq _ hr ha hb hl fun _ => hm
  by_cases ht : p = .turns
  · subst ht
    have k := m.turns_loose
    exact rest (k.apu_eq (by decide)) (k.arms_eq (by decide)) (k.bolts_eq (by decide)) (k.leaf_eq (by decide))
  cases m
  case trip c h =>
    have k := trip_loose c s
    exact noNewWork_of_eq _ hr (k.apu_eq (by decide)) (k.arms_eq (by decide)) (k.bolts_eq (by decide))
      (by simp [LeafState.moving])
  case fall c h _ =>
    have k := trip_loose c s
    exact noNewWork_of_eq _ hr (k.apu_eq (by decide)) (k.arms_eq (by decide)) (k.bolts_eq (by decide))
      (by simp [LeafState.moving])
  case lower h => rw [hr] at h; cases h
  case leaf l h h2 hm hs =>
    exact noNewWork_of_eq _ hr rfl rfl rfl fun h => by rw [hm h] at hr; cases hr
  case leaves => exact absurd rfl hp
  case stroke h => rw [hr] at h; cases h
  case drive h => rw [hr] at h; cases h
  case commit h => rw [hr] at h; cases h
  case commitEnd good x h =>
    exact ⟨by dsimp; split <;> exact hr, fun _ _ => .inl rfl, fun _ _ => rfl, fun _ => rfl, by dsimp; split <;> simp⟩
  case reverse a h =>
    refine ⟨hr, fun b hm => ?_, fun _ _ => rfl, fun _ => rfl, fun _ h => h⟩
    by_cases e : b = a
    · subst e; exact .inr ⟨rfl, h, by rw [setupStroke]; simp [Arm.begin]⟩
    · exact .inl (by rw [setupStroke]; simp [e])
  case arm a f h =>
    refine ⟨hr, fun b hm => .inl ?_, fun _ _ => rfl, fun _ => rfl, fun _ h => h⟩
    by_cases e : b = a
    · subst e; rw [arm_onArm_self] at hm ⊢; exact h _ hm
    · rw [arm_onArm_ne _ e]
  case bolt a f h =>
    refine ⟨hr, fun _ _ => .inl rfl, fun b hm => ?_, fun _ => rfl, fun _ h => h⟩
    by_cases e : b = a
    · subst e; rw [bolt_onBolt_self] at hm ⊢; exact h _ hm
    · rw [bolt_onBolt_ne _ e]
  case tick =>
    refine ⟨hr, fun b hm => .inl ?_, fun b hm => ?_, fun _ => rfl, fun _ h => h⟩
    · simp [tickTimers, State.arm, Arm.tick]
    · simp [tickTimers, State.bolt, Lpu.tick, Bolt.tick]
  case apu f h => exact ⟨(h _).2.2.2.1.trans hr, fun _ _ => .inl rfl, fun _ _ => rfl, fun _ => rfl, fun x hx => by
    rw [onApu_apu, (h _).2.2.1] at hx; exact hx⟩
  all_goals first
    | exact absurd rfl ht
    | exact rest rfl rfl rfl rfl
    | (next h => exact rest rfl (h _) rfl rfl)
    | (next h => exact rest rfl rfl (h _).1 rfl)
    | exact ⟨hr, fun _ _ => .inl rfl, fun _ _ => rfl, fun _ => rfl, fun _ h => h⟩
    | exact ⟨rfl, fun _ _ => .inl rfl, fun _ _ => rfl, fun _ => rfl, fun _ h => h⟩
    | (unfold reportExtension; split <;> exact noNewWork_of_eq _ hr rfl rfl rfl fun _ => rfl)

/-- While a RESTART waits, moves begin no new work but the reversal of a lowering arm (R38). -/
theorem Reach.noNewWork (h : Reach A s t) (hr : s.apu.restart = true) (hA : .leaves ∉ A) :
    NoNewWork (.reversals ∈ A) s t := by
  induction h with
  | refl => exact ⟨hr, fun _ _ => .inl rfl, fun _ _ => rfl, fun _ => rfl, fun _ h => h⟩
  | step h hp m ih =>
    have k := m.noNewWork ih.waits fun e => hA (e ▸ hp)
    exact ih.trans ⟨k.waits, fun a hm => (k.arms a hm).imp_right fun ⟨e, x⟩ => ⟨e ▸ hp, x⟩, k.bolts, k.leaves, k.commit⟩

end Sys2Proof.Machine
end

