-- ==== Sys2Proof/Laws/Arms.lean ====
section
/-! SUPPORT. What a command does to the arm it is given to, and that it touches no other (R41, R42, R46, R48). -/

namespace Sys2Proof.Machine

variable {a k : Fin 8} {s : State}

/-! ### No other arm changes -/

theorem stallArm_ne (h : k ≠ a) (c : ArmCause) (s : State) : (stallArm a c s).arm k = s.arm k := by
  simp [stallArm, latch, State.onCl, State.arm, State.onArm, State.onBzu, Vector.getElem_set, Fin.val_inj, Ne.symm h]
theorem setupStroke_ne (h : k ≠ a) (way : ArmWay) (start : ArmStart) (s : State) :
    (setupStroke a way start s).arm k = s.arm k := arm_onArm_ne _ h _
theorem meetStart_ne (h : k ≠ a) (s : State) : (meetStart a s).arm k = s.arm k := by
  unfold meetStart; split
  · exact stallArm_ne h _ s
  · split
    · exact stallArm_ne h _ s
    · rfl
theorem startRaising_ne (h : k ≠ a) (start : ArmStart) (s : State) : (startRaising a start s).arm k = s.arm k := by
  unfold startRaising; split
  · rfl
  · rw [meetStart_ne h, setupStroke_ne h]
theorem obstruct_ne (h : k ≠ a) (s : State) : (obstruct a s).arm k = s.arm k := by
  unfold obstruct; split
  · rw [startRaising_ne h, arm_onArm_ne _ h]
  · rw [stallArm_ne h, arm_onArm_ne _ h]
theorem startLowering_ne (h : k ≠ a) (start : ArmStart) (s : State) : (startLowering a start s).arm k = s.arm k := by
  unfold startLowering; split
  · rfl
  · dsimp only; split
    · rw [obstruct_ne h, meetStart_ne h, setupStroke_ne h]
    · rw [meetStart_ne h, setupStroke_ne h]
theorem lowerSubject_ne (h : k ≠ a) (s : State) : (lowerSubject a s).1.arm k = s.arm k := by
  unfold lowerSubject; split
  · rfl
  · split
    · rfl
    · exact startLowering_ne h _ s
theorem commandLower_ne (h : k ≠ a) (s : State) : (commandLower a s).1.arm k = s.arm k := by
  unfold commandLower
  repeat' (first | rfl | exact lowerSubject_ne h s | split)
theorem commandRaise_ne (h : k ≠ a) (s : State) : (commandRaise s a).arm k = s.arm k := by
  unfold commandRaise
  split
  · exact arm_onArm_ne _ h _
  all_goals first | rfl | exact startRaising_ne h _ s

/-! ### The arm itself -/

/-- A stalled arm's state and cause. -/
theorem stallArm_self (a : Fin 8) (c : ArmCause) (s : State) :
    ((stallArm a c s).arm a).state = .stalled ∧ ((stallArm a c s).arm a).cause = some c := by
  simp [stallArm, latch, State.onCl, State.arm, State.onArm, State.onBzu]

/-- The record of an arm whose stroke has been set up. -/
theorem setupStroke_self (a : Fin 8) (way : ArmWay) (start : ArmStart) (s : State) :
    (setupStroke a way start s).arm a = (s.arm a).begin way start (s.armNominal a) (s.worn (armActuator a))
      (match way with | .lower => s.pins.armUp[a] | .raise => s.pins.armDown[a]) s.pins.armEdge[a] :=
  arm_onArm_self s a _

/-- Nothing stops a stroke as it starts: no ESTOP and no limit conflict (R48, R51). -/
theorem meetStart_free (he : s.pins.estop = false) (hc : ¬(s.pins.armUp[a] = true ∧ s.pins.armDown[a] = true)) :
    meetStart a s = s := by
  unfold meetStart; rw [if_neg (by simp [he]), if_neg (by simpa using hc)]

/-- A raising stroke that nothing stops. -/
theorem startRaising_free (start : ArmStart) (hr : s.apu.restart = false) (he : s.pins.estop = false)
    (hc : ¬(s.pins.armUp[a] = true ∧ s.pins.armDown[a] = true)) :
    startRaising a start s = setupStroke a .raise start s := by
  unfold startRaising; rw [if_neg (by simp [hr])]; exact meetStart_free he hc

/-- A lowering stroke that nothing stops or reverses. -/
theorem startLowering_free (start : ArmStart) (hr : s.apu.restart = false) (he : s.pins.estop = false)
    (hc : ¬(s.pins.armUp[a] = true ∧ s.pins.armDown[a] = true)) (hd : s.pins.armEdge[a] = false) :
    startLowering a start s = setupStroke a .lower start s := by
  have e : meetStart a (setupStroke a .lower start s) = setupStroke a .lower start s := meetStart_free he hc
  unfold startLowering
  rw [if_neg (by simp [hr])]
  dsimp only
  rw [e, if_neg]
  rintro ⟨-, h⟩
  have : s.pins.armEdge[a] = true := h
  simp [hd] at this

/-- An arm out of service takes no command (R42). -/
theorem commandRaise_out (h : (s.arm a).state = .outOfService) : commandRaise s a = s := by
  unfold commandRaise; rw [h]
theorem commandLower_out (h : (s.arm a).state = .outOfService) : commandLower a s = (s, false) := by
  unfold commandLower; rw [h]

/-- A raise command that nothing stops leaves the arm UP, RAISING or out of service (R42). -/
theorem commandRaise_self (hr : s.apu.restart = false) (he : s.pins.estop = false)
    (hc : ¬(s.pins.armUp[a] = true ∧ s.pins.armDown[a] = true)) :
    ((commandRaise s a).arm a).state = .outOfService ∨ ((commandRaise s a).arm a).state = .up ∨
      ((commandRaise s a).arm a).state = .raising := by
  unfold commandRaise
  cases h : (s.arm a).state
  case up => right; left; dsimp only; rw [arm_onArm_self]; exact h
  case raising => right; right; exact h
  case outOfService => left; exact h
  all_goals
    right; right; dsimp only
    rw [startRaising_free _ hr he hc, setupStroke_self]
    rfl

/-! ### Commands to a group -/

/-- A list of commands leaves an arm outside it alone. -/
theorem commandRaises_ne (p : Arm → Bool) (group : List (Fin 8)) (h : k ∉ group) (s : State) :
    (commandRaises p group s).arm k = s.arm k := by
  unfold commandRaises
  induction group generalizing s with
  | nil => rfl
  | cons b l ih =>
    rw [List.foldl_cons, ih (fun m => h (List.mem_cons_of_mem _ m))]
    split
    · exact commandRaise_ne (by rintro rfl; exact h List.mem_cons_self) s
    · rfl

/-- What a list of raise commands does to an arm in it: the one command to it alone. -/
theorem commandRaises_mem (p : Arm → Bool) (group : List (Fin 8)) (hn : group.Nodup) (h : a ∈ group) (s : State) :
    ∃ t, t.arm a = s.arm a ∧ t.pins = s.pins ∧ t.apu = s.apu ∧
      (commandRaises p group s).arm a = if p (t.arm a) then (commandRaise t a).arm a else t.arm a := by
  unfold commandRaises
  induction group generalizing s with
  | nil => cases h
  | cons b l ih =>
    rw [List.foldl_cons]
    by_cases e : a = b
    · subst e
      refine ⟨s, rfl, rfl, rfl, ?_⟩
      have := commandRaises_ne p l (List.nodup_cons.mp hn).1 (if p (s.arm a) then commandRaise s a else s)
      unfold commandRaises at this
      rw [this]
      split <;> rfl
    · obtain ⟨t, h1, h2, h3, h4⟩ := ih (List.nodup_cons.mp hn).2
        ((List.mem_cons.mp h).resolve_left e) (if p (s.arm b) then commandRaise s b else s)
      refine ⟨t, h1.trans ?_, h2.trans ?_, h3.trans ?_, h4⟩
      · split
        · exact commandRaise_ne e s
        · rfl
      · split
        · exact (commandRaise_reach s b).pins_eq (by decide)
        · rfl
      · split
        · exact (commandRaise_reach s b).apu_eq (by decide)
        · rfl

/-- A list of lower commands leaves an arm outside it alone. -/
theorem commandLowers_ne (p : Arm → Bool) (group : List (Fin 8)) (h : k ∉ group) (r : State × Bool) :
    (group.foldl (fun (r : State × Bool) a =>
      if p (r.1.arm a) then ((commandLower a r.1).1, r.2 || (commandLower a r.1).2) else r) r).1.arm k = r.1.arm k := by
  induction group generalizing r with
  | nil => rfl
  | cons b l ih =>
    rw [List.foldl_cons, ih (fun m => h (List.mem_cons_of_mem _ m))]
    split
    · exact commandLower_ne (by rintro rfl; exact h List.mem_cons_self) r.1
    · rfl

/-- What a list of lower commands does to an arm in it: the one command to it alone. -/
theorem commandLowers_mem (p : Arm → Bool) (group : List (Fin 8)) (hn : group.Nodup) (h : a ∈ group)
    (r : State × Bool) :
    ∃ t, t.arm a = r.1.arm a ∧ t.pins = r.1.pins ∧ t.apu = r.1.apu ∧
      (group.foldl (fun (r : State × Bool) a =>
        if p (r.1.arm a) then ((commandLower a r.1).1, r.2 || (commandLower a r.1).2) else r) r).1.arm a =
        if p (t.arm a) then (commandLower a t).1.arm a else t.arm a := by
  induction group generalizing r with
  | nil => cases h
  | cons b l ih =>
    rw [List.foldl_cons]
    by_cases e : a = b
    · subst e
      refine ⟨r.1, rfl, rfl, rfl, ?_⟩
      rw [commandLowers_ne p l (List.nodup_cons.mp hn).1]
      split <;> rfl
    · obtain ⟨t, h1, h2, h3, h4⟩ := ih (List.nodup_cons.mp hn).2 ((List.mem_cons.mp h).resolve_left e)
        (if p (r.1.arm b) then ((commandLower b r.1).1, r.2 || (commandLower b r.1).2) else r)
      refine ⟨t, h1.trans ?_, h2.trans ?_, h3.trans ?_, h4⟩
      · split
        · exact commandLower_ne e r.1
        · rfl
      · split
        · exact (commandLower_reach b r.1).pins_eq (by decide)
        · rfl
      · split
        · exact (commandLower_reach b r.1).apu_eq (by decide)
        · rfl

end Sys2Proof.Machine
end

