-- ==== Sys2Proof/Laws/Exact.lean ====
section
/-! SUPPORT. The shared operations as whole states: what each leaves, with the one field a test decides (a proving that is
voided, the standby timer) said to exist. -/

namespace Sys2Proof.Machine

/-- A switched circuit changes nothing but the voided mark of a proving (R191). -/
theorem voidSwitched_eq (before after : State) :
    ∃ p, voidSwitched before after = { after with phu := { after.phu with proving := p } } := by
  unfold voidSwitched
  split
  · exact ⟨after.phu.proving, rfl⟩
  · split
    · exact ⟨_, rfl⟩
    · exact ⟨after.phu.proving, rfl⟩

/-- What a change of the road record leaves. -/
theorem driveRcs_eq (f : Rcs → Rcs) (s : State) :
    ∃ p, s.driveRcs f = { s with rcs := f s.rcs, phu := { s.phu with proving := p } } := voidSwitched_eq s (s.onRcs f)

/-- What a change of the signal unit leaves. -/
theorem driveCsu_eq (f : Csu → Csu) (s : State) :
    ∃ p, s.driveCsu f = { s with csu := f s.csu, phu := { s.phu with proving := p } } := voidSwitched_eq s (s.onCsu f)

/-- What a change of the road state leaves (R61, R62). -/
theorem setRoad_eq (st : RoadState) (s : State) :
    ∃ p, setRoad st s = { s with
      rcs := { s.rcs with
        road := st
        flashA := if s.rcs.road = .opened then true else s.rcs.flashA
        flashTicks := if s.rcs.road = .opened then 0 else s.rcs.flashTicks }
      cl := { s.cl with latched := s.cl.latched ||| 1 }
      phu := { s.phu with proving := p } } := by
  obtain ⟨p, hp⟩ := driveRcs_eq (fun r =>
    if r.road = .opened then { r with road := st, flashA := true, flashTicks := 0 } else { r with road := st }) s
  refine ⟨p, ?_⟩
  unfold setRoad
  rw [hp]
  by_cases h : s.rcs.road = .opened <;> simp only [h, if_true, if_false, reduceCtorEq] <;> rfl

/-- The test of the standby condition changes nothing but the standby timer (R94). -/
theorem standbyEdge_eq (before after : State) :
    ∃ x, standbyEdge before after = { after with lpu := { after.lpu with standby := x } } := by
  unfold standbyEdge
  split
  · split
    · exact ⟨after.lpu.standby, rfl⟩
    · exact ⟨_, rfl⟩
  · exact ⟨_, rfl⟩

/-- The standby timer does not run where its condition fails (R94). -/
theorem standbyEdge_off {before after : State} (h : after.standbyCondition = false) :
    standbyEdge before after = { after with lpu := { after.lpu with standby := none } } := by
  unfold standbyEdge; rw [h]; rfl

/-- The mark of a heard encoder period changes nothing else (note 42). -/
theorem setHeard_eq (b : Bool) (s : State) : s.setHeard b = { s with msu := { s.msu with heard := b } } := rfl

/-- What a change of the leaf state leaves (R97, R94). -/
theorem setLeaf_eq (l : LeafState) (s : State) :
    ∃ x, setLeaf l s = { s with
      lmc := { s.lmc with leaf := l }
      lpu := { s.lpu with standby := x }
      cl := { s.cl with latched := if s.lmc.leaf = l then s.cl.latched else s.cl.latched ||| 8 } } := by
  unfold setLeaf
  split
  · next h => exact ⟨s.lpu.standby, by rw [← h]⟩
  · obtain ⟨x, hx⟩ := standbyEdge_eq s (s.onLmc fun m => { m with leaf := l })
    exact ⟨x, by rw [hx]; rfl⟩

/-- A leaf state other than SEATED_LOCKED has no standby timer (R94). -/
theorem setLeaf_away {l : LeafState} {s : State} (h : s.lmc.leaf ≠ l) (hl : l ≠ .seatedLocked) :
    setLeaf l s = { s with
      lmc := { s.lmc with leaf := l }
      lpu := { s.lpu with standby := none }
      cl := { s.cl with latched := s.cl.latched ||| 8 } } := by
  unfold setLeaf
  rw [if_neg h, standbyEdge_off (by simp [State.standbyCondition, State.onLmc, hl])]
  rfl

/-- What a change of the batch state leaves (R160, R94). -/
theorem setBatchState_eq (b : BatchState) (s : State) :
    ∃ x, setBatchState b s = { s with
      psc := { s.psc with batch := { s.psc.batch with state := b } }
      lpu := { s.lpu with standby := x }
      cl := { s.cl with latched := s.cl.latched ||| 512 } } := by
  obtain ⟨x, hx⟩ := standbyEdge_eq s (s.onBatch fun r => { r with state := b })
  exact ⟨x, by unfold setBatchState; rw [hx]; rfl⟩

/-- What a change of a pump group's record leaves (R90, R94). -/
theorem setPump_eq (g : Leaf) (f : Pump → Pump) (s : State) :
    ∃ x, setPump g f s = { s with
      lpu := { s.lpu with pumps := s.lpu.pumps.set g (f (s.lpu.pumps.get g)), standby := x } } := by
  obtain ⟨x, hx⟩ := standbyEdge_eq s (s.onPump g f)
  exact ⟨x, by unfold setPump; rw [hx]; rfl⟩

/-- A side's aspect as shown (R174). -/
theorem setAspect_eq (d : Side) (a : Aspect) (s : State) :
    ∃ p, setAspect d a s = { s with
      csu := { s.csu with aspects := s.csu.aspects.set d a }, phu := { s.phu with proving := p } } :=
  driveCsu_eq _ s

/-- Both sides at STOP (R174). -/
theorem showStop_eq (s : State) :
    ∃ p, showStop s = { s with
      csu := { s.csu with aspects := ⟨.stop, .stop⟩ }, phu := { s.phu with proving := p } } :=
  driveCsu_eq _ s

/-- The horn's timer as set (R181). -/
theorem soundHorn_eq (t : Nat) (s : State) :
    ∃ p, soundHorn t s = { s with csu := { s.csu with horn := 10 * t }, phu := { s.phu with proving := p } } :=
  driveCsu_eq _ s

end Sys2Proof.Machine
end

