-- ==== Sys2Proof/Laws/Resets.lean ====
section
/-! SUPPORT. What the six commands that set blocks anew give: each block after a cut, at the beginning and the end of
start-up and after the soft reset, in terms of the state before. -/

namespace Sys2Proof.Machine

variable (s : State)

/-! ### The cut (R32, R35) -/

@[simp] theorem coldBlocks_tb : (coldBlocks s).tb = s.tb := rfl
@[simp] theorem coldBlocks_cl : (coldBlocks s).cl = s.cl.cold := rfl
@[simp] theorem coldBlocks_apu : (coldBlocks s).apu = { cutCommit s.apu with level := .view, restart := false } := rfl
@[simp] theorem coldBlocks_pins : (coldBlocks s).pins = s.pins := rfl
@[simp] theorem coldBlocks_bzu : (coldBlocks s).bzu = State.reset.bzu := rfl
@[simp] theorem coldBlocks_rcs : (coldBlocks s).rcs = s.rcs.cold := rfl
@[simp] theorem coldBlocks_lpu : (coldBlocks s).lpu = State.reset.lpu := rfl
@[simp] theorem coldBlocks_lmc : (coldBlocks s).lmc = State.reset.lmc := rfl
@[simp] theorem coldBlocks_msu : (coldBlocks s).msu = Msu.reset := rfl
@[simp] theorem coldBlocks_vt : (coldBlocks s).vt = Vt.reset := rfl
@[simp] theorem coldBlocks_psc : (coldBlocks s).psc = Psc.reset := rfl
@[simp] theorem coldBlocks_csu : (coldBlocks s).csu = Csu.reset := rfl
@[simp] theorem coldBlocks_phu : (coldBlocks s).phu = s.phu.cold := rfl
@[simp] theorem coldBlocks_pending : (coldBlocks s).pending = s.pending := rfl

/-! ### The beginning of start-up (R36) -/

variable (p : Straps) (f : Bool)

@[simp] theorem beginStartup_apu : (beginStartup p f s).apu = loadStore { s.apu with
    straps := p, level := .view, mismatch := 0, frozen := false, commit := none, restart := false } := rfl
@[simp] theorem beginStartup_pins : (beginStartup p f s).pins = { s.pins with fieldSupply := f } := rfl
@[simp] theorem beginStartup_bzu : (beginStartup p f s).bzu = s.bzu := rfl
@[simp] theorem beginStartup_rcs : (beginStartup p f s).rcs = s.rcs := rfl
@[simp] theorem beginStartup_lpu : (beginStartup p f s).lpu = s.lpu := rfl
@[simp] theorem beginStartup_lmc : (beginStartup p f s).lmc = s.lmc := rfl
@[simp] theorem beginStartup_msu : (beginStartup p f s).msu = Msu.reset := rfl
@[simp] theorem beginStartup_vt : (beginStartup p f s).vt = s.vt := rfl
@[simp] theorem beginStartup_psc : (beginStartup p f s).psc = s.psc := rfl
@[simp] theorem beginStartup_csu : (beginStartup p f s).csu = s.csu := rfl
@[simp] theorem beginStartup_phu : (beginStartup p f s).phu = s.phu := rfl
@[simp] theorem beginStartup_pending : (beginStartup p f s).pending = s.pending := rfl

/-! ### The end of the listen (R36; notes 37 and 44) -/

/-- The end of the listen moves the measurement records alone. -/
@[simp] theorem listened_tb : (listened s).tb = s.tb := rfl
@[simp] theorem listened_apu : (listened s).apu = s.apu := rfl
@[simp] theorem listened_pins : (listened s).pins = s.pins := rfl
@[simp] theorem listened_msu : (listened s).msu = s.msu.finishListen (s.par pEncoderTolerance) := rfl

/-- A listen of which the five periods have ended is left as it is. -/
theorem listened_over {s : State} (h : 5 ≤ s.msu.listen.periods) : listened s = s := by
  unfold listened State.onMsu
  simp only [Msu.finishListen_over h]

/-- The WORN marks are re-evaluated: nothing but health records changes. -/
theorem markWorns_reach (l : List (Fin 12)) : Reach [.health] s (l.foldl markWorn s) := reach_foldl markWorn_reach l s

/-! ### The end of start-up (R36) -/

/-- The state in which the leaves are derived: arms, zones, road, bolts and seats are. -/
def derived : State := startLpu (deriveRoad s.rcs.flashA s.rcs.flashTicks (startBzu (listened s)))

@[simp] theorem completeStartup_tb : (completeStartup s).tb = { s.tb with phase := .run } := by
  simp [completeStartup, deriveBlocks, listened, restartScan, deriveLeaves, startLpu, deriveBolts, deriveRoad, viewDeck, startBzu]
@[simp] theorem completeStartup_apu : (completeStartup s).apu = { s.apu with record := (listened s).startRecord } := by
  simp [completeStartup, deriveBlocks, listened, restartScan, deriveLeaves, startLpu, deriveBolts, deriveRoad, viewDeck, startBzu]
@[simp] theorem completeStartup_pins : (completeStartup s).pins = s.pins := by
  simp [completeStartup, deriveBlocks, listened, restartScan, deriveLeaves, startLpu, deriveBolts, deriveRoad, viewDeck, startBzu]
@[simp] theorem completeStartup_lmc : (completeStartup s).lmc =
    { leaf := ((derived s).derivedLeaf (listened s).msu.listen.lost).1,
      trip := ((derived s).derivedLeaf (listened s).msu.listen.lost).2, motion := Motion.reset } := by
  simp only [completeStartup, deriveBlocks, restartScan, deriveLeaves, derived]; rfl
@[simp] theorem completeStartup_vt : (completeStartup s).vt = s.vt := by
  simp [completeStartup, deriveBlocks, listened, restartScan, deriveLeaves, startLpu, deriveBolts, deriveRoad, viewDeck, startBzu]
@[simp] theorem completeStartup_psc : (completeStartup s).psc = s.psc := by
  simp [completeStartup, deriveBlocks, listened, restartScan, deriveLeaves, startLpu, deriveBolts, deriveRoad, viewDeck, startBzu]
@[simp] theorem completeStartup_csu : (completeStartup s).csu = Csu.reset := by
  simp [completeStartup, deriveBlocks, listened, restartScan, deriveLeaves, startLpu, deriveBolts, deriveRoad, viewDeck, startBzu]
@[simp] theorem completeStartup_wind : (completeStartup s).msu.wind = s.msu.wind := by
  simp [completeStartup, deriveBlocks, listened, restartScan, deriveLeaves, startLpu, deriveBolts, deriveRoad, viewDeck, startBzu]
@[simp] theorem completeStartup_health : (completeStartup s).phu.health = s.phu.health := by
  simp [completeStartup, deriveBlocks, listened, restartScan, deriveLeaves, startLpu, deriveBolts, deriveRoad, viewDeck, startBzu]
@[simp] theorem completeStartup_pending : (completeStartup s).pending = s.pending := by
  simp [completeStartup, deriveBlocks, listened, restartScan, deriveLeaves, startLpu, deriveBolts, deriveRoad, viewDeck, startBzu]

/-- The derived leaf state is SEATED_LOCKED, HALTED or TRIPPED (R121). -/
theorem derivedLeaf_rests (lost : Bool) : (s.derivedLeaf lost).1 = .seatedLocked ∨
    (s.derivedLeaf lost).1 = .halted ∨ (s.derivedLeaf lost).1 = .tripped := by
  unfold State.derivedLeaf; repeat' split
  all_goals simp

/-! ### The soft reset (R39) -/

/-- At rest on the seat, in HALTED or in TRIPPED the LMC does nothing on a wind report (R102, R117). -/
theorem reportWind_rests {s : State} (h : s.lmc.leaf = .seatedLocked ∨ s.lmc.leaf = .halted ∨ s.lmc.leaf = .tripped) :
    reportWind s = s := by
  unfold reportWind; rcases h with h | h | h <;> simp only [h]

/-- The wind judged anew with the leaves at rest. -/
theorem windWritten_rests {s : State} (h : s.lmc.leaf = .seatedLocked ∨ s.lmc.leaf = .halted ∨ s.lmc.leaf = .tripped) :
    Reach [.latched, .wind] s (windWritten s) := by
  have k (w : Wind) (c : Bool) : Reach [.latched, .wind] s (latchIf c .wind
      (s.onMsu fun m => { m with wind := w.judge (s.par pDerateLimit) (s.par pStopLimit) })) :=
    (latchIf_reach _ _ _).comp (by decide) ((Move.wind w _ _ s).reach.mono (by decide))
  unfold windWritten recomputeWind judgeWind
  dsimp only
  split
  · rw [reportWind_rests]
    · exact k _ _
    · rw [(latchIf_reach _ _ _).lmc_eq (by decide)]; exact h
  · exact k _ _

/-- What is judged anew after the reload, the leaves at rest (R96, R134, R159, R200). -/
theorem softReview_reach {s : State} (h : s.lmc.leaf = .seatedLocked ∨ s.lmc.leaf = .halted ∨ s.lmc.leaf = .tripped) :
    Reach [.latched, .locks, .wind, .psc, .health] s (softReview s) := by
  unfold softReview
  exact (markWorns_reach _ _).comp (by decide) ((reviewTide_reach _).comp (by decide)
    ((windWritten_rests (by exact h)).comp (by decide) ((onLpu_reach _ s (by intro _; exact ⟨rfl, rfl, rfl⟩)).mono (by decide))))

/-- The PSC's part: an open batch is CLOSED, its called items returned (R173). -/
theorem softPsc_reach : Reach [.vt, .queues, .batch] s (softPsc s) := by
  unfold softPsc
  dsimp only
  split
  · exact (onBatch_reach _ _).comp (by decide) (returnItems_reach s)
  · exact (onBatch_reach _ _).comp (by decide) (returnItems_reach s)
  · exact (onBatch_reach _ s).mono (by decide)
  all_goals exact .refl s

theorem restartScan_reach : Reach [.proving] s (restartScan s) := onPhu_reach _ s fun _ => ⟨rfl, rfl⟩

/-- The state of the soft reset with arms, road, bolts and leaves derived. -/
def softDerived : State :=
  deriveLeaves s.positionLost s.lmc.motion.softReset (deriveBolts (softRcs s.flashOn (softBzu (softApu s))))

@[simp] theorem softDerived_tb : (softDerived s).tb = s.tb := by unfold softDerived softRcs; split <;> rfl
@[simp] theorem softDerived_pins : (softDerived s).pins = s.pins := by unfold softDerived softRcs; split <;> rfl
@[simp] theorem softDerived_apu :
    (softDerived s).apu = { reloadTable s.apu with level := .view, restart := false } := by
  unfold softDerived softRcs; split <;> rfl
@[simp] theorem softDerived_cl : (softDerived s).cl = (softApu s).cl := by unfold softDerived softRcs; split <;> rfl
@[simp] theorem softDerived_bzu : (softDerived s).bzu = (softBzu s).bzu := by unfold softDerived softRcs; split <;> rfl
@[simp] theorem softDerived_motion : (softDerived s).lmc.motion = s.lmc.motion.softReset := by
  unfold softDerived softRcs; split <;> rfl
@[simp] theorem softDerived_msu : (softDerived s).msu = s.msu := by unfold softDerived softRcs; split <;> rfl
@[simp] theorem softDerived_vt : (softDerived s).vt = s.vt := by unfold softDerived softRcs; split <;> rfl
@[simp] theorem softDerived_psc : (softDerived s).psc = s.psc := by unfold softDerived softRcs; split <;> rfl
@[simp] theorem softDerived_csu : (softDerived s).csu = s.csu := by unfold softDerived softRcs; split <;> rfl
@[simp] theorem softDerived_phu : (softDerived s).phu = s.phu := by unfold softDerived softRcs; split <;> rfl
@[simp] theorem softDerived_pending : (softDerived s).pending = s.pending := by
  unfold softDerived softRcs; split <;> rfl

theorem softDerived_rests : (softDerived s).lmc.leaf = .seatedLocked ∨ (softDerived s).lmc.leaf = .halted ∨
    (softDerived s).lmc.leaf = .tripped := derivedLeaf_rests _ _

/-- The rest of the soft reset, from the state with the blocks derived; the signals and the scan are set anew. -/
theorem takeSoftReset_reach :
    Reach [.latched, .cleared, .link, .wind, .locks, .vt, .queues, .batch, .psc, .signals, .proving, .health] (softDerived s)
      (takeSoftReset s) := by
  have h1 := softPsc_reach (softDerived s)
  have h2 : Reach [.signals] _ (softCsu (softPsc (softDerived s))) := (Move.signals _ _).reach
  have h3 := restartScan_reach (softCsu (softPsc (softDerived s)))
  have hl : (restartScan (softCsu (softPsc (softDerived s)))).lmc = (softDerived s).lmc :=
    (h3.lmc_eq (by decide)).trans ((h2.lmc_eq (by decide)).trans (h1.lmc_eq (by decide)))
  have h4 := softReview_reach (s := restartScan (softCsu (softPsc (softDerived s))))
    (by rw [hl]; exact softDerived_rests s)
  have h5 (u : State) : Reach [.latched, .cleared, .link] u (u.onCl
      fun l => { l with latched := 0, framer := .hunt, gap := 0 }) :=
    (onCl_reach (fun l => { l with framer := .hunt, gap := 0 }) _ fun _ => rfl).comp (by decide)
      ((Move.clear u).reach.mono (by decide))
  exact (h5 _).comp (by decide) (h4.comp (by decide) (h3.comp (by decide) (h2.comp (by decide) (h1.mono (by decide)))))

end Sys2Proof.Machine
end

