-- ==== Sys2Proof/Tests/Slice0.lean ====
section
/-! SUPPORT. Tests of the model against the manual: the checks of WellFormed, the words of requests written out from the
field layouts, the check value of R5, the worked examples of the chapters, and one step of the commands the
witnesses (Witnesses.lean) do not show. Expected values come from spec/, named at each test. -/

namespace Sys2Proof.Tests

open Sys2Proof Sys2Proof.Machine

set_option Elab.async false

/-! ### Helpers -/

/-- The state after a command. -/
abbrev after (c : Instr) (s : State) : State := s.after c

/-- The pending reply's outcome, reason and detail (R9). -/
def head (s : State) : List Nat := (((s.cl.reply.getD []).drop 1).take 3).map (·.toNat)

/-- The pending reply's data, after the header of 4 and the snapshot of 8 bytes (R9, R13). -/
def data (s : State) : List Nat := ((s.cl.reply.getD []).drop 12).map (·.toNat)

/-- A part at MAINTAIN with a VALID store: the road OPEN with every arm UP and every zone clear for 100 s, the leaves
SEATED_LOCKED at angle 0, and a calm wind. -/
def ready : State :=
  { State.reset with
    apu := { State.reset.apu with level := .maintain, storeStatus := .valid }
    pins := { State.reset.pins with
      armUp := Vector.replicate 8 true, boltDriven := Vector.replicate 4 true, seat := ⟨true, true⟩ }
    bzu :=
      { arms := Vector.replicate 8 { Arm.reset with state := .up, cause := none }
        zones := Vector.replicate 6 { Zone.reset with clearTicks := 10000 } }
    rcs := { State.reset.rcs with road := .opened, deckClear := true, dwellWait := false }
    lpu := { State.reset.lpu with
      bolts := Vector.replicate 4 { Bolt.reset with state := .driven, cause := none }
      seats := ⟨⟨true, none⟩, ⟨true, none⟩⟩ }
    lmc := { State.reset.lmc with leaf := .seatedLocked, trip := none }
    msu :=
      { Msu.reset with
        encoders := Vector.replicate 4 { Encoder.reset with state := .valid, run := 0, last := some 0 }
        angles := ⟨{ LeafAngle.reset with source := .primary }, { LeafAngle.reset with source := .primary }⟩
        wind := { Msu.reset.wind with window := [10, 10, 10], w := 75, known := true, band := some .below
                                      pct := 100 } } }

/-- `ready` with the road in another state. -/
def road (r : RoadState) (s : State) : State := s.onRcs fun x => { x with road := r }

/-- A state with the leaves in another state. -/
def leaves (l : LeafState) (s : State) : State := s.onLmc fun x => { x with leaf := l }

/-- A state with arm `a` in another state. -/
def arm (a : Fin 8) (st : ArmState) (s : State) : State := s.onArm a fun r => { r with state := st }

/-- A state with bolt `b` in another state. -/
def bolt (b : Fin 4) (st : BoltState) (s : State) : State := s.onBolt b fun r => { r with state := st }

/-- A state at a level. -/
def level (l : Level) (s : State) : State := s.onApu fun a => { a with level := l }

/-- A state with a table value. -/
def par (i : Fin 64) (v : Nat) (s : State) : State := s.onApu fun a => { a with table := a.table.set i v }

/-- A vessel of the table, SIGHTED, SEAWARD, with no air draught. -/
def ship (n : Word) : Vessel := { identity := n, side := .seaward, air := none, life := 45, state := .sighted }

/-! ### WellFormed: what each check refuses, and what it takes -/

theorem test_wf_no_values : (Instr.paramWrite 3 []).wellFormed = false := by decide
theorem test_wf_seventeen_values : (Instr.paramWrite 3 (List.replicate 17 0)).wellFormed = false := by decide
theorem test_wf_sixteen_values : (Instr.paramWrite 3 (List.replicate 16 0)).wellFormed = true := by decide
theorem test_wf_good_length : (Instr.lengthByteError 250).wellFormed = false := by decide
theorem test_wf_bad_length : (Instr.lengthByteError 251).wellFormed = true := by decide
theorem test_wf_heel_bolt : (Instr.centreBoltAligned 2).wellFormed = false := by decide
theorem test_wf_centre_bolt : (Instr.centreBoltAligned 1).wellFormed = true := by decide

/-! ### Requests written out from section 1.6 and the field layouts, one of each family -/

theorem test_body_logon :
    decodeBody [0x10, 2, 0, 0, 0x1E, 0x16] = .command (.logon 2 7702) := by decide
theorem test_body_param_write :
    decodeBody [0x14, 13, 0, 0, 0, 60, 0, 0, 0, 80] = .command (.paramWrite 13 [60, 80]) := by decide
theorem test_body_arm_service :
    decodeBody [0x24, 5, 1] = .command (.armServiceOut 5) ∧ decodeBody [0x24, 5, 2] = .armServiceAction 5 2 := by decide
theorem test_body_pumps : decodeBody [0x30, 0] = .command .pumpsStop ∧ decodeBody [0x30] = .badLength := by decide
theorem test_body_raise :
    decodeBody [0x32] = .command .raise ∧ decodeBody [0x32, 0x1C, 0x20] = .command (.raiseExplicit 7200) := by decide
theorem test_body_join :
    decodeBody [0x50, 0, 0, 0x9C, 0xB5, 1, 3, 0, 120] = .command (.join 40117 1 3 120) := by decide
theorem test_body_tide : decodeBody [0x53, 0xFF, 0x9D] = .command (.tide (BitVec.ofInt 16 (-99))) := by decide
theorem test_body_vessel_passed :
    decodeBody [0x60, 0, 1, 0x57, 0xC1] = .command (.vesselPassed 88001) := by decide
theorem test_body_health_set : decodeBody [0x73, 11, 96] = .command (.healthSet 11 96) := by decide
theorem test_body_unknown : decodeBody [0x04] = .unknown ∧ decodeBody [] = .unknown := by decide

/-- R5: "this check computed over the nine ASCII bytes 123456789 is 0x29B1". -/
theorem test_crc : crc16 [0x31, 0x32, 0x33, 0x34, 0x35, 0x36, 0x37, 0x38, 0x39] = 0x29B1 := by decide +kernel

/-! ### Start-up (R31, R36, R59, R95, R121) -/

/-- POWER_ON and STARTUP_END on a part with every input inactive and a store that fails its check give State.reset,
but that each encoder's record counts the five silent periods of the listen (R124, R125, R136). -/
theorem test_reset :
    after .startupEnd (after (.powerOn ⟨false, false, false⟩ false) (after .supplyLoss State.reset)) =
      State.reset.onMsu fun m => { m with
        encoders := m.encoders.map fun e => { e with run := 8, cause := .silent, frameErrors := 5 } } := by
  decide +kernel

/-- Section 2.6: straps 4, an INVALID store lets any MAINTAIN code in, RESTART is refused STORE (reason 11). -/
theorem test_lost_store :
    let s := after .startupEnd (after (.powerOn ⟨false, false, true⟩ false) State.reset)
    let m := after .replyEnd (after (.logon 2 1234) s)
    s.apu.record.straps = 4 ∧ s.apu.record.storeInvalid = true ∧
      head (after .closeRoad s) = [2, 3, 0] ∧ head (after (.logon 1 1234) s) = [2, 3, 0] ∧
      m.apu.level = .maintain ∧ head (after .restart m) = [2, 11, 0] := by decide +kernel

/-! ### Worked examples -/

/-- Section 2.5: the first write stops at Vk 80 (RANGE, detail 14), the second passes. -/
theorem test_write_stops :
    let s := after (.paramWrite 13 [60, 80, 8]) ready
    let t := after (.paramWrite 13 [100, 80, 8]) (after .replyEnd s)
    head s = [2, 9, 14] ∧ [s.par pVc, s.par pVk, s.par pR] = [60, 40, 5] ∧
      head t = [0, 0, 0] ∧ data t = [3] ∧ [t.par pVc, t.par pVk, t.par pR] = [100, 80, 8] := by decide +kernel

/-- Section 1.8: an overrun counted before STATUS, whose reply returns LINK (0x8000) and shows an empty set. -/
theorem test_status_returns_link :
    let s := after .status (ready.onCl fun l => { l with latched := 0x8000, overruns := 1 })
    data s = [0x80, 0] ∧ s.cl.latched = 0 ∧ ((s.cl.reply.getD []).drop 10).take 2 = [0, 0] := by decide +kernel

/-- Section 3.7: a lowering arm met by its edge reverses and counts 1; the end of the reversal sets re-lower pending. -/
theorem test_obstructed_arm :
    let s := after (.obstructionEdgeActive 0) (arm 0 .lowering (road .stopping ready))
    let t := after (.armUpLimitMade 0) s
    (s.arm 0).state = .raising ∧ (s.arm 0).obstructions = 1 ∧ (s.arm 0).timeout = 90 ∧
      (t.arm 0).state = .up ∧ (t.arm 0).relowerPending = true ∧ (t.arm 0).relowerWait = some 0 := by decide +kernel

/-- Section 4.8: a zone occupied in SECURING reverses the exit arms, latches DECK and ROAD and returns to CLEARING. -/
theorem test_late_cyclist :
    let s := exitArms.foldl (fun t a => arm a .lowering t)
      (entryArms.foldl (fun t a => arm a .down t) (road .securing ready))
    let t := after (.zoneFilterExpiry 1) ((s.onPins fun p => { p with zoneOccupied := p.zoneOccupied.set 1 true }).onZone 1
      fun z => { z with filter := some 10 })
    t.rcs.road = .clearing ∧ (t.arm 2).state = .raising ∧ (t.arm 6).state = .raising ∧
      t.rcs.stepTimer = .clearanceLimit ∧ t.cl.latched = 5 ∧ (t.arm 2).obstructions = 0 := by decide +kernel

/-- Section 4.9: an arm displaced in SECURED breaches the road, and the repeated lower command starts its stroke. -/
theorem test_breach :
    let s := allArms.foldl (fun t a => arm a .down t) (road .secured ready)
    let t := after (.armDisplaced 6) (s.onArm 6 fun r => { r with displaceTimer := some 100 })
    t.rcs.road = .breached ∧ (t.arm 6).state = .lowering ∧ t.bells = false ∧ t.cl.latched = 3 := by decide +kernel

/-- Section 5.8: the wait for alignment ends at a misalignment of 12 within 15; a bolt's report takes 53 − 14 = 39. -/
theorem test_alignment :
    let s := (bolt 0 .driving ready).onMsu fun m => { m with angles :=
      ⟨{ m.angles.north with angle := 3 }, { m.angles.south with angle := -9 }⟩ }
    let t := after (.centreBoltAligned 0) (s.onBolt 0 fun r => { r with elapsed := 140, nominal := 40, outputOn := none })
    let u := after (.boltDrivenSwitchMade 0) ((t.onBolt 0 fun r => { r with elapsed := 530, full := true }))
    t.boltDriveOutput 0 = true ∧ u.phu.health[8].ratio = some 97 ∧ (u.bolt 0).state = .driven := by decide +kernel

/-- The motion record of section 6.10 at its first period. -/
def worked : Motion :=
  { Motion.reset with
    present := true, direction := .raise, target := 7200, vc := 250, vk := 40, r := 5, b := 300, bs := 150
    w := 10, sDead := 20, sTrip := 200
    leaves := ⟨⟨150, 150, false⟩, ⟨190, 190, false⟩⟩ }

/-- Section 6.10, first period: references +108 and +185; second period: +80 and +180. -/
theorem test_worked_periods :
    let m := worked.period 6500 6440 70
    let n := m.period 6502 6444 70
    [m.leaves.north.reference, m.leaves.south.reference] = [108, 185] ∧
      [n.leaves.north.reference, n.leaves.south.reference] = [80, 180] := by decide +kernel

/-- Section 6.10: the floors of the square roots. -/
theorem test_isqrt : [isqrt 201600, isqrt 231600, isqrt 200600, isqrt 229600] = [448, 481, 447, 479] := by decide +kernel

/-- Section 6.11: the wind at Ws below the commit angle 3000 begins a WIND halt; its periods step by 10. -/
theorem test_gust :
    let s := (leaves .raising (road .secured ready)).onMotion fun _ =>
      { worked with target := 5000, commitFraction := 60, leaves := ⟨⟨150, 150, false⟩, ⟨150, 150, false⟩⟩ }
    let t := reportWind (s.onMsu fun m => { m with angles :=
      ⟨{ m.angles.north with angle := 2600 }, { m.angles.south with angle := 2620 }⟩ })
    let u := after .controlPeriod t
    t.lmc.motion.halt = .wind ∧ t.cl.latched = 0x48 ∧ u.driveReference .north = 140 ∧
      u.driveReference .south = 140 := by decide +kernel

/-- Section 7.6, periods 2 to 4 of the NORTH encoders: CHECK, then HELD at 4010. -/
theorem test_encoders_fail :
    let s := after (.encoderPeriodEnd (.reading 4010) (.reading 4002) (.reading 0) (.reading 0)) ready
    let p2 := after (.encoderPeriodEnd .corrupt (.reading 4006) (.reading 0) (.reading 0)) s
    let p3 := after (.encoderPeriodEnd .silent (.reading 4010) (.reading 0) (.reading 0)) p2
    let p4 := after (.encoderPeriodEnd .silent .corrupt (.reading 0) (.reading 0)) p3
    (s.angle .north = 4010 ∧ s.msu.angles.north.difference = 8) ∧
      (p2.msu.angles.north.source = .check ∧ p2.angle .north = 4006 ∧ p2.cl.latched = 0x80) ∧
      (p4.msu.angles.north.source = .held ∧ p4.angle .north = 4010 ∧ p4.msu.encoders[0].state = .lost ∧
        p4.msu.encoders[0].frameErrors = 3 ∧ p4.msu.encoders[1].run = 1) := by decide +kernel

/-- Section 7.7: the window 20, 22, 22 with counts 30 and 35 gives w 185 and 217, pct 52 and 40, band STOP. -/
theorem test_gust_window :
    let s := ready.onMsu fun m => { m with wind := { m.wind with window := [20, 22, 22], interval := 30, w := 160
                                                                 band := some .derate, pct := 70 } }
    let t := after .anemoIntervalEnd s
    let u := after .anemoIntervalEnd (t.onMsu fun m => { m with wind := { m.wind with interval := 35 } })
    (t.msu.wind.w = 185 ∧ t.msu.wind.pct = 52 ∧ t.cl.latched = 0) ∧
      (u.msu.wind.w = 217 ∧ u.msu.wind.pct = 40 ∧ u.msu.wind.band = some .stop ∧ u.cl.latched = 0x40) := by
  decide +kernel

/-- Section 9.13: the contributions of F, G, H, J, A, B, D and P with C = 95 − 32 and Tf 7800. -/
theorem test_contributions :
    let s := ready.onPsc fun p => { p with tide := { level := 32, time := 0, present := true, stale := false } }
    ([100, 129, 90, 110, 118, 128, 105, 150].map fun a => s.contribution 7800 (some a)) =
      [1800, 3278, 1340, 2300, 2700, 3225, 2050, 4560] := by decide +kernel

/-- Section 10.8: the window's end shows STOP, then the changeover offers the other side, which shows GO. -/
theorem test_two_turns :
    let item (k : Fin 32) (d : Side) (o : ItemOutcome) : Item := ⟨k, 7, d, 1, 3000, o⟩
    let s := (leaves .raised ready).onPsc fun p =>
      { p with batch := { p.batch with state := .running, items := [item 0 .landward .called, item 1 .seaward .called] } }
    let s := s.onCsu fun c => { c with phase := .turn, current := some .landward, window := some 30000
                                       sealTimer := none, aspects := ⟨.stop, .go⟩
                                       sides := ⟨SideTurn.reset, { SideTurn.reset with status := .go }⟩ }
    let t := after .passageWindowExpiry s
    let u := after .changeoverExpiry t
    (t.aspect .seaward = .standby ∧ t.aspect .landward = .stop ∧ t.csu.phase = .changeover) ∧
      (u.aspect .seaward = .go ∧ u.aspect .landward = .stop ∧ u.csu.horn = 200 ∧ u.csu.window = some 0) := by
  decide +kernel

/-- Section 11.7: the second counted fault of circuit 9 declares it FAILED and latches CIRCUIT. -/
theorem test_lamp_fails :
    let s := ready.onPhu fun p => { p with
      proving := some ⟨9, false, true, false, 2⟩
      circuits := p.circuits.set 9 { Circuit.reset with counted := .fault } }
    let t := after (.provingEnd 3) s
    t.phu.circuits[9].failed = true ∧ t.phu.circuits[9].lastResult = .opened ∧ t.cl.latched = 0x800 := by
  decide +kernel

/-- Section 11.8: the four health updates, the last of which sets WORN and latches HEALTH. -/
theorem test_health :
    [healthAfter 240 (healthSample (strokeRatio 60 78)), healthAfter 229 (healthSample (strokeRatio 60 60)),
      healthAfter 96 (healthSample (strokeRatio 40 70)), healthAfter 90 (healthSample (strokeRatio 40 76))] =
        [229, 235, 90, 75] ∧
    (let t := reportStroke 11 40 76 ((par pBoltThreshold 80 ready).onHealth 11 fun h => { h with value := 90 })
     t.worn 11 = true ∧ t.cl.latched = 0x1000) := by decide +kernel

/-! ### The line, byte by byte (R2) -/

/-- The frame of IDENTIFY, byte after byte in HUNT, is answered DONE with vendor 0x0D5C, part 0x0220, revision 3. -/
theorem test_identify_on_the_line :
    let s := (wireFrame [0x01]).foldl (fun t b => after (.consoleByteReceived b) t) State.reset
    head s = [0, 0, 0] ∧ (data s).take 5 = [0x0D, 0x5C, 2, 0x20, 3] ∧ s.cl.framer = .hunt := by decide +kernel

/-! ### The tick of an empty queue (notes 1 and 5) -/

/-- The hundredth tick advances the seconds counter. -/
theorem test_second :
    (match step (State.reset.onTb fun b => { b with subTick := 99 }) with
      | .next t => [t.tb.seconds.toNat, t.tb.subTick]
      | _ => []) = [1, 0] := by decide +kernel

/-- A prewarn of 10 s that has run 999 ticks passes on to STOPPING at the next. -/
theorem test_prewarn_tick :
    (match step (road .prewarn (ready.onRcs fun r => { r with stepTimer := .prewarn, stepElapsed := 999 })) with
      | .next t => some (t.rcs.road, t.rcs.stepTimer)
      | _ => none) = some (.stopping, .entryDelay) := by decide +kernel

end Sys2Proof.Tests
end

