-- ==== Sys2Proof/Tests/Witnesses.lean ====
section
/-! SUPPORT. For every statement with hypotheses, concrete states and operands that meet them together, clause by clause and
at the boundaries of the ranges, with what the command then does. The name after `witness_` is the statement's. -/

namespace Sys2Proof.Tests

open Sys2Proof Sys2Proof.Machine

set_option Elab.async false

/-! ### The step and the console link -/

theorem witness_RequestBodiesRoundTrip :
    (∀ i ∈ [Instr.identify, .join 40117 1 3 120, .paramWrite 0 [7], .paramWrite 63 (List.replicate 16 0xFFFFFFFF)],
      i.isRequest = true ∧ i.wellFormed = true ∧ decodeBody (encodeBody i) = .command i) := by decide +kernel

theorem witness_WireFrameIsDispatched :
    State.reset.taking = true ∧ State.reset.cl.framer = .hunt ∧
      (∀ n ∈ [1, 250], 1 ≤ (List.replicate n (0x01 : Byte)).length ∧ (List.replicate n (0x01 : Byte)).length ≤ 250) ∧
      head ((wireFrame (List.replicate 20 0x01)).foldl (fun t b => receiveByte b t) State.reset) = [2, 1, 0] := by
  decide +kernel

/-- A part whose framer stands in a state. -/
def framed (f : Framer) : State := ready.onCl fun l => { l with framer := f }

theorem witness_FramerTakesBytes :
    (framed .hunt).running = true ∧ (framed .length).cl.framer = .length ∧
      (after (.consoleByteReceived 1) (framed .length)).cl.framer = .body 1 [] ∧
      (after (.consoleByteReceived 250) (framed .length)).cl.framer = .body 250 [] ∧
      (after (.consoleByteReceived 9) (framed (.body 2 []))).cl.framer = .body 2 [9] ∧
      (after (.consoleByteReceived 9) (framed (.body 2 [9]))).cl.framer = .checkHigh 2 [9, 9] ∧
      (after (.consoleByteReceived 7) (framed (.checkHigh 2 [9, 9]))).cl.framer = .checkLow 2 [9, 9] 7 ∧
      (framed .length).cl.framer ≠ .hunt ∧ (after .gapTimeout (framed .length)).cl.timeouts = 1 ∧
      (after .gapTimeout (framed .hunt)).cl.timeouts = 0 := by decide +kernel

/-- The framer one byte short of a whole frame whose body is a request's. -/
def lastByte (i : Instr) (s : State) : State :=
  let high : Byte := (crc16 (BitVec.ofNat 8 (encodeBody i).length :: encodeBody i)).extractLsb' 8 8
  s.onCl fun l => { l with framer := .checkLow (encodeBody i).length (encodeBody i) high }

/-- The low byte of the check of a request's frame. -/
def lowByte (i : Instr) : Byte := (crc16 (BitVec.ofNat 8 (encodeBody i).length :: encodeBody i)).extractLsb' 0 8

theorem witness_GoodFrameIsItsRequest :
    let i : Instr := .tide 30
    let s := lastByte i ready
    i.isRequest = true ∧ i.wellFormed = true ∧ s.taking = true ∧
      of16 ((crc16 (BitVec.ofNat 8 3 :: encodeBody i)).extractLsb' 8 8) (lowByte i) =
        crc16 (BitVec.ofNat 8 (encodeBody i).length :: encodeBody i) ∧
      (after (.frameComplete (lowByte i)) s).psc.tide.level = 30 := by decide +kernel

/-- The header of the reply to a body that arrives in a good frame. -/
def answered (body : List Byte) (s : State) : List Nat :=
  let check := crc16 (BitVec.ofNat 8 body.length :: body)
  head (after (.frameComplete (check.extractLsb' 0 8))
    (s.onCl fun l => { l with framer := .checkLow body.length body (check.extractLsb' 8 8) }))

/-- R8, R53, R57, R92: the codes beside the catalogue's, the lengths beside a request's, and the action bytes above 1. -/
theorem witness_GoodFrameIsItsRequest_noRow :
    ready.taking = true ∧
    (∀ code ∈ ([0x00, 0x04, 0x0F, 0x18, 0x26, 0x38, 0x43, 0x58, 0x62, 0x74, 0xFF] : List Byte),
      answered [code] ready = [2, 2, 0]) ∧
    (∀ body ∈ ([[0x01, 0], [0x10, 1, 0, 0, 0], [0x14, 0], 0x14 :: List.replicate 8 0, 0x14 :: List.replicate 69 0,
        [0x24, 8], [0x32, 0], [0x32, 0, 0, 0]] : List (List Byte)), answered body ready = [2, 1, 0]) ∧
    (answered [0x24, 7, 2] ready = [2, 9, 2] ∧ answered [0x24, 8, 255] ready = [2, 9, 1] ∧
      answered [0x25, 6, 2] ready = [2, 9, 2] ∧ answered [0x25, 1, 2] ready = [2, 9, 2] ∧
      answered [0x25, 7, 2] ready = [2, 9, 1] ∧ answered [0x25, 0, 2] ready = [2, 9, 1]) ∧
    (answered [0x24, 7, 2] (level .operate ready) = [2, 3, 0] ∧
      answered [0x25, 1, 2] (ready.onApu fun a => { a with frozen := true }) = [2, 4, 0]) ∧
    (answered [0x30, 2] (level .operate ready) = [2, 9, 1] ∧ answered [0x30, 2] (level .view ready) = [2, 3, 0]) := by
  decide +kernel

theorem witness_FramesNotTaken :
    let i : Instr := .status
    let busy := (lastByte i ready).onCl fun l => { l with reply := some [] }
    let waits := (lastByte i ready).onApu fun a => { a with restart := true }
    (busy.running = true ∧ busy.cl.reply.isSome = true ∧
      (after (.frameComplete (lowByte i)) busy).cl.overruns = 1) ∧
    (waits.cl.reply = none ∧ waits.apu.restart = true ∧ (after (.frameComplete (lowByte i)) waits).cl.reply = none) ∧
    (of16 ((crc16 (1 :: encodeBody i)).extractLsb' 8 8) (lowByte i + 1) ≠ crc16 (1 :: encodeBody i) ∧
      (after (.frameComplete (lowByte i + 1)) (lastByte i ready)).cl.crcErrors = 1) ∧
    ((catalogue .status).isSome = true ∧ busy.taking = false ∧ (after .status busy).cl.overruns = 1) := by
  decide +kernel

theorem witness_LengthByteErrorDiscards :
    let s := framed .length
    s.running = true ∧ s.cl.framer = .length ∧
      (∀ b ∈ ([0, 251, 255] : List Byte), (b.toNat = 0 ∨ 250 < b.toNat) ∧
        (after (.lengthByteError b) s).cl.framingErrors = 1 ∧ (after (.lengthByteError b) s).cl.latched = 0x8000 ∧
        (after (.lengthByteError b) s).cl.framer = .hunt ∧
        (after (.consoleByteReceived 0xC3) (after (.lengthByteError b) s)).cl.framer = .length) := by decide +kernel

theorem witness_RepliesAndRefusals :
    Instr.isRequest .lower = true ∧ ready.taking = true ∧
      ((after .lower ready).cl.reply.getD [])[1]? = some 2 := by decide +kernel

theorem witness_AuthorityTestsRefuse :
    (catalogue .closeRoad).map (·.level) = some .operate ∧
      head (after .closeRoad (level .view ready)) = [2, 3, 0] ∧
      head (after (.logon 1 5) (ready.onApu fun a => { a with mismatch := 5 })) = [2, 5, 0] ∧
      head (after (.armServiceOut 0) (ready.onApu fun a => { a with frozen := true })) = [2, 4, 0] ∧
      head (after .paramCommit (ready.onApu fun a => { a with commit := some a.table })) = [2, 10, 0] := by
  decide +kernel

/-! ### Reports, authority and parameters -/

theorem witness_CountersReadClears :
    let s := ready.onCl fun l => { l with crcErrors := 1, overruns := 258 }
    s.taking = true ∧ data (after .counters s) = [0, 1, 0, 0, 0, 0, 1, 2] ∧ (after .counters s).cl.overruns = 0 := by
  decide +kernel

theorem witness_ReadsReport :
    ready.taking = true ∧ head (after (.paramRead 64 1) ready) = [2, 9, 1] ∧
      head (after (.paramRead 63 0) ready) = [2, 9, 2] ∧ head (after (.paramRead 0 17) ready) = [2, 9, 2] ∧
      head (after (.paramRead 63 2) ready) = [2, 9, 2] ∧ (data (after (.paramRead 63 1) ready)).length = 11 ∧
      (data (after (.paramRead 48 16) ready)).length = 71 ∧ (data (after .leafRead ready)).length = 110 ∧
      (data (after .batchRead ready)).length = 35 ∧ (data (after .healthRead ready)).length = 64 ∧
      (data (after .roadRead ready)).length = 159 ∧ (data (after .measureRead ready)).length = 62 ∧
      (data (after .circuitRead ready)).length = 69 ∧ (data (after .channelRead ready)).length = 41 := by decide +kernel

theorem witness_ReadsReport_ranges :
    head (after (.queueRead 2 0) ready) = [2, 9, 1] ∧ head (after (.queueRead 1 4) ready) = [2, 9, 2] ∧
      head (after (.queueRead 1 3) ready) = [0, 0, 0] ∧ head (after (.vesselRead 32) ready) = [2, 9, 1] ∧
      head (after (.vesselRead 31) ready) = [0, 0, 0] ∧ head (after (.vesselRead 1) ready) = [0, 0, 0] ∧
      head (after (.vesselRead 0) ready) = [0, 0, 0] := by decide +kernel

/-- A part with both codes written and MAINT_EN strapped. -/
def coded : State :=
  (par pOperatorCode 5511 (par pMaintainerCode 7702 ready)).onApu fun a => { a with straps := ⟨false, false, true⟩ }

theorem witness_LogonOutcomes :
    coded.allows logonRequest ∧ ready.allows logonRequest ∧
      (head (after (.logon 0 1) coded) = [2, 9, 1] ∧ head (after (.logon 3 1) coded) = [2, 9, 1]) ∧
      (ready.apu.straps.maintEn = false ∧ head (after (.logon 2 7702) ready) = [2, 3, 0]) ∧
      (ready.par pOperatorCode = 0 ∧ head (after (.logon 1 0) ready) = [2, 3, 0]) ∧
      (coded.apu.storeStatus ≠ .invalid ∧ head (after (.logon 2 0) (par pMaintainerCode 0 coded)) = [2, 3, 0]) ∧
      ((after (.logon 1 5511) coded).apu.level = .operate ∧ (after (.logon 2 7702) coded).apu.level = .maintain) ∧
      (after (.logon 2 1) (coded.onApu fun a => { a with storeStatus := .invalid })).apu.level = .maintain ∧
      (head (after (.logon 1 5512) coded) = [2, 6, 0] ∧ (after (.logon 1 5512) coded).apu.mismatch = 1 ∧
        head (after (.logon 2 7703) coded) = [2, 6, 0]) := by
  unfold State.allows; decide +kernel

theorem witness_LogoffSetsView :
    ready.taking = true ∧ head (after .logoff ready) = [0, 0, 0] ∧ (after .logoff ready).apu.level = .view := by
  decide +kernel

theorem witness_FreezeHoldsConfiguration :
    ready.allows (maintainRequest 0x12) ∧ (after .freeze ready).cl.latched = 0x2000 ∧
      (let s := ready.onApu fun a => { a with frozen := true }
       s.apu.frozen = true ∧ (after .paramDefaults s).apu.table = s.apu.table ∧
         (after .logoff s).apu.frozen = true) := by
  unfold State.allows; decide +kernel

theorem witness_ParameterWritesAndCommit :
    ready.allows (tableRequest 0x14) ∧ ready.allows (tableRequest 0x15) ∧ ready.allows (tableRequest 0x16) ∧
      (acceptable ready.apu.table 0 4 = false ∧ head (after (.paramWrite 0 [4]) ready) = [2, 9, 0]) ∧
      (acceptable ready.apu.table 0 5 = true ∧ (after (.paramWrite 0 [5]) ready).par 0 = 5) ∧
      (acceptable ready.apu.table 63 9 = true ∧ head (after (.paramWrite 63 [9, 9]) ready) = [2, 9, 64]) ∧
      head (after (.paramWrite 64 [9]) ready) = [2, 9, 64] ∧
      (after .paramDefaults (par pMask 3 ready)).cl.mask = 65535 ∧
      (let s := (after .paramCommit ready).onCl fun l => { l with reply := none }
       s.running = true ∧ s.apu.commit.isSome = true ∧ (after (.commitEnd false) s).apu.storeStatus = .writeFailed ∧
         (after (.commitEnd true) s).apu.storeStatus = .valid ∧ (after (.commitEnd true) s).cl.latched = 0x4000) ∧
      (ready.apu.commit = none ∧ (after (.commitEnd true) ready).cl.latched = 0) := by
  unfold State.allows; decide +kernel

/-- Leaves under way in a state, with these references. -/
def under (l : LeafState) (north south : Int) (s : State) : State :=
  (leaves l s).onMotion fun _ =>
    { worked with leaves := ⟨⟨north.natAbs, north, false⟩, ⟨south.natAbs, south, false⟩⟩ }

theorem witness_RestartBeginsHalt :
    ready.allows (operateRequest 0x17) ∧ (under .raising 5 0 ready).allows (operateRequest 0x17) ∧
      (let s := ready.onApu fun a => { a with storeStatus := .invalid }
       s.allows (operateRequest 0x17) ∧ head (after .restart s) = [2, 11, 0]) ∧
      (ready.lmc.leaf ≠ .raising ∧ ready.lmc.leaf ≠ .lowering ∧ (after .restart ready).apu.restart = true) ∧
      ((under .raising 5 0 ready).lmc.motion.leaves.north.reference ≠ 0 ∧
        (after .restart (under .raising 5 0 ready)).lmc.motion.halt = .restart) ∧
      (after .restart (under .lowering 0 0 ready)).lmc.leaf = .halted := by
  unfold State.allows; decide +kernel

theorem witness_RestartBarsNewWork :
    let s := ready.onApu fun a => { a with restart := true }
    s.apu.restart = true ∧ s.atEase = true ∧ (after .controlPeriod s).atEase = true := by decide +kernel

/-! ### Supply, RESET and start-up -/

theorem witness_SupplyAndReset :
    let held := ready.onTb fun b => { b with phase := .resetHeld }
    let busy := ready.onApu fun a => { a with commit := some a.table }
    (ready.tb.phase = .run ∧ (after .hardResetAssert ready).tb.phase = .resetHeld) ∧
      (held.tb.phase = .resetHeld ∧ after .hardResetAssert held = held ∧
        (after (.hardResetRelease ⟨true, false, false⟩ true) held).tb.phase = .startup) ∧
      (busy.apu.commit.isSome = true ∧ (after (.powerOn ⟨false, false, false⟩ true) busy).apu.store = .broken) ∧
      (ready.apu.commit = none ∧ after (.hardResetRelease ⟨false, false, false⟩ true) ready = ready) ∧
      (held.tb.phase ≠ .run ∧ held.redA = !held.redB ∧ held.motor 0 = .off) := by decide +kernel

/-- R35: the channel shows STOP and the horn is off outside the run, whatever the part showed before. -/
theorem witness_SupplyAndReset_failSafe :
    let going := (ready.onCsu fun c => { c with aspects := ⟨.go, .standby⟩, horn := 100 }).onTb fun b =>
      { b with phase := .startup }
    (going.tb.phase ≠ .run ∧ going.hornOn = false ∧
      (List.finRange 8).map (fun k : Fin 8 => going.circuitOn ⟨6 + k.val, by omega⟩) =
        [true, true, false, false, true, true, false, false]) ∧
      (after .hardResetAssert going).circuitOn 6 = true ∧ (after .hardResetAssert going).hornOn = false := by
  decide +kernel

theorem witness_StartupEndDerives :
    let s := (ready.onTb fun b => { b with phase := .startup }).onMsu fun m =>
      { m with listen := { periods := 5, answered := 3, lost := false } }
    s.tb.phase = .startup ∧ 5 ≤ s.msu.listen.periods ∧ (after .startupEnd s).apu.record.encoders = 3 ∧ ready.tb.phase ≠ .startup ∧ (after .startupEnd s).lmc.leaf = .seatedLocked ∧
      (after .startupEnd s).rcs.road = .opened ∧
      (let u := s.onPins fun p => { p with boltDriven := p.boltDriven.set 0 false }
       (after .startupEnd u).lmc.leaf ≠ .seatedLocked ∧ (after .startupEnd u).lmc.leaf = .halted) := by decide +kernel

theorem witness_SoftResetReloads :
    let s := (arm 3 .outOfService (par pMask 5 ready)).onApu fun a =>
      { a with restart := true, store := .image defaultTable 0 }
    let failed := ready.onApu fun a => { a with restart := true, storeStatus := .writeFailed }
    (s.softResetDue = true ∧ s.apu.storeStatus = .valid ∧ (s.arm 3).state = .outOfService ∧
      (s.arm 2).state ≠ .outOfService ∧ (after .softResetEffect s).cl.mask = 65535 ∧
      (after .softResetEffect s).apu.level = .view ∧ ((after .softResetEffect s).arm 3).state = .outOfService) ∧
      (failed.softResetDue = true ∧ failed.apu.storeStatus = .writeFailed ∧
        (after .softResetEffect failed).apu.modified = true) ∧
      (ready.softResetDue = false ∧ after .softResetEffect ready = ready) := by decide +kernel

/-- R151, R173, R187: a RUNNING batch is closed, its called vessel waits at its place, and the horn tells that GO ended. -/
theorem witness_SoftResetReloads_batch :
    let item : Item := { slot := 3, identity := 77, side := .seaward, cls := 1, contribution := 3000, outcome := .called }
    let vessel : Vessel := { ship 77 with state := .called, life := 9 }
    let s := ((((ready.onApu fun a => { a with restart := true, store := .image defaultTable 0 }).onVt fun v =>
        { v with slots := v.slots.set 3 (some vessel), lapsed := 4 }).onBatch fun b =>
        { b with state := .running, items := [item, { item with slot := 4, outcome := .passed }] }).onPsc fun p =>
        { p with queues := p.queues.set 1 [⟨3, 5, 6, true⟩], floor := 2, refused := 7 }).onCsu fun c =>
        { c with aspects := ⟨.go, .stop⟩, horn := 3, sealed := true, violations := 2 }
    let t := after .softResetEffect s
    (s.softResetDue = true ∧ s.psc.batch.state = .running) ∧
      (t.vessel 3 = some { vessel with state := .waiting } ∧ t.vt.lapsed = 4 ∧ t.queue 1 = [⟨3, 5, 6, false⟩] ∧
        t.psc.floor = 2 ∧ t.psc.refused = 7) ∧
      (t.psc.batch.state = .closed ∧ t.psc.batch.closedAt = some 0 ∧ t.psc.batch.remaining = 1 ∧
        t.psc.batch.items.map (·.outcome) = [.returned, .passed]) ∧
      (t.csu.horn = 500 ∧ t.csu.sealed = false ∧ t.csu.sealTimer = some 0 ∧ t.csu.violations = 2) ∧
      (after .softResetEffect (s.onCsu fun c => { c with aspects := ⟨.stop, .stop⟩ })).csu.horn = 3 ∧
      (after .softResetEffect (s.onBatch fun b => { b with state := .closing })).psc.batch.items = s.psc.batch.items := by
  decide +kernel

/-- R96, R122, R134, R196: what the locks, the leaves, the wind and the circuits keep or take anew. -/
theorem witness_SoftResetReloads_blocks :
    let due := (ready.onApu fun a => { a with restart := true, store := .image defaultTable 0 })
    let pumps := (due.onPump .north fun p => { p with state := .ready }).onPump .south fun p => { p with state := .ready }
    let raised := (leaves .raised due).onPins fun p => { p with boltDriven := p.boltDriven.set 0 false }
    let failed := (par pAnemoFactor 150 due).onPhu fun p =>
      { p with circuits := p.circuits.set 3 { p.circuits[3] with failed := true }, index := 9, held := [⟨2, true⟩] }
    let hot := due.onPump .north fun p => { p with state := .starting, hold := some 7, limitElapsed := 50 }
    (pumps.softResetDue = true ∧ (after .softResetEffect pumps).lmc.leaf = .seatedLocked ∧
      (after .softResetEffect pumps).lpu.standby = some 0) ∧
      (raised.softResetDue = true ∧ (after .softResetEffect raised).lmc.leaf = .halted ∧
        (after .softResetEffect (after .estopAsserted raised)).lmc.trip = some .estop) ∧
      (failed.softResetDue = true ∧ (after .softResetEffect failed).phu.circuits = failed.phu.circuits ∧
        (after .softResetEffect failed).phu.index = 0 ∧ (after .softResetEffect failed).phu.held = [] ∧
        (after .softResetEffect failed).msu = failed.msu) ∧
      (hot.softResetDue = true ∧ (after .softResetEffect hot).lpu.pumps = hot.lpu.pumps ∧
        (after .softResetEffect hot).lpu.standby = none) := by
  decide +kernel

/-! ### Arms and zones -/

/-- Arm 0 in a state with its two limits at a level each, the road UNKNOWN. -/
def limits (st : ArmState) (up down : Bool) : State :=
  (arm 0 st (road .unknown ready)).onPins fun p => { p with armUp := p.armUp.set 0 up, armDown := p.armDown.set 0 down }

theorem witness_ArmLimitsMade :
    (let s := limits .outOfService false false
     (s.arm 0).state = .outOfService ∧ ((after (.armUpLimitMade 0) s).arm 0).state = .outOfService) ∧
    (let s := limits .lowering true false
     s.pins.armUp[0] = true ∧ ((after (.armDownLimitMade 0) s).arm 0).cause = some .limitConflict) ∧
    (let s := limits .raising false true
     s.pins.armDown[0] = true ∧ ((after (.armUpLimitMade 0) s).arm 0).cause = some .limitConflict) ∧
    (let s := limits .stalled false false
     (s.arm 0).state = .stalled ∧ ((after (.armUpLimitMade 0) s).arm 0).state = .stalled) ∧
    (let s := limits .lowering false false
     s.pins.armUp[0] = false ∧ ((after (.armDownLimitMade 0) s).arm 0).state = .down ∧
       ((after (.armUpLimitMade 0) s).arm 0).state = .lowering) ∧
    (let s := limits .raising false false
     s.pins.armDown[0] = false ∧ ((after (.armUpLimitMade 0) s).arm 0).state = .up ∧
       ((after (.armDownLimitMade 0) s).arm 0).state = .raising) ∧
    (let s := limits .up false false
     (after (.armDownLimitMade 0) s).cl.latched = 2 ∧
       ((after (.armUpLimitMade 0) s).arm 0).state = .up) ∧
    (let s := limits .down false false
     let d := s.onArm 0 fun r => { r with displaced := true }
     ((after (.armUpLimitMade 0) s).arm 0).state = .up ∧ (d.arm 0).displaced = true ∧
       ((after (.armDownLimitMade 0) d).arm 0).displaced = false ∧
       ((after (.armDownLimitMade 0) s).arm 0).state = .down) := by decide +kernel

theorem witness_ArmLimitsReleased :
    ready.running = true ∧ ((after (.armDownLimitReleased 0) (limits .down false true)).arm 0).displaceTimer = some 0 ∧
      ((after (.armUpLimitReleased 0) (limits .up true false)).arm 0).upTimer = some 0 ∧
      ((after (.armStrokeTimeout 0) (limits .raising false false)).arm 0).cause = some .timeout := by decide +kernel

theorem witness_EdgeAndRelowering :
    (let s := limits .lowering false false
     (s.arm 0).state = .lowering ∧ (s.arm 0).obstructions < 3 ∧ s.pins.estop = false ∧
       ¬(s.pins.armUp[0] = true ∧ s.pins.armDown[0] = true) ∧
       ((after (.obstructionEdgeActive 0) (s.onArm 0 fun r => { r with obstructions := 2 })).arm 0).state = .raising) ∧
    (let s := (limits .lowering false false).onArm 0 fun r => { r with obstructions := 3 }
     3 ≤ (s.arm 0).obstructions ∧ ((after (.obstructionEdgeActive 0) s).arm 0).cause = some .obstructed) ∧
    ((limits .raising false false).arm 0).state = .raising ∧
    (let s := (limits .up true false).onArm 0 fun r => { r with relowerPending := true }
     (s.arm 0).state ≠ .lowering ∧ (s.arm 0).relowerWait = none ∧ s.apu.restart = false ∧
       ((after (.armRelower 0) s).arm 0).state = .lowering) := by decide +kernel

theorem witness_StrokeStarts :
    (let s := ready.onApu fun a => { a with restart := true }
     s.apu.restart = true ∧ ((startLowering 0 .commanded s).arm 0).state = .up) ∧
    (ready.apu.restart = false ∧ ready.pins.estop = false ∧ ready.pins.armEdge[0] = false ∧
      ¬(ready.pins.armUp[0] = true ∧ ready.pins.armDown[0] = true) ∧
      ((startLowering 0 .commanded ready).arm 0).timeout = 90 ∧
      ((startLowering 1 .commanded ready).arm 1).timeout = 60) ∧
    (let s := ready.onPins fun p => { p with estop := true }
     s.pins.estop = true ∧ ((startLowering 0 .commanded s).arm 0).cause = some .estop) ∧
    (let s := limits .up true true
     s.pins.armUp[0] = true ∧ s.pins.armDown[0] = true ∧
       ((startLowering 0 .commanded s).arm 0).cause = some .limitConflict) := by decide +kernel

/-- Arm `a` stalled after a stroke. -/
def stalled (a : Fin 8) (l : ArmStroke) : State := ready.onArm a fun r => { r with state := .stalled, last := l }

theorem witness_ArmRequests :
    (7 : Byte).toNat = (7 : Fin 8).val ∧ ready.allows (operateRequest 0x23) ∧ ready.allows (serviceRequest 0x24) ∧
      head (after (.armRetry 7) ready) = [2, 7, 0] ∧
      (isExit 7 = true ∧ (after (.armRetry 7) (stalled 7 .none)).cl.reply.isSome = true ∧
        head (after (.armRetry 7) ((stalled 7 .lower).onZone 0 fun z => { z with filtered := true })) = [2, 8, 16]) ∧
      data (after (.armRetry 7) (stalled 7 .lower)) = [7, 1] ∧
      data (after (.armRetry 0) (stalled 0 .raise)) = [0, 3] ∧
      data (after (.armServiceOut 7) (arm 7 .outOfService ready)) = [7, 5, 0] ∧
      head (after (.armServiceOut 7) (arm 7 .down ready)) = [2, 7, 0] ∧
      head (after (.armServiceOut 7) (road .secured ready)) = [2, 7, 0] ∧
      data (after (.armServiceOut 7) ready) = [7, 5, 0] ∧
      head (after (.armServiceReturn 7) ready) = [0, 0, 0] ∧
      data (after (.armServiceReturn 7) (arm 7 .outOfService ready)) = [7, 0, 0] := by
  unfold State.allows; decide +kernel

theorem witness_ZoneInputsAndBypass :
    let marked := ready.onZone 0 fun z => { z with bypassed := true, filtered := true }
    let timed := ready.onZone 0 fun z => { z with filter := some 10, faultEnd := some 10 }
    (ready.running = true ∧ (ready.zone 0).filtered = false ∧ (ready.zone 0).filter = none ∧
      ((after (.zoneOccupancyInput 0 true) ready).zone 0).filter = some 0) ∧
      ((timed.zone 0).filter ≠ none ∧ (timed.zone 0).faultEnd ≠ none ∧
        ((after (.zoneFilterExpiry 0) (after (.zoneOccupancyInput 0 true) timed)).zone 0).filtered = true) ∧
      ((6 : Byte).toNat = (5 : Fin 6).val + 1 ∧ (1 : Byte).toNat = (0 : Fin 6).val + 1 ∧
        ready.allows (serviceRequest 0x25)) ∧
      ((ready.zone 5).bypassed = false ∧ data (after (.zoneBypassSet 6) ready) = [6, 0, 1, 0]) ∧
      ((marked.zone 0).bypassed = true ∧ data (after (.zoneBypassClear 1) marked) = [1, 1, 0, 1]) := by
  unfold State.allows; decide +kernel

theorem witness_ZoneChangeIsTaken :
    let f : Zone → Zone := fun r => { r with fault := true }
    let s := leaves .raised ready
    (f (s.zone 3)).counted ≠ (s.zone 3).counted ∧ (s.zone 3).occupied = false ∧ (f (s.zone 3)).occupied = true ∧
      (3 : Fin 6).val < 4 ∧ s.lmc.leaf ≠ .seatedLocked ∧ (changeZone 3 f s).cl.latched = 4 ∧
      ((changeZone 3 f s).zone 3).clearTicks = 0 := by decide +kernel

/-! ### Road closure -/

theorem witness_CloseRoadOutcomes :
    ready.allows (operateRequest 0x20) ∧
      head (after .closeRoad (road .secured ready)) = [2, 7, 0] ∧
      head (after .closeRoad (ready.onApu fun a => { a with storeStatus := .writeFailed })) = [2, 8, 15] ∧
      head (after .closeRoad (ready.onPhu fun p => { p with circuits :=
        (p.circuits.set 1 { Circuit.reset with failed := true }).set 2 { Circuit.reset with failed := true } })) =
          [2, 8, 13] ∧
      head (after .closeRoad (arm 4 .outOfService (arm 5 .outOfService ready))) = [2, 8, 14] ∧
      (let s := ready.onRcs fun r => { r with openTime := some 0 }
       0 < s.intervalRemaining ∧ s.intervalWaived = false ∧ head (after .closeRoad s) = [2, 19, 0]) ∧
      (ready.storeUnusable = false ∧ ready.redSignalLost = false ∧ ready.noEntryArm = false ∧
        ready.intervalRemaining = 0 ∧ data (after .closeRoad ready) = [0, 10, 0, 8, 0, 5, 0, 120] ∧
        (after .closeRoad ready).rcs.road = .prewarn) := by
  unfold State.allows; decide +kernel

theorem witness_OpenRoadOutcomes :
    let s := allArms.foldl (fun t a => arm a .down t) (road .secured ready)
    ready.allows (operateRequest 0x21) ∧ head (after .openRoad ready) = [2, 7, 0] ∧
      (s.rcs.road ≠ .opened ∧ s.rcs.road ≠ .reopening ∧ (leaves .raised s).lmc.leaf ≠ .seatedLocked ∧
        head (after .openRoad (leaves .raised s)) = [2, 8, 2]) ∧
      (s.lmc.leaf = .seatedLocked ∧ data (after .openRoad s) = [0, 2] ∧ (2 : Fin 8) ∈ exitArms ∧
        ((after .openRoad s).arm 2).state = .raising ∧ ((after .openRoad s).arm 0).state = .down) := by
  unfold State.allows; decide +kernel

/-- The road in a state with a step timer. -/
def timed (r : RoadState) (t : StepTimer) : State := (road r ready).onRcs fun x => { x with stepTimer := t }

theorem witness_RoadTimersAndFlash :
    ((timed .opened .none).rcs.stepTimer ≠ .prewarn ∧ (timed .prewarn .prewarn).rcs.stepTimer = .prewarn ∧
      (after .prewarnExpiry (timed .prewarn .prewarn)).rcs.road = .stopping) ∧
    (let s := timed .stopping .entryDelay
     s.rcs.stepTimer = .entryDelay ∧ s.apu.restart = false ∧ s.pins.estop = false ∧ (0 : Fin 8) ∈ entryArms ∧
       (s.arm 0).state = .up ∧ (s.arm 0).relowerPending = false ∧ s.pins.armEdge[0] = false ∧
       ((after .entryDelayExpiry s).arm 0).state = .lowering ∧ ((after .entryDelayExpiry s).arm 2).state = .up) ∧
    ((timed .clearing .clearanceLimit).rcs.stepTimer = .clearanceLimit ∧
      (after .clearanceLimitExpiry (timed .clearing .clearanceLimit)).cl.latched = 4) ∧
    ((timed .reopening .runOn).rcs.stepTimer = .runOn ∧
      (after .runOnExpiry (timed .reopening .runOn)).rcs.openTime = some 0) ∧
    (let s := (timed .prewarn .none).onRcs fun r => { r with dwellWait := true, deckClear := false }
     s.rcs.dwellWait = true ∧ s.deckOccupied = false ∧ (after .dwellWaitExpiry s).rcs.deckClear = true) ∧
    ((road .prewarn ready).flashOn = true ∧ ready.flashOn = false ∧
      (after .redFlashChange (road .prewarn ready)).redA = false) := by decide +kernel

/-! ### Span locks and hydraulic power -/

/-- Bolt 0 in a state with its two switches at a level each. -/
def switches (st : BoltState) (driven withdrawn : Bool) : State :=
  ((bolt 0 st ready).onBolt 0 fun r => { r with outputOn := some 0 }).onPins fun p =>
    { p with boltDriven := p.boltDriven.set 0 driven, boltWithdrawn := p.boltWithdrawn.set 0 withdrawn }

theorem witness_BoltEvents :
    (let s := switches .withdrawing false false
     (s.bolt 0).state = .withdrawing ∧ s.pins.boltDriven[0] = false ∧
       ((after (.boltWithdrawnSwitchMade 0) s).bolt 0).state = .withdrawn) ∧
    (let s := leaves .locking (switches .driving false false)
     (s.bolt 0).outputOn ≠ none ∧ (after (.boltDrivenSwitchMade 0) s).lmc.leaf = .seatedLocked) ∧
    (let s := (switches .driving false false).onBolt 0 fun r => { r with outputOn := none }
     (s.bolt 0).outputOn = none ∧ ((after (.boltDrivenSwitchMade 0) s).bolt 0).state = .driving ∧
       s.msu.angles.north.source ≠ .lost ∧ (after (.centreBoltAligned 0) s).boltDriveOutput 0 = true ∧
       ((after (.boltStrokeTimeout 0) s).bolt 0).cause = some .misaligned) ∧
    (((after (.boltWithdrawnSwitchMade 0) (switches .withdrawing true false)).bolt 0).cause = some .switchConflict ∧
      ((after (.boltDrivenSwitchMade 0) (switches .driving false true)).bolt 0).cause = some .switchConflict) ∧
    (let s := (switches .jammed true true).onBolt 0 fun r => { r with cause := some .switchConflict }
     (s.bolt 0).cause = some .switchConflict ∧ (after (.boltDrivenSwitchMade 0) s).cl.latched = 0) ∧
    (((after (.boltWithdrawnSwitchMade 0) (switches .withdrawn false false)).bolt 0).restTimer = none ∧
      ((after (.boltSwitchReleased 0 .driven) (switches .driven true false)).bolt 0).restTimer = some 0) ∧
    (let s := (switches .driven false false).onBolt 0 fun r => { r with restTimer := some 100 }
     (s.bolt 0).restTimer ≠ none ∧ (after (.boltNoPosition 0) s).lmc.leaf = .halted) ∧
    ((after (.boltStrokeTimeout 0) (switches .withdrawing false false)).bolt 0).cause = some .timeout := by
  decide +kernel

/-- A pump group in a state. -/
def pump (g : Leaf) (st : PumpState) (s : State) : State := s.onPump g fun p => { p with state := st }

theorem witness_SeatsAndPumps :
    let starting := pump .north .starting ready
    let held := starting.onPump .north fun p => { p with hold := some 5 }
    let filtering := ready.onSeat .north fun r => { r with filter := some 5 }
    let standing := ready.onLpu fun l => { l with standby := some 60000 }
    (ready.running = true ∧ (ready.lpu.seats.get .north).made = true ∧ (ready.lpu.seats.get .north).filter = none ∧
      ((after (.seatSwitchInput .north false) ready).lpu.seats.get .north).filter = some 0) ∧
      ((filtering.lpu.seats.get .north).filter ≠ none ∧
        (after (.seatSwitchFilterExpiry .north) (after (.seatSwitchInput .north false) filtering)).lmc.leaf =
          .halted) ∧
      ((starting.pump .north).state = .starting ∧ (starting.pump .north).hold = none ∧
        ((after (.pressureOkMade .north) starting).pump .north).hold = some 0) ∧
      ((held.pump .north).hold ≠ none ∧ ((after (.pumpReady .north) held).pump .north).state = .ready ∧
        ((after (.pressureOkReleased .north) held).pump .north).hold = none) ∧
      ((after (.pressureOkReleased .north) (pump .north .ready ready)).cl.latched = 0x20) ∧
      ((ready.pump .north).state = .stopped ∧ ((after (.pumpStartLimitExpiry .north) starting).pump .north).state =
        .fault) ∧
      (standing.lpu.standby ≠ none ∧
        ((after .standbyExpiry (pump .south .ready standing)).pump .south).state = .stopped) := by decide +kernel

theorem witness_LockPowerRequests :
    let jammed (k : BoltStroke) : State := (bolt 3 .jammed ready).onBolt 3 fun r => { r with last := k }
    ready.allows (operateRequest 0x30) ∧ ready.allows (operateRequest 0x31) ∧
      head (after .pumpsStart (ready.onPins fun p => { p with estop := true })) = [2, 7, 0] ∧
      (ready.pins.estop = false ∧ data (after .pumpsStart ready) = [1, 1]) ∧
      head (after .pumpsStop (leaves .locking ready)) = [2, 7, 0] ∧
      data (after .pumpsStop (pump .north .ready ready)) = [0, 0] ∧
      head (after .lockRetry (jammed .none)) = [2, 7, 0] ∧
      (((jammed .drive).bolt 3).last = .drive ∧
        head (after .lockRetry (leaves .raised (jammed .drive))) = [2, 8, 2]) ∧
      (data (after .lockRetry (leaves .unlocking (jammed .withdraw))) = [1, 0, 0, 0, 1]) := by
  unfold State.allows; decide +kernel

/-! ### Leaf motion -/

/-- The road SECURED, the leaves seated and a batch FORMED with an opening angle. -/
def formed : State :=
  (road .secured ready).onPsc fun p => { p with batch := { p.batch with state := .formed, angle := 5000 } }

theorem witness_RaiseOutcomes :
    formed.allows (operateRequest 0x32) ∧ formed.allows (maintainRequest 0x32) ∧
      head (after .raise (leaves .raised formed)) = [2, 7, 0] ∧
      head (after .raise (road .secured ready)) = [2, 8, 12] ∧
      head (after .raise (road .clearing formed)) = [2, 8, 1] ∧
      head (after (.raiseExplicit 100) (formed.onMsu fun m => { m with wind := { m.wind with known := false } })) =
        [2, 8, 4] ∧
      data (after .raise formed) = [0x13, 0x88, 1] ∧ (after .raise formed).lmc.motion.source = .batch ∧
      (data (after (.raiseExplicit 0) formed) = [0x01, 0xF4, 1] ∧
        data (after (.raiseExplicit 0xFFFF) formed) = [0x1E, 0x78, 1]) := by
  unfold State.allows; decide +kernel

theorem witness_LowerOutcomes :
    let s := (leaves .raised ready).onCsu fun c => { c with sealed := true }
    s.allows (operateRequest 0x33) ∧ head (after .lower ready) = [2, 7, 0] ∧
      head (after .lower ((leaves .unlocking ready).onApu fun a => { a with storeStatus := .invalid })) = [2, 8, 15] ∧
      (after .lower (leaves .unlocking ready)).lmc.leaf = .seatedLocked ∧
      head (after .lower (leaves .raised ready)) = [2, 8, 11] ∧
      (data (after .lower s) = [4] ∧ (after .lower s).lmc.motion.awaitingPumps = true) := by
  unfold State.allows; decide +kernel

theorem witness_StopAndTripClear :
    let s := leaves .tripped (ready.onLmc fun l => { l with trip := some .skew })
    ready.taking = true ∧ data (after .stop ready) = [0] ∧ data (after .stop (leaves .unlocking ready)) = [6] ∧
      (under .raising 5 5 ready).lmc.motion.leaves.north.reference ≠ 0 ∧
      (after .stop (under .raising 5 5 ready)).lmc.motion.halt = .stop ∧
      data (after .stop (under .lowering 0 0 ready)) = [6] ∧ s.allows (operateRequest 0x35) ∧
      head (after .tripClear ready) = [2, 7, 0] ∧
      head (after .tripClear (s.onPins fun p => { p with estop := true })) = [2, 8, 7] ∧
      (s.lmc.leaf = .tripped ∧ s.leafZoneOccupied = false ∧ s.positionLost = false ∧ s.pumpFault = false ∧
        data (after .tripClear s) = [6] ∧ (after .tripClear s).lmc.trip = none) := by
  unfold State.allows; decide +kernel

theorem witness_TripsStopTheLeaves :
    let s := under .raising 9 9 (pump .north .ready (arm 0 .lowering ready))
    let t := after .estopAsserted s
    s.running = true ∧ s.lmc.leaf ≠ .tripped ∧ s.lmc.leaf ≠ .seatedLocked ∧ t.running = true ∧
      t.lmc.leaf = .tripped ∧ t.lmc.trip = some .estop ∧ t.lmc.motion.leaves.north.reference = 0 ∧
      (t.arm 0).cause = some .estop ∧ (t.pump .north).state = .stopped := by decide +kernel

/-- R51, R85, R91: an UP arm with a re-lowering pending, a centre bolt waiting for alignment, and a group in FAULT. -/
theorem witness_TripsStopTheLeaves_all :
    let waits := (ready.onArm 2 fun r => { r with relowerPending := true, last := .raise }).onBolt 1 fun r =>
      { r with state := .driving, last := .drive }
    let s := pump .south .fault (pump .north .starting (leaves .locking waits))
    let t := after .estopAsserted s
    ((t.arm 2).state = .stalled ∧ (t.arm 2).cause = some .estop ∧ (t.arm 2).last = .lower ∧
      (t.arm 2).relowerPending = false ∧ t.arm 3 = s.arm 3) ∧
      ((t.bolt 1).state = .jammed ∧ (t.bolt 1).cause = some .estop ∧ (t.bolt 1).last = .drive ∧ t.bolt 0 = s.bolt 0) ∧
      ((t.pump .north).state = .stopped ∧ t.pump .south = s.pump .south) ∧
      (s.rcs.road ≠ .reopening ∧ t.cl.latched &&& 0x22 = 0x22 ∧ t.lmc.leaf = .tripped) ∧
      ((after .estopAsserted ready).cl.latched = 0 ∧ (after .estopAsserted ready).lmc.leaf = .seatedLocked) := by
  decide +kernel

theorem witness_ControlPeriodOutcomes :
    let near (d : Direction) (h : Halt) : State :=
      (under (match d with | .raise => .raising | .lower => .lowering) 5 5 (road .secured ready)).onMotion fun m =>
        { m with direction := d, target := 0, halt := h }
    ((under .raising 5 5 (ready.onPins fun p => { p with estop := true })).tripNow = some .estop ∧
      (after .controlPeriod (under .raising 5 5 (ready.onPins fun p => { p with estop := true }))).lmc.leaf =
        .tripped) ∧
    (ready.tripNow = none ∧ ready.lmc.leaf ≠ .raising ∧ after .controlPeriod ready = ready) ∧
    (let s := under .raising 5 5 (road .secured ready)
     s.tripNow = none ∧ s.lmc.motion.awaitingPumps = false ∧ (after .controlPeriod s).driveReference .north = 10) ∧
    ((near .raise .none).tripNow = none ∧ (after .controlPeriod (near .raise .none)).lmc.leaf = .raised) ∧
    ((after .controlPeriod (near .lower .none)).lmc.leaf = .seatedLocked ∧
      (after .controlPeriod ((near .lower .none).onSeat .north fun r => { r with made := false })).lmc.leaf =
        .lowering) ∧
    ((after .controlPeriod (near .raise .stop)).lmc.leaf = .halted ∧
      (after .controlPeriod (near .raise .wind)).lmc.motion.source = .reversal ∧
      (after .controlPeriod ((near .raise .stop).onMotion fun m => { m with target := 7000 })).lmc.leaf =
        .halted) := by decide +kernel

theorem witness_ReferenceComputation :
    (2 : Nat) ^ 64 - 1 < 2 ^ 64 ∧ isqrt (2 ^ 64 - 1) = 2 ^ 32 - 1 ∧ isqrt 0 = 0 ∧ worked.vk ≤ worked.vc ∧
      (100 : Nat) ≤ 100 ∧ worked.halt = .none ∧
      worked.b < ((worked.target : Int) - 6500).natAbs ∧ ((worked.target : Int) - 6500).natAbs < 2 ^ 20 ∧
      ((worked.target : Int) - 7000).natAbs ≤ worked.b ∧ worked.targetSpeed 7000 100 = 40 ∧
      ((worked.period 7195 7195 100).leaves.north.arrived = true) ∧
      (({ worked with halt := .stop } : Motion).period 6500 6500 100).leaves.north.vPrev = 140 := by decide +kernel

/-! ### Measurement -/

theorem witness_EncoderPeriods :
    ready.running = true ∧
      (∀ v ∈ ([-100, 9000] : List Int), -100 ≤ (BitVec.ofInt 16 v).toInt ∧ (BitVec.ofInt 16 v).toInt ≤ 9000 ∧
        (after (.encoderPeriodEnd (.reading (BitVec.ofInt 16 v)) .silent .silent .silent) ready).angle .north = v) ∧
      (∀ v ∈ ([-101, 9001] : List Int),
        (after (.encoderPeriodEnd (.reading (BitVec.ofInt 16 v)) .silent .silent .corrupt) ready).msu.encoders[0].cause =
          .range) ∧
      (let t := after (.encoderPeriodEnd .silent .corrupt .silent (.reading 7)) ready
       t.msu.encoders[1].cause = .check ∧ t.msu.angles.south.source = .check ∧ t.angle .south = 7 ∧
         t.msu.angles.north.source = .held ∧ t.cl.latched = 0x80) ∧
      (let s := ready.onMsu fun m => { m with encoders := m.encoders.map fun e => { e with run := 2, state := .suspect } }
       (after (.encoderPeriodEnd .silent .silent .silent .silent) s).msu.angles.north.source = .lost) := by
  decide +kernel

theorem witness_WindAndDerate :
    let proving := ready.onPhu fun p => { p with proving := some ⟨14, false, false, false, 0⟩ }
    let discarding := ready.onMsu fun m => { m with wind := { m.wind with discard := true, interval := 9 } }
    (ready.running = true ∧ ready.phu.proving = none ∧ (after .anemoPulse ready).msu.wind.interval = 1) ∧
      (proving.phu.proving.isSome = true ∧ (after .anemoPulse proving).msu.wind.interval = 0) ∧
      (discarding.msu.wind.discard = true ∧ (after .anemoIntervalEnd discarding).msu.wind.interval = 0) ∧
      (ready.msu.wind.discard = false ∧ ready.msu.wind.window = [10, 10, 10] ∧
        (after .anemoIntervalEnd ready).msu.wind.window = [10, 10, 0]) ∧
      (State.reset.msu.wind.window.length < 2 ∧ (after .anemoIntervalEnd State.reset).msu.wind.known = false) ∧
      ((120 : Nat) < 200 ∧ pctOf 120 120 200 = 100 ∧ pctOf 121 120 200 = 100 ∧ pctOf 199 120 200 = 41 ∧
        pctOf 200 120 200 = 40) := by decide +kernel

/-! ### Vessels, queues and the batch -/

/-- A vessel in slot 0, in a state. -/
def berth (st : VesselState) (s : State) : State := setSlot 0 (some { ship 40117 with state := st }) s

/-- A full table of one vessel over and over, in a state. -/
def crowd (st : VesselState) : State :=
  ready.onVt fun t => { t with slots := Vector.replicate 32 (some { ship 9 with state := st }) }

theorem witness_VesselTable :
    (let s := berth .passed ready
     s.allows (operateRequest 0x40) ∧ s.findVessel 40117 = some 0 ∧ s.vessel 0 = some { ship 40117 with state := .passed } ∧
       (after (.vesselReport 40117 1 0) s).vessel 0 = some { ship 40117 with side := .landward }) ∧
    (ready.findVessel 7 = none ∧ ready.vessel 0 = none ∧
      ((after (.vesselReport 7 0 1200) ready).vessel 0).map (·.air) = some (some 999)) ∧
    (let s := berth .waiting ready
     s.allows (operateRequest 0x42) ∧ data (after (.vesselClear 1) s) = [1, 1, 0] ∧
       data (after (.vesselClear 3) (berth .called ready)) = [0, 0, 1] ∧ (after (.vesselClear 1) s).vessel 0 = none ∧
       data (after (.vesselClear 2) s) = [0, 0, 0]) ∧
    (let s := setSlot 0 (some { ship 40117 with state := .waiting, life := 1 }) ready
     (after .epochEnd s).vessel 0 = none ∧ (after .epochEnd s).cl.latched = 0x100 ∧
       ((after .epochEnd (berth .waiting ready)).vessel 0).map (·.life) = some 44) ∧
    ((crowd .waiting).findVessel 7 = none ∧ (∀ k : Fin 32, (crowd .waiting).vessel k ≠ none) ∧
      head (after (.vesselReport 7 0 0) (crowd .waiting)) = [2, 12, 0] ∧
      ((after (.vesselReport 7 0 0) (crowd .sighted)).vessel 0).map (·.identity) = some 7) := by
  unfold State.allows; decide +kernel

/-- The hypotheses of the full table's two clauses, which range over its vessels. -/
theorem witness_VesselTable_full :
    (∀ (k : Fin 32) (v : Vessel), (crowd .waiting).vessel k = some v → v.state = .waiting ∨ v.state = .called) ∧
    (∀ (j : Fin 32) (u : Vessel), (crowd .sighted).vessel j = some u → u.state = .sighted ∨ u.state = .passed →
      (ship 9).life ≤ u.life ∧ (j.val < (0 : Fin 32).val → (ship 9).life < u.life)) := by
  have hw : ∀ k : Fin 32, (crowd .waiting).vessel k = some { ship 9 with state := .waiting } := by decide +kernel
  have hs : ∀ k : Fin 32, (crowd .sighted).vessel k = some (ship 9) := by decide +kernel
  refine ⟨fun k v h => ?_, fun j u h _ => ⟨?_, fun hj => absurd hj (Nat.not_lt_zero _)⟩⟩
  · rw [hw k] at h; exact .inl (Option.some.inj h ▸ rfl)
  · rw [hs j] at h; exact Option.some.inj h ▸ Nat.le_refl _

/-- A queue entry of a slot. -/
def entry (k : Fin 32) : QueueEntry := { slot := k, seq := 1, time := 0, called := false }

/-- A queue with a list of entries. -/
def queued (q : Fin 8) (l : List QueueEntry) (s : State) : State := s.onQueue q fun _ => l

/-- Eight entries from slot `n` on. -/
def eight (n : Nat) : List QueueEntry := (List.range 8).map fun i => entry (Fin.ofNat 32 (n + i))

/-- A pool of 24 entries in SEAWARD classes 1, 2 and 3, the vessels of slots 1 to 24 WAITING, slot 0 SIGHTED. -/
def full : State :=
  (queued 1 (eight 1) (queued 2 (eight 9) (queued 3 (eight 17) ready))).onVt fun t =>
    { t with slots := Vector.ofFn fun k : Fin 32 =>
        if k.val = 0 then some (ship 40117)
        else if k.val < 25 then some { ship (BitVec.ofNat 32 (100 + k.val)) with state := .waiting } else none }

theorem witness_JoinOutcomes :
    (let s := berth .sighted ready
     s.allows (operateRequest 0x50) ∧ s.findVessel 40117 = some 0 ∧ (s.queue (queueOf .landward 3)).length < 8 ∧
       s.pool < 24 ∧ (after (.join 40117 1 3 0) s).queue 7 = [⟨0, 1, 0, false⟩] ∧
       ((after (.join 40117 1 3 0) s).vessel 0).map (·.state) = some .waiting) ∧
    head (after (.join 40117 0 0 0) (berth .waiting ready)) = [2, 16, 0] ∧
    (let s := (berth .sighted ready).onPsc fun p => { p with batch := { p.batch with state := .formed, size := 6 } }
     (after (.join 40117 0 0 120) s).psc.batch.extensions = 1 ∧
       ((after (.join 40117 0 0 120) s).vessel 0).map (·.state) = some .called) ∧
    (let s := queued 0 (eight 1) (berth .sighted ready)
     8 ≤ (s.queue (queueOf .seaward 0)).length ∧ head (after (.join 40117 0 0 0) s) = [2, 13, 0]) ∧
    ((crowd .called).findVessel 7 = none ∧ learnVessel 7 .seaward none (crowd .called) = none ∧
      head (after (.join 7 0 0 0) (crowd .called)) = [2, 12, 0]) ∧
    ((learnVessel 7 .seaward none ready).isSome = true ∧ head (after (.join 7 0 0 0) ready) = [0, 0, 0]) := by
  unfold State.allows; decide +kernel

theorem witness_JoinOutcomes_pool :
    full.allows (operateRequest 0x50) ∧ full.findVessel 40117 = some 0 ∧ 24 ≤ full.pool ∧
      (full.queue (queueOf .seaward 0)).length < 8 ∧ (full.victim .seaward).map (·.1) = some 3 ∧
      (full.queue (queueOf .landward 3)).length < 8 ∧ (full.victim .landward).map (·.1) = some 3 ∧
      head (after (.join 40117 1 3 0) full) = [2, 14, 0] ∧
      (let t := after (.join 40117 0 0 0) full
       head t = [0, 0, 0] ∧ t.psc.displaced = 1 ∧ t.pool = 24 ∧ (t.vessel 17).map (·.state) = some .sighted ∧
         t.cl.latched = 0x100) := by
  unfold State.allows; decide +kernel

/-- A batch of one called vessel, in slot 0 and at the head of SEAWARD class 1. -/
def called (b : BatchState) (s : State) : State :=
  ((berth .called (queued 1 [{ entry 0 with called := true }] s)).onPsc fun p =>
    { p with batch := { p.batch with
        state := b, items := [⟨0, 40117, .seaward, 1, 3000, .called⟩], remaining := 1, leading := some .seaward } })

theorem witness_WithdrawOutcomes :
    ready.allows (operateRequest 0x51) ∧ (ready.findVessel 5 = none ∧ head (after (.withdraw 5) ready) = [2, 15, 0]) ∧
      head (after (.withdraw 40117) (berth .passed ready)) = [2, 7, 0] ∧
      (let s := berth .waiting (queued 3 [entry 0] ready)
       s.findVessel 40117 = some 0 ∧ (after (.withdraw 40117) s).queue 3 = [] ∧
         ((after (.withdraw 40117) s).vessel 0).map (·.state) = some .sighted) ∧
      (after (.withdraw 40117) (called .formed ready)).psc.batch.state = .closing := by
  unfold State.allows; decide +kernel

theorem witness_ClassFloorIsSet :
    ready.allows (operateRequest 0x52) ∧ head (after (.classFloor 4) ready) = [2, 9, 1] ∧
      data (after (.classFloor 0) ready) = [3, 0] ∧ (after (.classFloor 3) ready).psc.floor = 3 ∧
      (called .formed ready).canExtend 0 = false ∧
      ((called .formed ready).onBatch fun b => { b with size := 2 }).canExtend 0 = true ∧
      ((berth .waiting (queued 3 [entry 0] ready)).eligible .seaward).length = 1 := by
  unfold State.allows; decide +kernel

theorem witness_TideAndContribution :
    ready.allows (operateRequest 0x53) ∧ ready.running = true ∧
      data (after (.tide 199) ready) = [0, 199, 0, 0, 0, 0, 0] ∧ data (after (.tide 200) ready) = [0, 199, 1, 0, 0, 0, 0] ∧
      data (after (.tide (BitVec.ofInt 16 (-100))) ready) = [0xFF, 0x9D, 1, 0, 0, 0, 0] ∧
      (let s := (after (.tide 5) ready).onTb fun b => { b with seconds := 1801 }
       s.psc.tide.stale = false ∧ (after .tideStale s).cl.latched = 0x4000 ∧ s.tideStaleNow = true) ∧
      ready.contribution 7800 (some 3) = 7800 := by
  unfold State.allows; decide +kernel

theorem witness_BatchFormationAndAbandon :
    let s := berth .waiting (queued 3 [entry 0] ready)
    s.allows (operateRequest 0x54) ∧ s.allows (operateRequest 0x55) ∧
      head (after .formBatch (leaves .raised s)) = [2, 7, 0] ∧
      (ready.eligible .seaward = [] ∧ ready.eligible .landward = [] ∧ head (after .formBatch ready) = [2, 18, 0]) ∧
      (s.eligible .seaward ≠ [] ∧ s.par pTmin ≤ s.par pTf ∧ (after .formBatch s).psc.batch.state = .formed ∧
        (after .formBatch s).psc.batch.angle = 7800 ∧ (after .formBatch s).aspect .seaward = .standby) ∧
      head (after .abandonBatch s) = [2, 7, 0] ∧
      ((called .running ready).psc.batch.state = .running ∧ data (after .abandonBatch (called .running ready)) = [1, 3] ∧
        ((after .abandonBatch (called .running ready)).vessel 0).map (·.state) = some .waiting) := by
  unfold State.allows; decide +kernel

theorem witness_VesselPassedOutcomes :
    let s := called .running (leaves .raised ready)
    let go := s.onCsu fun c => { c with phase := .turn, current := some .seaward, aspects := ⟨.go, .stop⟩ }
    s.allows (operateRequest 0x60) ∧ (s.calledItem 9 = none ∧ head (after (.vesselPassed 9) s) = [2, 17, 0]) ∧
      ((s.calledItem 40117).isSome = true ∧ (s.vessel 0).isSome = true ∧ s.aspect .seaward ≠ .go ∧
        (after (.vesselPassed 40117) s).csu.violations = 1) ∧
      (go.aspect .seaward = .go ∧ (after (.vesselPassed 40117) go).csu.violations = 0 ∧
        (after (.vesselPassed 40117) go).psc.batch.state = .closing) := by
  unfold State.allows; decide +kernel

/-! ### Channel signals, proving and health -/

theorem witness_ChannelTimersAndTurns :
    let s := called .running (leaves .raised ready)
    let turn := s.onCsu fun c => { c with phase := .turn, current := some .seaward, aspects := ⟨.go, .stop⟩
                                          window := some 5, sealTimer := none }
    let gap := after .passageWindowExpiry turn
    (turn.csu.window ≠ none ∧ gap.csu.phase = .changeover ∧ gap.csu.sealTimer = some 0) ∧
      (s.csu.window = none ∧ s.csu.phase ≠ .changeover) ∧
      (gap.csu.changeover ≠ none ∧ (after .changeoverExpiry gap).csu.phase = .ended ∧
        (after .changeoverExpiry gap).psc.batch.state = .closing) ∧
      (turn.csu.sealTimer = none ∧
        (let c := called .closing ready
         c.csu.sealTimer ≠ none ∧ c.csu.sealed = false ∧ (after .channelSealed c).psc.batch.state = .closed)) ∧
      (s.canOffer .seaward = true ∧ s.lmc.leaf = .raised ∧ s.redsFailed .landward = false ∧
        s.greensFailed .seaward = false ∧ (offerTurn 4 .seaward s).aspect .seaward = .go) ∧
      ((leaves .halted s).canOffer .seaward = true ∧ (offerTurn 4 .seaward (leaves .halted s)).csu.result =
        .goWithdrawn) ∧
      (let f := s.onPhu fun p => { p with circuits :=
        (p.circuits.set 10 { Circuit.reset with failed := true }).set 11 { Circuit.reset with failed := true } }
       f.redsFailed .landward = true ∧ (offerTurn 4 .seaward f).csu.result = .signalDefect) := by decide +kernel

theorem witness_ProvingsAndTests :
    let proving (was : Bool) : State := ready.onPhu fun p => { p with proving := some ⟨0, false, was, false, 2⟩ }
    let held := ready.onPhu fun p => { p with held := [⟨4, false⟩] }
    (ready.provingFree ready.phu.index = true ∧ (after .provingRequest ready).phu.proving.isSome = true) ∧
      ((proving true).provingFree (proving true).phu.index = false ∧
        (after .provingRequest (proving true)).phu.held = [⟨0, false⟩]) ∧
      (held.phu.held = [⟨4, false⟩] ∧ held.phu.proving = none ∧ held.flashHold 4 = false ∧
        (after .provingStart held).phu.held = []) ∧
      ((after (.provingEnd 49) (proving true)).phu.circuits[0].lastResult = .opened ∧
        (ready.limits 0) = (150, 900) ∧ (after (.provingEnd 150) (proving true)).phu.circuits[0].lastResult = .normal ∧
        (after (.provingEnd 900) (proving true)).phu.circuits[0].lastResult = .normal ∧
        (after (.provingEnd 901) (proving true)).phu.circuits[0].lastResult = .overload) ∧
      ((after (.provingEnd 2) (proving false)).phu.circuits[0].lastResult = .normal ∧
        (after (.provingEnd 50) (proving false)).phu.circuits[0].lastResult = .normal ∧
        (after (.provingEnd 51) (proving false)).phu.circuits[0].lastResult = .short) := by decide +kernel

theorem witness_ProvingsAndTests_requests :
    let busy := ready.onPhu fun p => { p with proving := some ⟨0, true, false, false, 2⟩ }
    let scan := ready.onPhu fun p => { p with proving := some ⟨0, false, false, false, 2⟩ }
    let void := ready.onPhu fun p => { p with proving := some ⟨0, false, true, true, 2⟩ }
    ready.allows (maintainRequest 0x71) ∧ (15 : Byte).toNat = (15 : Fin 16).val ∧
      (busy.testCircuit ≠ none ∧ head (after (.circuitTest 15) busy) = [2, 7, 0]) ∧
      (ready.testCircuit = none ∧ ready.provingFree 15 = true ∧ data (after (.circuitTest 15) ready) = [15, 1]) ∧
      (scan.testCircuit = none ∧ scan.provingFree 15 = false ∧ data (after (.circuitTest 15) scan) = [15, 2]) ∧
      (void.phu.proving.map (·.voided) = some true ∧
        (after (.provingEnd 0) void).phu.circuits[0].lastResult = .testVoid) := by
  unfold State.allows; decide +kernel

theorem witness_HealthUpdates :
    (1 : Nat) ≤ 60 ∧ ready.allows (maintainRequest 0x73) ∧ (11 : Byte).toNat = (11 : Fin 12).val ∧
      data (after (.healthSet 11 0) ready) = [11, 1, 1] ∧ data (after (.healthSet 11 255) ready) = [11, 253, 0] ∧
      (after (.healthSet 11 0) ready).cl.latched = 0x1000 := by
  unfold State.allows; decide +kernel

theorem witness_RangeRefusals :
    (ready.allows (operateRequest 0x23) ∧ head (after (.armRetry 8) ready) = [2, 9, 1]) ∧
      (ready.allows (serviceRequest 0x24) ∧ head (after (.armServiceOut 8) ready) = [2, 9, 1]) ∧
      (ready.allows (serviceRequest 0x25) ∧ head (after (.zoneBypassSet 0) ready) = [2, 9, 1] ∧
        head (after (.zoneBypassClear 7) ready) = [2, 9, 1]) ∧
      (ready.allows (operateRequest 0x40) ∧ head (after (.vesselReport 0 0 0) ready) = [2, 9, 1] ∧
        head (after (.vesselReport 1 2 0) ready) = [2, 9, 5]) ∧
      (ready.allows (operateRequest 0x50) ∧ head (after (.join 0 0 0 0) ready) = [2, 9, 1] ∧
        head (after (.join 1 2 0 0) ready) = [2, 9, 5] ∧ head (after (.join 1 1 4 0) ready) = [2, 9, 6]) ∧
      (ready.allows (operateRequest 0x42) ∧ head (after (.vesselClear 0) ready) = [2, 9, 1] ∧
        head (after (.vesselClear 4) ready) = [2, 9, 1]) ∧
      (ready.allows (operateRequest 0x51) ∧ head (after (.withdraw 0) ready) = [2, 9, 1]) ∧
      (ready.allows (operateRequest 0x60) ∧ head (after (.vesselPassed 0) ready) = [2, 9, 1]) ∧
      (ready.allows (maintainRequest 0x71) ∧ head (after (.circuitTest 16) ready) = [2, 9, 1]) ∧
      (ready.allows (maintainRequest 0x73) ∧ head (after (.healthSet 12 9) ready) = [2, 9, 1]) := by
  unfold State.allows; decide +kernel

/-! ### Whole-machine rules -/

theorem witness_SidesKeepApart :
    ready.running = true ∧ Instr.isRoadSide (.armDownLimitMade 0) = true ∧ Instr.isLockSide .standbyExpiry = true ∧
      Instr.isMeasureSide .anemoPulse = true ∧ Instr.isChannelSide .epochEnd = true ∧
      (after (.armDownLimitMade 0) ready).msu = ready.msu ∧ (after .anemoPulse ready).psc = ready.psc := by
  decide +kernel

/-- One state, with the leaves RAISED, a side at GO and a queue, meets every invariant that a step keeps. -/
theorem witness_StepKeeps :
    let s := (called .running (leaves .raised ready)).onCsu fun c =>
      { c with phase := .turn, current := some .seaward, aspects := ⟨.go, .stop⟩ }
    s.speedBounded ∧ s.oneGo ∧ s.poolBounded ∧ s.referencesSafe ∧ s.mismatchBounded ∧ s.healthBounded ∧
      s.aspect .seaward = .go := by
  refine ⟨⟨?_, ?_, ?_, ?_, ?_, ?_, ?_⟩, ?_, ?_, ?_, ?_, ?_, ?_⟩
  · unfold tableCreeps; decide +kernel
  · exact trivial
  · intro t h; cases (show (none : Option (Vector Nat 64)) = some t from h)
  · decide +kernel
  · decide +kernel
  · intro l; cases l <;> decide +kernel
  · intro l; cases l <;> decide +kernel
  · intro d h
    cases d
    · decide +kernel
    · exact absurd h (by decide +kernel)
  · unfold State.poolBounded; decide +kernel
  · intro l _; cases l <;> decide +kernel
  · unfold State.mismatchBounded; decide +kernel
  · unfold State.healthBounded; decide +kernel
  · decide +kernel

end Sys2Proof.Tests
end

