-- ==== Sys2Proof/Tests/WitnessesReports.lean ====
section
/-! SUPPORT. Concrete states and operands that meet together the hypotheses of the clauses on the base tick, on the outputs
in the run, and on what one block does when another reports to it, with what then happens. The name after `witness_` is
the statement's. -/

namespace Sys2Proof.Tests

open Sys2Proof Sys2Proof.Machine

set_option Elab.async false

/-! ### The tick, the link and the reports -/

/-- The state after a step. -/
def stepped (s : State) : State :=
  match step s with
  | .next t => t
  | .fault _ => s
  | .refused _ => s

theorem witness_StepRunsFrontCommand :
    let at99 := ready.onTb fun b => { b with subTick := 99 }
    let off := ready.onTb fun b => { b with phase := .off }
    let held := ready.onTb fun b => { b with phase := .resetHeld }
    (off.pending = [] ∧ off.tb.phase = .off ∧ stepped off = off) ∧
      (held.tb.phase = .resetHeld ∧ (stepped held).tb = held.tb) ∧
      (ready.tb.phase = .run ∧ ready.tb.subTick < 99 ∧ (stepped ready).tb.subTick = 1) ∧
      (99 ≤ at99.tb.subTick ∧ at99.tb.seconds ≠ 0xFFFFFFFF ∧ (stepped at99).tb = ⟨.run, 0, 1⟩) ∧
      (stepped (ready.onCsu fun c => { c with horn := 1 })).hornOn = false := by decide +kernel

theorem witness_FramerTakesBytes_ends :
    let last := framed (.checkLow 1 [0x02] 0x12)
    (∀ b ∈ ([0, 251, 255] : List Byte), (b.toNat = 0 ∨ 250 < b.toNat) ∧
      (after (.consoleByteReceived b) (framed .length)).cl.framingErrors = 1) ∧
      (last.running = true ∧ (after (.consoleByteReceived 7) last).cl.crcErrors = 1 ∧
        after (.frameComplete 7) last = after (.consoleByteReceived 7) last) ∧
      (∀ b ∈ ([1, 250] : List Byte), after (.lengthByteError b) (framed .length) = framed .length) ∧
      (linkDue ((framed .length).onCl fun l => { l with gap := 2 })).cl.timeouts = 1 ∧
      (linkDue ((framed .length).onCl fun l => { l with gap := 1 })).cl.timeouts = 0 := by decide +kernel

/-- A part with the vessels of slots 0 and 31 waiting, the second of them in SEAWARD class 3. -/
def moored : State :=
  queued 3 [entry 31] (setSlot 31 (some { ship 7 with state := .waiting }) (berth .waiting ready))

theorem witness_ReadsReport_records :
    (moored.vessel 31 = some { ship 7 with state := .waiting } ∧ (moored.queue 3)[0]? = some (entry 31) ∧
      (moored.vesselRecord 31).map (·.toNat) = [31, 0, 0, 0, 7, 0, 0, 0, 45, 1, 3, 0, 0, 0, 0, 1, 0, 0, 0, 0]) ∧
    ((moored.vesselRecord 0).map (·.toNat) =
      [0, 0, 0, 0x9C, 0xB5, 0, 0, 0, 45, 1, 0xFF, 0xFF, 0, 0, 0, 0, 0, 0, 0, 0]) ∧
    ((data (after (.queueRead 0 3) moored)).length = 49 ∧ (data (after (.queueRead 1 3) moored)).length = 29) ∧
    ((data (after (.vesselRead 0) moored)).take 5 = [0, 0, 1, 2, 2] ∧
      (data (after (.vesselRead 31) moored)).take 5 = [31, 0, 1, 1, 2]) := by decide +kernel

theorem witness_SupplyAndReset_outputs :
    let s := bolt 0 .withdrawing (arm 1 .lowering (arm 2 .raising (road .prewarn ready)))
    s.tb.phase = .run ∧ (s.motor 0 = .off ∧ s.motor 1 = .lower ∧ s.motor 2 = .raise) ∧
      (s.boltWithdrawOutput 0 = true ∧ s.boltDriveOutput 0 = false ∧ s.pumpOutput .north = false) ∧
      ((under .raising 5 0 s).driveReference .north = 5 ∧ (under .raising 5 0 s).brakeRelease .north = true ∧
        (under .raising 5 0 s).brakeRelease .south = false) ∧
      (s.amber = true ∧ s.bells = true ∧ s.redA = true ∧ s.redB = false ∧ ready.redA = false) ∧
      (s.circuitOn 6 = true ∧ s.circuitOn 7 = true ∧ s.circuitOn 8 = false ∧ s.circuitOn 9 = false) := by
  decide +kernel

/-! ### The road -/

/-- `ready` with these arms DOWN. -/
def lowered (l : List (Fin 8)) : State := l.foldl (fun t a => arm a .down t) ready

theorem witness_ArmLimitsMade_open :
    ((road .prewarn ready).rcs.road = .prewarn ∧ reportArm 0 (road .prewarn ready) = road .prewarn ready) ∧
      ((lowered [0]).rcs.road = .opened ∧ ((reportArm 0 (lowered [0])).arm 0).state = .raising ∧
        reportArm 1 (lowered [0]) = lowered [0]) := by decide +kernel

theorem witness_ArmLimitsMade_closing :
    let sent := (road .stopping (lowered entryArms)).onRcs fun r => { r with entryLowering := true }
    let waits := sent.onRcs fun r => { r with deckClear := false }
    let strayed := (road .clearing (lowered [0, 1, 4])).onApu fun a => { a with restart := false }
    let all := (road .stopping (lowered allArms)).onRcs fun r => { r with entryLowering := true }
    (waits.rcs.road = .stopping ∧ waits.rcs.entryLowering = true ∧ (waits.arm 0).displaced = false ∧
      waits.allHeld entryArms = true ∧ waits.rcs.deckClear = false ∧
      (reportArm 0 waits).rcs.stepTimer = .clearanceLimit ∧ (reportArm 0 waits).cl.latched = 1) ∧
    (sent.apu.restart = false ∧ sent.pins.estop = false ∧ sent.deckCondition = true ∧
      sent.allHeld exitArms = false ∧ (sent.arm 2).state = .up ∧ sent.pins.armEdge[2] = false ∧
      ¬(sent.pins.armUp[2] = true ∧ sent.pins.armDown[2] = true) ∧
      (reportArm 0 sent).rcs.road = .securing ∧ ((reportArm 0 sent).arm 2).state = .lowering) ∧
    ((strayed.arm 5).state = .up ∧ isExit 5 = false ∧ (strayed.arm 5).relowerPending = false ∧
      ((reportArm 5 strayed).arm 5).state = .lowering ∧ reportArm 0 strayed = strayed) ∧
    (all.allHeld allArms = true ∧ all.rcs.deckClear = true ∧ (reportArm 0 all).rcs.road = .secured) := by
  decide +kernel

theorem witness_ArmLimitsMade_securing :
    let s := road .securing (lowered [0, 1, 4, 5, 2, 3, 6])
    let all := road .securing (lowered allArms)
    let met := arm 3 .lowering (s.onZone 0 fun z => { z with filtered := true })
    (all.allHeld allArms = true ∧ (reportArm 7 all).rcs.road = .secured) ∧
    (s.allHeld allArms = false ∧ (s.arm 0).state = .down ∧ (s.arm 0).displaced = false ∧ reportArm 0 s = s) ∧
    ((s.arm 7).state = .up ∧ s.apu.restart = false ∧ s.deckCondition = true ∧
      ((reportArm 7 s).arm 7).state = .lowering) ∧
    ((met.arm 7).state = .up ∧ isExit 7 = true ∧ met.deckCondition = false ∧ (3 : Fin 8) ∈ exitArms ∧
      (reportArm 7 met).rcs.road = .clearing ∧ ((reportArm 7 met).arm 3).state = .raising ∧
      ((reportArm 7 met).arm 7).state = .up ∧ (reportArm 7 met).cl.latched = 5) := by decide +kernel

theorem witness_ArmLimitsMade_secured :
    let shut := road .secured (lowered allArms)
    let s := arm 7 .up shut
    let breached := road .breached s
    (shut.allHeld allArms = true ∧ reportArm 0 shut = shut) ∧
    (s.allHeld allArms = false ∧ (reportArm 7 s).rcs.road = .breached ∧ s.deckCondition = true ∧
      ((reportArm 7 s).arm 7).state = .lowering ∧ (reportArm 7 s).lmc = s.lmc) ∧
    ((leaves .unlocking s).lmc.leaf = .unlocking ∧ (reportArm 7 (leaves .unlocking s)).lmc.leaf = .halted) ∧
    ((under .raising 5 5 s).lmc.motion.leaves.north.reference ≠ 0 ∧
      (reportArm 7 (under .raising 5 5 s)).lmc.motion.halt = .breach ∧
      (reportArm 7 (under .lowering 0 0 s)).lmc.leaf = .halted) ∧
    ((arm 6 .stalled s).allHeld allArms = false ∧ ((reportArm 7 (arm 6 .stalled s)).arm 6).state = .stalled) ∧
    ((road .breached shut).allHeld allArms = true ∧ (reportArm 0 (road .breached shut)).rcs.road = .secured) ∧
    (breached.rcs.road = .breached ∧ reportArm 0 breached = breached ∧
      ((reportArm 7 breached).arm 7).state = .lowering) := by decide +kernel

theorem witness_ArmLimitsReleased_due :
    let timed := (limits .down false false).onArm 0 fun r => { r with displaceTimer := some 100 }
    let early := (limits .down false false).onArm 0 fun r => { r with displaceTimer := some 99 }
    timed.running = true ∧ ((armDue timed 0).arm 0).displaced = true ∧ ((armDue early 0).arm 0).displaced = false ∧
      ((armDue ((limits .lowering false false).onArm 0 fun r => { r with timeout := 6, elapsed := 60 }) 0).arm 0).cause =
        some .timeout := by decide +kernel

theorem witness_StrokeStarts_edge :
    let s := (limits .up true false).onPins fun p => { p with armEdge := p.armEdge.set 0 true }
    let fourth := s.onArm 0 fun r => { r with obstructions := 3 }
    (s.apu.restart = false ∧ s.pins.estop = false ∧ ¬(s.pins.armUp[0] = true ∧ s.pins.armDown[0] = true) ∧
      s.pins.armEdge[0] = true ∧ (s.arm 0).obstructions < 3 ∧
      ((startLowering 0 .relower s).arm 0).state = .raising ∧ ((startLowering 0 .relower s).arm 0).last = .none ∧
      ((startLowering 0 .commanded s).arm 0).obstructions = 1) ∧
    (3 ≤ (fourth.arm 0).obstructions ∧ ((startLowering 0 .commanded fourth).arm 0).cause = some .obstructed) ∧
    (let conflict := (limits .up true true).onPins fun p => { p with armEdge := p.armEdge.set 0 true }
     conflict.pins.armEdge[0] = true ∧ ((startLowering 0 .commanded conflict).arm 0).cause = some .limitConflict ∧
       ((startLowering 0 .commanded conflict).arm 0).obstructions = 0) ∧
    ((startRaising 0 .reversal s).arm 0).reversal = true ∧
      ((startRaising 0 .commanded (limits .down false true)).arm 0).full = true := by decide +kernel

theorem witness_ZoneInputsAndBypass_due :
    let s := ready.onPins fun p => { p with zoneOccupied := p.zoneOccupied.set 4 true }
    ((zoneDue (s.onZone 4 fun r => { r with filter := some 10 }) 4).zone 4).filtered = true ∧
      ((zoneDue (s.onZone 4 fun r => { r with filter := some 9 }) 4).zone 4).filtered = false ∧
      ((tickTimers s).zone 4).clearTicks = 10001 := by decide +kernel

theorem witness_ZoneChangeIsTaken_road :
    let occupied : Zone → Zone := fun r => { r with filtered := true }
    let clear : Zone → Zone := fun r => { r with filtered := false }
    let s := arm 2 .lowering (road .securing ready)
    let full := (road .clearing ready).onZone 3 fun r => { r with filtered := true }
    ((s.zone 3).counted = false ∧ (occupied (s.zone 3)).counted = true ∧ (2 : Fin 8) ∈ exitArms ∧
      (s.arm 2).state = .lowering ∧ s.apu.restart = false ∧ s.pins.estop = false ∧
      (changeZone 3 occupied s).rcs.road = .clearing ∧ ((changeZone 3 occupied s).arm 2).state = .raising ∧
      ((changeZone 3 occupied s).arm 3).state = .up ∧ (changeZone 3 occupied s).cl.latched = 5) ∧
    ((changeZone 3 occupied (road .secured ready)).cl.latched = 4 ∧
      (changeZone 3 occupied (road .secured ready)).rcs.road = .secured) ∧
    ((full.zone 3).counted = true ∧ (clear (full.zone 3)).counted = false ∧ (clear (full.zone 3)).bypassed = false ∧
      1 ≤ full.dwell ∧ (changeZone 3 clear full).rcs.dwellWait = true) := by decide +kernel

theorem witness_OpenRoadOutcomes_steps :
    let s := arm 2 .down (road .reopening ready)
    let up := arm 0 .lowering (arm 1 .stalled (road .reopening ready))
    let last := (road .reopening ready).onRcs fun r => { r with entryRaising := true }
    let left := (arm 0 .raising last).onRcs fun r => { r with stepTimer := .runOn }
    (s.rcs.road = .reopening ∧ (s.arm 2).state = .down ∧ isExit 2 = true ∧ s.apu.restart = false ∧
      s.pins.estop = false ∧ ¬(s.pins.armUp[2] = true ∧ s.pins.armDown[2] = true) ∧
      ((reportArm 2 s).arm 2).state = .raising ∧ s.allUp exitArms = false ∧ s.rcs.entryRaising = false ∧
      (reportArm 2 s).rcs.entryRaising = false) ∧
    (up.allUp exitArms = true ∧ up.rcs.entryRaising = false ∧ (reportArm 2 up).rcs.entryRaising = true ∧
      ((reportArm 2 up).arm 0).state = .raising ∧ ((reportArm 2 up).arm 1).state = .raising ∧
      ((reportArm 2 up).arm 4).state = .up) ∧
    (last.rcs.entryRaising = true ∧ last.allUp allArms = true ∧ (reportArm 0 last).rcs.stepTimer = .runOn) ∧
    (left.allUp allArms = false ∧ (left.arm 0).state ≠ .down ∧ (reportArm 0 left).rcs.stepTimer = .none) := by
  decide +kernel

theorem witness_RoadTimersAndFlash_dwell :
    let waiting (s : State) : State := s.onRcs fun r => { r with dwellWait := true, deckClear := false }
    let s := waiting (road .clearing (lowered entryArms))
    let part := waiting (road .clearing (lowered [0, 1]))
    let all := waiting (road .clearing (lowered allArms))
    let breached := waiting (road .breached (lowered entryArms))
    (s.running = true ∧ s.rcs.dwellWait = true ∧ s.rcs.deckClear = false ∧ s.deckOccupied = false ∧
      s.apu.restart = false ∧ s.pins.estop = false ∧ s.allHeld entryArms = true ∧ s.allHeld exitArms = false ∧
      (2 : Fin 8) ∈ exitArms ∧ (s.arm 2).state = .up ∧ s.pins.armEdge[2] = false ∧
      (after .dwellWaitExpiry s).rcs.road = .securing ∧ ((after .dwellWaitExpiry s).arm 2).state = .lowering) ∧
    (part.allHeld entryArms = false ∧ (after .dwellWaitExpiry part).rcs.road = .clearing) ∧
    (all.allHeld allArms = true ∧ (after .dwellWaitExpiry all).rcs.road = .secured) ∧
    (breached.rcs.road = .breached ∧ (after .dwellWaitExpiry breached).rcs.road = .breached ∧
      ((after .dwellWaitExpiry breached).arm 2).state = .lowering) := by decide +kernel

theorem witness_RoadTimersAndFlash_due :
    let s := (timed .prewarn .prewarn).onRcs fun r => { r with stepElapsed := 1000 }
    (s.running = true ∧ s.rcs.capPrewarn = 10 ∧ (roadDue s).rcs.road = .stopping) ∧
      (roadDue (s.onRcs fun r => { r with stepElapsed := 999 })).rcs.road = .prewarn ∧
      (roadDue ((road .prewarn ready).onRcs fun r => { r with flashTicks := 50 })).redA = false := by decide +kernel

/-! ### Bolts, seats and pumps -/

/-- `ready` with the four bolts in a state each. -/
def bolts (a b c d : BoltState) : State := bolt 0 a (bolt 1 b (bolt 2 c (bolt 3 d ready)))

/-- A sequence called, at a step. -/
def calling (k : SeqKind) (p : SeqStep) (s : State) : State := s.onLpu fun l => { l with seqKind := k, seqStep := p }

theorem witness_BoltEvents_sequences :
    let out := calling .withdraw .centre (leaves .halted (bolts .withdrawn .withdrawn .jammed .driven))
    let back := calling .drive .heel (leaves .halted (bolts .withdrawn .jammed .driven .driven))
    let done := calling .drive .centre (leaves .halted (bolts .driven .driven .driven .driven))
    (out.lpu.seqKind = .withdraw ∧ out.lpu.seqStep = .centre ∧ (out.bolt 0).state = .withdrawn ∧
      (out.bolt 1).state = .withdrawn ∧ out.allWithdrawn = false ∧ out.lmc.leaf ≠ .seatedLocked ∧
      out.apu.restart = false ∧ out.pins.estop = false ∧
      ¬(out.pins.boltDriven[(2 : Fin 4)] = true ∧ out.pins.boltWithdrawn[(2 : Fin 4)] = true) ∧
      ((reportBolt out).bolt 2).state = .withdrawing ∧ ((reportBolt out).bolt 3).state = .withdrawing ∧
      (reportBolt out).lpu.seqStep = .heel) ∧
    (back.lpu.seqKind = .drive ∧ back.lpu.seqStep = .heel ∧ (back.bolt 2).state = .driven ∧
      (back.bolt 3).state = .driven ∧ back.allDriven = false ∧ ((reportBolt back).bolt 0).state = .driving ∧
      ((reportBolt back).bolt 1).state = .driving ∧ (reportBolt back).lpu.seqStep = .centre) ∧
    (done.allDriven = true ∧ done.lmc.leaf ≠ .unlocking ∧ (reportBolt done).lpu.seqKind = .none) ∧
    (ready.lpu.seqKind = .none ∧ reportBolt (leaves .halted ready) = leaves .halted ready) := by decide +kernel

theorem witness_BoltEvents_passages :
    let pumps (s : State) : State := pump .north .ready (pump .south .ready s)
    let free := pumps (calling .withdraw .heel (leaves .unlocking (bolts .withdrawn .withdrawn .withdrawn .withdrawn)))
    let gale := free.onMsu fun m => { m with wind := { m.wind with w := 200 } }
    let stuck := calling .withdraw .heel (leaves .unlocking (bolts .withdrawn .withdrawn .withdrawn .driven))
    (free.allWithdrawn = true ∧ free.bothReady = true ∧ free.apu.restart = false ∧ free.msu.wind.known = true ∧
      free.msu.wind.w < free.par pStopLimit ∧ (reportBolt (road .secured free)).lmc.leaf = .raising ∧
      (reportBolt free).lmc.leaf = .halted ∧ (reportBolt free).lpu.seqKind = .none) ∧
    (gale.par pStopLimit ≤ gale.msu.wind.w ∧ (reportBolt gale).lmc.leaf = .locking ∧
      (reportBolt gale).lpu.seqKind = .drive ∧ (reportBolt gale).cl.latched = 0x48) ∧
    (stuck.allWithdrawn = false ∧ (reportBolt stuck).lmc = stuck.lmc) ∧
    ((leaves .locking ready).allDriven = true ∧ (leaves .locking ready).bothSeated = true ∧
      (reportBolt (leaves .locking ready)).lmc.leaf = .seatedLocked) ∧
    ((reportBolt (leaves .locking (bolts .driven .driven .driven .driving))).lmc.leaf = .locking) ∧
    ((bolts .driven .driven .driven .jammed).allDriven = false ∧
      (reportBolt (bolts .driven .driven .driven .jammed)).lmc.leaf = .halted) := by decide +kernel

theorem witness_SeatsAndPumps_reports :
    let pumps (s : State) : State := pump .north .ready (pump .south .ready s)
    let free := pumps (leaves .unlocking (bolts .withdrawn .withdrawn .withdrawn .withdrawn))
    let lost := pump .south .fault (under .raising 5 5 ready)
    let waits := (under .lowering 0 0 ready).onMotion fun m => { m with direction := .lower, awaitingPumps := true }
    let down := (under .lowering 0 0 ready).onMotion fun m =>
      { m with direction := .lower, leaves := ⟨⟨0, 0, true⟩, ⟨0, 0, true⟩⟩ }
    let unseated := ready.onSeat .south fun r => { r with made := false }
    (ready.bothSeated = true ∧ reportSeat ready = ready ∧ reportPump ready = ready ∧ unseated.bothSeated = false ∧
      (reportSeat unseated).lmc.leaf = .halted) ∧
    ((reportSeat (leaves .locking ready)).lmc.leaf = .seatedLocked ∧
      (reportSeat (leaves .locking unseated)).lmc.leaf = .locking) ∧
    (free.allWithdrawn = true ∧ free.bothReady = true ∧ (reportPump free).lmc.leaf = .halted ∧
      (reportPump (road .secured free)).lmc.leaf = .raising) ∧
    (lost.pumpFault = true ∧ (reportPump lost).lmc.leaf = .tripped ∧
      (reportPump lost).lmc.motion.leaves.north.reference = 0) ∧
    (waits.pumpFault = false ∧ waits.bothReady = false ∧ reportPump waits = waits ∧
      (pumps waits).bothReady = true ∧ (reportPump (pumps waits)).lmc.motion.awaitingPumps = false) ∧
    (down.lmc.motion.bothArrived = true ∧ down.lmc.motion.halt = .none ∧ down.lmc.motion.awaitingPumps = false ∧
      (reportSeat down).lmc.leaf = .seatedLocked) := by decide +kernel

theorem witness_SeatsAndPumps_due :
    let s := (pump .north .starting ready).onPump .north fun p => { p with limit := 6, limitElapsed := 600 }
    let standing := (pump .north .ready ready).onLpu fun l => { l with standby := some 60000 }
    ((pumpDue s .north).pump .north).state = .fault ∧
      ((pumpDue (s.onPump .north fun p => { p with limitElapsed := 599 }) .north).pump .north).state = .starting ∧
      standing.par pStandby = 600 ∧ ((lpuDue standing).pump .north).state = .stopped := by decide +kernel

/-- R94: the standby timer starts with the second group's proof and stops with a group, the leaves or a batch. -/
theorem witness_SeatsAndPumps_standby :
    let proves := (pump .north .starting (pump .south .ready ready)).onPump .north fun p => { p with hold := some 100 }
    let runs := (pump .north .ready (pump .south .ready ready)).onLpu fun l => { l with standby := some 42 }
    ((after (.pumpReady .north) proves).lpu.standby = some 0 ∧
      (after (.pumpReady .north) (par pStandby 0 proves)).lpu.standby = none ∧
      (after (.pumpReady .north) (proves.onBatch fun b => { b with state := .formed })).lpu.standby = none) ∧
      (runs.lmc.leaf = .seatedLocked ∧ (after (.pressureOkReleased .north) runs).lpu.standby = none ∧
        (after .standbyExpiry runs).lpu.standby = none ∧ (setLeaf .unlocking runs).lpu.standby = none ∧
        (setBatchState .running runs).lpu.standby = none ∧ (setBatchState .closed runs).lpu.standby = some 42 ∧
        (setLeaf .seatedLocked (leaves .locking runs)).lpu.standby = some 0) := by decide +kernel

/-! ### Leaf motion, measurement and wind -/

/-- R123: a tick ends a period of which nothing was heard; three of them and the line is LOST. -/
theorem witness_EncoderPeriods_due :
    let odd (h : Bool) : State := (ready.onTb fun b => { b with subTick := 1 }).onMsu fun m => { m with heard := h }
    let one := stepped ready
    let three := stepped (stepped (stepped (stepped one)))
    let told := after (.encoderPeriodEnd (.reading 5) (.reading 5) (.reading 5) (.reading 5)) ready
    (encoderDue ready = ready ∧ (odd true).tb.subTick % 2 = 1 ∧ (encoderDue (odd true)).msu.heard = false ∧
      (encoderDue (odd true)).msu.encoders = ready.msu.encoders ∧ (encoderDue (odd false)).msu.encoders[0].run = 1) ∧
      (one.tb.subTick = 1 ∧ one.msu.encoders[0].state = .suspect ∧ one.msu.angles.north.source = .held ∧
        one.cl.latched = 0x80) ∧
      (three.tb.subTick = 5 ∧ three.msu.encoders[3].state = .lost ∧ three.msu.angles.south.source = .lost) ∧
      (told.msu.heard = true ∧ (stepped told).msu.encoders[0].state = .valid ∧ (stepped told).msu.heard = false) ∧
      (let starting := ready.onTb fun b => { b with phase := .startup }
       let off := ready.onTb fun b => { b with phase := .off }
       let disagree := ready.onMsu fun m => { m with angles := ⟨{ m.angles.north with run := 4 }, m.angles.south⟩ }
       let apart (s : State) : State := after (.encoderPeriodEnd (.reading 100) (.reading 0) (.reading 0) (.reading 0)) s
       let moving := (under .raising 5 5 disagree).onTb fun b => { b with phase := .startup }
       (stepped (stepped starting)).tb.subTick = 2 ∧ (stepped (stepped starting)).msu.encoders[0].run = 1 ∧
         off.measuring = false ∧ apart off = off ∧ moving.measuring = true ∧ moving.running = false ∧
         (apart moving).msu.angles.north.disagree = true ∧ (apart moving).lmc = moving.lmc) := by decide +kernel

/-- The leaves in a state with the two angles. -/
def angled (l : LeafState) (north south : Int) : State :=
  (under l 5 5 ready).onMsu fun m =>
    { m with angles := ⟨{ m.angles.north with angle := north }, { m.angles.south with angle := south }⟩ }

theorem witness_ControlPeriodOutcomes_trips :
    let lost := (angled .raising 500 0).onMsu fun m =>
      { m with angles := { m.angles with north := { m.angles.north with source := .lost } } }
    let sunk := (angled .raised 7000 7000).onMotion fun m => { m with driftLimit := 199 }
    ((angled .raising 200 0).tripNow = some .skew ∧ (angled .raising 199 0).tripNow = none) ∧
    (lost.msu.angles.north.source = .lost ∧ lost.tripNow = some .position) ∧
    (sunk.tripNow = some .drift ∧ (sunk.onMotion fun m => { m with driftLimit := 200 }).tripNow = none) ∧
    ((pump .north .fault (angled .raising 0 0)).tripNow = some .pressure ∧
      (pump .north .fault (angled .halted 0 0)).tripNow = none) ∧
    (ready.tb.subTick % 2 = 0 ∧ (controlDue (angled .raising 200 0)).lmc.trip = some .skew) := by decide +kernel

theorem witness_ReferenceComputation_skew :
    let m := worked
    (((m.period 6500 6480 70).leaves.north.arrived = false ∧ ((6500 : Int) - 6480).natAbs ≤ m.sDead ∧
      (m.period 6500 6480 70).leaves.north.vPrev = m.ramp (m.targetSpeed 6500 70) 150) ∧
    ((m.sDead : Int) < 6500 - 6440 ∧ (m.period 6500 6440 70).leaves.north.vPrev = 108 ∧
      (6440 : Int) - 6500 < 0 ∧ (m.period 6500 6440 70).leaves.south.vPrev = 185) ∧
    ((m.period 7200 6500 70).leaves.north.arrived = true ∧ (m.period 7200 6500 70).leaves.south.arrived = false) ∧
    (m.ramp 200 150 = 155 ∧ m.ramp 152 150 = 152 ∧ m.ramp 100 150 = 145 ∧ m.ramp 148 150 = 148 ∧
      ({ m with halt := .stop } : Motion).ramp 200 150 = 140 ∧ ({ m with halt := .stop } : Motion).ramp 200 9 = 0)) := by
  decide +kernel

theorem witness_EncoderPeriods_disagree :
    let four := ready.onMsu fun m => { m with angles := { m.angles with north := { m.angles.north with run := 4 } } }
    let apart (s : State) : State := after (.encoderPeriodEnd (.reading 100) (.reading 0) (.reading 0) (.reading 0)) s
    let close (s : State) : State := after (.encoderPeriodEnd (.reading 30) (.reading 0) (.reading 0) (.reading 0)) s
    (four.par pEncoderTolerance = 30 ∧ four.msu.angles.north.disagree = false ∧ four.msu.angles.north.run = 4 ∧
      (apart four).msu.angles.north.disagree = true ∧ (apart four).cl.latched = 0x80 ∧
      (apart ready).msu.angles.north.run = 1 ∧ (close four).msu.angles.north.run = 0) ∧
    ((apart (leaves .unlocking four)).lmc.leaf = .halted ∧ (apart four).lmc = four.lmc) ∧
    ((under .raising 5 5 four).lmc.motion.leaves.north.reference ≠ 0 ∧
      (apart (under .raising 5 5 four)).lmc.motion.halt = .disagree ∧
      (apart (under .lowering 0 0 four)).lmc.leaf = .halted) := by decide +kernel

theorem witness_WindAndDerate_told :
    let gust (s : State) : State := s.onMsu fun m =>
      { m with wind := { m.wind with window := [10, 60, 60], interval := 60 } }
    let raise (angle north : Int) : State :=
      (angled .raising angle angle).onMotion fun m =>
        { m with commitFraction := 75, leaves := ⟨⟨north.natAbs, north, false⟩, ⟨0, 0, false⟩⟩ }
    let waits := (raise 5399 0).onApu fun a => { a with restart := true }
    (ready.running = true ∧ ready.msu.wind.discard = false ∧
      (after .anemoIntervalEnd (gust (leaves .unlocking ready))).lmc.leaf = .seatedLocked) ∧
    (reportWind ready = ready ∧ (reportWind (leaves .unlocking ready)).cl.latched = 0x48) ∧
    ((raise 5400 5).lmc.motion.halt = .none ∧ (raise 5400 5).lmc.motion.derateFixed = false ∧
      (raise 5400 5).msu.angles.north.source ≠ .lost ∧ (reportWind (raise 5400 5)).lmc.motion.derateFixed = true ∧
      (reportWind (raise 5400 5)).lmc.motion.halt = .none) ∧
    ((reportWind (raise 5399 5)).lmc.motion.halt = .wind ∧ (reportWind (raise 5399 0)).lmc.leaf = .lowering ∧
      (reportWind (raise 5399 0)).lmc.motion.source = .reversal) ∧
    (waits.apu.restart = true ∧ (reportWind waits).lmc.leaf = .halted) ∧
    (let s := (raise 5400 5).onMotion fun m => { m with derateFixed := true }
     s.lmc.motion.derateFixed = true ∧ reportWind s = s) ∧
    ((secondDue (moored.onTb fun b => { b with seconds := 16 })).vessel 0).map (·.life) = some 44 := by decide +kernel

/-! ### The batch and the circuits -/

theorem witness_JoinOutcomes_extension :
    let batch (l : LeafState) : State := (angled l 7000 6900).onMotion fun m =>
      { m with tf := 7500, target := 7000, source := .batch, leaves := ⟨⟨0, 0, true⟩, ⟨9, 9, false⟩⟩ }
    let s := batch .raising
    let t := reportExtension 7200 s
    (s.lmc.motion.present = true ∧ s.lmc.motion.source = .batch ∧ s.lmc.motion.direction = .raise ∧
      t.lmc.motion.target = 7200 ∧ (reportExtension 7600 s).lmc.motion.target = 7500) ∧
    (s.lmc.motion.leaves.north.arrived = true ∧ s.msu.angles.north.source ≠ .lost ∧
      s.lmc.motion.w < ((7200 : Int) - 7000).natAbs ∧ t.lmc.motion.leaves.north = ⟨0, 0, false⟩ ∧
      t.lmc.motion.leaves.south = ⟨9, 9, false⟩) ∧
    (reportExtension 7010 s).lmc.motion.leaves.north.arrived = true ∧
    (reportExtension 7200 (batch .raised) = batch .raised) := by decide +kernel

/-- Two waiting vessels: SEAWARD class `p` with join sequence 1 and LANDWARD class `q` with join sequence 2. -/
def rivals (p q : Fin 4) : State :=
  queued (queueOf .seaward p) [entry 0] (queued (queueOf .landward q) [{ entry 1 with seq := 2 }]
    (setSlot 1 (some { ship 7 with state := .waiting, side := .landward }) (berth .waiting ready)))

theorem witness_BatchFormationAndAbandon_leading :
    let three := queued (queueOf .landward 2) [{ entry 2 with seq := 3 }]
      (setSlot 2 (some { ship 8 with state := .waiting, side := .landward }) (rivals 3 3))
    let lead (s : State) : Option Side := (after .formBatch s).psc.batch.leading
    ((rivals 3 0).allows (operateRequest 0x54) ∧ ((rivals 3 0).eligible .landward).map (·.1) = [0] ∧
      lead (rivals 3 0) = some .landward) ∧
    (lead (rivals 0 0) = some .seaward) ∧
    ((three.eligible .seaward).length < (three.eligible .landward).length ∧ lead three = some .landward ∧
      (after .formBatch three).psc.batch.items.map (fun i => (i.cls, i.slot)) = [(2, 2), (3, 1), (3, 0)]) ∧
    (((rivals 3 3).eligible .seaward).length = ((rivals 3 3).eligible .landward).length ∧
      lead (rivals 3 3) = some .seaward) := by
  unfold State.allows; decide +kernel

theorem witness_ChannelTimersAndTurns_due :
    let turn := (called .running (leaves .raised ready)).onCsu fun c =>
      { c with phase := .turn, current := some .seaward, aspects := ⟨.go, .stop⟩, window := some 90000
               sealTimer := none }
    (turn.running = true ∧ turn.par pWindow = 900 ∧ (channelDue turn).csu.phase = .changeover) ∧
      (channelDue (turn.onCsu fun c => { c with window := some 89999 })).csu.phase = .turn ∧
      (hornDue (turn.onCsu fun c => { c with horn := 2 })).csu.horn = 1 := by decide +kernel

theorem witness_ProvingsAndTests_scan :
    let due := ready.onPhu fun p => { p with counter := 1 }
    let dropped := ready.onPhu fun p =>
      { p with proving := some ⟨3, false, false, false, 2⟩, held := [⟨4, false⟩] }
    (due.running = true ∧ (provingDue due).phu.proving.isSome = true ∧ (provingDue due).phu.index = 1 ∧
      (provingDue ready).phu.counter = 24) ∧
      ((∃ h ∈ dropped.phu.held, h.test = false) ∧ (after .provingRequest dropped).phu.held = [⟨4, false⟩]) ∧
      ((after (.provingEnd 60) dropped).phu.proving = none ∧ (after (.provingEnd 60) dropped).phu.held = [⟨4, false⟩]) := by
  decide +kernel

end Sys2Proof.Tests
end

