-- ==== Sys2Proof/Tests/WitnessesRecords.lean ====
section
/-! SUPPORT. Concrete states and operands that meet together the hypotheses of the clauses on the records a command
leaves: the captures of a motion, a bolt's stroke as it starts, the encoders' selection, the effects of a written
parameter, a queue's victim, a turn's end, a proving's results. The name after `witness_` is the statement's. -/

namespace Sys2Proof.Tests

open Sys2Proof Sys2Proof.Machine

set_option Elab.async false

/-! ### Parameters -/

/-- The state with parameter `i` written and the reply sent. -/
def write (i : Byte) (v : Word) (s : State) : State := (after (.paramWrite i [v]) s).onCl fun l => { l with reply := none }

/-- "limits, thresholds and factors apply from the next use" (R27): wind, tide, mask and WORN marks follow at once. -/
theorem witness_ParameterWritesAndCommit_effects :
    let i (b : Byte) (v : Nat) : Prop := ∃ h : b.toNat < 64, acceptable ready.apu.table ⟨b.toNat, h⟩ v = true
    (ready.allows (tableRequest 0x14) ∧ (i 25 200 ∧ i 26 60 ∧ i 27 130 ∧ i 35 60 ∧ i 57 100 ∧ i 60 0 ∧ i 61 3 ∧ i 0 30)) ∧
    ((write 25 120 ready).msu.wind.w = 120 ∧ (write 25 120 ready).msu.wind.band = some .derate ∧
      (write 25 120 ready).cl.latched = 0x40) ∧
    ((write 26 70 ready).msu.wind.band = some .derate ∧ (write 27 130 ready).msu.wind = ready.msu.wind) ∧
    (let s := after (.tide 5) ready
     let later := (s.onCl fun l => { l with reply := none }).onTb fun b => { b with seconds := 61 }
     later.psc.tide.stale = false ∧ (write 35 60 later).psc.tide.stale = true ∧ (write 35 60 later).cl.latched = 0x4000 ∧
       (write 35 61 later).psc.tide.stale = false) ∧
    (let s := ready.onPhu fun p => { p with health := p.health.set 11 { p.health[(11 : Fin 12)] with value := 81 } }
     (write 58 81 s).phu.health[(11 : Fin 12)].worn = true ∧ (write 58 81 s).cl.latched = 0x1000 ∧
       (write 58 80 s).phu.health[(11 : Fin 12)].worn = false ∧ (write 57 81 s).cl.latched = 0) ∧
    (write 61 3 ready).cl.mask = 3 ∧ (write 0 30 ready).cl.latched = 0 := by
  unfold State.allows; decide +kernel

/-- A timer that a written parameter governs expires at once where it has reached the new value (R16, note 26). -/
theorem witness_ParameterWritesAndCommit_timers :
    let standing := (pump .north .ready ready).onLpu fun l => { l with standby := some 6000 }
    let turn := (called .running (leaves .raised ready)).onCsu fun c =>
      { c with phase := .turn, current := some .seaward, aspects := ⟨.go, .stop⟩, window := some 6000, sealTimer := none }
    let gap := turn.onCsu fun c =>
      { c with phase := .changeover, aspects := ⟨.stop, .stop⟩, window := none, changeover := some 3000,
               sealTimer := some 3000 }
    ((write 10 60 standing).pump .north).state = .stopped ∧ ((write 10 61 standing).pump .north).state = .ready ∧
      (write 10 0 standing).lpu.standby = none ∧ ((write 10 0 standing).pump .north).state = .ready ∧
      (write 31 60 turn).csu.phase = .changeover ∧ (write 31 61 turn).csu.phase = .turn ∧
      (write 30 30 gap).csu.phase = .turn ∧ (write 30 31 gap).csu.phase = .changeover ∧
      (write 32 30 gap).csu.sealed = true ∧ (write 32 31 gap).csu.sealed = false ∧
      (write 32 31 (write 32 30 gap)).csu.sealed = false ∧
      (let loads (i : Fin 64) (v : Nat) (s : State) : State := after .paramDefaults (par i v s)
       (loads 10 700 (standing.onLpu fun l => { l with standby := some 60000 })).lpu.standby = none ∧
         turn.csu.current ≠ none ∧ turn.csu.changeover = none ∧ gap.csu.window = none ∧
         (loads 31 1000 (turn.onCsu fun c => { c with window := some 90000 })).csu.window = none ∧
         (loads 30 70 (gap.onCsu fun c => { c with changeover := some 6000 })).csu.changeover = none ∧
         (loads 32 31 gap).csu.sealed = true ∧
         (loads 32 31 (gap.onCsu fun c => { c with sealTimer := some 2999 })).csu.sealed = false) := by
  decide +kernel

/-! ### Arms, the road and the bolts -/

/-- R54: the return of an arm takes the state that its two limits give. -/
theorem witness_ArmRequests_return :
    let out (up down : Bool) : State := (limits .outOfService up down).onArm 0 fun r =>
      { r with displaced := true, upLost := true, obstructions := 3 }
    let back (up down : Bool) : State := after (.armServiceReturn 0) (out up down)
    (0 : Byte).toNat = (0 : Fin 8).val ∧ (out true true).allows (serviceRequest 0x24) ∧
      ((out true true).arm 0).state = .outOfService ∧
      (data (back true false) = [0, 0, 0] ∧ data (back false true) = [0, 2, 0]) ∧
      (data (back true true) = [0, 4, 3] ∧ (back true true).cl.latched = 2) ∧
      (data (back false false) = [0, 4, 5] ∧ (back false false).cl.latched = 2 ∧
        ((back false false).arm 0).displaced = false ∧ ((back false false).arm 0).obstructions = 0) := by
  unfold State.allows; decide +kernel

/-- R66: where the entry arms hold, the delay's end passes CLEARING, and SECURING too where the deck is clear. -/
theorem witness_RoadTimersAndFlash_entry :
    let s := timed .stopping .entryDelay
    let held := (road .stopping (lowered entryArms)).onRcs fun r => { r with stepTimer := .entryDelay }
    let shut := held.onRcs fun r => { r with deckClear := false }
    let full := held.onZone 3 fun z => { z with filtered := true }
    (s.allHeld entryArms = false ∧ (after .entryDelayExpiry s).rcs.entryLowering = true ∧
      (after .entryDelayExpiry s).rcs.stepTimer = .none) ∧
    (held.allHeld entryArms = true ∧ shut.rcs.deckClear = false ∧ (after .entryDelayExpiry shut).rcs.road = .clearing ∧
      (after .entryDelayExpiry shut).rcs.stepTimer = .clearanceLimit ∧ (after .entryDelayExpiry shut).cl.latched = 1) ∧
    (held.rcs.deckClear = true ∧ held.deckCondition = true ∧ held.allHeld exitArms = false ∧
      (2 : Fin 8) ∉ entryArms ∧ (after .entryDelayExpiry held).rcs.road = .securing ∧
      ((after .entryDelayExpiry held).arm 2).state = .lowering ∧ (after .entryDelayExpiry held).cl.latched &&& 1 = 1) ∧
    (full.rcs.deckClear = true ∧ full.deckCondition = false) := by decide +kernel

/-- R81: the timeout is 3/2 of the nominal, 5/2 where WORN; a centre bolt's drive output waits. -/
theorem witness_BoltEvents_starts :
    let out : State := (bolts .withdrawn .withdrawn .withdrawn .withdrawn).onPins fun p =>
      { p with boltDriven := Vector.replicate 4 false, boltWithdrawn := Vector.replicate 4 true }
    let old := ready.onPhu fun p => { p with health := p.health.set 8 { p.health[(8 : Fin 12)] with worn := true } }
    let stop := ready.onPins fun p => { p with estop := true }
    let both := ready.onPins fun p => { p with boltWithdrawn := p.boltWithdrawn.set 0 true }
    let waits := ready.onApu fun a => { a with restart := true }
    let begun (t : Nat) : Bolt := { Bolt.reset with
      state := .withdrawing, cause := none, last := .withdraw, nominal := 40, timeout := t, outputOn := some 0, full := true }
    (ready.apu.restart = false ∧ ready.pins.estop = false ∧ ready.pins.boltWithdrawn[0] = false ∧
      (startBolt 0 .withdraw ready).bolt 0 = begun 60 ∧ (startBolt 0 .withdraw old).bolt 0 = begun 100) ∧
    (((startBolt 1 .drive out).bolt 1).outputOn = none ∧ ((startBolt 1 .drive out).bolt 1).full = false ∧
      ((startBolt 2 .drive out).bolt 2).outputOn = some 0 ∧ ((startBolt 2 .drive out).bolt 2).full = true) ∧
    (stop.pins.estop = true ∧ ((startBolt 0 .withdraw stop).bolt 0).cause = some .estop ∧
      (startBolt 0 .withdraw stop).cl.latched = 0x20) ∧
    (both.pins.boltDriven[0] = true ∧ both.pins.boltWithdrawn[0] = true ∧
      ((startBolt 0 .withdraw both).bolt 0).cause = some .switchConflict) ∧
    (waits.apu.restart = true ∧ startBolt 0 .withdraw waits = waits) := by decide +kernel

/-- LOCK-RETRY restarts the jammed bolts only, each in its last direction (R88). -/
theorem witness_LockPowerRequests_retry :
    let jam (b : Fin 4) (k : BoltStroke) (s : State) : State := (bolt b .jammed s).onBolt b fun r => { r with last := k }
    let s := jam 3 .withdraw (jam 2 .drive (leaves .unlocking ready))
    s.allows (operateRequest 0x31) ∧ (s.bolt 2).last = .drive ∧ s.lmc.leaf = .unlocking ∧ s.pins.estop = false ∧
      (∀ b : Fin 4, ¬(s.pins.boltDriven[b] = true ∧ s.pins.boltWithdrawn[b] = true)) ∧
      data (after .lockRetry s) = [2, 0, 0, 3, 1] ∧ ((after .lockRetry s).bolt 3).timeout = 60 ∧
      (after .lockRetry s).cl.latched = 0 := by
  unfold State.allows; decide +kernel

/-! ### Leaf motion -/

/-- R99 to R101: the captures of a RAISE, the sequence it calls and the groups it orders. -/
theorem witness_RaiseOutcomes_record :
    let pumps (s : State) : State := pump .north .ready (pump .south .ready s)
    let old := formed.onMotion fun m => { m with leaves := ⟨⟨0, 0, true⟩, ⟨7, 0, true⟩⟩, halt := .stop }
    let t := after .raise old
    let free := pumps (formed.onLpu fun l => { l with bolts := l.bolts.map fun b => { b with state := .withdrawn } })
    (t.lmc.motion = old.motionRecord .raise .batch 5000 ∧ t.lmc.motion.tf = 7800 ∧ t.lmc.motion.sTrip = 200 ∧
      t.lmc.motion.leaves = ⟨⟨0, 0, false⟩, ⟨0, 0, false⟩⟩ ∧ t.lmc.leaf = .unlocking ∧ t.lpu.seqKind = .withdraw ∧
      t.lpu.seqStep = .centre ∧ (t.bolt 0).state = .withdrawing ∧ (t.bolt 2).state = .driven ∧
      (t.pump .north).state = .starting ∧ (t.pump .north).limit = 20 ∧ t.cl.latched &&& 8 = 8) ∧
    (free.allWithdrawn = true ∧ free.bothReady = true ∧ (after .raise free).lmc.leaf = .raising ∧
      (after .raise free).lpu.seqKind = .none) ∧
    (let two := formed.onLpu fun l => { l with bolts := l.bolts.map fun b => { b with state := .withdrawn } }
     let half := bolt 2 .driven (bolt 3 .driving two)
     (half.bolt 0).state = .withdrawn ∧ (half.bolt 1).state = .withdrawn ∧ (after .raise half).lpu.seqStep = .heel ∧
       ((after .raise half).bolt 3).state = .withdrawing) := by decide +kernel

/-- R99, R103, R112: the captures of a LOWER, and the bolts' return from UNLOCKING, the heel bolts first. -/
theorem witness_LowerOutcomes_record :
    let s := (leaves .raised ready).onCsu fun c => { c with sealed := true }
    let t := after .lower s
    let back := leaves .unlocking (bolts .withdrawn .withdrawing .withdrawn .driving)
    (t.lmc.motion = { s.motionRecord .lower .seat 0 with awaitingPumps := true } ∧ t.lmc.leaf = .lowering ∧
      (t.pump .south).state = .starting ∧ t.lpu.bolts = s.lpu.bolts) ∧
    (back.allows (operateRequest 0x33) ∧ back.apu.storeStatus = .valid ∧ (after .lower back).lmc.leaf = .locking ∧
      (after .lower back).lpu.seqKind = .drive ∧ (after .lower back).lpu.seqStep = .heel ∧
      ((after .lower back).bolt 2).state = .driving ∧ (after .lower back).bolt 3 = back.bolt 3 ∧
      (after .lower back).bolt 0 = back.bolt 0) := by
  unfold State.allows; decide +kernel

/-- The reversal of a RAISE that the wind has halted (R118): a motion to 0 with the derate fixed. -/
theorem witness_ControlPeriodOutcomes_reversal :
    let s := (under .raising 0 0 (road .secured ready)).onMotion fun m => { m with halt := .wind, target := 7200 }
    let t := after .controlPeriod s
    s.tripNow = none ∧ s.lmc.motion.awaitingPumps = false ∧ s.apu.restart = false ∧ s.lmc.leaf = .raising ∧
      t.lmc.motion = { s.motionRecord .lower .reversal 0 with derateFixed := true, awaitingPumps := true } ∧
      (t.pump .north).state = .starting ∧ t.cl.latched &&& 8 = 8 := by decide +kernel

/-- R107 with B 300, Bs 150, Vc 250, Vk 40 and R 5: the cap at the bounds of its cases, and the braking root. -/
theorem witness_ReferenceComputation_target :
    worked.vk ≤ worked.vc ∧ worked.targetSpeed 149 100 = 40 ∧ worked.targetSpeed 150 100 = 250 ∧
      worked.targetSpeed 150 33 = 82 ∧ worked.targetSpeed 150 0 = 40 ∧ worked.targetSpeed 6900 100 = 40 ∧
      worked.targetSpeed 6899 100 = 45 ∧ worked.targetSpeed 6800 100 = 227 ∧
      ({ worked with halt := .wind } : Motion).targetSpeed 150 100 = 0 := by decide +kernel

/-! ### Measurement -/

/-- The two encoders of each leaf with a number of bad periods behind them, and a source of each leaf's angle. -/
def sensed (primary check : Nat) (source : AngleSource) : State := ready.onMsu fun m => { m with
  encoders := Vector.ofFn fun i : Fin 4 => { m.encoders[i] with
    run := if i.val % 2 = 0 then primary else check
    state := if (if i.val % 2 = 0 then primary else check) = 0 then .valid else .suspect }
  angles := ⟨{ m.angles.north with source := source, angle := 300, run := 3 },
    { m.angles.south with source := source, angle := 400, run := 3 }⟩ }

/-- R126: the four rows for both leaves, and LOST kept where HELD would follow it. -/
theorem witness_EncoderPeriods_selection :
    let period (p c : EncoderReply) (s : State) : List (AngleSource × Int) :=
      let t := after (.encoderPeriodEnd p c p c) s
      [(t.msu.angles.north.source, t.msu.angles.north.angle), (t.msu.angles.south.source, t.msu.angles.south.angle)]
    period (.reading 100) (.reading 90) (sensed 0 0 .primary) = [(.primary, 100), (.primary, 100)] ∧
      period .silent (.reading 90) (sensed 0 0 .primary) = [(.check, 90), (.check, 90)] ∧
      period .silent .corrupt (sensed 1 2 .primary) = [(.held, 300), (.held, 400)] ∧
      period .silent .corrupt (sensed 2 1 .check) = [(.held, 300), (.held, 400)] ∧
      period .silent .corrupt (sensed 1 1 .lost) = [(.lost, 300), (.lost, 400)] ∧
      period .silent .corrupt (sensed 2 2 .held) = [(.lost, 300), (.lost, 400)] ∧
      period (.reading 100) (.reading 90) (sensed 2 2 .lost) = [(.primary, 100), (.primary, 100)] := by decide +kernel

/-- R123 to R126: a bad period counts against its encoder and against no angle's difference. -/
theorem witness_EncoderPeriods_records :
    let t := after (.encoderPeriodEnd .silent (.reading 7) (.reading 9001) .corrupt) (sensed 0 2 .primary)
    (t.msu.encoders[0].run = 1 ∧ t.msu.encoders[0].state = .suspect ∧ t.msu.encoders[0].validSinceRead = false ∧
      t.msu.encoders[0].last = some 0) ∧
    (t.msu.encoders[1].run = 0 ∧ t.msu.encoders[1].state = .valid) ∧
    (t.msu.encoders[2].cause = .range ∧ t.msu.encoders[2].last = some 9001 ∧ t.msu.encoders[2].frameErrors = 0) ∧
    (t.msu.encoders[3].state = .lost ∧ t.msu.encoders[3].frameErrors = 1) ∧
    (t.msu.angles.north.run = 0 ∧ t.msu.angles.south.run = 0 ∧ t.msu.angles.south.source = .held) := by decide +kernel

/-- R132 with Wd 120 and Ws 200, and the interval that fills the window. -/
theorem witness_WindAndDerate_bands :
    let wind (w : Nat) : Wind := { Msu.reset.wind with window := [1, 1, 1], w := w }
    let judged (w : Nat) : Wind := (wind w).judge 120 200
    let two := ready.onMsu fun m => { m with wind := { m.wind with window := [40, 40], interval := 40, known := false } }
    (120 : Nat) < 200 ∧ (wind 0).isKnown = true ∧ (judged 119).band = some .below ∧ (judged 120).band = some .derate ∧
      (judged 120).pct = 100 ∧ (judged 199).band = some .derate ∧ (judged 200).band = some .stop ∧
      (judged 200).pct = 40 ∧ ({ wind 0 with window := [1, 1] } : Wind).isKnown = false ∧
      (({ wind 0 with failed := true } : Wind).judge 120 200).band = none ∧
      (after .anemoIntervalEnd two).msu.wind.w = 300 ∧ (after .anemoIntervalEnd two).msu.wind.known = true ∧
      (after .anemoIntervalEnd two).msu.wind.band = some .stop ∧ (after .anemoIntervalEnd two).cl.latched = 0x40 := by
  decide +kernel

/-! ### Vessels, queues and the batch -/

/-- R140, R142: what a report changes of a known vessel by its state, and the marks of the reply. -/
theorem witness_VesselTable_refresh :
    let report (st : VesselState) : State := after (.vesselReport 40117 1 80) (berth st ready)
    let seen (s : State) : Option (Side × Option Nat × VesselState) := (s.vessel 0).map fun v => (v.side, v.air, v.state)
    (berth .waiting ready).findVessel 40117 = some 0 ∧
      ((data (report .sighted)).take 2 = [0, 0] ∧ seen (report .sighted) = some (.landward, some 80, .sighted)) ∧
      ((data (report .passed)).take 2 = [0, 0] ∧ seen (report .passed) = some (.landward, some 80, .sighted)) ∧
      ((data (report .waiting)).take 2 = [0, 1] ∧ seen (report .waiting) = some (.seaward, some 80, .waiting)) ∧
      ((data (report .called)).take 2 = [0, 3] ∧ seen (report .called) = some (.seaward, none, .called)) ∧
      (data (after (.vesselReport 40117 0 0) (berth .called ready))).take 2 = [0, 0] := by decide +kernel

/-- R141, R144, R149: a learned and a replaced vessel, the counters and the VESSEL latch of a clear and of an epoch. -/
theorem witness_VesselTable_counters :
    let learned := after (.vesselReport 7 0 1200) (berth .sighted ready)
    let crowded := crowd .sighted
    let replaced := after (.vesselReport 7 1 0) crowded
    let clear (m : Byte) (st : VesselState) : State := after (.vesselClear m) (berth st (queued 1 [entry 0] ready))
    let epoch (st : VesselState) : State :=
      after .epochEnd (setSlot 0 (some { ship 40117 with state := st, life := 1 }) (queued 1 [entry 0] ready))
    ((berth .sighted ready).vessel 1 = none ∧ (∀ j : Fin 32, j.val < 1 → (berth .sighted ready).vessel j ≠ none) ∧
      (data learned).take 10 = [1, 0, 0, 0, 0, 0, 1, 0, 0, 0] ∧ learned.vt.change = 1) ∧
    ((data replaced).take 6 = [2, 0, 0, 0, 0, 9] ∧ replaced.vt.replaced = 1 ∧ replaced.vt.change = 1) ∧
    ((clear 1 .waiting).cl.latched = 0x100 ∧ (clear 1 .waiting).vt.change = 1 ∧ (clear 1 .waiting).queue 1 = [] ∧
      (clear 2 .waiting).cl.latched = 0 ∧ (clear 1 .called).queue 1 = [entry 0] ∧ data (clear 1 .called) = [0, 0, 1]) ∧
    ((epoch .waiting).vt.lapsed = 1 ∧ (epoch .waiting).queue 1 = [] ∧ (epoch .sighted).vt.lapsed = 0 ∧
      (epoch .sighted).vessel 0 = none ∧ (epoch .sighted).cl.latched = 0 ∧ (epoch .called).vt.change = 0) := by
  decide +kernel

/-- A batch FORMED with a call list, of room for six, its leading side SEAWARD. -/
def listed (l : List Item) : State :=
  (berth .sighted ready).onPsc fun p => { p with
    batch := { p.batch with state := .formed, size := 6, tf := 7800, items := l, leading := some .seaward } }

/-- An item of a call list. -/
def called' (k : Fin 32) (d : Side) (c : Fin 4) : Item := ⟨k, 5, d, c, 100, .called⟩

/-- R165: the place of an extending vessel in the call list, and its entry at the queue's tail. -/
theorem witness_JoinOutcomes_place :
    let join (side : Byte) (l : List Item) : List (Fin 32) :=
      (after (.join 40117 side 0 0) (listed l)).psc.batch.items.map (·.slot)
    let t := after (.join 40117 0 0 0) (listed [called' 3 .seaward 1])
    ((listed []).allows (operateRequest 0x50) ∧ (listed []).findVessel 40117 = some 0 ∧ (listed []).pool < 24 ∧
      (∀ r : Fin 8, ∀ e ∈ (listed []).queue r, e.slot ≠ 0)) ∧
    (join 0 [called' 3 .seaward 0, called' 4 .seaward 1, called' 5 .landward 0] = [3, 0, 4, 5] ∧
      join 1 [called' 3 .seaward 0, called' 4 .landward 1] = [3, 0, 4] ∧
      join 0 [called' 3 .landward 0, called' 4 .landward 1] = [0, 3, 4] ∧
      join 1 [called' 3 .seaward 0, called' 4 .seaward 1] = [3, 4, 0]) ∧
    (t.queue 0 = [⟨0, 1, 0, true⟩] ∧ data t = [0, 0, 0, 0, 0, 0, 0, 0, 0, 1] ++ (t.vesselRecord 0).map (·.toNat) ∧
      t.psc.batch.remaining = 1 ∧ t.psc.batch.angle = 7800 ∧ t.aspect .seaward = .standby ∧
      t.cl.latched &&& 0x200 = 0x200) := by
  unfold State.allows; decide +kernel

/-- R154: with as many waiting on each side the joining side gives the victim, the first waiting entry of its last class. -/
theorem witness_JoinOutcomes_victim :
    let even := queued 7 (eight 9) (queued 6 ((eight 1).take 4) (queued 3 (eight 17) (queued 2 ((eight 1).drop 4) full)))
    let s := queued 1 [] even
    let own := after (.join 40117 1 0 0) s
    (s.allows (operateRequest 0x50) ∧ s.findVessel 40117 = some 0 ∧ s.pool = 24 ∧
      (s.queue 3)[0]? = some (entry 17) ∧ (s.queue 7)[0]? = some (entry 9) ∧ s.vessel 9 ≠ none) ∧
    (head own = [0, 0, 0] ∧ (own.vessel 9).map (·.state) = some .sighted ∧ own.psc.displaced = 1 ∧ own.pool = 24 ∧
      (data own).take 9 = [0, 0, 0, 0, 0, 0, 0, 0, 109]) ∧
    (let other := after (.join 40117 0 2 0) s
     head other = [0, 0, 0] ∧ (other.vessel 17).map (·.state) = some .sighted) := by
  unfold State.allows; decide +kernel

/-- `called` with a second item, of slot 1 on side `d`. -/
def pair (d : Side) (b : BatchState) : State :=
  (called b (leaves .raised ready)).onBatch fun r => { r with items := r.items ++ [called' 1 d 1], remaining := 2 }

/-- A turn of SEAWARD over two called vessels, and the same between two turns. -/
def turning (d : Side) (p : TurnPhase) : State := (pair d .running).onCsu fun c =>
  { c with phase := p, current := some .seaward, window := some 5, sealTimer := none, sealed := false
           aspects := if p = .turn then ⟨.go, .stop⟩ else ⟨.stop, .stop⟩
           sides := ⟨{ c.sides.seaward with goStart := some 0 }, c.sides.landward⟩ }

/-- R156, R177, R180: a withdrawal from a turn ends it when its side has no called vessel left; else the turn goes on. -/
theorem witness_WithdrawOutcomes_turn :
    let left (d : Side) (p : TurnPhase) : State := after (.withdraw 40117) (turning d p)
    ((turning .seaward .turn).allows (operateRequest 0x51) ∧ (turning .seaward .turn).findVessel 40117 = some 0 ∧
      (left .seaward .turn).csu.phase = .turn ∧ (left .seaward .turn).aspect .seaward = .go ∧
      (left .seaward .turn).psc.batch.remaining = 1 ∧ (data (left .seaward .turn)).take 2 = [2, 1]) ∧
    ((left .landward .turn).csu.phase = .changeover ∧ (left .landward .turn).csu.changeover = some 0 ∧
      (left .landward .turn).csu.sides.seaward.cause = some .noCalled ∧
      (left .landward .turn).aspect .landward = .standby ∧ (left .landward .turn).psc.batch.state = .running) ∧
    ((left .landward .changeover).csu.phase = .changeover ∧
      (left .landward .changeover).aspect .landward = .standby) ∧
    (let one := after (.withdraw 40117) (pair .landward .formed)
     one.csu.phase = .idle ∧ one.aspect .seaward = .stop ∧ one.aspect .landward = .standby ∧
       one.psc.batch.items.map (·.outcome) = [.withdrawn, .called]) ∧
    (let shut := (called .formed ready).onCsu fun c => { c with sealed := true }
     (after (.withdraw 40117) shut).psc.batch.state = .closed ∧
       (after (.withdraw 40117) shut).psc.batch.closedAt = some 0) := by
  unfold State.allows; decide +kernel

/-- R183, R184: the reply carries the wait, the time in the turn, the aspect's mark and whether the turn ended. -/
theorem witness_VesselPassedOutcomes_reply :
    let at9 (s : State) : State := s.onTb fun b => { b with seconds := 9 }
    let passed (s : State) : List Nat := (data (after (.vesselPassed 40117) (at9 s))).take 11
    (turning .seaward .turn).allows (operateRequest 0x60) ∧
      passed (turning .seaward .turn) = [0, 0, 0, 0, 0, 0, 0, 9, 0, 0, 2] ∧
      passed (turning .landward .turn) = [0, 0, 0, 0, 0, 0, 0, 9, 0, 1, 2] ∧
      passed (pair .landward .running) = [255, 255, 255, 255, 255, 255, 255, 255, 1, 0, 2] ∧
      (let t := after (.vesselPassed 40117) (turning .landward .turn)
       t.psc.batch.items.map (·.outcome) = [.passed, .called] ∧ t.psc.batch.remaining = 1 ∧
         t.csu.sides.seaward.passed = 1 ∧ t.csu.phase = .changeover) := by
  unfold State.allows; decide +kernel

/-- R163 with the default clearance table, soffit 95, margin 5 and a level of 0: the first point, the inside and the end
of a segment, and the last point. -/
theorem witness_TideAndContribution_segments :
    let s := after (.tide 0) ready
    s.tideStaleNow = false ∧ s.clearanceValid = true ∧ s.par pSoffit = 95 ∧ s.par pMargin = 5 ∧
      s.contribution 7800 (some 90) = 0 ∧ s.contribution 7800 (some 91) = 40 ∧ s.contribution 7800 (some 110) = 800 ∧
      s.contribution 7800 (some 111) = 845 ∧ s.contribution 7800 (some 229) = 7740 ∧
      s.contribution 7000 (some 229) = 7000 ∧ s.contribution 7800 (some 230) = 7800 ∧
      ((par 38 20 s).clearanceValid = false ∧ (par 38 20 s).contribution 7800 (some 91) = 7800) := by decide +kernel

/-- R161 to R163: what a formation records and replies, from two vessels on two sides and a level of 0. -/
theorem witness_BatchFormationAndAbandon_record :
    let s := (after (.tide 0) (setSlot 0 (some { ship 40117 with state := .waiting, air := some 111 })
      (rivals 3 1))).onCl fun l => { l with reply := none }
    let t := after .formBatch s
    let back := after .abandonBatch (t.onCl fun l => { l with reply := none })
    (s.allows (operateRequest 0x54) ∧ t.psc.batch.items = [⟨0, 40117, .seaward, 3, 845, .called⟩,
        ⟨1, 7, .landward, 1, 7800, .called⟩] ∧ t.psc.batch.number = 1 ∧ t.psc.batch.angle = 7800 ∧
      t.queue 3 = [{ entry 0 with called := true }] ∧ (t.vessel 0).map (·.state) = some .called ∧
      data t = [0, 1, 0, 2, 1, 1, 0x1E, 0x78, 0, 0, 0, 0] ∧ (t.pump .north).state = .starting ∧
      t.csu.batchNumber = 1 ∧ t.aspect .landward = .standby) ∧
    (back.psc.batch.items.map (·.outcome) = [.returned, .returned] ∧ data back = [2, 3] ∧
      back.queue 3 = [entry 0] ∧ (back.vessel 0).map (·.state) = some .waiting ∧ back.aspect .seaward = .stop) := by
  unfold State.allows; decide +kernel

/-! ### Provings and health -/

/-- A proving of circuit `c`, and a circuit counted as a fault once before. -/
def trying (c : Fin 16) (on : Bool) (s : State) : State := s.onPhu fun p => { p with
  proving := some ⟨c, false, on, false, 2⟩
  circuits := p.circuits.set c { p.circuits[c] with counted := .fault } }

/-- R191 to R193: the results of both methods at their bounds, by the class of the circuit. -/
theorem witness_ProvingsAndTests_results :
    let result (c : Fin 16) (on : Bool) (current : Half) : ProvingResult :=
      (after (.provingEnd current) (trying c on ready)).phu.circuits[c].lastResult
    (result 5 true 149 = .opened ∧ result 5 true 150 = .normal ∧ result 5 true 901 = .overload) ∧
      (result 6 true 99 = .opened ∧ result 13 true 700 = .normal ∧ result 13 true 701 = .overload) ∧
      (result 15 true 199 = .opened ∧ result 15 true 1500 = .normal ∧ result 15 true 1501 = .overload) ∧
      (result 9 false 1 = .opened ∧ result 9 false 2 = .normal ∧ result 9 false 50 = .normal ∧
        result 9 false 51 = .short) ∧
      (let t := after (.provingEnd 0) (trying 9 false ready)
       t.phu.circuits[(9 : Fin 16)].failed = true ∧ t.phu.circuits[(9 : Fin 16)].failedSinceRead = true ∧
         t.phu.circuits[(9 : Fin 16)].lastMethod = .pulse ∧ t.cl.latched = 0x800) := by decide +kernel

/-- R177, R179, R131: a declared pair of greens ends the turn, of the other side's reds withdraws GO; circuit 14 takes
the wind measurement with it. -/
theorem witness_ProvingsAndTests_declared :
    let fail (c : Fin 16) (s : State) : State := s.onPhu fun p =>
      { p with circuits := p.circuits.set c { p.circuits[c] with failed := true, counted := .fault } }
    let declare (c : Fin 16) (s : State) : State := after (.provingEnd 0) (trying c false s)
    let s := turning .landward .turn
    let green := declare 9 (fail 8 s)
    let red := declare 11 (fail 10 s)
    let wind := declare 14 (leaves .unlocking ready)
    (s.csu.phase = .turn ∧ s.csu.current = some .seaward ∧ green.csu.phase = .changeover ∧
      green.csu.sides.seaward.cause = some .greens ∧ green.csu.changeover = some 0 ∧ green.cl.latched = 0xA00) ∧
    (red.csu.phase = .ended ∧ red.csu.result = .goWithdrawn ∧ red.csu.horn = 500 ∧ red.psc.batch.state = .closing ∧
      red.cl.latched &&& 0xA00 = 0xA00) ∧
    ((declare 9 s).csu = s.csu ∧ (declare 9 s).cl.latched = 0x800 ∧ (declare 7 (fail 6 s)).csu = s.csu ∧
      (declare 9 (fail 8 ready)).csu = ready.csu) ∧
    (wind.msu.wind.known = false ∧ wind.msu.wind.pct = 40 ∧ wind.msu.wind.window = [] ∧ wind.cl.latched &&& 0x40 = 0x40 ∧
      wind.lmc.leaf = .seatedLocked) ∧
    ((after (.provingEnd 60) (fail 14 ready |>.onPhu fun p => { p with
        proving := some ⟨14, false, false, false, 2⟩
        circuits := p.circuits.set 14 { p.circuits[(14 : Fin 16)] with counted := .normal, failed := true } })).phu.circuits[
          (14 : Fin 16)].lastResult = .short) := by decide +kernel

/-- "A proving lasts 20 ms" (R190): it ends in the second tick after the one it starts in, and not before. -/
theorem witness_ProvingsAndTests_due :
    let lasting (n : Nat) : State := ready.onPhu fun p => { p with proving := some ⟨15, true, false, true, n⟩ }
    ((lasting 2).running = true ∧ (lasting 2).phu.proving.any (fun p => 2 ≤ p.elapsed) = true ∧
      (provingDue (lasting 2)).phu.proving = none ∧ (provingDue (lasting 2)).phu.readings = 1 ∧
      (provingDue (lasting 2)).phu.circuits[(15 : Fin 16)].lastResult = .testVoid) ∧
    ((provingDue (lasting 1)).phu.proving.isSome = true ∧ (provingDue (lasting 1)).phu.readings = 0) ∧
    ((stepped (stepped (lasting 0))).phu.proving = none ∧ (stepped (lasting 0)).phu.proving.isSome = true) := by
  decide +kernel

/-- R198: a value at the threshold is WORN where the class's flag is 1; a newly WORN mark latches HEALTH. -/
theorem witness_HealthUpdates_worn :
    let set (n : Byte) (v : Byte) (s : State) : State := after (.healthSet n v) s
    (ready.par pArmThreshold = 60 ∧ ready.par pBoltThreshold = 80 ∧ ready.par pArmFlag = 1 ∧ ready.par pBoltFlag = 1) ∧
      (data (set 7 60 ready) = [7, 60, 1] ∧ data (set 7 61 ready) = [7, 61, 0] ∧ data (set 8 80 ready) = [8, 80, 1] ∧
        data (set 8 81 ready) = [8, 81, 0] ∧ data (set 8 80 (par pBoltFlag 0 ready)) = [8, 80, 0] ∧
        data (set 7 60 (par pBoltFlag 0 ready)) = [7, 60, 1]) ∧
      ((set 8 80 ready).cl.latched = 0x1000 ∧ (set 8 81 ready).cl.latched = 0 ∧
        (set 8 80 ((set 8 79 ready).onCl fun l => { l with reply := none, latched := 0 })).cl.latched = 0) := by
  decide +kernel

end Sys2Proof.Tests
end

