-- ==== Sys2Proof/Tests/WitnessesTurns.lean ====
section
/-! SUPPORT. Concrete states and operands that meet together the hypotheses of the clauses on the listen of start-up, on
turns that are skipped, refused or withdrawn, and on work held back by FREEZE and RESTART, with what then happens. The
name after `witness_` is the statement's. -/

namespace Sys2Proof.Tests

open Sys2Proof Sys2Proof.Machine

set_option Elab.async false

/-! ### The listen of start-up -/

/-- A part in start-up, powered a moment ago. -/
def starting : State := after (.powerOn ⟨false, false, false⟩ true) State.reset

/-- The end of an encoder period in which ENC-NP alone replies. -/
def northReplies (s : State) : State := after (.encoderPeriodEnd (.reading 100) .silent .silent .silent) s

/-- The end of an encoder period in which no line replies. -/
def nobodyReplies (s : State) : State := after (.encoderPeriodEnd .silent .silent .silent .silent) s

/-- R136: the flag is yes for an encoder valid from its first valid period on, no for one that then failed, and the
fifth period is the last of the listen. -/
theorem witness_EncoderPeriods_listen :
    let four := northReplies (northReplies (nobodyReplies (nobodyReplies starting)))
    let gap := nobodyReplies (northReplies (nobodyReplies (nobodyReplies starting)))
    (starting.tb.phase = .startup ∧ starting.measuring = true ∧ starting.msu.listen = ⟨0, 0, false⟩) ∧
      (four.msu.listen.periods = 4 ∧ four.msu.encoders[0].listen = some true ∧
        (northReplies four).msu.listen = ⟨5, 1, true⟩ ∧ (northReplies four).msu.encoders[0].validSinceRead = true ∧
        (northReplies four).msu.encoders[1].validSinceRead = false) ∧
      (gap.msu.encoders[0].listen = some false ∧ (northReplies gap).msu.encoders[0].validSinceRead = false) ∧
      (let late := northReplies (nobodyReplies (nobodyReplies (nobodyReplies (nobodyReplies (nobodyReplies starting)))))
       late.msu.listen = ⟨5, 0, true⟩ ∧ late.msu.encoders[0].state = .valid ∧
         late.msu.encoders[0].validSinceRead = false) := by decide +kernel

/-- R37: who first answers in the sixth period is not recorded, who answers in the fifth is; R36: a STARTUP_END in the
listen is one at its end after silent periods. -/
theorem witness_StartupEndDerives_listen :
    let four := nobodyReplies (nobodyReplies (nobodyReplies (nobodyReplies starting)))
    (four.msu.listen.periods < 5 ∧
      after .startupEnd four = after .startupEnd ((nobodyReplies four).onMsu fun m => { m with heard := true })) ∧
      (after .startupEnd (northReplies four)).apu.record.encoders = 1 ∧
      (5 ≤ (northReplies (nobodyReplies four)).msu.listen.periods ∧
        (after .startupEnd (northReplies (nobodyReplies four))).apu.record.encoders = 0) ∧
      ((after .startupEnd starting).msu.encoders[0].run = 8 ∧
        (after .startupEnd starting).msu.listen = ⟨0, 0, false⟩ ∧
        (after .startupEnd starting).lmc.trip = some .position) := by decide +kernel

/-! ### BATCH-READ before the first batch -/

/-- R171: in NONE every field but the absent side is 0, the interval remaining of an OPEN road too. -/
theorem witness_ReadsReport_noBatch :
    let s := ready.onRcs fun r => { r with openTime := some 0 }
    s.taking = true ∧ s.psc.batch.state = .none ∧ s.intervalRemaining = 300 ∧
      data (after .batchRead s) = List.replicate 3 0 ++ [255] ++ List.replicate 31 0 ∧
      ((data (after .batchRead (called .running s))).drop 32).take 2 = [1, 44] := by decide +kernel

/-! ### Outputs with the supply away -/

theorem witness_SupplyAndReset_off :
    let off := (road .secured ready).onTb fun b => { b with phase := .off }
    off.tb.phase = .off ∧ off.redA = false ∧ off.redB = false ∧ (∀ k : Fin 16, off.circuitOn k = false) ∧
      (road .secured ready).redA = true := by decide +kernel

/-! ### FREEZE and RESTART -/

/-- R39: the soft reset reloads a frozen table; R58: a bypass ends as the road becomes OPEN. -/
theorem witness_FreezeHoldsConfiguration_marks :
    let s := (arm 3 .outOfService (road .reopening ready)).onApu fun a => { a with frozen := true }
    let passed := (s.onZone 2 fun z => { z with bypassed := true }).onRcs fun r => { r with stepTimer := .runOn }
    let soft := (par pMask 7 ready).onApu fun a =>
      { a with frozen := true, restart := true, store := .image defaultTable 0 }
    (s.apu.frozen = true ∧ (s.arm 3).state = .outOfService ∧
      (after (.armServiceReturn 3) s).arm 3 = s.arm 3 ∧ (stepped s).apu = s.apu) ∧
      ((passed.zone 2).bypassed = true ∧ ((after .runOnExpiry passed).zone 2).bypassed = false ∧
        (after .runOnExpiry passed).rcs.road = .opened ∧ ((after (.zoneBypassClear 3) passed).zone 2).bypassed = true) ∧
      ((after .softResetEffect soft).apu.frozen = true ∧ (after .softResetEffect soft).apu.table ≠ soft.apu.table) := by
  decide +kernel

/-- R38: beside a lowering arm no other starts, and its edge reverses it. -/
theorem witness_RestartBarsNewWork_beside :
    let s := ((road .securing ready).onArm 0 fun r => { r with state := .lowering, timeout := 60 }).onApu fun a =>
      { a with restart := true, commit := some a.table }
    let edged : State := { s with pending := [.obstructionEdgeActive 0] }
    (s.apu.restart = true ∧ s.atEase = false ∧ ((stepped s).arm 0).state = .lowering ∧
      ((stepped s).arm 1).state = .up ∧ (stepped s).apu.commit = s.apu.commit) ∧
      (((stepped edged).arm 0).state = .raising ∧ ((stepped edged).arm 1).state = .up) := by decide +kernel

/-! ### Turns -/

/-- A part with the leaves RAISED, its batch RUNNING with a called vessel on each side. -/
def offered : State := (leaves .raised ready).onBatch fun b =>
  { b with state := .running, leading := some .seaward, remaining := 2
           items := [⟨0, 40117, .seaward, 1, 3000, .called⟩, ⟨1, 7, .landward, 1, 3000, .called⟩] }

/-- A state with two circuits FAILED. -/
def dark (i j : Fin 16) (s : State) : State :=
  let broken : Circuit := { Circuit.reset with failed := true }
  s.onPhu fun p => { p with circuits := (p.circuits.set i broken).set j broken }

/-- R176: both greens of SEAWARD dark, the offer passes to LANDWARD at once; with every green dark, or no side to offer,
the turns have ended; a first GO already stamped is kept (R166). -/
theorem witness_ChannelTimersAndTurns_offers :
    let skip := offerTurn 4 .seaward (dark 8 9 offered)
    let dim := offerTurn 4 .seaward (dark 8 9 (dark 12 13 offered))
    let had := offered.onTurn .seaward fun t => { t with status := .done }
    let spent := had.onTurn .landward fun t => { t with status := .skipped }
    (offered.canOffer .seaward = true ∧ (dark 8 9 offered).greensFailed .seaward = true ∧
      (dark 8 9 offered).redsFailed .landward = false ∧
      skip.csu.sides.seaward.status = .skipped ∧ skip.csu.sides.seaward.cause = some .greens ∧
      skip.aspect .landward = .go ∧ skip.aspect .seaward = .stop ∧ skip.psc.batch.firstGoAt = some 0 ∧
      skip = offerTurn 4 .landward (skipTurn .seaward (dark 8 9 offered))) ∧
      (dim.csu.phase = .ended ∧ dim.csu.result = .turnsEnded ∧ dim.psc.batch.state = .closing) ∧
      (had.canOffer .seaward = false ∧ had.canOffer .landward = true ∧
        (offerTurn 4 .seaward had).csu.current = some .landward) ∧
      (spent.canOffer .landward = false ∧ (offerTurn 4 .seaward spent).csu.result = .turnsEnded ∧
        (offerTurn 4 .seaward spent).psc.batch.state = .closing ∧
        (offerTurn 4 .seaward (spent.onCsu fun c => { c with sealed := true })).psc.batch.state = .closed) ∧
      ((offerTurn 4 .seaward (offered.onBatch fun b => { b with firstGoAt := some 9 })).psc.batch.firstGoAt =
        some 9) := by decide +kernel

/-- R179: ESTOP with SEAWARD at GO, in CHANGEOVER on a sealed channel, and in IDLE. -/
theorem witness_TripsStopTheLeaves_withdrawal :
    let turn := offered.onCsu fun c => { c with phase := .turn, current := some .seaward, aspects := ⟨.go, .stop⟩
                                                window := some 5, sealTimer := none }
    let gap := offered.onCsu fun c => { c with phase := .changeover, current := some .seaward, sealed := true
                                               aspects := ⟨.stop, .standby⟩, changeover := some 5 }
    let t := after .estopAsserted turn
    let u := after .estopAsserted gap
    (turn.lmc.leaf = .raised ∧ t.running = true ∧ t.lmc.leaf = .tripped ∧ t.csu.sides.seaward.status = .done ∧
      t.csu.sides.seaward.cause = some .withdrawn ∧ t.csu.sides.seaward.goEnd = some 0 ∧ t.csu.phase = .ended ∧
      t.csu.result = .goWithdrawn ∧ t.csu.horn = 500 ∧ t.csu.window = none ∧ t.psc.batch.state = .closing) ∧
      (u.csu.phase = .ended ∧ u.csu.result = .goWithdrawn ∧ u.csu.horn = 0 ∧ u.csu.changeover = none ∧
        u.aspect .landward = .stop ∧ u.psc.batch.state = .closed) ∧
      ((after .estopAsserted offered).csu = offered.csu ∧ (after .estopAsserted offered).psc = offered.psc) := by
  decide +kernel

/-- R166: RAISED runs a FORMED batch, whose leading side goes to GO; in another state it changes nothing. -/
theorem witness_ControlPeriodOutcomes_raised :
    let near (b : BatchState) : State := (called b (under .raising 5 5 (road .secured ready))).onMotion fun m =>
      { m with direction := .raise, target := 0, halt := .none }
    let t := after .controlPeriod (near .formed)
    ((near .formed).tripNow = none ∧ (near .formed).csu.phase = .idle ∧ t.lmc.leaf = .raised ∧
      t.psc.batch.state = .running ∧ t.psc.batch.raisedAt = some 0 ∧ t.psc.batch.firstGoAt = some 0 ∧
      t.aspect .seaward = .go ∧ t.csu.current = some .seaward) ∧
      ((after .controlPeriod (near .closed)).lmc.leaf = .raised ∧
        (after .controlPeriod (near .closed)).psc = (near .closed).psc) ∧
      (let busy := (near .formed).onCsu fun c => { c with phase := .ended }
       (after .controlPeriod busy).psc.batch.state = .running ∧ (after .controlPeriod busy).csu = busy.csu) := by
  decide +kernel

end Sys2Proof.Tests
end

section
/-! PROOFS. The console line (spec/01): what the framer does with a byte, and the counters' read. -/

namespace Sys2Proof.Machine

variable {b : Byte} {s : State}

/-! ### The framer's equations (R2, R4) -/

/-- LINK is the highest bit of the attention set (R14). -/
theorem link_bit : Condition.link.bit = 0x8000 := rfl

/-- In HUNT a SYNC starts a frame and every other byte is dropped (R2). -/
theorem receiveByte_hunt (hrun : s.running = true) (hf : s.cl.framer = .hunt) :
    receiveByte b s = if b = 0xC3 then setFramer .length s else s := by
  simp only [receiveByte, hrun, hf, if_true]

/-- In LENGTH the byte is the frame's length (R2, R4). -/
theorem receiveByte_length (hrun : s.running = true) (hf : s.cl.framer = .length) :
    receiveByte b s = takeLength b s := by
  simp only [receiveByte, hrun, hf, if_true]

/-- A LENGTH byte out of range is a framing error (R4). -/
theorem takeLength_outside (hb : b.toNat = 0 ∨ 250 < b.toNat) : takeLength b s = lengthError s := if_pos hb

/-- What a framing error leaves: HUNT, one error more and LINK latched, and nothing else changed (R4). -/
theorem lengthError_eq (s : State) :
    lengthError s = { s with cl := { s.cl with
      framer := .hunt, gap := 0, framingErrors := bump s.cl.framingErrors, latched := s.cl.latched ||| 0x8000 } } := by
  rw [lengthError, latch_eq, link_bit]; rfl

/-- LENGTH_BYTE_ERROR with a byte out of range in LENGTH is that framing error (R4, note 25). -/
theorem exec_lengthByteError (hrun : s.running = true) (hf : s.cl.framer = .length)
    (hb : b.toNat = 0 ∨ 250 < b.toNat) : exec (.lengthByteError b) s = .next (lengthError s) := by
  have guard : (s.awaitsLength && (decide (b.toNat = 0) || decide (250 < b.toNat))) = true := by
    simpa [State.awaitsLength, hf] using hb
  calc exec (.lengthByteError b) s
      = .next (receiveByte b s) := congrArg Host.Outcome.next (if_pos guard)
    _ = .next (lengthError s) := by rw [receiveByte_length hrun hf, takeLength_outside hb]

/-- Settles O8: the error leaves a running part in HUNT, so the next byte is taken as HUNT takes it. -/
theorem lengthByteErrorDiscards : Obligations.LengthByteErrorDiscards := by
  unfold Obligations.LengthByteErrorDiscards
  intro b next s hrun hf hb
  refine ⟨lengthError s, exec_lengthByteError hrun hf hb, lengthError_eq s, ?_⟩
  have hrun' : (lengthError s).running = true := hrun
  have hhunt : (lengthError s).cl.framer = .hunt := rfl
  exact congrArg Host.Outcome.next (receiveByte_hunt hrun' hhunt)

/-! ### COUNTERS (R18) -/

/-- COUNTERS clears the four counters and nothing else, and reports them as they stood (R18). -/
theorem countersOp_eq (s : State) :
    countersOp s =
      ({ s with cl := { s.cl with crcErrors := 0, framingErrors := 0, timeouts := 0, overruns := 0 } },
        .done (be16 (BitVec.ofNat 16 s.cl.crcErrors) ++ be16 (BitVec.ofNat 16 s.cl.framingErrors) ++
          be16 (BitVec.ofNat 16 s.cl.timeouts) ++ be16 (BitVec.ofNat 16 s.cl.overruns))) := rfl

/-- Settles O11: a taken COUNTERS is at VIEW, so no test of R20 refuses it and the reply is the operation's. -/
theorem countersReadClears : Obligations.CountersReadClears := by
  unfold Obligations.CountersReadClears
  intro s htaking
  rw [exec_counters htaking, countersOp_eq]

end Sys2Proof.Machine
end

section
/-! PROOFS. Authority (spec/02): LOGOFF. -/

namespace Sys2Proof.Machine

/-- LOGOFF sets the level to VIEW and nothing else, and replies with no data (R24). -/
theorem logoffOp_eq (s : State) :
    logoffOp s = ({ s with apu := { s.apu with level := .view } }, .done []) := rfl

/-- Settles O14: a taken LOGOFF is at VIEW, so no level is too low for it and the reply is the operation's. -/
theorem logoffSetsView : Obligations.LogoffSetsView := by
  unfold Obligations.LogoffSetsView
  intro s htaking
  rw [exec_logoff htaking, logoffOp_eq]

end Sys2Proof.Machine
end

section
/-! PROOFS. Passage (spec/09): CLASS-FLOOR, what is eligible under the floor, and what an extension calls. -/

namespace Sys2Proof.Machine

variable {floor : Byte} {s : State}

/-! ### CLASS-FLOOR (R158) -/

/-- A floor above 3 is refused at the field, and nothing changes (R158). -/
theorem classFloorOp_above (h : 3 < floor.toNat) : classFloorOp floor s = (s, .refused .range 1) := if_pos h

/-- A floor of 0 to 3 replaces the one the reply gives first, and nothing else changes (R158). -/
theorem classFloorOp_within (h : floor.toNat ≤ 3) :
    classFloorOp floor s =
      ({ s with psc := { s.psc with floor := floor.toNat } }, .done [BitVec.ofNat 8 s.psc.floor, floor]) :=
  if_neg (Nat.not_lt.mpr h)

/-! ### What the floor admits (R161) and what an extension calls (R165) -/

/-- An entry is eligible when it stands in the side's queue of an admitted class and its vessel is WAITING (R161). -/
theorem mem_eligible {d : Side} {c : Fin 4} {e : QueueEntry} :
    (c, e) ∈ s.eligible d ↔
      c.val ≤ s.psc.floor ∧ e ∈ s.queue (queueOf d c) ∧ ∃ v, s.vessel e.slot = some v ∧ v.state = .waiting := by
  have hclasses : c ∈ ([0, 1, 2, 3] : List (Fin 4)) := by decide +revert
  simp only [State.eligible, List.mem_flatMap]
  constructor
  · rintro ⟨c', -, hmem⟩
    split at hmem
    next hfloor =>
      obtain ⟨e', he', heq⟩ := List.mem_map.mp hmem
      obtain ⟨rfl, rfl⟩ := Prod.mk.inj heq
      obtain ⟨hqueue, hwaiting⟩ := List.mem_filter.mp he'
      refine ⟨hfloor, hqueue, ?_⟩
      split at hwaiting
      next v hv => exact ⟨v, hv, of_decide_eq_true hwaiting⟩
      next => cases hwaiting
    next => cases hmem
  · rintro ⟨hfloor, hqueue, v, hv, hwaiting⟩
    refine ⟨c, hclasses, ?_⟩
    rw [if_pos hfloor]
    exact List.mem_map_of_mem (List.mem_filter.mpr ⟨hqueue, by simp [hv, hwaiting]⟩)

/-- A class extends the batch when it is class 0 and the batch is FORMED with room in its call list (R165). -/
theorem canExtend_iff {c : Fin 4} :
    s.canExtend c = true ↔
      c = 0 ∧ s.psc.batch.state = .formed ∧ s.psc.batch.items.length < s.psc.batch.size := by
  simp only [State.canExtend, Bool.and_eq_true, decide_eq_true_eq, and_assoc]

/-- Settles O46: an admitted CLASS-FLOOR answers by its operation, whose two cases the range splits; the bounds are
parts of what eligible and extending mean. -/
theorem classFloorIsSet : Obligations.ClassFloorIsSet := by
  unfold Obligations.ClassFloorIsSet
  intro floor s hallows
  refine ⟨fun habove => ?_, fun hwithin => ?_, fun d p hp => ?_, fun c hc => ?_⟩
  · rw [exec_classFloor hallows, classFloorOp_above habove]
  · rw [exec_classFloor hallows, classFloorOp_within hwithin]
  · obtain ⟨hfloor, -, -⟩ := mem_eligible.mp hp
    exact hfloor
  · obtain ⟨hclass, -, -⟩ := canExtend_iff.mp hc
    exact hclass

end Sys2Proof.Machine
end

section
/-! PROOFS. What every step keeps: the induction over the moves of a step said once, then the mismatch count and the
health values (R22, R197), the references (R98, R106), the speed bound (R110), GO (R174) and the queues' bounds (R152). -/

namespace Sys2Proof.Machine

variable {s t : State}

/-! ### From moves to steps -/

/-- The kinds that a step is never made of as they stand: what a turn's moves and the leaves' leaving are made of. -/
abbrev innerKinds : List Part := [.signals, .leaves]

theorem tickKinds_outer : ∀ p ∈ tickKinds, p ∉ innerKinds := by decide

theorem kinds_outer (c : Instr) : ∀ p ∈ kinds c, p ∉ innerKinds := by
  cases c <;> (dsimp only [kinds]; decide)

/-- A property is kept by every step if it does not hear of the queue and every command and a tick keep it. -/
theorem step_keeps {P : State → Prop} (hqueue : ∀ s rest, P s → P { s with pending := rest })
    (hexec : ∀ c s t, P s → exec c s = .next t → P t) (htick : ∀ s, P s → P (tick s)) (hs : P s)
    (h : step s = .next t) : P t := by
  unfold step at h
  split at h
  · exact hexec _ _ _ (hqueue _ _ hs) h
  · obtain rfl := Host.Outcome.next.inj h
    exact htick s hs

/-- A command keeps what its moves keep and what the resets keep. -/
theorem exec_keeps {P : State → Prop} (hmove : ∀ p s t, p ∉ innerKinds → Move p s t → P s → P t)
    (hreset : ∀ c s t, resets c = true → P s → exec c s = .next t → P t) (c : Instr) (hs : P s)
    (h : exec c s = .next t) : P t := by
  cases hc : resets c
  · exact (exec_reach h hc).keeps (fun p hp u v => hmove p u v (kinds_outer c p hp)) hs
  · exact hreset c s t hc hs h

/-- What all moves but the inner ones and all resets keep, a step keeps. -/
theorem step_keeps_of_moves {P : State → Prop} (hqueue : ∀ s rest, P s → P { s with pending := rest })
    (hmove : ∀ p s t, p ∉ innerKinds → Move p s t → P s → P t)
    (hreset : ∀ c s t, resets c = true → P s → exec c s = .next t → P t) (hs : P s) (h : step s = .next t) : P t :=
  step_keeps hqueue (fun c _ _ => exec_keeps hmove hreset c)
    (fun u => (tick_reach u).keeps fun p hp v w => hmove p v w (tickKinds_outer p hp)) hs h

/-! ### What the resets leave -/

/-- A reset leaves a state that is as a cut, a start-up's beginning or end, or a soft reset leaves it, or it changes
nothing. -/
theorem exec_reset_cases {c : Instr} (hc : resets c = true) (h : exec c s = .next t) :
    t = s ∨ t = loseSupply s ∨ t = holdTime .resetHeld (flashFromA (coldBlocks s)) ∨
    (∃ p f, t = beginStartup p f ((flashFromA (loseSupply s)).onPhu fun u =>
      { u with health := Vector.replicate 12 Health.reset })) ∨
    (∃ p f, t = allActuators.foldl markWorn (beginStartup p f s)) ∨
    t = completeStartup s ∨ t = takeSoftReset s := by
  cases c <;> first
    | (cases hc; done)
    | (obtain rfl := Host.Outcome.next.inj h)
  case powerOn p f => exact .inr (.inr (.inr (.inl ⟨p, f, rfl⟩)))
  case supplyLoss => exact .inr (.inl rfl)
  case hardResetAssert => split <;> simp
  case hardResetRelease p f =>
    split
    · exact .inr (.inr (.inr (.inr (.inl ⟨p, f, rfl⟩))))
    · exact .inl rfl
  case startupEnd => split <;> simp
  case softResetEffect => split <;> simp

/-! ### The mismatch count and the health values (R22, R197) -/

theorem Move.mismatch_kept {p : Part} (m : Move p s t) (hs : s.mismatchBounded) : t.mismatchBounded := by
  unfold State.mismatchBounded at hs ⊢
  cases p
  case apu => cases m; next h => exact (h _).2.2.2.2.2 hs
  case table => cases m <;> exact hs
  case restart => cases m; exact hs
  case commit =>
    cases m
    · exact hs
    · dsimp; split <;> exact hs
  all_goals rw [m.reach.apu_eq (by decide)]; exact hs

/-- A start-up begins with the count at 0 (R36). -/
theorem loadStore_mismatch (a : Apu) : (loadStore a).mismatch = a.mismatch := by
  unfold loadStore; split <;> rfl

theorem reloadTable_mismatch (a : Apu) : (reloadTable a).mismatch = a.mismatch := by
  unfold reloadTable; split <;> rfl

theorem exec_reset_mismatch (c : Instr) (s t : State) (hc : resets c = true) (hs : s.mismatchBounded)
    (h : exec c s = .next t) : t.mismatchBounded := by
  unfold State.mismatchBounded at hs ⊢
  rcases exec_reset_cases hc h with rfl | rfl | rfl | ⟨p, f, rfl⟩ | ⟨p, f, rfl⟩ | rfl | rfl
  · exact hs
  · exact hs
  · exact hs
  · simp [loadStore_mismatch]
  · rw [(markWorns_reach _ _).apu_eq (by decide)]; simp [loadStore_mismatch]
  · simpa using hs
  · rw [(takeSoftReset_reach s).apu_eq (by decide), softDerived_apu]
    simpa [reloadTable_mismatch] using hs

theorem Move.health_kept {p : Part} (m : Move p s t) (hs : s.healthBounded) : t.healthBounded := by
  unfold State.healthBounded at hs ⊢
  cases p
  case health =>
    cases m
    next n f h =>
    intro k
    by_cases hk : k = n
    · subst hk; simpa [State.onHealth, State.onPhu] using h _ (hs k)
    · simpa [State.onHealth, State.onPhu, Vector.getElem_set, Fin.val_inj, Ne.symm hk] using hs k
  all_goals rw [m.reach.health_eq (by decide)]; exact hs

theorem exec_reset_health (c : Instr) (s t : State) (hc : resets c = true) (hs : s.healthBounded)
    (h : exec c s = .next t) : t.healthBounded := by
  have markWorns (u : State) (hu : u.healthBounded) : (allActuators.foldl markWorn u).healthBounded :=
    (markWorns_reach u _).keeps (fun _ _ _ _ m => m.health_kept) hu
  rcases exec_reset_cases hc h with rfl | rfl | rfl | ⟨p, f, rfl⟩ | ⟨p, f, rfl⟩ | rfl | rfl
  · exact hs
  · exact hs
  · exact hs
  · intro n; simp [Health.reset]
  · exact markWorns _ fun n => by simpa using hs n
  · intro n; rw [completeStartup_health]; exact hs n
  · exact (takeSoftReset_reach s).keeps (fun _ _ _ _ m => m.health_kept) fun n => by simpa using hs n

/-- Settles O59: the two bounds are kept by every move and by every reset. -/
theorem stepKeepsCountBounds : Obligations.StepKeepsCountBounds := by
  intro s t hm hh h
  exact ⟨step_keeps_of_moves (fun _ _ h => h) (fun _ _ _ _ m => m.mismatch_kept) exec_reset_mismatch hm h,
    step_keeps_of_moves (fun _ _ h => h) (fun _ _ _ _ m => m.health_kept) exec_reset_health hh h⟩

/-! ### What a trip and an accepted LOWER do to the motion record -/

/-- A trip zeroes the references and ends the halt; the rest of the motion record stays (R115). -/
theorem trip_motion (c : TripCause) (s : State) : (trip c s).lmc.motion =
    { s.lmc.motion with halt := .none, awaitingPumps := false
                        leaves := ⟨s.lmc.motion.leaves.north.still, s.lmc.motion.leaves.south.still⟩ } := by
  have tripped (u : State) : (latch .trip (setLeaf .tripped u)).lmc.motion = u.lmc.motion := by
    obtain ⟨x, hx⟩ := setLeaf_eq .tripped u
    rw [hx]; rfl
  unfold trip
  dsimp only
  split
  · rw [(leavesLeftRaised_reach _).motion_eq (by decide), tripped]; rfl
  · rw [tripped]; rfl

/-- The lowering of an accepted LOWER is the motion that begins, but for the mark of the pumps awaited (R103, R104). -/
theorem prepareLowering_lmc (s : State) : (prepareLowering s).lmc =
    { s.lmc with motion := { s.lmc.motion with awaitingPumps := !(orderPumps s).bothReady } } := by
  have pumps := (orderPumps_reach s).lmc_eq (by decide)
  unfold prepareLowering State.onMotion State.onLmc
  dsimp only
  rw [pumps]

theorem beginLower_lmc (s : State) : ∃ a, (beginLower s).lmc =
    { s.lmc with leaf := .lowering
                 motion := { s.motionRecord .lower .seat 0 with awaitingPumps := a } } := by
  obtain ⟨x, hx⟩ := setLeaf_eq .lowering (beginMotion .lower .seat 0 s)
  refine ⟨!(orderPumps (setLeaf .lowering (beginMotion .lower .seat 0 s))).bothReady, ?_⟩
  unfold beginLower
  dsimp only
  split
  · rw [(leavesLeftRaised_reach _).lmc_eq (by decide), prepareLowering_lmc, hx]; rfl
  · rw [prepareLowering_lmc, hx]; rfl

/-! ### The references (R98, R106) -/

/-- The references of a motion record in a leaf state: 0 for an arrived leaf, and 0 outside RAISING and LOWERING. -/
def Motion.referencesSafe (m : Motion) (leaf : LeafState) : Prop :=
  ∀ l : Leaf, ((m.leaves.get l).arrived = true ∨ leaf.moving = false) → (m.leaves.get l).reference = 0

theorem referencesSafe_iff (s : State) : s.referencesSafe ↔ s.lmc.motion.referencesSafe s.lmc.leaf := .rfl

/-- Leaves whose references are 0 are safe in every state. -/
theorem Motion.referencesSafe_of_zero {m : Motion} (hn : m.leaves.north.reference = 0)
    (hs : m.leaves.south.reference = 0) (leaf : LeafState) : m.referencesSafe leaf := fun l _ => by
  cases l
  · exact hn
  · exact hs

/-- Standing leaves have reference 0 where the references are safe (R106). -/
theorem Motion.standing_zero {m : Motion} {leaf : LeafState} (h : m.standing) (hs : m.referencesSafe leaf) (l : Leaf) :
    (m.leaves.get l).reference = 0 := by
  rcases h with h | h
  · simp only [Motion.bothArrived, Bool.and_eq_true] at h
    exact hs l (.inl (by cases l <;> simp [PerLeaf.get, h]))
  · simp only [Motion.atRest, Bool.and_eq_true, decide_eq_true_eq] at h
    cases l <;> simp [PerLeaf.get, h]

/-- A period issues reference 0 to an arrived leaf (R106). -/
theorem Motion.period_referencesSafe (m : Motion) (θN θS : Int) (pct : Nat) {leaf : LeafState} (h : leaf.moving = true) :
    (m.period θN θS pct).referencesSafe leaf := by
  intro l hl
  have harrived := hl.resolve_right (by simp [h])
  cases l <;>
    simp_all [Motion.period, Motion.issue, PerLeaf.get, Motion.speed, Motion.signed] <;> cases m.direction <;> rfl

/-- An extension keeps each reference and clears at most an arrived mark (R119). -/
theorem LeafDrive.extend_cases (d : LeafDrive) (m : Motion) (lost : Bool) (θ : Int) :
    d.extend m lost θ = d ∨ d.extend m lost θ = { d with arrived := false, vPrev := 0 } := by
  unfold LeafDrive.extend; split <;> simp

theorem reportExtension_lmc (angle : Nat) (s : State) : (reportExtension angle s).lmc = s.lmc ∨
    ∃ (m : Motion) (lostN lostS : Bool) (θN θS : Int), (reportExtension angle s).lmc = { s.lmc with motion :=
      { s.lmc.motion with target := m.target, leaves := ⟨s.lmc.motion.leaves.north.extend m lostN θN,
        s.lmc.motion.leaves.south.extend m lostS θS⟩ } } := by
  unfold reportExtension
  split
  · exact .inr ⟨{ s.lmc.motion with target := min angle s.lmc.motion.tf }, _, _, _, _, rfl⟩
  · exact .inl rfl

theorem Move.references_kept {p : Part} (m : Move p s t) (hp : p ∉ innerKinds) (hs : s.referencesSafe) :
    t.referencesSafe := by
  cases p
  case leaf =>
    cases m
    case leaf l h hr hm hst =>
      intro k hk
      rcases hk with hk | hk
      · exact hs k (.inl hk)
      · rcases hst hk with hrest | hstand
        · exact hs k (.inr hrest)
        · exact Motion.standing_zero hstand hs k
    case untrip => exact hs
  case trip =>
    cases m
    rw [referencesSafe_iff, trip_motion]
    exact Motion.referencesSafe_of_zero rfl rfl _
  case fall =>
    cases m
    rw [referencesSafe_iff, trip_motion]
    exact Motion.referencesSafe_of_zero rfl rfl _
  case lower =>
    cases m
    obtain ⟨a, ha⟩ := beginLower_lmc s
    rw [referencesSafe_iff, ha]
    exact Motion.referencesSafe_of_zero rfl rfl _
  case motion =>
    cases m
    case mark f h =>
      intro l hl
      have hleaves : (s.onMotion f).lmc.motion.leaves = s.lmc.motion.leaves := (h _).1
      rw [hleaves] at hl ⊢
      exact hs l hl
    case begin => exact Motion.referencesSafe_of_zero rfl rfl _
    case extend angle =>
      rw [referencesSafe_iff] at hs ⊢
      rcases reportExtension_lmc angle s with h | ⟨m, lostN, lostS, θN, θS, h⟩
      · rw [h]; exact hs
      · rw [h]
        intro l hl
        have hkeep (d : LeafDrive) (lost : Bool) (θ : Int) (he : (d.extend m lost θ).arrived = true ∨
            s.lmc.leaf.moving = false) : (d.extend m lost θ).reference = d.reference ∧
              (d.arrived = true ∨ s.lmc.leaf.moving = false) := by
          rcases d.extend_cases m lost θ with e | e <;> rw [e] at he ⊢ <;> simp_all
        cases l
        · obtain ⟨e, h⟩ := hkeep _ _ _ hl; exact e.trans (hs .north h)
        · obtain ⟨e, h⟩ := hkeep _ _ _ hl; exact e.trans (hs .south h)
    case period h => exact Motion.period_referencesSafe _ _ _ _ h
  case signals => exact absurd (by decide) hp
  case leaves => exact absurd (by decide) hp
  all_goals rw [referencesSafe_iff, m.reach.lmc_eq (by decide)]; exact hs

theorem exec_reset_references (c : Instr) (s t : State) (hc : resets c = true) (hs : s.referencesSafe)
    (h : exec c s = .next t) : t.referencesSafe := by
  rcases exec_reset_cases hc h with rfl | rfl | rfl | ⟨p, f, rfl⟩ | ⟨p, f, rfl⟩ | rfl | rfl
  · exact hs
  · exact Motion.referencesSafe_of_zero rfl rfl _
  · exact Motion.referencesSafe_of_zero rfl rfl _
  · exact Motion.referencesSafe_of_zero rfl rfl _
  · rw [referencesSafe_iff, (markWorns_reach _ _).lmc_eq (by decide)]; exact hs
  · rw [referencesSafe_iff, completeStartup_lmc]; exact Motion.referencesSafe_of_zero rfl rfl _
  · rw [referencesSafe_iff, (takeSoftReset_reach s).lmc_eq (by decide), softDerived_motion]
    exact Motion.referencesSafe_of_zero rfl rfl _

/-- Settles O58: a move changes a reference only in a trip, at a motion's beginning and in a period. -/
theorem stepKeepsReferencesSafe : Obligations.StepKeepsReferencesSafe := fun _ _ hs h =>
  step_keeps_of_moves (fun _ _ h => h) (fun _ _ _ hp m => m.references_kept hp) exec_reset_references hs h

/-! ### The speed bound (R110) -/

/-- The bound of a motion record: creep, stored magnitude and reference within the cruise speed. -/
structure Motion.speedBounded (m : Motion) : Prop where
  creep : m.vk ≤ m.vc
  magnitude : ∀ l : Leaf, (m.leaves.get l).vPrev ≤ m.vc
  reference : ∀ l : Leaf, (m.leaves.get l).reference.natAbs ≤ m.vc

/-- The bound of the authority record: the working table, the store and the commit keep R26's cross-check. -/
structure Apu.creeps (a : Apu) : Prop where
  table : tableCreeps a.table
  store : a.store.creeps
  commit : ∀ t, a.commit = some t → tableCreeps t

theorem speedBounded_iff (s : State) :
    s.speedBounded ↔ s.apu.creeps ∧ s.msu.wind.pct ≤ 100 ∧ s.lmc.motion.speedBounded :=
  ⟨fun ⟨a, b, c, d, e, f, g⟩ => ⟨⟨a, b, c⟩, d, e, f, g⟩, fun ⟨⟨a, b, c⟩, d, e, f, g⟩ => ⟨a, b, c, d, e, f, g⟩⟩

theorem acceptable_creeps {t : Vector Nat 64} {i : Fin 64} {v : Nat} (h : acceptable t i v = true)
    (ht : tableCreeps t) : tableCreeps (t.set i v) := by
  simp only [acceptable, crossCheck, Bool.and_eq_true] at h
  by_cases hi : i = pVc ∨ i = pVk
  · have h2 := h.2
    rw [if_pos hi] at h2
    simpa only [tableCreeps, decide_eq_true_eq] using h2
  · obtain ⟨hc, hk⟩ := not_or.mp hi
    have hc' : i.val ≠ 13 := fun e => hc (Fin.ext e)
    have hk' : i.val ≠ 14 := fun e => hk (Fin.ext e)
    simpa [tableCreeps, Vector.getElem_set, hc', hk'] using ht

theorem defaultTable_creeps : tableCreeps defaultTable := by unfold tableCreeps; decide

theorem defaultsKeeping_creeps (t : Vector Nat 64) : tableCreeps (defaultsKeeping t) := by
  simp [tableCreeps, defaultsKeeping, defaultTable]

theorem Move.apu_creeps_kept {p : Part} (m : Move p s t) (hs : s.apu.creeps) : t.apu.creeps := by
  obtain ⟨htable, hstore, hcommit⟩ := hs
  cases p
  case apu =>
    cases m
    next f h =>
    obtain ⟨h1, h2, h3, -⟩ := h s.apu
    exact ⟨h1.symm ▸ htable, h2.symm ▸ hstore, fun t ht => hcommit t (h3 ▸ ht)⟩
  case table =>
    cases m
    case write h => exact ⟨acceptable_creeps h htable, hstore, hcommit⟩
    case defaults => exact ⟨defaultsKeeping_creeps _, hstore, hcommit⟩
  case restart => cases m; exact ⟨htable, hstore, hcommit⟩
  case commit =>
    cases m
    case commit => exact ⟨htable, hstore, fun t ht => Option.some.inj ht ▸ htable⟩
    case commitEnd good u h =>
      cases good
      · exact ⟨htable, trivial, nofun⟩
      · exact ⟨htable, hcommit u h, nofun⟩
  all_goals rw [m.reach.apu_eq (by decide)]; exact ⟨htable, hstore, hcommit⟩

/-- The derate percentage lies within 100 (R133). -/
theorem pctOf_le (w wd ws : Nat) : pctOf w wd ws ≤ 100 := by
  unfold pctOf; split
  · exact le_rfl
  · split
    · exact Nat.sub_le _ _
    · omega

theorem Wind.judge_pct_le (w : Wind) (wd ws : Nat) : (w.judge wd ws).pct ≤ 100 := by
  unfold Wind.judge
  dsimp only
  split
  · exact pctOf_le _ _ _
  · omega

theorem Move.pct_kept {p : Part} (m : Move p s t) (hs : s.msu.wind.pct ≤ 100) : t.msu.wind.pct ≤ 100 := by
  cases p
  case wind =>
    cases m
    case wind => exact Wind.judge_pct_le _ _ _
    case interval w h => exact h.trans_le hs
  all_goals rw [m.reach.winds_eq (by decide)]; exact hs

/-- The percentage in use lies within 100 (R99). -/
theorem pctInUse_le (h : s.msu.wind.pct ≤ 100) : s.pctInUse ≤ 100 := by
  unfold State.pctInUse; split <;> omega

/-- The target speed lies within the cruise speed (R107). -/
theorem Motion.targetSpeed_le {m : Motion} (h : m.vk ≤ m.vc) (θ : Int) {pct : Nat} (hp : pct ≤ 100) :
    m.targetSpeed θ pct ≤ m.vc := by
  have hcap : m.cap θ pct ≤ m.vc := by
    unfold Motion.cap
    split
    · exact h
    · exact Nat.div_le_of_le_mul (by rw [Nat.mul_comm 100]; exact Nat.mul_le_mul_left _ hp)
  unfold Motion.targetSpeed
  dsimp only
  split
  · omega
  · split <;> omega

/-- The ramp stays within the cruise speed (R108). -/
theorem Motion.ramp_le {m : Motion} {vt vPrev : Nat} (ht : vt ≤ m.vc) (hp : vPrev ≤ m.vc) : m.ramp vt vPrev ≤ m.vc := by
  unfold Motion.ramp
  split
  · omega
  · split <;> omega

/-- The skew correction slows (R109). -/
theorem Motion.corrected_le (m : Motion) (sk : Int) (l : Leaf) (vr : Nat) : m.corrected sk l vr ≤ vr := by
  unfold Motion.corrected
  split
  · exact le_rfl
  · split
    · refine Nat.div_le_of_le_mul ?_
      rw [Nat.mul_comm m.sTrip]
      exact Nat.mul_le_mul_left _ (Nat.sub_le _ _)
    · exact le_rfl

/-- The magnitude of a period lies within the cruise speed (R110). -/
theorem Motion.speed_le {m : Motion} (h : m.speedBounded) (sk : Int) {pct : Nat} (hp : pct ≤ 100) (l : Leaf) (θ : Int)
    (other : Bool) : m.speed sk pct l θ other ≤ m.vc := by
  have hramp := Motion.ramp_le (m := m) (Motion.targetSpeed_le h.creep θ hp) (h.magnitude l)
  unfold Motion.speed
  dsimp only
  split
  · omega
  · split
    · exact hramp
    · exact (m.corrected_le sk l _).trans hramp

theorem Motion.signed_natAbs (m : Motion) (v : Nat) : (m.signed v).natAbs = v := by
  unfold Motion.signed; cases m.direction <;> simp

theorem Motion.period_speedBounded {m : Motion} (h : m.speedBounded) (θN θS : Int) {pct : Nat} (hp : pct ≤ 100) :
    (m.period θN θS pct).speedBounded where
  creep := h.creep
  magnitude l := by cases l <;> exact Motion.speed_le h _ hp _ _ _
  reference l := by
    cases l <;> exact (m.signed_natAbs _).trans_le (Motion.speed_le h _ hp _ _ _)

/-- A motion record of leaves at rest is bounded. -/
theorem Motion.speedBounded.of_rest {m : Motion} (h : m.vk ≤ m.vc)
    (hm : ∀ l : Leaf, (m.leaves.get l).vPrev = 0 ∧ (m.leaves.get l).reference = 0) : m.speedBounded where
  creep := h
  magnitude l := by simp [(hm l).1]
  reference l := by simp [(hm l).2]

theorem still_rests {m : Motion} (l : Leaf) :
    ((⟨m.leaves.north.still, m.leaves.south.still⟩ : PerLeaf LeafDrive).get l).vPrev = 0 ∧
      ((⟨m.leaves.north.still, m.leaves.south.still⟩ : PerLeaf LeafDrive).get l).reference = 0 := by
  cases l <;> exact ⟨rfl, rfl⟩

theorem Move.motion_bounded_kept {p : Part} (m : Move p s t) (hp : p ∉ innerKinds) (hs : s.speedBounded) :
    t.lmc.motion.speedBounded := by
  obtain ⟨hapu, hpct, hmotion⟩ := (speedBounded_iff s).mp hs
  cases p
  case trip => cases m; rw [trip_motion]; exact .of_rest hmotion.creep still_rests
  case fall => cases m; rw [trip_motion]; exact .of_rest hmotion.creep still_rests
  case lower =>
    cases m
    obtain ⟨a, ha⟩ := beginLower_lmc s
    rw [ha]
    exact .of_rest hapu.table fun l => by cases l <;> exact ⟨rfl, rfl⟩
  case motion =>
    cases m
    case mark f h =>
      obtain ⟨h1, h2, h3⟩ := h s.lmc.motion
      exact ⟨by simpa [h2, h3] using hmotion.creep, fun l => by simpa [h1, h2] using hmotion.magnitude l,
        fun l => by simpa [h1, h2] using hmotion.reference l⟩
    case begin => exact .of_rest hapu.table fun l => by cases l <;> exact ⟨rfl, rfl⟩
    case extend angle =>
      rcases reportExtension_lmc angle s with h | ⟨m, lostN, lostS, θN, θS, h⟩
      · rw [h]; exact hmotion
      · rw [h]
        have hkeep (d : LeafDrive) (lost : Bool) (θ : Int) :
            (d.extend m lost θ).vPrev ≤ d.vPrev ∧ (d.extend m lost θ).reference = d.reference := by
          rcases d.extend_cases m lost θ with e | e <;> simp [e]
        refine ⟨hmotion.creep, fun l => ?_, fun l => ?_⟩
        · cases l
          · exact (hkeep _ _ _).1.trans (hmotion.magnitude .north)
          · exact (hkeep _ _ _).1.trans (hmotion.magnitude .south)
        · cases l
          · exact ((congrArg Int.natAbs (hkeep _ _ _).2).trans_le (hmotion.reference .north))
          · exact ((congrArg Int.natAbs (hkeep _ _ _).2).trans_le (hmotion.reference .south))
    case period => exact Motion.period_speedBounded hmotion _ _ (pctInUse_le hpct)
  case signals => exact absurd (by decide) hp
  case leaves => exact absurd (by decide) hp
  all_goals rw [m.reach.motion_eq (by decide)]; exact hmotion

theorem Move.speed_kept {p : Part} (m : Move p s t) (hp : p ∉ innerKinds) (hs : s.speedBounded) : t.speedBounded := by
  have hmotion := m.motion_bounded_kept hp hs
  obtain ⟨hapu, hpct, -⟩ := (speedBounded_iff s).mp hs
  exact (speedBounded_iff t).mpr ⟨m.apu_creeps_kept hapu, m.pct_kept hpct, hmotion⟩

theorem cutCommit_creeps {a : Apu} (h : a.creeps) : (cutCommit a).creeps where
  table := h.table
  store := by unfold cutCommit; dsimp only; split; exacts [trivial, h.store]
  commit := nofun

/-- What the store's read gives keeps the cross-check (R31). -/
theorem loadStore_creeps {a : Apu} (h : a.creeps) : (loadStore a).creeps := by
  unfold loadStore
  split
  · next t ht =>
    refine ⟨?_, h.store, h.commit⟩
    have hstore := h.store
    revert ht
    cases hs : a.store with
    | broken => simp [Store.load]
    | image v c =>
      rw [hs] at hstore
      simp only [Store.load]
      split
      · rintro ⟨⟩; exact hstore
      · nofun
  · exact ⟨defaultTable_creeps, h.store, h.commit⟩

theorem reloadTable_creeps {a : Apu} (h : a.creeps) : (reloadTable a).creeps := by
  unfold reloadTable
  split
  · next hs => exact ⟨by have := h.store; rw [hs] at this; exact this, h.store, h.commit⟩
  · exact ⟨h.table, h.store, h.commit⟩

theorem coldBlocks_speedBounded (hs : s.speedBounded) : (coldBlocks s).speedBounded := by
  obtain ⟨hapu, -, -⟩ := (speedBounded_iff s).mp hs
  have h := cutCommit_creeps hapu
  exact (speedBounded_iff _).mpr ⟨⟨h.table, h.store, h.commit⟩, (by decide : Msu.reset.wind.pct ≤ 100),
    .of_rest (Nat.le_refl 0) fun l => by cases l <;> exact ⟨rfl, rfl⟩⟩

theorem beginStartup_speedBounded (hs : s.speedBounded) (p : Straps) (f : Bool) : (beginStartup p f s).speedBounded := by
  obtain ⟨hapu, -, hmotion⟩ := (speedBounded_iff s).mp hs
  exact (speedBounded_iff _).mpr ⟨loadStore_creeps ⟨hapu.table, hapu.store, nofun⟩,
    (by decide : Msu.reset.wind.pct ≤ 100), hmotion⟩

theorem exec_reset_speed (c : Instr) (s t : State) (hc : resets c = true) (hs : s.speedBounded)
    (h : exec c s = .next t) : t.speedBounded := by
  have cold := coldBlocks_speedBounded hs
  obtain ⟨hapu, hpct, hmotion⟩ := (speedBounded_iff s).mp hs
  rcases exec_reset_cases hc h with rfl | rfl | rfl | ⟨p, f, rfl⟩ | ⟨p, f, rfl⟩ | rfl | rfl
  · exact hs
  · exact ⟨cold.table, cold.store, cold.commit, cold.pct, cold.creep, cold.magnitude, cold.reference⟩
  · exact ⟨cold.table, cold.store, cold.commit, cold.pct, cold.creep, cold.magnitude, cold.reference⟩
  · refine beginStartup_speedBounded (s := (flashFromA (loseSupply s)).onPhu _) ?_ p f
    exact ⟨cold.table, cold.store, cold.commit, cold.pct, cold.creep, cold.magnitude, cold.reference⟩
  · exact (markWorns_reach _ _).keeps (fun q hq _ _ m => m.speed_kept (by simp_all)) (beginStartup_speedBounded hs p f)
  · refine (speedBounded_iff _).mpr ⟨?_, ?_, ?_⟩
    · rw [completeStartup_apu]; exact ⟨hapu.table, hapu.store, hapu.commit⟩
    · rw [completeStartup_wind]; exact hpct
    · rw [completeStartup_lmc]
      exact .of_rest (Nat.le_refl 0) fun l => by cases l <;> exact ⟨rfl, rfl⟩
  · have hderived : (softDerived s).speedBounded := by
      refine (speedBounded_iff _).mpr ⟨?_, ?_, ?_⟩
      · rw [softDerived_apu]
        have h := reloadTable_creeps hapu
        exact ⟨h.table, h.store, h.commit⟩
      · rw [softDerived_msu]; exact hpct
      · rw [softDerived_motion]; exact .of_rest hmotion.creep still_rests
    have hreach := takeSoftReset_reach s
    obtain ⟨hapu', hpct', hmotion'⟩ := (speedBounded_iff _).mp hderived
    refine (speedBounded_iff _).mpr ⟨?_, hreach.keeps (fun _ _ _ _ m => m.pct_kept) hpct', ?_⟩
    · rw [hreach.apu_eq (by decide)]; exact hapu'
    · rw [hreach.motion_eq (by decide)]; exact hmotion'

/-- Settles O55: a period computes no magnitude above the cruise speed, and a motion captures a table that keeps the
cross-check. -/
theorem stepKeepsSpeedBound : Obligations.StepKeepsSpeedBound := fun _ _ hs h =>
  step_keeps_of_moves (fun _ _ ⟨a, b, c, d, e, f, g⟩ => ⟨a, b, c, d, e, f, g⟩) (fun _ _ _ hp m => m.speed_kept hp)
    exec_reset_speed hs h

/-! ### GO (R174) -/

/-- No side shows GO. -/
def State.noGo (s : State) : Prop := ∀ d : Side, s.aspect d ≠ .go

/-- R174's rule of the signal unit alone: GO is shown by the current side of a turn, the other side at STOP. -/
def Csu.goInTurn (c : Csu) : Prop :=
  ∀ d : Side, c.aspects.get d = .go → c.aspects.get d.other = .stop ∧ c.phase = .turn ∧ c.current = some d

theorem State.noGo.oneGo (h : s.noGo) : s.oneGo := fun d hd => absurd hd (h d)

theorem State.oneGo.goInTurn (h : s.oneGo) : s.csu.goInTurn := fun d hd =>
  let ⟨hstop, _, hphase, hcurrent⟩ := h d hd
  ⟨hstop, hphase, hcurrent⟩

theorem Csu.goInTurn.oneGo (h : s.csu.goInTurn) (hraised : s.lmc.leaf = .raised) : s.oneGo := fun d hd =>
  let ⟨hstop, hphase, hcurrent⟩ := h d hd
  ⟨hstop, hraised, hphase, hcurrent⟩

theorem State.oneGo.congr (h : s.oneGo) (hc : t.csu = s.csu) (hl : t.lmc.leaf = s.lmc.leaf) : t.oneGo := by
  intro d hd
  unfold State.aspect at hd ⊢
  rw [hc] at hd ⊢
  rw [hl]
  exact h d hd

/-- Outside a turn no side shows GO. -/
theorem Csu.goInTurn.noGo (h : s.csu.goInTurn) (hp : s.csu.phase ≠ .turn) : s.noGo := fun d hd =>
  hp (h d hd).2.1

/-- Outside RAISED no side shows GO. -/
theorem State.oneGo.noGo (h : s.oneGo) (hl : s.lmc.leaf ≠ .raised) : s.noGo := fun d hd => hl (h d hd).2.1

@[simp] theorem setAspect_csu (d : Side) (a : Aspect) (s : State) :
    (setAspect d a s).csu = { s.csu with aspects := s.csu.aspects.set d a } := by
  obtain ⟨p, hp⟩ := setAspect_eq d a s; rw [hp]
@[simp] theorem showStop_csu (s : State) : (showStop s).csu = { s.csu with aspects := ⟨.stop, .stop⟩ } := by
  obtain ⟨p, hp⟩ := showStop_eq s; rw [hp]
@[simp] theorem soundHorn_csu (n : Nat) (s : State) : (soundHorn n s).csu = { s.csu with horn := 10 * n } := by
  obtain ⟨p, hp⟩ := soundHorn_eq n s; rw [hp]
@[simp] theorem endPhase_csu (r : TurnsResult) (s : State) :
    (endPhase r s).csu = { s.csu with phase := .ended, current := none, result := r } := rfl
@[simp] theorem latch_csu (c : Condition) (s : State) : (latch c s).csu = s.csu := rfl
@[simp] theorem latchIf_csu (b : Bool) (c : Condition) (s : State) : (latchIf b c s).csu = s.csu := by
  unfold latchIf; split <;> rfl

theorem changeoverAspect_ne_go (s : State) (d : Side) : s.changeoverAspect d ≠ .go := by
  unfold State.changeoverAspect; split <;> nofun
theorem waitingAspect_ne_go (s : State) (d : Side) : s.waitingAspect d ≠ .go := by
  unfold State.waitingAspect; split <;> nofun

/-- Both aspects set to other aspects than GO. -/
theorem noGo_of_aspects {d : Side} (h : (t.aspect d) ≠ .go) (ho : t.aspect d.other ≠ .go) : t.noGo := fun e => by
  cases d <;> cases e <;> assumption

/-- An aspect other than GO set where no side shows GO. -/
theorem noGo_setAspect (h : s.noGo) (d : Side) {a : Aspect} (ha : a ≠ .go) : (setAspect d a s).noGo := fun e => by
  have := h e
  cases d <;> cases e <;> simp_all [State.aspect, PerSide.get, PerSide.set]

/-- Both sides at STOP show no GO. -/
theorem noGo_of_stop {t : State} (h : t.csu.aspects = ⟨.stop, .stop⟩) : t.noGo := fun d => by
  unfold State.aspect
  rw [h]
  cases d <;> nofun

theorem State.noGo.congr (h : s.noGo) (hc : t.csu.aspects = s.csu.aspects) : t.noGo := fun d => by
  have := h d
  unfold State.aspect at this ⊢
  rwa [hc]

/-- The end of a turn of the current side leaves no GO (R177, R178). -/
theorem endTurn_noGo (d : Side) (cause : EndCause) (s : State) : (endTurn d cause s).noGo := by
  refine noGo_of_aspects (d := d) ?_ ?_
  · cases d <;> simp [endTurn, endGo, restartSeal, State.aspect, PerSide.get, PerSide.set, State.onTurn, State.onCsu,
      Side.other]
  · have h := changeoverAspect_ne_go
    cases d <;> simp [endTurn, endGo, restartSeal, State.aspect, PerSide.get, PerSide.set, State.onTurn, State.onCsu,
      Side.other, h]

theorem reviewItems_cases (s : State) :
    reviewItems s = s ∨ (∃ d cause, s.csu.phase = .turn ∧ s.csu.current = some d ∧ reviewItems s = endTurn d cause s) ∨
    (∃ d a, s.csu.phase = .changeover ∧ a ≠ .go ∧ reviewItems s = setAspect d a s) ∨
    (∃ a b, s.csu.phase = .idle ∧ a ≠ .go ∧ b ≠ .go ∧
      reviewItems s = setAspect .landward a (setAspect .seaward b s)) := by
  unfold reviewItems
  split
  · next hp =>
    split
    · exact .inr (.inr (.inr ⟨_, _, hp, waitingAspect_ne_go _ _, waitingAspect_ne_go _ _, rfl⟩))
    · exact .inl rfl
  · next hp =>
    split
    · next d hd =>
      split
      · exact .inl rfl
      · exact .inr (.inl ⟨d, _, hp, hd, rfl⟩)
    · exact .inl rfl
  · next hp =>
    split
    · exact .inr (.inr (.inl ⟨_, _, hp, changeoverAspect_ne_go _ _, rfl⟩))
    · exact .inl rfl
  · exact .inl rfl

/-- A turn's start shows GO on its side alone, and STOP on the other (R176). -/
theorem startTurn_goInTurn (d : Side) (s : State) : (startTurn d s).csu.goInTurn := by
  intro e he
  cases d <;> cases e <;>
    simp_all [startTurn, turnBegun, PerSide.get, PerSide.set, State.onTurn, State.onCsu, State.onBatch, State.onPsc,
      Side.other]

theorem signalsClosing_noGo (s : State) : (signalsClosing s).noGo := by
  refine noGo_of_stop ?_
  simp [signalsClosing]

/-- Each move of a turn keeps R174's rule (R176 to R180). -/
theorem Move.turns_oneGo (m : Move .turns s t) (hs : s.oneGo) : t.oneGo := by
  have hleaf := m.turns_loose.leaf_eq (by decide)
  cases m
  case endTurn => exact (endTurn_noGo _ _ _).oneGo
  case review =>
    rcases reviewItems_cases s with h | ⟨d, c, -, -, h⟩ | ⟨d, a, hp, ha, h⟩ | ⟨a, b, hp, ha, hb, h⟩
    · rw [h]; exact hs
    · rw [h]; exact (endTurn_noGo _ _ _).oneGo
    · rw [h]
      exact (noGo_setAspect (hs.goInTurn.noGo (by simp [hp])) _ ha).oneGo
    · rw [h]
      exact (noGo_setAspect (noGo_setAspect (hs.goInTurn.noGo (by simp [hp])) _ hb) _ ha).oneGo
  case closing => exact (signalsClosing_noGo s).oneGo
  case finish => exact (noGo_of_stop (by simp)).oneGo
  case start d h => exact (startTurn_goInTurn d s).oneGo (hleaf.trans h)
  case skip d =>
    intro e he
    have hother (h : s.aspect e = .go) : (skipTurn d s).aspect e.other = .stop ∧ (skipTurn d s).lmc.leaf = .raised ∧
        (skipTurn d s).csu.phase = .turn ∧ (skipTurn d s).csu.current = some e := by
      obtain ⟨h1, h2, h3, h4⟩ := hs e h
      refine ⟨?_, hleaf.trans h2, ?_, ?_⟩
      · cases d <;> cases e <;> simp_all [skipTurn, State.aspect, PerSide.get, PerSide.set, State.onTurn, Side.other]
      · simpa [skipTurn, State.onTurn] using h3
      · simpa [skipTurn, State.onTurn] using h4
    refine hother ?_
    cases d <;> cases e <;> simp_all [skipTurn, State.aspect, PerSide.get, PerSide.set, State.onTurn]
  case withdraw d hp hd =>
    refine State.noGo.oneGo (noGo_of_aspects (d := d) ?_ ?_)
    · cases d <;> simp [endPhase, restartSeal, endGo, State.aspect, PerSide.get, PerSide.set, State.onCsu, State.onTurn]
    · intro he
      have : s.aspect d.other = .go := by
        cases d <;> simpa [endPhase, restartSeal, endGo, State.aspect, PerSide.get, PerSide.set, State.onCsu,
          State.onTurn, Side.other] using he
      obtain ⟨-, -, -, hc⟩ := hs _ this
      cases d <;> simp_all [Side.other]
  case leaveGap => exact (noGo_of_stop (by simp)).oneGo
  case formed h =>
    refine State.noGo.oneGo (noGo_of_aspects (d := .seaward) ?_ ?_) <;>
      simp [signalsFormed, reviewItems, restartSeal, h, State.aspect, PerSide.get, PerSide.set, State.onCsu, Side.other,
        waitingAspect_ne_go]

/-- What ends the turns shows no GO, as long as the leaves are not RAISED. -/
theorem Reach.noGo_kept {A : List Part} (h : Reach A s t)
    (hA : A ⊆ [.latched, .locks, .vt, .queues, .batch, .turns]) (hs : s.noGo) (hl : s.lmc.leaf ≠ .raised) :
    t.noGo ∧ t.lmc.leaf ≠ .raised := by
  refine h.keeps (P := fun s => s.noGo ∧ s.lmc.leaf ≠ .raised) (fun p hp u v m ⟨hu, hr⟩ => ?_) ⟨hs, hl⟩
  have hleaf : v.lmc.leaf = u.lmc.leaf := m.reach.leaf_eq (by
    have := hA hp
    fin_cases this <;> decide)
  have hv : v.lmc.leaf ≠ .raised := hleaf ▸ hr
  refine ⟨?_, hv⟩
  by_cases ht : p = .turns
  · subst ht; exact (m.turns_oneGo hu.oneGo).noGo hv
  · have hc : v.csu = u.csu := m.csu_eq (by
      have := hA hp
      fin_cases this <;> simp_all)
    exact hu.congr (by rw [hc])

theorem withdrawGo_noGo {d : Side} (h : s.csu.goInTurn) (hp : s.csu.current = some d) (hl : s.lmc.leaf ≠ .raised) :
    (withdrawGo d s).noGo := by
  unfold withdrawGo
  dsimp only
  refine ((turnsOver_reach _).noGo_kept (by decide) (noGo_of_aspects (d := d) ?_ ?_) ?_).1
  · cases d <;> simp [endPhase, restartSeal, endGo, State.aspect, PerSide.get, PerSide.set, State.onCsu, State.onTurn]
  · intro he
    have : s.csu.aspects.get d.other = .go := by
      cases d <;> simpa [endPhase, restartSeal, endGo, State.aspect, PerSide.get, PerSide.set, State.onCsu,
        State.onTurn, Side.other] using he
    obtain ⟨-, -, hc⟩ := h _ this
    cases d <;> simp_all [Side.other]
  · have := (((endGo_loose d .withdrawn s).trans ((setAspect_loose d .stop _).trans ((soundHorn_loose 50 _).trans
      ((restartSeal_loose _).trans ((endPhase_loose .goWithdrawn _).trans (latch_loose .batch _)))))).leaf_eq (by decide))
    rw [this]; exact hl

/-- The leaves' leaving withdraws every GO (R179). -/
theorem leavesLeftRaised_noGo (h : s.csu.goInTurn) (hl : s.lmc.leaf ≠ .raised) : (leavesLeftRaised s).noGo := by
  unfold leavesLeftRaised
  split
  · next hp hd => exact withdrawGo_noGo h hd hl
  · refine ((turnsOver_reach _).noGo_kept (by decide) (noGo_of_stop (by simp)) ?_).1
    have := ((onCsu_loose (fun c => { c with changeover := none }) s).trans ((showStop_loose _).trans
      ((endPhase_loose .goWithdrawn _).trans (latch_loose .batch _)))).leaf_eq (by decide)
    rw [this]; exact hl
  · next _ hnoturn => exact fun d hd => hnoturn d (h d hd).2.1 (h d hd).2.2

/-- A trip shows no GO where R174's rule holds (R115, R179). -/
theorem trip_noGo (c : TripCause) (hs : s.oneGo) : (trip c s).noGo := by
  unfold trip
  dsimp only
  have hsignals (u : State) : (latch .trip (setLeaf .tripped u)).csu = u.csu := by
    obtain ⟨x, hx⟩ := setLeaf_eq .tripped u
    rw [hx]; rfl
  have htripped (u : State) : (latch .trip (setLeaf .tripped u)).lmc.leaf = .tripped := by
    obtain ⟨x, hx⟩ := setLeaf_eq .tripped u
    rw [hx]; rfl
  split
  · refine leavesLeftRaised_noGo ?_ (by rw [htripped]; nofun)
    rw [hsignals]; exact hs.goInTurn
  · next hl => exact (hs.noGo hl).congr (by rw [hsignals]; rfl)

/-- An accepted LOWER shows no GO where R174's rule holds (R103, R179). -/
theorem beginLower_noGo (hs : s.oneGo) : (beginLower s).noGo := by
  have hsignals : (prepareLowering (setLeaf .lowering (beginMotion .lower .seat 0 s))).csu = s.csu := by
    obtain ⟨x, hx⟩ := setLeaf_eq .lowering (beginMotion .lower .seat 0 s)
    rw [(prepareLowering_reach _).csu_eq (by decide), hx]; rfl
  have hlowering : (prepareLowering (setLeaf .lowering (beginMotion .lower .seat 0 s))).lmc.leaf = .lowering := by
    obtain ⟨x, hx⟩ := setLeaf_eq .lowering (beginMotion .lower .seat 0 s)
    rw [(prepareLowering_reach _).leaf_eq (by decide), hx]
  unfold beginLower
  dsimp only
  split
  · refine leavesLeftRaised_noGo ?_ (by rw [hlowering]; nofun)
    rw [hsignals]; exact hs.goInTurn
  · next hl => exact (hs.noGo hl).congr (by rw [hsignals])

theorem Move.oneGo_kept {p : Part} (m : Move p s t) (hp : p ∉ innerKinds) (hs : s.oneGo) : t.oneGo := by
  cases p
  case turns => exact m.turns_oneGo hs
  case trip => cases m; exact (trip_noGo _ hs).oneGo
  case fall => cases m; exact (trip_noGo _ hs).oneGo
  case lower => cases m; exact (beginLower_noGo hs).oneGo
  case leaf =>
    cases m
    case leaf h hr _ _ => exact State.noGo.oneGo ((hs.noGo hr).congr rfl)
    case untrip => exact hs
  case csu =>
    cases m
    next f h =>
    intro d hd
    obtain ⟨h1, h2, h3⟩ := h s.csu
    simp only [State.aspect, onCsu_csu, onCsu_lmc, h1, h2, h3] at hd ⊢
    exact hs d hd
  case time =>
    cases m
    · exact hs
    · exact hs
  case signals => exact absurd (by decide) hp
  case leaves => exact absurd (by decide) hp
  all_goals exact hs.congr (m.reach.csu_eq (by decide)) (m.reach.leaf_eq (by decide))

theorem softCsu_aspects (s : State) : (softCsu s).csu.aspects = ⟨.stop, .stop⟩ := rfl

theorem takeSoftReset_noGo (s : State) : (takeSoftReset s).noGo := by
  have hderived := softDerived_rests s
  have hpsc := (softPsc_reach (softDerived s)).lmc_eq (by decide)
  have hreach := (restartScan_reach (softCsu (softPsc (softDerived s)))).comp
    (A := [.latched, .locks, .wind, .psc, .health, .proving]) (by decide) (.refl _)
  have hreview := softReview_reach (s := restartScan (softCsu (softPsc (softDerived s))))
    (by show (softPsc (softDerived s)).lmc.leaf = _ ∨ (softPsc (softDerived s)).lmc.leaf = _ ∨
          (softPsc (softDerived s)).lmc.leaf = _
        rw [hpsc]; exact hderived)
  refine noGo_of_stop ?_
  exact congrArg Csu.aspects (hreview.csu_eq (by decide))

theorem exec_reset_oneGo (c : Instr) (s t : State) (hc : resets c = true) (hs : s.oneGo)
    (h : exec c s = .next t) : t.oneGo := by
  rcases exec_reset_cases hc h with rfl | rfl | rfl | ⟨p, f, rfl⟩ | ⟨p, f, rfl⟩ | rfl | rfl
  · exact hs
  · exact (noGo_of_stop rfl).oneGo
  · exact (noGo_of_stop rfl).oneGo
  · exact (noGo_of_stop rfl).oneGo
  · exact hs.congr ((markWorns_reach _ _).csu_eq (by decide)) ((markWorns_reach _ _).leaf_eq (by decide))
  · exact (noGo_of_stop (by rw [completeStartup_csu]; rfl)).oneGo
  · exact (takeSoftReset_noGo s).oneGo

/-- Settles O56: GO is shown by a turn's start alone, and leaving RAISED withdraws it. -/
theorem stepKeepsOneGo : Obligations.StepKeepsOneGo := fun _ _ hs h =>
  step_keeps_of_moves (fun _ _ h => h) (fun _ _ _ hp m => m.oneGo_kept hp) exec_reset_oneGo hs h

/-! ### The queues (R152) -/

/-- The pool count is the sum over the queues. -/
theorem pool_eq_sum (s : State) : s.pool = ∑ q : Fin 8, (s.queue q).length := by
  simp [State.pool, allQueues, Fin.sum_univ_eight, add_assoc]

/-- Queues that do not grow keep their bounds. -/
theorem poolBounded_of_le (h : ∀ q, (t.queue q).length ≤ (s.queue q).length) (hs : s.poolBounded) : t.poolBounded := by
  refine ⟨?_, fun q => (h q).trans (hs.2 q)⟩
  rw [pool_eq_sum]
  exact (Finset.sum_le_sum fun q _ => h q).trans (pool_eq_sum s ▸ hs.1)

theorem queue_leaveQueue (k : Fin 32) (s : State) (q : Fin 8) :
    (leaveQueue k s).queue q = (s.queue q).filter fun e => decide (e.slot ≠ k) := by
  simp [leaveQueue, State.queue, State.onPsc]

theorem queue_markCalled (k : Fin 32) (m : Bool) (s : State) (q : Fin 8) :
    (markCalled k m s).queue q = (s.queue q).map fun e => if e.slot = k then { e with called := m } else e := by
  simp [markCalled, State.queue, State.onPsc]

/-- The kinds whose moves may append to a queue, or are taken apart first. -/
abbrev appendKinds : List Part := [.joins, .trip, .fall, .lower, .turns]

theorem Move.pool_kept {p : Part} (m : Move p s t) (hp : p ∉ appendKinds) (hs : s.poolBounded) : t.poolBounded := by
  by_cases hq : p = .queues
  · subst hq
    cases m
    · exact poolBounded_of_le (fun q => by rw [queue_leaveQueue]; exact List.length_filter_le _ _) hs
    · exact poolBounded_of_le (fun q => by rw [queue_markCalled]; simp) hs
  · have : t.psc.queues = s.psc.queues := m.queues_eq (by simp_all)
    exact poolBounded_of_le (fun q => by unfold State.queue; rw [this]) hs

/-- Nothing but a join adds to a queue. -/
theorem Reach.pool_kept {A : List Part} (h : Reach A s t) (hA : ∀ p ∈ atomsOf A, p ∉ appendKinds)
    (hs : s.poolBounded) : t.poolBounded :=
  h.atoms.keeps (fun p hp _ _ m => m.pool_kept (hA p hp)) hs

theorem queue_appendJoin (k : Fin 32) (d : Side) (cls : Fin 4) (air : Option Nat) (s : State) (q : Fin 8) :
    ((appendJoin k d cls air s).queue q).length = (s.queue q).length + if q = queueOf d cls then 1 else 0 := by
  unfold appendJoin
  dsimp only
  have hv (u : State) (f : Vessel → Vessel) : (u.onVessel k f).queue q = u.queue q := by
    unfold State.queue; rw [(onVessel_reach u k f).queues_eq (by decide)]
  rw [hv]
  by_cases hq : q = queueOf d cls
  · subst hq; simp [State.queue, State.onQueue, State.onPsc]
  · simp [State.queue, State.onQueue, State.onPsc, Fin.val_inj, hq, Ne.symm hq]

/-- A join into a queue and a pool with room keeps the bounds (R153). -/
theorem appendJoin_poolBounded (k : Fin 32) (d : Side) (cls : Fin 4) (air : Option Nat) (hs : s.poolBounded)
    (hq : (s.queue (queueOf d cls)).length < 8) (hp : s.pool < 24) : (appendJoin k d cls air s).poolBounded := by
  constructor
  · rw [pool_eq_sum] at hp ⊢
    simp only [queue_appendJoin, Finset.sum_add_distrib, Finset.sum_ite_eq', Finset.mem_univ, if_true]
    omega
  · intro q
    rw [queue_appendJoin]
    have := hs.2 q
    split
    · next h => subst h; omega
    · omega

/-- The victim of a displacement stands in a queue (R154). -/
theorem victim_mem {d : Side} {c : Fin 4} {e : QueueEntry} (h : s.victim d = some (c, e)) :
    e ∈ s.queue (queueOf (s.victimSide d) c) := by
  unfold State.victim at h
  obtain ⟨c', -, hc⟩ := List.exists_of_findSome?_eq_some h
  obtain ⟨e', he, heq⟩ := Option.map_eq_some_iff.mp hc
  obtain ⟨rfl, rfl⟩ := Prod.mk.inj heq
  exact List.mem_of_mem_filter (List.mem_of_mem_head? he)

/-- A displacement makes room in the pool and lengthens no queue (R154). -/
theorem displace_pool {d : Side} {cls : Fin 4} {old : Word} (h : displace d cls s = some (t, old)) :
    t.pool < s.pool ∧ ∀ q, (t.queue q).length ≤ (s.queue q).length := by
  unfold displace at h
  split at h
  · next c e hv =>
    split at h
    · obtain ⟨rfl, -⟩ := Prod.mk.inj (Option.some.inj h)
      have hqueue (q : Fin 8) : (latch .vessel ((setVesselState e.slot .sighted (leaveQueue e.slot s)).onPsc fun p =>
          { p with displaced := bump p.displaced })).queue q = (s.queue q).filter fun x => decide (x.slot ≠ e.slot) := by
        rw [← queue_leaveQueue]
        show (setVesselState e.slot .sighted (leaveQueue e.slot s)).queue q = _
        unfold State.queue
        rw [(setVesselState_reach _ _ _).queues_eq (by decide)]
      refine ⟨?_, fun q => by rw [hqueue]; exact List.length_filter_le _ _⟩
      rw [pool_eq_sum, pool_eq_sum]
      refine Finset.sum_lt_sum (fun q _ => by rw [hqueue]; exact List.length_filter_le _ _)
        ⟨queueOf (s.victimSide d) c, Finset.mem_univ _, ?_⟩
      rw [hqueue]
      exact List.length_filter_lt_length_iff_exists.mpr ⟨e, victim_mem hv, by simp⟩
    · cases h
  · cases h

theorem completeJoin_poolBounded (k : Fin 32) (d : Side) (cls : Fin 4) (air : Option Nat) (how : Learned) (old : Word)
    (hs : s.poolBounded) (hq : (s.queue (queueOf d cls)).length < 8) (hp : s.pool < 24) :
    (completeJoin k d cls air how old s).1.poolBounded := by
  have h := appendJoin_poolBounded k d cls air hs hq hp
  unfold completeJoin
  dsimp only
  split
  · exact (extendBatch_reach _ _ _).pool_kept (by decide) h
  · exact h

/-- A vessel that waits or is called is refused (R153). -/
theorem queueJoin_waiting {k : Fin 32} {v : Vessel} (hv : s.vessel k = some v)
    (hw : v.state = .waiting ∨ v.state = .called) (d : Side) (cls : Fin 4) (air : Option Nat) (how : Learned) :
    queueJoin k d cls air how s = (s, .refused .alreadyWaiting 0) := by
  unfold queueJoin
  rw [hv]
  exact if_pos (by simpa using hw)

/-- A vessel that neither waits nor is called meets the tests of the queue and of the pool (R153, R154). -/
theorem queueJoin_free {k : Fin 32} (h : ∀ v, s.vessel k = some v → ¬(v.state = .waiting ∨ v.state = .called)) (d : Side)
    (cls : Fin 4) (air : Option Nat) (how : Learned) :
    queueJoin k d cls air how s =
      if 8 ≤ (s.queue (queueOf d cls)).length then
        (s.onPsc fun p => { p with refused := bump p.refused }, .refused .queueFull 0)
      else if 24 ≤ s.pool then
        match displace d cls s with
        | some (t, old) => completeJoin k d cls air how old t
        | none => (s, .refused .poolFull 0)
      else completeJoin k d cls air how 0 s := by
  unfold queueJoin
  cases hv : s.vessel k with
  | none => exact if_neg (by simp)
  | some v => exact if_neg (by simpa using h v hv)

theorem queueJoin_poolBounded (k : Fin 32) (d : Side) (cls : Fin 4) (air : Option Nat) (how : Learned)
    (hs : s.poolBounded) : (queueJoin k d cls air how s).1.poolBounded := by
  by_cases hw : ∃ v, s.vessel k = some v ∧ (v.state = .waiting ∨ v.state = .called)
  · obtain ⟨v, hv, hw⟩ := hw
    rw [queueJoin_waiting hv hw]; exact hs
  · rw [queueJoin_free (by simpa using hw)]
    split
    · exact hs
    · split
      · split
        · next t old h =>
          obtain ⟨hpool, hqueues⟩ := displace_pool h
          refine completeJoin_poolBounded _ _ _ _ _ _ (poolBounded_of_le hqueues hs) ?_ ?_
          · exact (hqueues _).trans_lt (by omega)
          · exact hpool.trans_le hs.1
        · exact hs
      · exact completeJoin_poolBounded _ _ _ _ _ _ hs (by omega) (by omega)

theorem joinOp_poolBounded (identity : Word) (side cls : Byte) (air : Half) (hs : s.poolBounded) :
    (joinOp identity side cls air s).1.poolBounded := by
  unfold joinOp
  split
  · exact hs
  · split
    · exact hs
    · split
      · split
        · exact queueJoin_poolBounded _ _ _ _ _ hs
        · split
          · next h => exact queueJoin_poolBounded _ _ _ _ _ ((learnVessel_reach h).pool_kept (by decide) hs)
          · exact hs
      · exact hs

theorem serveJoin_poolBounded (identity : Word) (side cls : Byte) (air : Half) (hs : s.poolBounded) :
    (serveJoin identity side cls air s).poolBounded := by
  unfold serveJoin serve
  split
  · split
    · exact (answer_reach _ _).pool_kept (by decide) ((latchIf_reach _ _ s).pool_kept (by decide) hs)
    · exact (answer_reach _ _).pool_kept (by decide) (joinOp_poolBounded _ _ _ _ hs)
  · split
    · exact (overrun_reach s).pool_kept (by decide) hs
    · exact hs

/-- A request's row is the request as a good frame brings it (R2, note 6). -/
theorem exec_request {i : Instr} (h : i.isRequest = true) (s : State) : exec i s = .next (serveCommand i s) := by
  cases i <;> first
    | rfl
    | cases h

/-- What is no request cannot be carried by a frame. -/
theorem serveCommand_event {i : Instr} (h : i.isRequest = false) (s : State) : serveCommand i s = s := by
  cases i <;> first
    | rfl
    | cases h

theorem serveCommand_poolBounded (i : Instr) (hs : s.poolBounded) : (serveCommand i s).poolBounded := by
  cases hi : i.isRequest
  · rw [serveCommand_event hi]; exact hs
  · have hreach := exec_reach (exec_request hi s) (by cases i <;> first | rfl | cases hi)
    cases i
    case join => exact serveJoin_poolBounded _ _ _ _ hs
    all_goals first
      | (cases hi; done)
      | exact hreach.pool_kept (by dsimp only [kinds]; decide) hs

theorem dispatch_poolBounded (body : List Byte) (hs : s.poolBounded) : (dispatch body s).poolBounded := by
  have refused (code : Nat) (v : Verdict) : (answer code (s, v)).poolBounded :=
    (answer_reach code (s, v)).pool_kept (by decide) hs
  unfold dispatch
  split
  · exact refused _ _
  · exact refused _ _
  · exact serveCommand_poolBounded _ hs
  · exact (serve_reach (A := [.latched, .link, .arms, .strokes, .rcs, .pumps, .locks, .leaf, .motion, .proving]) _ _ s
      (fun _ => (armServiceOp_reach ..).mono (by decide)) (by decide)).pool_kept (by decide) hs
  · exact (serve_reach (A := [.latched, .link, .arms, .strokes, .zones, .rcs, .proving]) _ _ s
      (fun _ => (zoneBypassOp_reach ..).mono (by decide)) (by decide)).pool_kept (by decide) hs
  · exact (serve_reach (A := [.latched, .link]) _ _ s (fun _ => .refl s) (by decide)).pool_kept (by decide) hs

theorem frameDone_poolBounded (length : Nat) (body : List Byte) (received : Half) (hs : s.poolBounded) :
    (frameDone length body received s).poolBounded := by
  have h := (setFramer_reach .hunt s).pool_kept (by decide) hs
  unfold frameDone
  dsimp only
  split
  · exact (overrun_reach _).pool_kept (by decide) h
  · split
    · exact h
    · split
      · exact dispatch_poolBounded body h
      · exact h

theorem receiveByte_poolBounded (b : Byte) (hs : s.poolBounded) : (receiveByte b s).poolBounded := by
  have set (f : Framer) : (setFramer f s).poolBounded := (setFramer_reach f s).pool_kept (by decide) hs
  unfold receiveByte
  split
  · split
    · split
      · exact set _
      · exact hs
    · unfold takeLength
      split
      · exact set .hunt
      · exact set _
    · unfold takeBody
      split
      · exact set _
      · exact set _
    · exact set _
    · exact frameDone_poolBounded _ _ _ hs
  · exact hs

theorem exec_reset_pool (c : Instr) (s t : State) (hc : resets c = true) (hs : s.poolBounded)
    (h : exec c s = .next t) : t.poolBounded := by
  have empty {u : State} (hu : u.psc = Psc.reset) : u.poolBounded := by
    have hq (q : Fin 8) : u.queue q = [] := by simp [State.queue, hu, Psc.reset]
    exact ⟨by simp [pool_eq_sum, hq], by simp [hq]⟩
  rcases exec_reset_cases hc h with rfl | rfl | rfl | ⟨p, f, rfl⟩ | ⟨p, f, rfl⟩ | rfl | rfl
  · exact hs
  · exact empty rfl
  · exact empty rfl
  · exact empty rfl
  · exact (markWorns_reach _ _).pool_kept (by decide) hs
  · exact poolBounded_of_le (fun q => by unfold State.queue; rw [completeStartup_psc]) hs
  · exact (takeSoftReset_reach s).pool_kept (by decide)
      (poolBounded_of_le (fun q => by unfold State.queue; rw [softDerived_psc]) hs)

theorem exec_poolBounded (c : Instr) (s t : State) (hs : s.poolBounded) (h : exec c s = .next t) : t.poolBounded := by
  cases hc : resets c
  · have hreach := exec_reach h hc
    cases c
    case join => obtain rfl := Host.Outcome.next.inj h; exact serveJoin_poolBounded _ _ _ _ hs
    case consoleByteReceived => obtain rfl := Host.Outcome.next.inj h; exact receiveByte_poolBounded _ hs
    case frameComplete =>
      obtain rfl := Host.Outcome.next.inj h
      split
      · exact receiveByte_poolBounded _ hs
      · exact hs
    case lengthByteError =>
      obtain rfl := Host.Outcome.next.inj h
      split
      · exact receiveByte_poolBounded _ hs
      · exact hs
    all_goals first
      | (cases hc; done)
      | exact hreach.pool_kept (by dsimp only [kinds]; decide) hs
  · exact exec_reset_pool c s t hc hs h

/-- Settles O57: a JOIN adds its entry only where R153's tests have found room, or R154 has made it; nothing else adds
one. -/
theorem stepKeepsPoolBound : Obligations.StepKeepsPoolBound := fun _ _ hs h =>
  step_keeps (fun _ _ h => h) exec_poolBounded (fun s => (tick_reach s).pool_kept (by decide)) hs h

/-! ### The state after reset -/

/-- Settles O60: at reset every magnitude, reference and queue is empty and both sides show STOP. -/
theorem resetMeetsInvariants : Obligations.ResetMeetsInvariants := by
  refine ⟨(speedBounded_iff _).mpr ⟨⟨defaultTable_creeps, trivial, nofun⟩, (by decide : Msu.reset.wind.pct ≤ 100),
    .of_rest (Nat.le_refl 0) fun l => by cases l <;> exact ⟨rfl, rfl⟩⟩, (noGo_of_stop rfl).oneGo, ?_,
    Motion.referencesSafe_of_zero rfl rfl _, Nat.zero_le 5, fun n => ?_⟩
  · exact ⟨by decide, by decide⟩
  · simp [State.reset, Health.reset]

end Sys2Proof.Machine
end

section
/-! PROOFS. The step and the console link (spec/01): what a step runs, the framer, the frames it takes and those it does
not, the dispatch of a good frame and the replies. -/

namespace Sys2Proof.Machine

variable {s t : State}

/-! ### A step (notes 1 and 10) -/

theorem step_nil (h : s.pending = []) : step s = .next (tick s) := by
  unfold step; rw [h]

/-- A tick of the seconds counter's ticks below the last (R35, R36). -/
theorem TimeBase.tick_within {b : TimeBase} (h : b.subTick < 99) :
    b.tick = ({ b with subTick := b.subTick + 1 }, false) := if_pos (by omega)

/-- The tick that advances the seconds counter. -/
theorem TimeBase.tick_second {b : TimeBase} (h : 99 ≤ b.subTick) :
    b.tick = ({ b with subTick := 0, seconds := nextSecond b.seconds }, true) := if_neg (by omega)

theorem TimeBase.tick_snd (b : TimeBase) : b.tick.2 = decide (99 ≤ b.subTick) := by
  by_cases h : 99 ≤ b.subTick
  · rw [tick_second h]; simp [h]
  · rw [tick_within (by omega)]; simp [h]

theorem when_eq (due : Bool) (f : State → State) (s : State) : when due f s = if due then f s else s := rfl

/-- The flash going on changes the road record and a proving alone (R62). -/
theorem flashDue_tickFlash_eq (s : State) : { flashDue (tickFlash s) with rcs := s.rcs, phu := s.phu } = s := by
  have hflash (u : State) : { flashDue u with rcs := s.rcs, phu := s.phu } = { u with rcs := s.rcs, phu := s.phu } := by
    unfold flashDue when flashChanges
    split
    · split
      · obtain ⟨p, hp⟩ := driveRcs_eq (fun r => { r with flashA := !r.flashA, flashTicks := 0 }) u
        rw [hp]
      · rfl
    · rfl
  rw [hflash]
  unfold tickFlash
  split <;> rfl

@[simp] theorem tickFlash_tb (s : State) : (tickFlash s).tb = s.tb := (tickFlash_reach s).tb_eq (by decide)

/-- A tick of start-up, its second's events where the second passes. -/
theorem tickStartup_eq (s : State) : tickStartup s =
    (let u := encoderDue ((tickFlash s).onTb fun b => b.tick.1)
     flashDue (if 99 ≤ s.tb.subTick then anemoInterval u else u)) := by
  have hclock : ((tickFlash s).onTb fun _ => s.tb.tick.1) = (tickFlash s).onTb fun b => b.tick.1 := by
    simp only [State.onTb, tickFlash_tb]
  unfold tickStartup
  simp only [hclock, TimeBase.tick_snd, when_eq, decide_eq_true_eq]

/-- A tick of the running part, its second's events where the second passes. -/
theorem tickRun_eq (s : State) : tickRun s =
    (let u := hornDue ((tickFlash (tickTimers s)).onTb fun b => b.tick.1)
     let v := controlDue (encoderDue (lpuDue (roadDue (allZones.foldl zoneDue (allArms.foldl armDue u)))))
     linkDue (provingDue (channelDue (if 99 ≤ s.tb.subTick then secondDue v else v)))) := by
  have hclock : ((tickFlash (tickTimers s)).onTb fun _ => s.tb.tick.1) =
      (tickFlash (tickTimers s)).onTb fun b => b.tick.1 := by
    simp only [State.onTb, tickFlash_tb]; rfl
  unfold tickRun
  simp only [hclock, TimeBase.tick_snd, when_eq, decide_eq_true_eq]

theorem tickStartup_tb (s : State) : (tickStartup s).tb = s.tb.tick.1 := by
  unfold tickStartup
  dsimp only
  rw [(flashDue_reach _).tb_eq (by decide), (when_reach _ anemoInterval_reach _).tb_eq (by decide),
    (encoderDue_reach _).tb_eq (by decide)]
  rfl

theorem tickRun_tb (s : State) : (tickRun s).tb = s.tb.tick.1 := by
  unfold tickRun
  dsimp only
  rw [(linkDue_reach _).tb_eq (by decide), (provingDue_reach _).tb_eq (by decide),
    (channelDue_reach _).tb_eq (by decide), (when_reach _ secondDue_reach _).tb_eq (by decide),
    (controlDue_reach _).tb_eq (by decide), (encoderDue_reach _).tb_eq (by decide),
    (lpuDue_reach _).tb_eq (by decide), (roadDue_reach _).tb_eq (by decide),
    (reach_foldl zoneDue_reach _ _).tb_eq (by decide), (reach_foldl armDue_reach _ _).tb_eq (by decide),
    (hornDue_reach _).tb_eq (by decide)]
  rfl

/-- During start-up and in the run the time base is one tick on. -/
theorem tick_tb (h : s.tb.phase = .startup ∨ s.tb.phase = .run) : (tick s).tb = s.tb.tick.1 := by
  unfold tick
  rcases h with h | h <;> rw [h]
  · exact tickStartup_tb s
  · exact tickRun_tb s

/-- Settles O1: the queue's front is what the step runs, and an empty queue is a tick, taken by its phase. -/
theorem stepRunsFrontCommand : Obligations.StepRunsFrontCommand := by
  refine ⟨fun _ _ _ => rfl, fun s h => ⟨fun hp => ?_, fun hp => ?_, fun hp => ?_, fun hp => ?_, fun hp => ?_⟩⟩
  · rw [step_nil h, tick, hp]
  · refine ⟨tick s, step_nil h, ?_⟩
    rw [tick, hp]
    exact flashDue_tickFlash_eq s
  · refine ⟨tick s, step_nil h, ((tick_reach s).pending_eq (by decide)).trans h, (tick_reach s).pins_eq (by decide),
      fun ht => ?_, fun ht hlast => ?_⟩
    · rw [tick_tb hp, TimeBase.tick_within ht]
    · rw [tick_tb hp, TimeBase.tick_second ht]
      exact congrArg (fun v => ({ s.tb with subTick := 0, seconds := v } : TimeBase)) (if_neg hlast)
  · rw [step_nil h, tick, hp]
    exact congrArg _ (tickStartup_eq s)
  · rw [step_nil h, tick, hp]
    exact congrArg _ (tickRun_eq s)

/-! ### Every command (R11) -/

theorem exec_next (c : Instr) (s : State) : ∃ t, exec c s = .next t := by
  cases c <;> exact ⟨_, rfl⟩

theorem exec_reset_pending {c : Instr} (hc : resets c = true) (h : exec c s = .next t) : t.pending = s.pending := by
  rcases exec_reset_cases hc h with rfl | rfl | rfl | ⟨p, f, rfl⟩ | ⟨p, f, rfl⟩ | rfl | rfl
  · rfl
  · rfl
  · rfl
  · rfl
  · exact (markWorns_reach _ _).pending_eq (by decide)
  · exact completeStartup_pending s
  · rw [(takeSoftReset_reach s).pending_eq (by decide), softDerived_pending]

theorem exec_pending {c : Instr} (h : exec c s = .next t) : t.pending = s.pending := by
  cases hc : resets c
  · refine (exec_reach h hc).pending_eq ?_
    cases c <;> (dsimp only [kinds]; decide)
  · exact exec_reset_pending hc h

/-- Settles O2: no meaning faults or refuses, and no move touches the queue. -/
theorem everyCommandCompletes : Obligations.EveryCommandCompletes := fun c s =>
  let ⟨t, h⟩ := exec_next c s
  ⟨t, h, exec_pending h⟩

/-! ### Bodies (section 1.6) -/

/-- The four bytes of a word spell it. -/
theorem of32_be32 (v : Word) :
    of32 (v.extractLsb' 24 8) (v.extractLsb' 16 8) (v.extractLsb' 8 8) (v.extractLsb' 0 8) = v := by
  unfold of32
  ext i hi
  simp only [BitVec.getElem_append, BitVec.getElem_extractLsb']
  repeat' split
  all_goals (rw [← BitVec.getLsbD_eq_getElem]; congr 1; omega)

/-- The two bytes of a half spell it. -/
theorem of16_be16 (v : Half) : of16 (v.extractLsb' 8 8) (v.extractLsb' 0 8) = v := by
  unfold of16
  ext i hi
  simp only [BitVec.getElem_append, BitVec.getElem_extractLsb']
  split
  all_goals (rw [← BitVec.getLsbD_eq_getElem]; congr 1; omega)

theorem valuesOf_be32 (v : Word) (l : List Byte) : valuesOf (be32 v ++ l) = (valuesOf l).map (v :: ·) := by
  simp only [be32, List.cons_append, List.nil_append, valuesOf, of32_be32]

theorem valuesOf_flatMap (vs : List Word) : valuesOf (vs.flatMap be32) = some vs := by
  induction vs with
  | nil => rfl
  | cons v vs ih => rw [List.flatMap_cons, valuesOf_be32, ih]; rfl

/-- Settles O3: each field is written high byte first and read so. -/
theorem requestBodiesRoundTrip : Obligations.RequestBodiesRoundTrip := by
  intro i hi hw
  cases i
  case paramWrite start vs =>
    simp only [Instr.wellFormed, Bool.and_eq_true, decide_eq_true_eq] at hw
    show paramWriteFields (start :: vs.flatMap be32) = _
    simp only [paramWriteFields, valuesOf_flatMap]
    exact if_pos hw
  case logon l c =>
    show Decoded.command (.logon l (of32 _ _ _ _)) = _
    rw [of32_be32]
  case raiseExplicit v =>
    show Decoded.command (.raiseExplicit (of16 _ _)) = _
    rw [of16_be16]
  case vesselReport v side air =>
    show Decoded.command (.vesselReport (of32 _ _ _ _) side (of16 _ _)) = _
    rw [of32_be32, of16_be16]
  case join v side cls air =>
    show Decoded.command (.join (of32 _ _ _ _) side cls (of16 _ _)) = _
    rw [of32_be32, of16_be16]
  case withdraw v =>
    show Decoded.command (.withdraw (of32 _ _ _ _)) = _
    rw [of32_be32]
  case vesselPassed v =>
    show Decoded.command (.vesselPassed (of32 _ _ _ _)) = _
    rw [of32_be32]
  case tide v =>
    show Decoded.command (.tide (of16 _ _)) = _
    rw [of16_be16]
  all_goals first
    | rfl
    | cases hi

/-! ### The framer byte by byte (R2 to R6) -/

theorem setFramer_eq (f : Framer) (s : State) : setFramer f s = { s with cl := { s.cl with framer := f, gap := 0 } } :=
  rfl

@[simp] theorem setFramer_setFramer (f g : Framer) (s : State) : setFramer f (setFramer g s) = setFramer f s := rfl

theorem receiveByte_body {b : Byte} {n : Nat} {taken : List Byte} (hrun : s.running = true)
    (hf : s.cl.framer = .body n taken) : receiveByte b s = takeBody n taken b s := by
  simp only [receiveByte, hrun, hf, if_true]

theorem receiveByte_checkHigh {b : Byte} {n : Nat} {taken : List Byte} (hrun : s.running = true)
    (hf : s.cl.framer = .checkHigh n taken) : receiveByte b s = setFramer (.checkLow n taken b) s := by
  simp only [receiveByte, hrun, hf, if_true]

theorem receiveByte_checkLow {b high : Byte} {n : Nat} {taken : List Byte} (hrun : s.running = true)
    (hf : s.cl.framer = .checkLow n taken high) : receiveByte b s = frameDone n taken (of16 high b) s := by
  simp only [receiveByte, hrun, hf, if_true]

theorem takeLength_within {b : Byte} (h1 : 1 ≤ b.toNat) (h2 : b.toNat ≤ 250) :
    takeLength b s = setFramer (.body b.toNat []) s := if_neg (by omega)

/-- The bytes of a body, one after another, bring the framer to CHECK HIGH (R2). -/
theorem foldl_receiveByte_body {n : Nat} (rest : List Byte) : ∀ {taken : List Byte} {s : State}, s.running = true →
    s.cl.framer = .body n taken → taken.length + rest.length = n → rest ≠ [] →
    rest.foldl (fun t b => receiveByte b t) s = setFramer (.checkHigh n (taken ++ rest)) s := by
  induction rest with
  | nil => exact fun _ _ _ h => absurd rfl h
  | cons b rest ih =>
    intro taken s hrun hf hn _
    rw [List.foldl_cons, receiveByte_body hrun hf, takeBody]
    rw [List.length_cons] at hn
    cases rest with
    | nil =>
      rw [if_pos (by simp at hn; omega)]; rfl
    | cons c rest =>
      rw [if_neg (by simp at hn ⊢; omega)]
      rw [ih (taken := taken ++ [b]) (s := setFramer (.body n (taken ++ [b])) s) hrun rfl
        (by simp at hn ⊢; omega) (by simp)]
      rw [List.append_assoc]; rfl

/-- Once a good frame's last byte is in, its body is dispatched (R5, R6, R8). -/
theorem frameDone_good {n : Nat} {body : List Byte} {received : Half} (ht : s.taking = true)
    (hc : crc16 (BitVec.ofNat 8 n :: body) = received) : frameDone n body received s = dispatch body (setFramer .hunt s) := by
  obtain ⟨-, hreply, hrestart⟩ := taking_iff.mp ht
  unfold frameDone
  dsimp only
  rw [if_neg (by rw [setFramer_eq]; simp [hreply]), if_neg (by rw [setFramer_eq]; simp [hrestart]), if_pos hc]

/-- Settles O4: SYNC, LENGTH and body bring the framer to the check, whose two bytes spell the check of R5. -/
theorem wireFrameIsDispatched : Obligations.WireFrameIsDispatched := by
  intro body s h1 h2 ht hf
  obtain ⟨hrun, -, -⟩ := taking_iff.mp ht
  have hlen : (BitVec.ofNat 8 body.length).toNat = body.length := by
    rw [BitVec.toNat_ofNat]; omega
  have hbody := foldl_receiveByte_body body (n := body.length) (taken := []) (s := setFramer (.body body.length []) s)
    hrun rfl (by simp) (by rintro rfl; simp at h1)
  have htaken : (setFramer (.checkLow body.length body ((crc16 (BitVec.ofNat 8 body.length :: body)).extractLsb' 8 8))
    s).taking = true := ht
  unfold wireFrame
  dsimp only
  rw [List.cons_append, List.cons_append, List.foldl_cons, List.foldl_cons, List.foldl_append,
    receiveByte_hunt hrun hf, if_pos rfl, receiveByte_length (s := setFramer .length s) hrun rfl,
    takeLength_within (by omega) (by omega), hlen, setFramer_setFramer, hbody, setFramer_setFramer, List.nil_append,
    be16, List.foldl_cons, List.foldl_cons, List.foldl_nil,
    receiveByte_checkHigh (s := setFramer (.checkHigh body.length body) s) hrun rfl, setFramer_setFramer,
    receiveByte_checkLow (s := setFramer (.checkLow body.length body _) s) hrun rfl, of16_be16,
    frameDone_good htaken rfl, setFramer_setFramer]

/-- The gap timer's expiry in a frame (R3). -/
theorem gapExpires_frame (hrun : s.running = true) (hf : s.cl.framer ≠ .hunt) : gapExpires s =
    { s with cl := { s.cl with framer := .hunt, gap := 0, timeouts := bump s.cl.timeouts
                               latched := s.cl.latched ||| 0x8000 } } := by
  unfold gapExpires
  rw [if_pos ⟨hrun, hf⟩, latch_eq, link_bit]; rfl

theorem gapExpires_hunt (hf : s.cl.framer = .hunt) : gapExpires s = s := if_neg fun h => h.2 hf

theorem exec_frameComplete_last {b high : Byte} {n : Nat} {taken : List Byte} (hf : s.cl.framer = .checkLow n taken high) :
    exec (.frameComplete b) s = exec (.consoleByteReceived b) s :=
  congrArg Host.Outcome.next (if_pos (by simp [State.awaitsLast, hf]))

theorem exec_frameComplete_early {b : Byte} (hf : ∀ n taken high, s.cl.framer ≠ .checkLow n taken high) :
    exec (.frameComplete b) s = .next s := by
  refine congrArg Host.Outcome.next (if_neg ?_)
  unfold State.awaitsLast
  split
  · next h => exact absurd h (hf _ _ _)
  all_goals nofun

theorem exec_lengthByteError_elsewhere {b : Byte} (h : s.cl.framer ≠ .length ∨ (1 ≤ b.toNat ∧ b.toNat ≤ 250)) :
    exec (.lengthByteError b) s = .next s := by
  refine congrArg Host.Outcome.next (if_neg ?_)
  simp only [State.awaitsLength, Bool.and_eq_true, Bool.or_eq_true, decide_eq_true_eq, not_and]
  intro hl
  have := h.resolve_left (by simpa using hl)
  omega

/-- What a command leaves, by its outcome. -/
theorem after_eq {c : Instr} (h : exec c s = .next t) : s.after c = t := by
  unfold State.after; rw [h]

/-- Settles O5: each framer state's equation, the two rows that stand for a byte, and the gap timer. -/
theorem framerTakesBytes : Obligations.FramerTakesBytes := by
  refine ⟨fun b s hrun => ⟨fun hf => ?_, fun hf h1 h2 => ?_, fun n taken hf => ?_, fun n taken hf => ?_, fun hf hb => ?_,
    exec_lengthByteError_elsewhere, fun n taken high => exec_frameComplete_last, exec_frameComplete_early⟩,
    fun s => ⟨fun hrun hf => ?_, fun _ hf => ?_, ?_, ?_, rfl⟩⟩
  · exact congrArg Host.Outcome.next (receiveByte_hunt hrun hf)
  · exact congrArg Host.Outcome.next ((receiveByte_length hrun hf).trans (takeLength_within h1 h2))
  · refine congrArg Host.Outcome.next ((receiveByte_body hrun hf).trans ?_)
    unfold takeBody
    split
    · rw [if_neg (by omega), setFramer_eq]
    · rw [if_pos (by omega), setFramer_eq]
  · exact congrArg Host.Outcome.next (receiveByte_checkHigh hrun hf)
  · have hbyte : exec (.consoleByteReceived b) s = .next (lengthError s) :=
      congrArg Host.Outcome.next ((receiveByte_length hrun hf).trans (takeLength_outside hb))
    exact ⟨hbyte.trans (congrArg _ (lengthError_eq s)), (exec_lengthByteError hrun hf hb).trans hbyte.symm⟩
  · exact congrArg Host.Outcome.next (gapExpires_frame hrun hf)
  · exact congrArg Host.Outcome.next (gapExpires_hunt hf)
  · show s.cl.tick.gap = _
    unfold Link.tick
    split <;> rfl
  · unfold linkDue when State.happens
    rw [after_eq (t := gapExpires s) rfl]

/-! ### The catalogue and the tests of R20 -/

/-- Every request row serves its catalogue's request. -/
theorem exec_catalogue {c : Instr} {q : Request} (h : catalogue c = some q) :
    ∃ op, ∀ s, exec c s = .next (serve q op s) := by
  cases c <;> first
    | (cases h; done)
    | (obtain rfl := Option.some.inj h; exact ⟨_, fun _ => rfl⟩)

/-- Settles O10: the tests of R20 are those of `admission`, in its order. -/
theorem authorityTestsRefuse : Obligations.AuthorityTestsRefuse := by
  intro c q s hq ht
  obtain ⟨op, hop⟩ := exec_catalogue hq
  have refuses {r : Reason} (hr : admission q s = some r) :
      exec c s = .next (answer q.code (latchIf (decide (r = .expired)) .authority s, .refused r 0)) := by
    rw [hop, serve_refuses ht hr]
  refine ⟨fun hl => ?_, fun hl hlogon hm => ?_, fun hl hlogon hf hfrozen => ?_, fun hl hlogon hf hb hbusy => ?_⟩
  · exact refuses (r := .authority) (if_pos hl)
  · exact refuses (r := .expired) (by rw [admission, if_neg (by omega), if_pos ⟨hlogon, hm⟩])
  · exact refuses (r := .frozen) (by
      rw [admission, if_neg (by omega), if_neg (by simp [hlogon]), if_pos ⟨hf, hfrozen⟩])
  · exact refuses (r := .busy) (by
      rw [admission, if_neg (by omega), if_neg (by simp [hlogon]), if_neg (fun h => by simp [hf h.1] at h),
        if_pos ⟨hb, hbusy⟩])

/-- An overrun counts one and latches LINK (R6, R7). -/
theorem overrun_eq (s : State) : overrun s =
    { s with cl := { s.cl with overruns := bump s.cl.overruns, latched := s.cl.latched ||| 0x8000 } } := by
  rw [overrun, latch_eq, link_bit]; rfl

/-- Settles O7: `frameDone` tests the pending reply, the waiting RESTART and the check in this order. -/
theorem framesNotTaken : Obligations.FramesNotTaken := by
  refine ⟨fun s n body high low hrun hf => ?_, fun c q s hq ht => ?_⟩
  · have hdone : exec (.frameComplete low) s = .next (frameDone n body (of16 high low) s) :=
      (exec_frameComplete_last hf).trans (congrArg Host.Outcome.next (receiveByte_checkLow hrun hf))
    have hhunt : (setFramer .hunt s).cl.reply = s.cl.reply := rfl
    have hwaits : (setFramer .hunt s).apu.restart = s.apu.restart := rfl
    refine ⟨fun hreply => ?_, fun hreply hrestart => ?_, fun hreply hrestart hcrc => ?_⟩
    · rw [hdone, frameDone, hhunt, if_pos hreply, overrun_eq]; rfl
    · rw [hdone, frameDone, hhunt, hwaits, if_neg (by simp [hreply]), if_pos hrestart]; rfl
    · rw [hdone, frameDone, hhunt, hwaits, if_neg (by simp [hreply]), if_neg (by simp [hrestart]),
        if_neg (Ne.symm hcrc), latch_eq, link_bit]; rfl
  · obtain ⟨op, hop⟩ := exec_catalogue hq
    rw [hop, serve_untaken ht]

/-! ### The bodies that are no request row (R8) -/

/-- The codes of section 1.6 with the lengths of body that each allows. -/
def requestLengths : List (Nat × List Nat) :=
  [(0x01, [1]), (0x02, [1]), (0x03, [1]), (0x10, [6]), (0x11, [1]), (0x12, [1]), (0x13, [3]),
    (0x14, (List.range 16).map fun k => 4 * k + 6), (0x15, [1]), (0x16, [1]), (0x17, [1])] ++
  [(0x20, [1]), (0x21, [1]), (0x22, [1]), (0x23, [2]), (0x24, [3]), (0x25, [3]), (0x30, [2]), (0x31, [1]),
    (0x32, [1, 3]), (0x33, [1]), (0x34, [1]), (0x35, [1]), (0x36, [1]), (0x37, [1])] ++
  [(0x40, [8]), (0x41, [2]), (0x42, [2]), (0x50, [9]), (0x51, [5]), (0x52, [2]), (0x53, [3]), (0x54, [1]),
    (0x55, [1]), (0x56, [3]), (0x57, [1]), (0x60, [5]), (0x61, [1]), (0x70, [1]), (0x71, [2]), (0x72, [1]),
    (0x73, [3])]

/-- A code that the catalogue does not list is unknown (R8). -/
theorem decodeFields_unknown {n : Nat} {f : List Byte} (h : requestLengths.lookup n = none) :
    decodeFields n f = .unknown := by
  unfold decodeFields
  split
  all_goals first
    | rfl
    | exact absurd h (by decide)

theorem noFields_badLength {i : Instr} {f : List Byte} (h : f.length + 1 ∉ [1]) : noFields i f = .badLength := by
  cases f with
  | nil => simp at h
  | cons a l => rfl

theorem oneByte_badLength {g : Byte → Decoded} {f : List Byte} (h : f.length + 1 ∉ [2]) : oneByte g f = .badLength := by
  unfold oneByte
  split
  · simp at h
  · rfl

theorem twoBytes_badLength {g : Byte → Byte → Decoded} {f : List Byte} (h : f.length + 1 ∉ [3]) :
    twoBytes g f = .badLength := by
  unfold twoBytes
  split
  · simp at h
  · rfl

theorem oneWord_badLength {g : Word → Decoded} {f : List Byte} (h : f.length + 1 ∉ [5]) : oneWord g f = .badLength := by
  unfold oneWord
  split
  · simp at h
  · rfl

/-- The values of a PARAM-WRITE take four bytes each (R29). -/
theorem length_of_valuesOf : ∀ {l : List Byte} {vs : List Word}, valuesOf l = some vs → l.length = 4 * vs.length
  | [], vs, h => by obtain rfl := Option.some.inj h; rfl
  | a :: b :: c :: d :: rest, vs, h => by
    obtain ⟨ws, hws, rfl⟩ := Option.map_eq_some_iff.mp h
    simp [length_of_valuesOf hws]; omega
  | [_], _, h => by cases h
  | [_, _], _, h => by cases h
  | [_, _, _], _, h => by cases h

theorem paramWriteFields_badLength {f : List Byte} (h : f.length + 1 ∉ (List.range 16).map fun k => 4 * k + 6) :
    paramWriteFields f = .badLength := by
  unfold paramWriteFields
  split
  · next start rest =>
    split
    · next vs hvs =>
      refine if_neg fun ⟨h1, h2⟩ => h (List.mem_map.mpr ⟨vs.length - 1, List.mem_range.mpr (by omega), ?_⟩)
      rw [List.length_cons, length_of_valuesOf hvs]; omega
    · rfl
  · rfl

/-- Each row of the length column: a body of another length does not decode (R8). -/
theorem decodeFields_row : ∀ p ∈ requestLengths, ∀ f : List Byte, f.length + 1 ∉ p.2 →
    decodeFields p.1 f = .badLength := by
  simp only [requestLengths, List.cons_append, List.nil_append, List.forall_mem_cons]
  and_intros
  all_goals first
    | exact fun f hf => noFields_badLength hf
    | exact fun f hf => oneByte_badLength hf
    | exact fun f hf => twoBytes_badLength hf
    | exact fun f hf => paramWriteFields_badLength hf
    | exact fun p hp => absurd hp List.not_mem_nil
    | (intro f hf
       rw [decodeFields]
       all_goals first
         | exact oneWord_badLength hf
         | (intros
            subst_vars
            simp at hf))

/-- A length that the code's length column does not allow (R8). -/
theorem decodeFields_badLength {n : Nat} {f : List Byte} {allowed : List Nat}
    (h : requestLengths.lookup n = some allowed) (hf : f.length + 1 ∉ allowed) : decodeFields n f = .badLength := by
  obtain ⟨l₁, l₂, hl, -⟩ := List.lookup_eq_some_iff.mp h
  exact decodeFields_row (n, allowed) (by simp [hl]) f hf

/-! ### A good frame (R2, R5, R8) -/

theorem exec_frameComplete_good {low high : Byte} {n : Nat} {body : List Byte} (ht : s.taking = true)
    (hf : s.cl.framer = .checkLow n body high) (hc : of16 high low = crc16 (BitVec.ofNat 8 n :: body)) :
    exec (.frameComplete low) s = .next (dispatch body (setFramer .hunt s)) := by
  obtain ⟨hrun, -, -⟩ := taking_iff.mp ht
  rw [exec_frameComplete_last hf]
  exact congrArg Host.Outcome.next ((receiveByte_checkLow hrun hf).trans (frameDone_good ht hc.symm))

theorem dispatch_command {body : List Byte} {i : Instr} (h : decodeBody body = .command i) (s : State) :
    dispatch body s = serveCommand i s := by
  unfold dispatch; rw [h]
theorem dispatch_unknown {body : List Byte} (h : decodeBody body = .unknown) (s : State) :
    dispatch body s = answer (codeByte body) (s, .refused .unknown 0) := by
  unfold dispatch; rw [h]
theorem dispatch_badLength {body : List Byte} (h : decodeBody body = .badLength) (s : State) :
    dispatch body s = answer (codeByte body) (s, .refused .length 0) := by
  unfold dispatch; rw [h]
theorem dispatch_armServiceAction {body : List Byte} {arm action : Byte} (h : decodeBody body = .armServiceAction arm action)
    (s : State) : dispatch body s = serve (serviceRequest 0x24) (armServiceOp arm action) s := by
  unfold dispatch; rw [h]
theorem dispatch_zoneBypassAction {body : List Byte} {zone action : Byte}
    (h : decodeBody body = .zoneBypassAction zone action) (s : State) :
    dispatch body s = serve (serviceRequest 0x25) (zoneBypassOp zone action) s := by
  unfold dispatch; rw [h]
theorem dispatch_pumpsAction {body : List Byte} {action : Byte} (h : decodeBody body = .pumpsAction action) (s : State) :
    dispatch body s = serve (operateRequest 0x30) pumpsActionOp s := by
  unfold dispatch; rw [h]

/-- A byte above 1 is neither action. -/
theorem action_above {b : Byte} (h : 1 < b.toNat) : b ≠ 1 ∧ b ≠ 0 :=
  ⟨fun e => by simp [e] at h, fun e => by simp [e] at h⟩

theorem armServiceOp_outside {arm action : Byte} (h : 7 < arm.toNat) (s : State) :
    armServiceOp arm action s = (s, .range 1) := dif_neg (by omega)
theorem armServiceOp_action {arm action : Byte} (h : ¬7 < arm.toNat) (ha : 1 < action.toNat) (s : State) :
    armServiceOp arm action s = (s, .range 2) := by
  unfold armServiceOp
  rw [dif_pos (by omega), if_neg (action_above ha).1, if_neg (action_above ha).2]
theorem zoneBypassOp_outside {zone action : Byte} (h : zone.toNat = 0 ∨ 6 < zone.toNat) (s : State) :
    zoneBypassOp zone action s = (s, .range 1) := dif_neg (by omega)
theorem zoneBypassOp_action {zone action : Byte} (h : ¬(zone.toNat = 0 ∨ 6 < zone.toNat)) (ha : 1 < action.toNat)
    (s : State) : zoneBypassOp zone action s = (s, .range 2) := by
  unfold zoneBypassOp
  rw [dif_pos (by omega)]
  dsimp only
  rw [if_neg (action_above ha).1, if_neg (action_above ha).2]

/-- The answers of a service request whose operation only refuses, by the tests of R20. -/
theorem serve_service_refused {code : Nat} {op : State → State × Verdict} (ht : s.taking = true) :
    (s.apu.level.code < Level.maintain.code →
      serve (serviceRequest code) op s = answer code (s, .refused .authority 0)) ∧
    (Level.maintain.code ≤ s.apu.level.code → s.apu.frozen = true →
      serve (serviceRequest code) op s = answer code (s, .refused .frozen 0)) ∧
    (Level.maintain.code ≤ s.apu.level.code → s.apu.frozen = false →
      serve (serviceRequest code) op s = answer code (op s)) := by
  refine ⟨fun hl => ?_, fun hl hf => ?_, fun hl hf => serve_allows ⟨ht, ?_⟩⟩
  · exact serve_refuses (r := .authority) ht (if_pos hl)
  · refine serve_refuses (r := .frozen) ht ?_
    simp [admission, serviceRequest, Nat.not_lt.mpr hl, hf]
  · simp [admission, serviceRequest, Nat.not_lt.mpr hl, hf]

theorem serve_operate_refused {code : Nat} {op : State → State × Verdict} (ht : s.taking = true) :
    (s.apu.level.code < Level.operate.code →
      serve (operateRequest code) op s = answer code (s, .refused .authority 0)) ∧
    (Level.operate.code ≤ s.apu.level.code → serve (operateRequest code) op s = answer code (op s)) := by
  refine ⟨fun hl => ?_, fun hl => serve_allows ⟨ht, ?_⟩⟩
  · exact serve_refuses (r := .authority) ht (if_pos hl)
  · simp [admission, operateRequest, Nat.not_lt.mpr hl]

/-- Settles O6: the body is decoded before any test, and an action byte above 1 is refused by its request's operation. -/
theorem goodFrameIsItsRequest : Obligations.GoodFrameIsItsRequest := by
  refine ⟨fun i s high low hi hw ht hf hc => ?_, fun code fields s high low ht => ?_⟩
  · rw [exec_frameComplete_good ht hf hc, dispatch_command (requestBodiesRoundTrip i hi hw), exec_request hi]; rfl
  · intro body hf hc u done lengths named
    have hgood := exec_frameComplete_good ht hf hc
    have hu : u.taking = true := ht
    refine ⟨fun hn => ?_, fun allowed hn hl => ?_, fun which action hfields ha hcode => ?_,
      fun action hfields ha hcode => ?_⟩
    · exact hgood.trans (congrArg _ (dispatch_unknown (body := body) (decodeFields_unknown hn) _))
    · exact hgood.trans (congrArg _ (dispatch_badLength (body := body) (decodeFields_badLength hn hl) _))
    · obtain ⟨hna1, hna0⟩ := action_above ha
      have hrefuse (op : State → State × Verdict) (hd : exec (.frameComplete low) s =
          .next (serve (serviceRequest code.toNat) op u)) :
          (s.apu.level.code < Level.maintain.code → done .authority 0) ∧
          (Level.maintain.code ≤ s.apu.level.code → s.apu.frozen = true → done .frozen 0) ∧
          (Level.maintain.code ≤ s.apu.level.code → s.apu.frozen = false →
            exec (.frameComplete low) s = .next (answer code.toNat (op u))) := by
        obtain ⟨h1, h2, h3⟩ := serve_service_refused (s := u) (code := code.toNat) (op := op) hu
        exact ⟨fun hl => hd.trans (congrArg _ (h1 hl)), fun hl hz => hd.trans (congrArg _ (h2 hl hz)),
          fun hl hz => hd.trans (congrArg _ (h3 hl hz))⟩
      rcases hcode with hcode | hcode
      · have hdecode : decodeBody body = .armServiceAction which action := by
          show decodeFields code.toNat fields = _
          rw [hcode, hfields]
          show (if _ then _ else _) = _
          rw [if_neg hna1, if_neg hna0]
        obtain ⟨h1, h2, h3⟩ := hrefuse (armServiceOp which action)
          (hgood.trans (congrArg _ (by rw [dispatch_armServiceAction hdecode, hcode]; rfl)))
        refine ⟨h1, h2, fun hl hz => ⟨fun ho => ?_, fun ho => ?_⟩⟩
        · rw [if_pos hcode] at ho
          exact (h3 hl hz).trans (by rw [armServiceOp_outside ho]; rfl)
        · rw [if_pos hcode] at ho
          exact (h3 hl hz).trans (by rw [armServiceOp_action ho ha]; rfl)
      · have hdecode : decodeBody body = .zoneBypassAction which action := by
          show decodeFields code.toNat fields = _
          rw [hcode, hfields]
          show (if _ then _ else _) = _
          rw [if_neg hna1, if_neg hna0]
        obtain ⟨h1, h2, h3⟩ := hrefuse (zoneBypassOp which action)
          (hgood.trans (congrArg _ (by rw [dispatch_zoneBypassAction hdecode, hcode]; rfl)))
        refine ⟨h1, h2, fun hl hz => ⟨fun ho => ?_, fun ho => ?_⟩⟩
        · rw [if_neg (by omega)] at ho
          exact (h3 hl hz).trans (by rw [zoneBypassOp_outside ho]; rfl)
        · rw [if_neg (by omega)] at ho
          exact (h3 hl hz).trans (by rw [zoneBypassOp_action ho ha]; rfl)
    · obtain ⟨hna1, hna0⟩ := action_above ha
      have hdecode : decodeBody body = .pumpsAction action := by
        show decodeFields code.toNat fields = _
        rw [hcode, hfields]
        show (if _ then _ else _) = _
        rw [if_neg hna1, if_neg hna0]
      obtain ⟨h1, h2⟩ := serve_operate_refused (s := u) (code := code.toNat) (op := pumpsActionOp) hu
      have hd : exec (.frameComplete low) s = .next (serve (operateRequest code.toNat) pumpsActionOp u) :=
        hgood.trans (congrArg _ (by rw [dispatch_pumpsAction hdecode, hcode]; rfl))
      exact ⟨fun hl => hd.trans (congrArg _ (h1 hl)), fun hl => hd.trans (congrArg _ (h2 hl))⟩

/-! ### Replies and refusals (R8, R9) -/

/-- What an owner decides leaves the state as it is where it refuses (R8). -/
def RefusalKeeps (op : State → State × Verdict) : Prop :=
  ∀ (s : State) (r : Reason) (d : Nat), (op s).2 = .refused r d → (op s).1 = s

/-- An owner's branches: each refuses the state it was given, or does not refuse. -/
def KeepsOrGrants (s : State) (p : State × Verdict) : Prop := p.1 = s ∨ ∀ r d, p.2 ≠ .refused r d

theorem keepsOrGrants_same (v : Verdict) : KeepsOrGrants s (s, v) := .inl rfl
theorem keepsOrGrants_done (t : State) (d : List Byte) : KeepsOrGrants s (t, .done d) := .inr nofun
theorem keepsOrGrants_accepted (t : State) (d : List Byte) : KeepsOrGrants s (t, .accepted d) := .inr nofun

theorem refusalKeeps_of {op : State → State × Verdict} (h : ∀ s, KeepsOrGrants s (op s)) : RefusalKeeps op :=
  fun s r d hv => (h s).resolve_right fun hn => hn r d hv

/-- A refused answer is of the state the owner was given, up to the reply. -/
theorem answer_refusal {code : Nat} {op : State → State × Verdict} (h : RefusalKeeps op)
    (hr : ((answer code (op s)).cl.reply.getD [])[1]? = some 2) :
    answer code (op s) = { s with cl := { s.cl with reply := (answer code (op s)).cl.reply } } := by
  cases hop : op s with
  | mk t v =>
    rw [hop] at hr
    cases v with
    | done d => cases (Option.some.inj hr : (0 : Byte) = 2)
    | accepted d => cases (Option.some.inj hr : (1 : Byte) = 2)
    | refused r d =>
      obtain rfl : t = s := by simpa [hop] using h s r d (by rw [hop])
      rfl

theorem serve_refusal {q : Request} {op : State → State × Verdict} (h : RefusalKeeps op) (hq : q.isLogon = false)
    (ht : s.taking = true) (hr : ((serve q op s).cl.reply.getD [])[1]? = some 2) :
    serve q op s = { s with cl := { s.cl with reply := (serve q op s).cl.reply } } := by
  cases ha : admission q s with
  | none =>
    rw [serve_allows ⟨ht, ha⟩] at hr ⊢
    exact answer_refusal h hr
  | some r =>
    have hne : r ≠ .expired := by
      rintro rfl
      simp [admission, hq] at ha
      grind
    rw [serve_refuses ht ha, decide_eq_false hne]
    rfl

theorem closeRoadOp_keepsOrGrants (s : State) : KeepsOrGrants s (closeRoadOp s) := by
  unfold closeRoadOp
  repeat' split
  all_goals first
    | exact keepsOrGrants_accepted _ _
    | exact keepsOrGrants_same _
theorem openRoadOp_keepsOrGrants (s : State) : KeepsOrGrants s (openRoadOp s) := by
  unfold openRoadOp
  repeat' split
  all_goals first
    | exact keepsOrGrants_accepted _ _
    | exact keepsOrGrants_same _
theorem pumpsStartOp_keepsOrGrants (s : State) : KeepsOrGrants s (pumpsStartOp s) := by
  unfold pumpsStartOp
  repeat' split
  all_goals first
    | exact keepsOrGrants_accepted _ _
    | exact keepsOrGrants_same _
theorem pumpsStopOp_keepsOrGrants (s : State) : KeepsOrGrants s (pumpsStopOp s) := by
  unfold pumpsStopOp
  repeat' split
  all_goals first
    | exact keepsOrGrants_done _ _
    | exact keepsOrGrants_same _
theorem lockRetryOp_keepsOrGrants (s : State) : KeepsOrGrants s (lockRetryOp s) := by
  unfold lockRetryOp
  dsimp only
  repeat' split
  all_goals first
    | exact keepsOrGrants_accepted _ _
    | exact keepsOrGrants_same _
theorem raiseOp_keepsOrGrants (s : State) : KeepsOrGrants s (raiseOp s) := by
  unfold raiseOp
  repeat' split
  all_goals first
    | exact keepsOrGrants_accepted _ _
    | exact keepsOrGrants_same _
theorem raiseExplicitOp_keepsOrGrants (target : Half) (s : State) : KeepsOrGrants s (raiseExplicitOp target s) := by
  unfold raiseExplicitOp
  repeat' split
  all_goals first
    | exact keepsOrGrants_accepted _ _
    | exact keepsOrGrants_same _
theorem lowerOp_keepsOrGrants (s : State) : KeepsOrGrants s (lowerOp s) := by
  unfold lowerOp
  repeat' split
  all_goals first
    | exact keepsOrGrants_accepted _ _
    | exact keepsOrGrants_same _
theorem stopOp_keepsOrGrants (s : State) : KeepsOrGrants s (stopOp s) := by
  unfold stopOp
  repeat' split
  all_goals first
    | exact keepsOrGrants_done _ _
    | exact keepsOrGrants_accepted _ _
    | exact keepsOrGrants_same _
theorem tripClearOp_keepsOrGrants (s : State) : KeepsOrGrants s (tripClearOp s) := by
  unfold tripClearOp
  repeat' split
  all_goals first
    | exact keepsOrGrants_done _ _
    | exact keepsOrGrants_same _
theorem retryArm_keepsOrGrants (a : Fin 8) (s : State) : KeepsOrGrants s (retryArm a s) := by
  unfold retryArm
  dsimp only
  repeat' split
  all_goals first
    | exact keepsOrGrants_accepted _ _
    | exact keepsOrGrants_same _
theorem serviceOut_keepsOrGrants (a : Fin 8) (s : State) : KeepsOrGrants s (serviceOut a s) := by
  unfold serviceOut
  dsimp only
  repeat' split
  all_goals first
    | exact keepsOrGrants_done _ _
    | exact keepsOrGrants_same _
theorem serviceReturn_keepsOrGrants (a : Fin 8) (s : State) : KeepsOrGrants s (serviceReturn a s) := by
  unfold serviceReturn
  repeat' split
  all_goals first
    | exact keepsOrGrants_done _ _
    | exact keepsOrGrants_same _
theorem restartOp_keepsOrGrants (s : State) : KeepsOrGrants s (restartOp s) := by
  unfold restartOp
  repeat' split
  all_goals first
    | exact keepsOrGrants_accepted _ _
    | exact keepsOrGrants_same _
theorem paramReadOp_keepsOrGrants (start count : Byte) (s : State) : KeepsOrGrants s (paramReadOp start count s) := by
  unfold paramReadOp
  repeat' split
  all_goals first
    | exact keepsOrGrants_done _ _
    | exact keepsOrGrants_same _
theorem vesselReportOp_keepsOrGrants (identity : Word) (side : Byte) (air : Half) (s : State) : KeepsOrGrants s (vesselReportOp identity side air s) := by
  unfold vesselReportOp
  repeat' split
  all_goals first
    | exact keepsOrGrants_done _ _
    | exact keepsOrGrants_same _
theorem vesselReadOp_keepsOrGrants (cursor : Byte) (s : State) : KeepsOrGrants s (vesselReadOp cursor s) := by
  unfold vesselReadOp
  repeat' split
  all_goals first
    | exact keepsOrGrants_done _ _
    | exact keepsOrGrants_same _
theorem vesselClearOp_keepsOrGrants (mask : Byte) (s : State) : KeepsOrGrants s (vesselClearOp mask s) := by
  unfold vesselClearOp
  repeat' split
  all_goals first
    | exact keepsOrGrants_done _ _
    | exact keepsOrGrants_same _
theorem withdrawOp_keepsOrGrants (identity : Word) (s : State) : KeepsOrGrants s (withdrawOp identity s) := by
  unfold withdrawOp
  repeat' split
  all_goals first
    | exact keepsOrGrants_done _ _
    | exact keepsOrGrants_same _
theorem classFloorOp_keepsOrGrants (floor : Byte) (s : State) : KeepsOrGrants s (classFloorOp floor s) := by
  unfold classFloorOp
  repeat' split
  all_goals first
    | exact keepsOrGrants_done _ _
    | exact keepsOrGrants_same _
theorem formBatchOp_keepsOrGrants (s : State) : KeepsOrGrants s (formBatchOp s) := by
  unfold formBatchOp
  repeat' split
  all_goals first
    | exact keepsOrGrants_done _ _
    | exact keepsOrGrants_same _
theorem abandonBatchOp_keepsOrGrants (s : State) : KeepsOrGrants s (abandonBatchOp s) := by
  unfold abandonBatchOp
  repeat' split
  all_goals first
    | exact keepsOrGrants_done _ _
    | exact keepsOrGrants_same _
theorem queueReadOp_keepsOrGrants (side cls : Byte) (s : State) : KeepsOrGrants s (queueReadOp side cls s) := by
  unfold queueReadOp
  repeat' split
  all_goals first
    | exact keepsOrGrants_done _ _
    | exact keepsOrGrants_same _
theorem vesselPassedOp_keepsOrGrants (identity : Word) (s : State) : KeepsOrGrants s (vesselPassedOp identity s) := by
  unfold vesselPassedOp
  repeat' split
  all_goals first
    | exact keepsOrGrants_done _ _
    | exact keepsOrGrants_same _
theorem circuitTestOp_keepsOrGrants (circuit : Byte) (s : State) : KeepsOrGrants s (circuitTestOp circuit s) := by
  unfold circuitTestOp
  repeat' split
  all_goals first
    | exact keepsOrGrants_accepted _ _
    | exact keepsOrGrants_same _
theorem healthSetOp_keepsOrGrants (actuator value : Byte) (s : State) : KeepsOrGrants s (healthSetOp actuator value s) := by
  unfold healthSetOp
  repeat' split
  all_goals first
    | exact keepsOrGrants_done _ _
    | exact keepsOrGrants_same _

theorem armRetryOp_keepsOrGrants (arm : Byte) (s : State) : KeepsOrGrants s (armRetryOp arm s) := by
  unfold armRetryOp
  split
  · exact retryArm_keepsOrGrants _ s
  · exact keepsOrGrants_same _
theorem armServiceOp_keepsOrGrants (arm action : Byte) (s : State) : KeepsOrGrants s (armServiceOp arm action s) := by
  unfold armServiceOp
  repeat' split
  · exact serviceOut_keepsOrGrants _ s
  · exact serviceReturn_keepsOrGrants _ s
  all_goals exact keepsOrGrants_same _
theorem zoneBypassOp_keepsOrGrants (zone action : Byte) (s : State) : KeepsOrGrants s (zoneBypassOp zone action s) := by
  unfold zoneBypassOp
  repeat' split
  · exact keepsOrGrants_done _ _
  · exact keepsOrGrants_done _ _
  all_goals exact keepsOrGrants_same _

/-- A request whose rule states no change on a refusal, as a good frame brings it: its catalogue row and an owner that
changes nothing where it refuses (R8). -/
theorem request_refusalKeeps {c : Instr} (hc : c.isRequest = true) (hl : ∀ l k, c ≠ .logon l k)
    (hw : ∀ i vs, c ≠ .paramWrite i vs) (hj : ∀ i d k a, c ≠ .join i d k a) :
    ∃ q op, (∀ s, exec c s = .next (serve q op s)) ∧ q.isLogon = false ∧ RefusalKeeps op := by
  cases c
  case logon l k => exact absurd rfl (hl l k)
  case paramWrite i vs => exact absurd rfl (hw i vs)
  case join i d k a => exact absurd rfl (hj i d k a)
  all_goals first
    | exact absurd hc Bool.false_ne_true
    | exact ⟨_, _, fun _ => rfl, rfl, refusalKeeps_of fun _ => keepsOrGrants_done _ _⟩
    | exact ⟨_, _, fun _ => rfl, rfl, refusalKeeps_of fun _ => keepsOrGrants_accepted _ _⟩
    | exact ⟨_, _, fun _ => rfl, rfl, refusalKeeps_of (closeRoadOp_keepsOrGrants)⟩
    | exact ⟨_, _, fun _ => rfl, rfl, refusalKeeps_of (openRoadOp_keepsOrGrants)⟩
    | exact ⟨_, _, fun _ => rfl, rfl, refusalKeeps_of (armRetryOp_keepsOrGrants _)⟩
    | exact ⟨_, _, fun _ => rfl, rfl, refusalKeeps_of (armServiceOp_keepsOrGrants _ _)⟩
    | exact ⟨_, _, fun _ => rfl, rfl, refusalKeeps_of (zoneBypassOp_keepsOrGrants _ _)⟩
    | exact ⟨_, _, fun _ => rfl, rfl, refusalKeeps_of (pumpsStartOp_keepsOrGrants)⟩
    | exact ⟨_, _, fun _ => rfl, rfl, refusalKeeps_of (pumpsStopOp_keepsOrGrants)⟩
    | exact ⟨_, _, fun _ => rfl, rfl, refusalKeeps_of (lockRetryOp_keepsOrGrants)⟩
    | exact ⟨_, _, fun _ => rfl, rfl, refusalKeeps_of (raiseOp_keepsOrGrants)⟩
    | exact ⟨_, _, fun _ => rfl, rfl, refusalKeeps_of (raiseExplicitOp_keepsOrGrants _)⟩
    | exact ⟨_, _, fun _ => rfl, rfl, refusalKeeps_of (lowerOp_keepsOrGrants)⟩
    | exact ⟨_, _, fun _ => rfl, rfl, refusalKeeps_of (stopOp_keepsOrGrants)⟩
    | exact ⟨_, _, fun _ => rfl, rfl, refusalKeeps_of (tripClearOp_keepsOrGrants)⟩
    | exact ⟨_, _, fun _ => rfl, rfl, refusalKeeps_of (restartOp_keepsOrGrants)⟩
    | exact ⟨_, _, fun _ => rfl, rfl, refusalKeeps_of (paramReadOp_keepsOrGrants _ _)⟩
    | exact ⟨_, _, fun _ => rfl, rfl, refusalKeeps_of (vesselReportOp_keepsOrGrants _ _ _)⟩
    | exact ⟨_, _, fun _ => rfl, rfl, refusalKeeps_of (vesselReadOp_keepsOrGrants _)⟩
    | exact ⟨_, _, fun _ => rfl, rfl, refusalKeeps_of (vesselClearOp_keepsOrGrants _)⟩
    | exact ⟨_, _, fun _ => rfl, rfl, refusalKeeps_of (withdrawOp_keepsOrGrants _)⟩
    | exact ⟨_, _, fun _ => rfl, rfl, refusalKeeps_of (classFloorOp_keepsOrGrants _)⟩
    | exact ⟨_, _, fun _ => rfl, rfl, refusalKeeps_of (formBatchOp_keepsOrGrants)⟩
    | exact ⟨_, _, fun _ => rfl, rfl, refusalKeeps_of (abandonBatchOp_keepsOrGrants)⟩
    | exact ⟨_, _, fun _ => rfl, rfl, refusalKeeps_of (queueReadOp_keepsOrGrants _ _)⟩
    | exact ⟨_, _, fun _ => rfl, rfl, refusalKeeps_of (vesselPassedOp_keepsOrGrants _)⟩
    | exact ⟨_, _, fun _ => rfl, rfl, refusalKeeps_of (circuitTestOp_keepsOrGrants _)⟩
    | exact ⟨_, _, fun _ => rfl, rfl, refusalKeeps_of (healthSetOp_keepsOrGrants _ _)⟩

/-- Settles O9: the reply of an answer is built by `replyBody`, and an owner that refuses hands back the state it was
given. -/
theorem repliesAndRefusals : Obligations.RepliesAndRefusals := by
  refine ⟨fun code s data r detail => ⟨rfl, rfl, rfl⟩, fun c s t hc hl hw hj ht he hr => ?_⟩
  obtain ⟨q, op, hserve, hq, hop⟩ := request_refusalKeeps hc hl hw hj
  obtain rfl := Host.Outcome.next.inj ((hserve s).symm.trans he)
  exact serve_refusal hop hq ht hr

/-! ### LOGON (R21 to R23) -/

/-- Settles O13: each clause is a branch of the decision, taken in its order. -/
theorem logonOutcomes : Obligations.LogonOutcomes := by
  intro level code s h
  have hm : s.apu.mismatch < 5 := by
    by_contra hm
    have := h.2
    simp [admission, logonRequest, Level.code] at this
    omega
  have decided {v : State × Verdict} (hv : logonOp level code s = v) :
      exec (.logon level code) s = .next (answer 0x10 v) := hv ▸ exec_logon h
  refine ⟨fun h1 h2 => decided ?_, fun hd => decided ?_, fun h1 h0 hc => decided (v := grant .operate s) ?_,
    fun h2 hs hc => decided (v := grant .maintain s) ?_, fun hd => ?_⟩
  · rw [logonOp, if_neg h1, if_neg h2]; rfl
  · rcases hd with ⟨rfl, hs⟩ | ⟨rfl, h0⟩ | ⟨rfl, hs, h0⟩
    · simp [logonOp, hs, denyLogon]
    · simp [logonOp, compareCode, h0, denyLogon]
    · simp [logonOp, compareCode, hs, h0, denyLogon]
  · subst h1
    simp [logonOp, compareCode, h0, hc]
  · subst h2
    rcases hc with hi | ⟨h0, hc⟩
    · simp [logonOp, hs, hi]
    · simp [logonOp, compareCode, hs, h0, hc]
  · have hmin : min 5 (s.apu.mismatch + 1) = s.apu.mismatch + 1 := by omega
    refine (decided (v := (latch .authority (s.onApu fun a => { a with mismatch := min 5 (a.mismatch + 1) }),
      .refused .mismatch 0)) ?_).trans (by rw [← hmin]; rfl)
    rcases hd with ⟨rfl, h0, hc⟩ | ⟨rfl, hs, hi, h0, hc⟩
    · simp [logonOp, compareCode, h0, hc]
    · simp [logonOp, compareCode, hs, hi, h0, hc]

end Sys2Proof.Machine
end

section
/-! PROOFS. What the commands of each side leave alone, the operands out of range, and a RESTART that waits (spec/00,
spec/01 section 1.2, spec/02 section 2.4). -/

namespace Sys2Proof.Machine

variable {s t : State}

/-! ### The sides of the part -/

/-- The kinds of move a road, arm or zone event can make. -/
def roadSideKinds : List Part :=
  [.latched, .pins, .arms, .strokes, .reversals, .zones, .rcs, .pumps, .locks, .leaf, .motion, .proving, .health]

/-- The kinds of move a bolt, seat or pump event can make. -/
def lockSideKinds : List Part :=
  [.latched, .pins, .bolts, .drives, .pumps, .seats, .locks, .leaf, .fall, .motion, .health]

/-- The kinds of move an encoder or anemometer event can make. -/
def measureSideKinds : List Part :=
  [.latched, .bolts, .drives, .pumps, .locks, .leaf, .motion, .encoders, .wind]

/-- The kinds of move a vessel, queue or channel request or event can make. -/
def channelSideKinds : List Part :=
  [.latched, .link, .pumps, .locks, .motion, .vt, .queues, .joins, .psc, .batch, .csu, .turns, .proving]

theorem kinds_roadSide {c : Instr} (h : c.isRoadSide = true) : resets c = false ∧ kinds c ⊆ roadSideKinds := by
  cases c <;> first
    | exact absurd h Bool.false_ne_true
    | exact ⟨rfl, by dsimp only [kinds]; decide⟩
theorem kinds_lockSide {c : Instr} (h : c.isLockSide = true) : resets c = false ∧ kinds c ⊆ lockSideKinds := by
  cases c <;> first
    | exact absurd h Bool.false_ne_true
    | exact ⟨rfl, by dsimp only [kinds]; decide⟩
theorem kinds_measureSide {c : Instr} (h : c.isMeasureSide = true) : resets c = false ∧ kinds c ⊆ measureSideKinds := by
  cases c <;> first
    | exact absurd h Bool.false_ne_true
    | exact ⟨rfl, by dsimp only [kinds]; decide⟩
theorem kinds_channelSide {c : Instr} (h : c.isChannelSide = true) : resets c = false ∧ kinds c ⊆ channelSideKinds := by
  cases c <;> first
    | exact absurd h Bool.false_ne_true
    | exact ⟨rfl, by dsimp only [kinds]; decide⟩

/-- Moves of no link kind change the latched set of the link alone. -/
theorem Reach.cl_eq {A : List Part} (h : Reach A s t)
    (hA : ∀ p ∈ atomsOf A, p ∉ ([.link, .trip, .fall, .lower, .turns, .time] : List Part)) :
    t.cl = { s.cl with latched := t.cl.latched } :=
  congrArg (fun l : Link => { l with latched := t.cl.latched }) (h.link_eq hA)

/-- Settles O54: each side's commands are made of moves of few kinds, and a field that none of them touches stays. -/
theorem sidesKeepApart : Obligations.SidesKeepApart := by
  intro c s t _ he
  refine ⟨fun h => ?_, fun h => ?_, fun h => ?_, fun h => ?_⟩
  · obtain ⟨hr, hk⟩ := kinds_roadSide h
    have k := (exec_reach he hr).mono hk
    exact ⟨k.tb_eq (by decide), k.apu_eq (by decide), k.msu_eq (by decide), k.vt_eq (by decide), k.psc_eq (by decide),
      k.csu_eq (by decide), k.bolts_eq (by decide), k.seats_eq (by decide), k.circuits_eq (by decide),
      k.cl_eq (by decide)⟩
  · obtain ⟨hr, hk⟩ := kinds_lockSide h
    have k := (exec_reach he hr).mono hk
    exact ⟨k.tb_eq (by decide), k.apu_eq (by decide), k.bzu_eq (by decide), k.rcs_eq (by decide), k.msu_eq (by decide),
      k.vt_eq (by decide), k.circuits_eq (by decide), k.cl_eq (by decide)⟩
  · obtain ⟨hr, hk⟩ := kinds_measureSide h
    have k := (exec_reach he hr).mono hk
    exact ⟨k.tb_eq (by decide), k.apu_eq (by decide), k.pins_eq (by decide), k.bzu_eq (by decide), k.rcs_eq (by decide),
      k.vt_eq (by decide), k.psc_eq (by decide), k.csu_eq (by decide), k.phu_eq (by decide), k.cl_eq (by decide)⟩
  · obtain ⟨hr, hk⟩ := kinds_channelSide h
    have k := (exec_reach he hr).mono hk
    exact ⟨k.tb_eq (by decide), k.apu_eq (by decide), k.pins_eq (by decide), k.bzu_eq (by decide), k.rcs_eq (by decide),
      k.msu_eq (by decide), k.health_eq (by decide), k.circuits_eq (by decide)⟩

/-! ### Operands out of range -/

/-- Settles O53: each owner tests the range first and refuses it with the field's offset. -/
theorem rangeRefusals : Obligations.RangeRefusals := by
  intro s
  refine ⟨fun b hb => ⟨fun h => ?_, fun h => ⟨?_, ?_⟩⟩, fun b hb h => ⟨?_, ?_⟩, fun i d c a => ⟨fun h => ⟨fun hi => ?_,
    fun hi hd => ?_⟩, fun h => ⟨fun hi => ?_, fun hi hd => ?_, fun hi hd hc => ?_⟩⟩, fun m hm h => ?_, fun h => ?_,
    fun h => ?_, fun b hb h => ?_, fun a v ha h => ?_⟩
  · rw [exec_armRetry h, armRetryOp, dif_neg (by omega)]; rfl
  · rw [exec_armServiceOut h, armServiceOp_outside hb]; rfl
  · rw [exec_armServiceReturn h, armServiceOp_outside hb]; rfl
  · rw [exec_zoneBypassSet h, zoneBypassOp_outside hb]; rfl
  · rw [exec_zoneBypassClear h, zoneBypassOp_outside hb]; rfl
  · rw [exec_vesselReport h, vesselReportOp, if_pos hi]; rfl
  · rw [exec_vesselReport h, vesselReportOp, if_neg hi, if_pos hd]; rfl
  · rw [exec_join h, joinOp, if_pos hi]; rfl
  · rw [exec_join h, joinOp, if_neg hi, if_pos hd]; rfl
  · rw [exec_join h, joinOp, if_neg hi, if_neg (by omega), dif_neg (by omega)]; rfl
  · rw [exec_vesselClear h, vesselClearOp, if_pos hm]; rfl
  · rw [exec_withdraw h]; rfl
  · rw [exec_vesselPassed h]; rfl
  · rw [exec_circuitTest h, circuitTestOp, dif_neg (by omega)]; rfl
  · rw [exec_healthSet h, healthSetOp, dif_neg (by omega)]; rfl

/-! ### RESTART (R38, R113) -/

/-- A controlled halt outside RAISING and LOWERING is none (R113). -/
theorem beginHalt_resting (h : Halt) (hm : s.lmc.leaf.moving = false) : beginHalt h s = s := by
  unfold beginHalt; rw [hm]; rfl

/-- A controlled halt of leaves in motion changes its cause (R113). -/
theorem beginHalt_moving (h : Halt) (hm : s.lmc.leaf.moving = true) (hr : s.lmc.motion.atRest = false) :
    beginHalt h s = s.onMotion fun m => { m with halt := h } := by
  unfold beginHalt
  rw [if_pos hm]
  exact if_neg (by rw [show (s.onMotion fun m => { m with halt := h }).lmc.motion.atRest = s.lmc.motion.atRest from rfl, hr]; nofun)

/-- A controlled halt other than a wind reversal, or while a RESTART waits, ends at once with both references 0 (R113). -/
theorem beginHalt_atRest (h : Halt) (hm : s.lmc.leaf.moving = true) (hr : s.lmc.motion.atRest = true)
    (hw : h ≠ .wind ∨ s.apu.restart = true) :
    beginHalt h s = latch .leaf { s with
      lpu := { s.lpu with standby := none }
      lmc := { s.lmc with leaf := .halted, motion := { s.lmc.motion with halt := .none, awaitingPumps := false } } } := by
  have hne : s.lmc.leaf ≠ .halted := by rintro e; rw [e] at hm; cases hm
  have hend : endHalt (s.onMotion fun m => { m with halt := h }) =
      setLeaf .halted (s.onMotion fun m => { m with halt := .none, awaitingPumps := false }) := by
    unfold endHalt
    rw [if_neg]
    · rfl
    · rintro ⟨h1, h2⟩
      rcases hw with hw | hw
      · exact hw h1
      · exact absurd (h2.symm.trans hw) nofun
  unfold beginHalt
  rw [if_pos hm]
  refine (if_pos (show s.lmc.motion.atRest = true from hr)).trans (hend.trans ?_)
  exact setLeaf_away (s := s.onMotion _) hne (by decide)

theorem moving_iff {l : LeafState} : l.moving = true ↔ l = .raising ∨ l = .lowering := by
  cases l <;> simp [LeafState.moving]
theorem moving_false_iff {l : LeafState} : l.moving = false ↔ l ≠ .raising ∧ l ≠ .lowering := by
  cases l <;> simp [LeafState.moving]
theorem atRest_iff {m : Motion} : m.atRest = true ↔ m.leaves.north.reference = 0 ∧ m.leaves.south.reference = 0 := by
  simp [Motion.atRest]

theorem storeUnusable_iff : s.storeUnusable = true ↔ s.apu.storeStatus ≠ .valid := by
  simp [State.storeUnusable]

/-- Settles O17: RESTART is `beginHalt` on the state with the RESTART waiting. -/
theorem restartBeginsHalt : Obligations.RestartBeginsHalt := by
  intro s h
  have done (hv : s.apu.storeStatus = .valid) {u : State}
      (hu : beginHalt .restart (s.onApu fun a => { a with restart := true }) = u) :
      exec .restart s = .next (answer 0x17 (u, .accepted [])) := by
    rw [exec_restart h, restartOp, if_neg (fun hs => storeUnusable_iff.mp hs hv), hu]
  refine ⟨fun hv => ?_, fun hv h1 h2 => done hv ?_, fun hv hm hr => done hv ?_, fun hv hm hn hs => done hv ?_⟩
  · rw [exec_restart h, restartOp, if_pos (storeUnusable_iff.mpr hv)]
  · exact beginHalt_resting _ (moving_false_iff.mpr ⟨h1, h2⟩)
  · exact beginHalt_moving _ (moving_iff.mpr hm) (Bool.eq_false_iff.mpr fun e => hr (atRest_iff.mp e))
  · exact beginHalt_atRest _ (moving_iff.mpr hm) (atRest_iff.mpr ⟨hn, hs⟩) (.inl nofun)

/-! ### No new work while a RESTART waits (R38) -/

/-- From `s` to `t` no stroke, motion or commit begins. -/
structure NoneBegins (s t : State) : Prop where
  arms : ∀ a, (t.arm a).moving = true → (t.arm a).state = (s.arm a).state
  bolts : ∀ b, (t.bolt b).moving = true → (t.bolt b).state = (s.bolt b).state
  leaves : t.lmc.leaf.moving = true → t.lmc.leaf = s.lmc.leaf
  commit : ∀ x, t.apu.commit = some x → s.apu.commit = some x

theorem NoneBegins.refl (s : State) : NoneBegins s s := ⟨fun _ _ => rfl, fun _ _ => rfl, fun _ => rfl, fun _ h => h⟩

theorem NoNewWork.noneBegins {p : Prop} (h : NoNewWork p s t) (hp : ¬p) : NoneBegins s t :=
  ⟨fun a hm => (h.arms a hm).resolve_right fun r => hp r.1, h.bolts, h.leaves, h.commit⟩

/-- Where nothing moves, nothing has begun. -/
theorem noneBegins_of_still (ha : ∀ a, (t.arm a).moving = false) (hb : ∀ b, (t.bolt b).moving = false)
    (hl : t.lmc.leaf.moving = false) (hc : ∀ x, t.apu.commit = some x → s.apu.commit = some x) : NoneBegins s t :=
  ⟨fun a h => by simp [ha a] at h, fun b h => by simp [hb b] at h, fun h => by simp [hl] at h, hc⟩

theorem cold_noneBegins (h : t.bzu = State.reset.bzu) (hl : t.lpu = State.reset.lpu) (hm : t.lmc = State.reset.lmc)
    (hc : t.apu.commit = none) : NoneBegins s t := by
  refine noneBegins_of_still (fun a => ?_) (fun b => ?_) (by rw [hm]; rfl) (by simp [hc])
  · unfold State.arm; rw [h]; simp [State.reset, Arm.moving, Arm.reset]
  · unfold State.bolt; rw [hl]; simp [State.reset, Bolt.moving, Bolt.reset]

theorem loadStore_commit (a : Apu) : (loadStore a).commit = a.commit := by unfold loadStore; split <;> rfl
theorem reloadTable_commit (a : Apu) : (reloadTable a).commit = a.commit := by unfold reloadTable; split <;> rfl

/-- An arm derived from its limits stands (R59). -/
theorem startArm_moving (s : State) (a : Fin 8) : (s.startArm a).moving = false := by
  unfold State.startArm stateOfLimits; split <;> rfl

/-- A bolt derived from its switches stands (R95). -/
theorem derivedBolt_moving (s : State) (b : Fin 4) : (s.derivedBolt b).moving = false := by
  unfold State.derivedBolt stateOfSwitches; split <;> rfl

theorem rests_moving {l : LeafState} (h : l = .seatedLocked ∨ l = .halted ∨ l = .tripped) : l.moving = false := by
  rcases h with rfl | rfl | rfl <;> rfl

theorem completeStartup_noneBegins (s : State) : NoneBegins s (completeStartup s) := by
  refine noneBegins_of_still (fun a => ?_) (fun b => ?_) ?_ fun x hx => by simpa using hx
  · have : (completeStartup s).arm a = (listened s).startArm a := by
      simp [completeStartup, deriveBlocks, State.arm, restartScan, deriveLeaves, startLpu, deriveBolts, deriveRoad,
        viewDeck, startBzu, State.onBzu]
    rw [this]; exact startArm_moving _ a
  · have : ∃ u, (completeStartup s).bolt b = State.derivedBolt u b :=
      ⟨_, by simp [completeStartup, deriveBlocks, State.bolt, restartScan, deriveLeaves, startLpu, deriveBolts,
        State.onLpu]; rfl⟩
    obtain ⟨u, hu⟩ := this
    rw [hu]; exact derivedBolt_moving u b
  · rw [completeStartup_lmc]; exact rests_moving (derivedLeaf_rests _ _)

theorem takeSoftReset_noneBegins (s : State) : NoneBegins s (takeSoftReset s) := by
  have k := takeSoftReset_reach s
  refine noneBegins_of_still (fun a => ?_) (fun b => ?_) ?_ fun x hx => ?_
  · have : (takeSoftReset s).arm a = (softApu s).softArm a := by
      unfold State.arm; rw [k.arms_eq (by decide), softDerived_bzu]
      simp [softBzu, State.onBzu]; rfl
    rw [this, State.softArm]
    split
    · next h => simp [Arm.moving, h]
    · exact startArm_moving _ a
  · have : ∃ u, (takeSoftReset s).bolt b = State.derivedBolt u b := by
      unfold State.bolt; rw [k.bolts_eq (by decide)]
      exact ⟨_, by simp [softDerived, deriveLeaves, deriveBolts, State.onLpu]; rfl⟩
    obtain ⟨u, hu⟩ := this
    rw [hu]; exact derivedBolt_moving u b
  · rw [k.lmc_eq (by decide)]; exact rests_moving (softDerived_rests s)
  · rw [k.apu_eq (by decide), softDerived_apu] at hx
    exact (reloadTable_commit s.apu).symm.trans hx

theorem exec_reset_noneBegins {c : Instr} (hc : resets c = true) (h : exec c s = .next t) : NoneBegins s t := by
  cases c <;> first
    | (cases hc; done)
    | (obtain rfl := Host.Outcome.next.inj h)
  case powerOn p f => exact cold_noneBegins rfl rfl rfl (loadStore_commit _)
  case supplyLoss => exact cold_noneBegins rfl rfl rfl rfl
  case hardResetAssert => split <;> first | exact .refl s | exact cold_noneBegins rfl rfl rfl rfl
  case hardResetRelease p f =>
    split
    · have k := markWorns_reach (beginStartup p f s) allActuators
      have hb := k.arms_eq (by decide)
      have hl := k.bolts_eq (by decide)
      refine ⟨fun a _ => ?_, fun b _ => ?_, fun _ => by rw [k.leaf_eq (by decide)]; rfl, fun x hx => ?_⟩
      · unfold State.arm; rw [hb]; rfl
      · unfold State.bolt; rw [hl]; rfl
      · rw [k.apu_eq (by decide)] at hx
        exact absurd ((loadStore_commit _).symm.trans hx) nofun
    · exact .refl s
  case startupEnd =>
    split
    · exact completeStartup_noneBegins s
    · exact .refl s
  case softResetEffect =>
    split
    · exact takeSoftReset_noneBegins s
    · exact .refl s

/-- The arm whose edge becomes active is the only one that a waiting RESTART lets reverse (R46). -/
theorem exec_obstructionEdge_noNewWork {a : Fin 8} (hr : s.apu.restart = true)
    (h : exec (.obstructionEdgeActive a) s = .next t) {k : Fin 8} (hk : k ≠ a) (hm : (t.arm k).moving = true) :
    (t.arm k).state = (s.arm k).state := by
  obtain rfl := Host.Outcome.next.inj h
  have key (u : State) (hu : u.apu.restart = true) (hm : ((edgeActive a u).arm k).moving = true) :
      ((edgeActive a u).arm k).state = (u.arm k).state := by
    unfold edgeActive at hm ⊢
    split at hm
    · next hl =>
      have hl' : ((u.onArm a fun r => { r with edgeSeen := true }).arm a).state = .lowering := by
        rw [arm_onArm_self]; exact hl
      have n := (reportArm_reach a (obstruct a (u.onArm a fun r => { r with edgeSeen := true }))).noNewWork
        ((congrArg Apu.restart ((obstruct_reach a _ hl').apu_eq (by decide))).trans hu) (by decide)
      rw [(n.noneBegins (by decide)).arms k hm, obstruct_ne hk, arm_onArm_ne _ hk]
    · rw [arm_onArm_ne _ hk]
    all_goals rfl
  unfold inRun at hm ⊢
  by_cases hrun : (setEdge a true s).running = true
  · rw [if_pos hrun] at hm ⊢
    exact key (setEdge a true s) hr hm
  · rw [if_neg hrun]
    rfl

/-- What a waiting RESTART lets a command begin: the reversal of the arm whose edge becomes active, and nothing else. -/
theorem exec_noneBegins {c : Instr} (hr : s.apu.restart = true) (h : exec c s = .next t) :
    (∀ a, (t.arm a).moving = true → (t.arm a).state = (s.arm a).state ∨
      ((s.arm a).state = .lowering ∧ (t.arm a).state = .raising ∧ c = .obstructionEdgeActive a)) ∧
    (∀ b, (t.bolt b).moving = true → (t.bolt b).state = (s.bolt b).state) ∧
    (t.lmc.leaf.moving = true → t.lmc.leaf = s.lmc.leaf) ∧
    (∀ x, t.apu.commit = some x → s.apu.commit = some x) := by
  cases hc : resets c
  · have n := (exec_reach h hc).noNewWork hr (by cases c <;> (dsimp only [kinds]; decide))
    refine ⟨fun a hm => ?_, n.bolts, n.leaves, n.commit⟩
    rcases n.arms a hm with e | ⟨hk, e1, e2⟩
    · exact .inl e
    · cases c
      case obstructionEdgeActive b =>
        by_cases hab : a = b
        · subst hab; exact .inr ⟨e1, e2, rfl⟩
        · exact .inl (exec_obstructionEdge_noNewWork hr h hab hm)
      all_goals exact absurd hk (by dsimp only [kinds]; decide)
  · have n := exec_reset_noneBegins hc h
    exact ⟨fun a hm => .inl (n.arms a hm), n.bolts, n.leaves, n.commit⟩

theorem atEase_iff : s.atEase = true ↔ (∀ a, (s.arm a).moving = false) ∧ (∀ b, (s.bolt b).moving = false) ∧
    s.lmc.leaf.moving = false ∧ s.apu.commit = none := by
  have ha (a : Fin 8) : a ∈ allArms := by revert a; decide
  have hb (b : Fin 4) : b ∈ allBolts := by revert b; decide
  simp [State.atEase, ha, hb, and_assoc]

theorem arm_moving_of {r : Arm} (h : r.state = .lowering ∨ r.state = .raising) : r.moving = true := by
  rcases h with h | h <;> simp [Arm.moving, h]
theorem bolt_moving_of {r : Bolt} (h : r.state = .withdrawing ∨ r.state = .driving) : r.moving = true := by
  rcases h with h | h <;> simp [Bolt.moving, h]

/-- Settles O18: no move but a reversal begins a stroke, a motion or a commit while a RESTART waits, and a reset leaves
everything standing. -/
theorem restartBarsNewWork : Obligations.RestartBarsNewWork := by
  refine ⟨fun c s t hr he h => ?_, fun s t hr h => ?_⟩
  · obtain ⟨ha, hb, hl, hc⟩ := atEase_iff.mp he
    obtain ⟨na, nb, nl, nc⟩ := exec_noneBegins hr h
    refine atEase_iff.mpr ⟨fun a => Bool.eq_false_iff.mpr fun hm => ?_, fun b => Bool.eq_false_iff.mpr fun hm => ?_,
      Bool.eq_false_iff.mpr fun hm => ?_, Option.eq_none_iff_forall_ne_some.mpr fun x hx => ?_⟩
    · rcases na a hm with e | ⟨e, -, -⟩
      · have := ha a; simp only [Arm.moving, e] at hm this; simp [hm] at this
      · have := ha a; simp [Arm.moving, e] at this
    · have e := nb b hm; have := hb b; simp only [Bolt.moving, e] at hm this; simp [hm] at this
    · rw [nl hm, hl] at hm; cases hm
    · rw [hc] at nc; cases nc x hx
  · unfold step at h
    split at h
    · next c rest hp =>
      obtain ⟨na, nb, nl, nc⟩ := exec_noneBegins (s := { s with pending := rest }) hr h
      refine ⟨fun a => ⟨fun e => ?_, fun e => ?_⟩, fun b => ⟨fun e => ?_, fun e => ?_⟩, fun e => ?_, fun e => ?_, nc⟩
      · rcases na a (arm_moving_of (.inl e)) with k | ⟨-, k, -⟩
        · exact k.symm.trans e
        · rw [e] at k; cases k
      · rcases na a (arm_moving_of (.inr e)) with k | ⟨k, -, rfl⟩
        · exact .inl (k.symm.trans e)
        · exact .inr ⟨k, by rw [hp]; rfl⟩
      · exact (nb b (bolt_moving_of (.inl e))).symm.trans e
      · exact (nb b (bolt_moving_of (.inr e))).symm.trans e
      · exact (nl (by rw [e]; rfl)).symm.trans e
      · exact (nl (by rw [e]; rfl)).symm.trans e
    · obtain rfl := Host.Outcome.next.inj h
      have n := ((tick_reach s).noNewWork hr (by decide)).noneBegins (by decide)
      exact ⟨fun a => ⟨fun e => (n.arms a (arm_moving_of (.inl e))).symm.trans e,
          fun e => .inl ((n.arms a (arm_moving_of (.inr e))).symm.trans e)⟩,
        fun b => ⟨fun e => (n.bolts b (bolt_moving_of (.inl e))).symm.trans e,
          fun e => (n.bolts b (bolt_moving_of (.inr e))).symm.trans e⟩,
        fun e => (n.leaves (by rw [e]; rfl)).symm.trans e, fun e => (n.leaves (by rw [e]; rfl)).symm.trans e, n.commit⟩

end Sys2Proof.Machine
end

section
/-! PROOFS. The supply, RESET and the outputs (spec/01 section 1.5, spec/02 section 2.4), with the WORN marks as a start-up
re-evaluates them (spec/11 section 11.6). -/

namespace Sys2Proof.Machine

variable {s t : State}

/-! ### The WORN marks of a group (R198) -/

/-- Health record `n` with its mark set to its condition. -/
def State.marked (s : State) (n : Fin 12) : Health := { s.phu.health[n] with worn := s.wornCondition n }

theorem markWorn_wornCondition (a n : Fin 12) (s : State) : (markWorn s a).wornCondition n = s.wornCondition n := by
  have hv : ((markWorn s a).phu.health[n]).value = s.phu.health[n].value := by
    by_cases h : a = n
    · subst h; simp [markWorn, State.onHealth, State.onPhu]
    · simp [markWorn, State.onHealth, State.onPhu, Fin.val_inj, h]
  unfold State.wornCondition
  rw [hv]
  rfl

theorem markWorn_health (a n : Fin 12) (s : State) :
    (markWorn s a).phu.health[n] = if n = a then s.marked n else s.phu.health[n] := by
  by_cases h : n = a
  · subst h; simp [markWorn, State.onHealth, State.onPhu, State.marked]
  · simp [markWorn, State.onHealth, State.onPhu, Fin.val_inj, Ne.symm h, h]

theorem markWorn_marked (a n : Fin 12) (s : State) : (markWorn s a).marked n = s.marked n := by
  unfold State.marked
  rw [markWorn_wornCondition, markWorn_health]
  split <;> rfl

/-- The marks of a group re-evaluated change the records of the group alone, each by its own condition. -/
theorem markWorns_health (l : List (Fin 12)) (n : Fin 12) (s : State) :
    (l.foldl markWorn s).phu.health[n] = if n ∈ l then s.marked n else s.phu.health[n] := by
  induction l generalizing s with
  | nil => rfl
  | cons a l ih =>
    rw [List.foldl_cons, ih, markWorn_marked, markWorn_health]
    by_cases hl : n ∈ l <;> by_cases ha : n = a <;> simp [hl, ha]

theorem markWorn_rest (a : Fin 12) (s : State) :
    markWorn s a = { s with phu := { s.phu with health := (markWorn s a).phu.health } } := rfl

theorem markWorns_rest (l : List (Fin 12)) (s : State) :
    l.foldl markWorn s = { s with phu := { s.phu with health := (l.foldl markWorn s).phu.health } } := by
  induction l generalizing s with
  | nil => rfl
  | cons a l ih => exact (ih (markWorn s a)).trans rfl

theorem markWorns_wornCondition (l : List (Fin 12)) (n : Fin 12) (s : State) :
    (l.foldl markWorn s).wornCondition n = s.wornCondition n := by
  induction l generalizing s with
  | nil => rfl
  | cons a l ih => rw [List.foldl_cons, ih, markWorn_wornCondition]

theorem mem_allActuators (n : Fin 12) : n ∈ allActuators := by revert n; decide

/-- Every mark re-evaluated stands as its condition says. -/
theorem markWorns_all (s : State) (n : Fin 12) : (allActuators.foldl markWorn s).phu.health[n] = s.marked n := by
  rw [markWorns_health, if_pos (mem_allActuators n)]

/-! ### Cut work and the beginning of start-up (R32, R35, R36) -/

theorem loseSupply_kept (s : State) : (loseSupply s).kept s := ⟨rfl, rfl, rfl, rfl, rfl, rfl⟩
theorem loseSupply_cold (s : State) : (loseSupply s).cold :=
  ⟨rfl, rfl, rfl, rfl, rfl, rfl, rfl, rfl, rfl, rfl, rfl, rfl, rfl⟩
theorem resetHeld_kept (s : State) : (holdTime .resetHeld (flashFromA (coldBlocks s))).kept s :=
  ⟨rfl, rfl, rfl, rfl, rfl, rfl⟩
theorem resetHeld_cold (s : State) : (holdTime .resetHeld (flashFromA (coldBlocks s))).cold :=
  ⟨rfl, rfl, rfl, rfl, rfl, rfl, rfl, rfl, rfl, rfl, rfl, rfl, rfl⟩

theorem loadStore_loaded {a : Apu} {v : Vector Nat 64} (h : a.store.load = some v) :
    loadStore a = { a with table := v, storeStatus := .valid, modified := false } := by
  unfold loadStore; rw [h]
theorem loadStore_invalid {a : Apu} (h : a.store.load = none) :
    loadStore a = { a with table := defaultTable, storeStatus := .invalid, modified := true } := by
  unfold loadStore; rw [h]
theorem loadStore_store (a : Apu) : (loadStore a).store = a.store := by unfold loadStore; split <;> rfl

/-- What the loaded authority record keeps beside the table, its status and its mark. -/
theorem loadStore_kept (a : Apu) : (loadStore a).straps = a.straps ∧ (loadStore a).level = a.level ∧
    (loadStore a).mismatch = a.mismatch ∧ (loadStore a).frozen = a.frozen ∧ (loadStore a).restart = a.restart := by
  unfold loadStore; split <;> exact ⟨rfl, rfl, rfl, rfl, rfl⟩

theorem beginStartup_starts (p : Straps) (f : Bool) (s : State) : (beginStartup p f s).starts p f := by
  obtain ⟨hstraps, hlevel, hmismatch, hfrozen, -⟩ := loadStore_kept
    { s.apu with straps := p, level := .view, mismatch := 0, frozen := false, commit := none, restart := false }
  refine ⟨rfl, hstraps, rfl, hlevel, hmismatch, hfrozen, loadStore_commit _, fun v hv => ?_, fun hv => ?_, rfl, rfl⟩
  · rw [beginStartup_apu, loadStore_store] at hv
    rw [beginStartup_apu, loadStore_loaded hv]; exact ⟨rfl, rfl, rfl⟩
  · rw [beginStartup_apu, loadStore_store] at hv
    rw [beginStartup_apu, loadStore_invalid hv]; exact ⟨rfl, rfl, rfl⟩

/-- The marks re-evaluated keep what start-up has just set. -/
theorem State.starts.markWorns {p : Straps} {f : Bool} (h : s.starts p f) (l : List (Fin 12)) :
    (l.foldl markWorn s).starts p f := by
  rw [markWorns_rest]
  exact ⟨h.time, h.straps, h.field, h.level, h.mismatch, h.frozen, h.commit, h.loaded, h.invalid, h.mask, h.measures⟩

theorem beginStartup_cold {p : Straps} {f : Bool} (h : s.cold) : (beginStartup p f s).cold := by
  obtain ⟨-, hlevel, -, -, hrestart⟩ := loadStore_kept
    { s.apu with straps := p, level := .view, mismatch := 0, frozen := false, commit := none, restart := false }
  refine ⟨?_, hlevel, loadStore_commit _, hrestart, h.arms, h.road, h.locks, h.leaves, rfl, h.vessels, h.queues, h.signals,
    h.circuits⟩
  show ({ s.cl with mask := _ } : Link) = _
  rw [h.link]
  rfl

/-! ### The outputs (R35, R40, R61, R62, R80, R90, R98, R174, R181, R188) -/

theorem running_iff : s.running = true ↔ s.tb.phase = .run := by simp [State.running]
theorem running_false_iff : s.running = false ↔ s.tb.phase ≠ .run := by simp [State.running]

/-- Not every arm of a group is held down (R40). -/
theorem allHeld_false_iff {group : List (Fin 8)} : s.allHeld group = false ↔
    ∃ a ∈ group, ¬(s.arm a).state = .outOfService ∧ ((s.arm a).state = .down → (s.arm a).displaced = true) := by
  simp [State.allHeld, Arm.inService, Arm.heldDown]

/-- The bells by the road state (R61, R62). -/
theorem bells_run (h : s.tb.phase = .run) : s.bells = decide (s.rcs.road = .prewarn ∨ s.rcs.road = .stopping ∨
    (s.rcs.road = .breached ∧ ∃ a ∈ entryArms, (s.arm a).state ≠ .outOfService ∧
      ¬((s.arm a).state = .down ∧ (s.arm a).displaced = false))) := by
  rw [Bool.eq_iff_iff, decide_eq_true_iff, State.bells, running_iff.mpr h, Bool.true_and]
  cases s.rcs.road <;> simp [allHeld_false_iff]

/-- A side's lamps in the run (R174). -/
theorem lampLit_run (h : s.tb.phase = .run) (d : Side) (k : Fin 4) : s.lampLit d k.val =
    (match s.aspect d with
      | .stop => decide (k = 0 ∨ k = 1)
      | .standby => decide (k = 1 ∨ k = 2)
      | .go => decide (k = 2 ∨ k = 3)) := by
  rw [State.lampLit, h]
  generalize s.aspect d = a
  revert k
  cases a <;> decide

/-- Settles O19: the four rows are `coldBlocks` and `beginStartup` in a phase, and each output is its formula with the
phase put in. -/
theorem supplyAndReset : Obligations.SupplyAndReset := by
  refine ⟨fun s => ⟨⟨_, rfl, rfl, loseSupply_kept s, loseSupply_cold s⟩, fun h => ?_, fun h => ?_⟩,
    fun p f s => ⟨⟨_, rfl, beginStartup_starts p f _, beginStartup_cold ?_, rfl, fun hc => ?_, fun hc => ?_⟩,
      fun h => ?_, fun h => ?_⟩, fun s h => ?_, fun s h => ?_⟩
  · refine ⟨holdTime .resetHeld (flashFromA (coldBlocks s)), ?_, rfl, resetHeld_kept s, resetHeld_cold s, rfl, rfl⟩
    show Host.Outcome.next (match s.tb.phase with | .off | .resetHeld => s | .startup => _ | .run => _) = _
    rcases h with h | h <;> rw [h]
  · show Host.Outcome.next (match s.tb.phase with | .off | .resetHeld => s | .startup => _ | .run => _) = _
    rcases h with h | h <;> rw [h]
  · exact ⟨rfl, rfl, rfl, rfl, rfl, rfl, rfl, rfl, rfl, rfl, rfl, rfl, rfl⟩
  · have hstore : (if s.apu.commit.isSome then Store.broken else s.apu.store) = .broken := if_pos hc
    constructor
    · exact (loadStore_store _).trans hstore
    · refine congrArg Apu.table (loadStore_invalid ?_)
      show (if s.apu.commit.isSome then Store.broken else s.apu.store).load = none
      rw [hstore]; rfl
  · refine (loadStore_store _).trans ?_
    show (if s.apu.commit.isSome then Store.broken else s.apu.store) = _
    rw [hc]; rfl
  · refine ⟨allActuators.foldl markWorn (beginStartup p f s), congrArg Host.Outcome.next (if_pos h),
      (beginStartup_starts p f s).markWorns _, ?_, ?_, ?_⟩
    · exact (congrArg Apu.store ((markWorns_reach (beginStartup p f s) _).apu_eq (by decide))).trans (loadStore_store _)
    · exact (markWorns_reach (beginStartup p f s) _).latched_eq (by decide)
    · intro n
      rw [markWorns_all, markWorns_wornCondition]; exact ⟨rfl, rfl, rfl, rfl⟩
  · exact congrArg Host.Outcome.next (if_neg h)
  · have hr : s.running = false := running_false_iff.mpr h
    refine ⟨fun a => by simp [State.motor, hr], fun b => by simp [State.boltWithdrawOutput, State.boltDriveOutput, hr],
      fun l => by simp [State.pumpOutput, State.driveReference, State.brakeRelease, hr], ?_, ?_, ?_, ?_, ?_, ?_, ?_,
      fun ho => ?_, fun ho => ?_⟩
    · simp [State.amber, hr]
    · simp [State.bells, hr]
    · simp [State.attention, hr]
    · simp [State.hornOn, hr]
    · exact (by simp [State.hornOn, hr] : s.hornOn = false)
    · exact (by simp [State.amber, hr] : s.amber = false)
    · exact (by simp [State.amber, hr] : s.amber = false)
    · refine ⟨by simp [State.redA, State.flashOn, ho], by simp [State.redB, State.flashOn, ho], fun k => ?_⟩
      unfold State.circuitOn
      split <;> simp [State.amber, State.flashOn, State.lampLit, State.hornOn, ho, hr]
    · have hf : s.flashOn = true := by rcases ho with ho | ho <;> simp [State.flashOn, ho]
      have hl (d : Side) (k : Nat) : s.lampLit d k = lampOn .stop k := by
        rcases ho with ho | ho <;> simp [State.lampLit, ho]
      refine ⟨by simp [State.redA, hf], by simp [State.redB, hf], rfl, rfl, rfl, rfl, ?_⟩
      exact ⟨hl .seaward 0, hl .seaward 1, hl .seaward 2, hl .seaward 3, hl .landward 0, hl .landward 1, hl .landward 2,
        hl .landward 3⟩
  · have hr : s.running = true := running_iff.mpr h
    have hf : s.flashOn = decide (s.rcs.road ≠ .opened) := by unfold State.flashOn; rw [h]
    refine ⟨fun a => ⟨fun e => by simp [State.motor, hr, e], fun e => by simp [State.motor, hr, e], fun e1 e2 => ?_⟩,
      fun b => ?_, fun l => ?_, by simp [State.amber, hr], bells_run h, by rw [State.redA, hf], by rw [State.redB, hf],
      fun d k => ?_, rfl, rfl, rfl, rfl, rfl, rfl, rfl, rfl, by simp [State.hornOn, hr]⟩
    · rw [State.motor, if_pos hr]; split <;> simp_all
    · refine ⟨by simp [State.boltWithdrawOutput, hr], ?_⟩
      rw [State.boltDriveOutput, hr]
      cases ho : (s.bolt b).outputOn <;> simp
    · simp [State.pumpOutput, State.driveReference, State.brakeRelease, hr]
    · refine Eq.trans ?_ (lampLit_run h d k)
      cases d <;> (revert k; intro k; match k with | 0 | 1 | 2 | 3 => rfl)

end Sys2Proof.Machine
end

section
/-! PROOFS. The end of start-up and the soft reset (spec/02 section 2.4). -/

namespace Sys2Proof.Machine

variable {s t : State}

/-! ### What the derivation of step 4 leaves (R36, R37, R54, R59, R78, R95, R121) -/

theorem deriveBlocks_tb (s : State) : (deriveBlocks s).tb = { s.tb with phase := .run } := by
  simp [deriveBlocks, restartScan, deriveLeaves, startLpu, deriveBolts, deriveRoad, viewDeck, startBzu]
theorem deriveBlocks_pins (s : State) : (deriveBlocks s).pins = s.pins := by
  simp [deriveBlocks, restartScan, deriveLeaves, startLpu, deriveBolts, deriveRoad, viewDeck, startBzu]
theorem deriveBlocks_apu (s : State) : (deriveBlocks s).apu = { s.apu with record := s.startRecord } := by
  simp [deriveBlocks, restartScan, deriveLeaves, startLpu, deriveBolts, deriveRoad, viewDeck, startBzu]
theorem deriveBlocks_cl (s : State) :
    (deriveBlocks s).cl = { s.cl with latched := 0, framer := .hunt, gap := 0, reply := none } := by
  simp [deriveBlocks, restartScan, deriveLeaves, startLpu, deriveBolts, deriveRoad, viewDeck, startBzu]
theorem deriveBlocks_msu (s : State) : (deriveBlocks s).msu = { s.msu with listen := Listen.reset } := by
  simp [deriveBlocks, restartScan, deriveLeaves, startLpu, deriveBolts, deriveRoad, viewDeck, startBzu]
theorem deriveBlocks_csu (s : State) : (deriveBlocks s).csu = Csu.reset := by
  simp [deriveBlocks, restartScan, deriveLeaves, startLpu, deriveBolts, deriveRoad, viewDeck, startBzu]
theorem deriveBlocks_phu (s : State) : (deriveBlocks s).phu =
    { s.phu with counter := s.par pProvingDivisor, index := 0, proving := none, held := [] } := by
  simp [deriveBlocks, restartScan, deriveLeaves, startLpu, deriveBolts, deriveRoad, viewDeck, startBzu, State.par]

/-- Arms, zones and road derived, and the bolts and seats: where the leaf state is derived (R121). -/
def State.placed (s : State) : State := startLpu (deriveRoad s.rcs.flashA s.rcs.flashTicks (startBzu s))

theorem deriveBlocks_lmc (s : State) : (deriveBlocks s).lmc =
    { leaf := (s.placed.derivedLeaf s.msu.listen.lost).1, trip := (s.placed.derivedLeaf s.msu.listen.lost).2,
      motion := Motion.reset } := by
  simp only [deriveBlocks, restartScan, deriveLeaves]; rfl
theorem deriveBlocks_bzu (s : State) : (deriveBlocks s).bzu = s.placed.bzu := by
  simp only [deriveBlocks, restartScan, deriveLeaves]; rfl
theorem deriveBlocks_rcs (s : State) : (deriveBlocks s).rcs = s.placed.rcs := by
  simp only [deriveBlocks, restartScan, deriveLeaves]; rfl
theorem deriveBlocks_lpu (s : State) : (deriveBlocks s).lpu = s.placed.lpu := by
  simp only [deriveBlocks, restartScan, deriveLeaves]; rfl

theorem placed_arm (s : State) (a : Fin 8) : s.placed.arm a = s.startArm a := by
  show (Vector.ofFn s.startArm)[a] = _
  simp
theorem placed_zone (s : State) (z : Fin 6) : s.placed.zone z = s.startZone z := by
  show (Vector.ofFn s.startZone)[z] = _
  simp
theorem placed_bolt (s : State) (b : Fin 4) : s.placed.bolt b = s.derivedBolt b := by
  show (Vector.ofFn (State.derivedBolt _))[b] = _
  simp; rfl
theorem placed_road (s : State) : s.placed.rcs.road = if s.placed.allUp allArms then .opened else .unknown := rfl

/-- The state that two limits give, as R54's table reads by their agreement. -/
theorem stateOfLimits_state (u d : Bool) : (stateOfLimits u d).1 = if u = d then .stalled else if u then .up else .down := by
  cases u <;> cases d <;> rfl
theorem stateOfLimits_cause (u d : Bool) : (stateOfLimits u d).2 =
    if u = d then (if u then some .limitConflict else some .noLimit) else none := by
  cases u <;> cases d <;> rfl
theorem stateOfSwitches_state (d w : Bool) :
    (stateOfSwitches d w).1 = if d = w then .jammed else if d then .driven else .withdrawn := by
  cases d <;> cases w <;> rfl

/-- The leaf state as derived (R121). -/
theorem derivedLeaf_seated (s : State) (lost : Bool) :
    (s.derivedLeaf lost).1 = .seatedLocked ↔ s.bothSeated = true ∧ s.allDriven = true ∧ lost = false := by
  unfold State.derivedLeaf
  split
  · next h => simpa [and_assoc] using h
  · next h =>
    constructor
    · intro he; split at he <;> cases he
    · rintro ⟨h1, h2, h3⟩; simp [h1, h2, h3] at h

theorem derivedLeaf_seated_trip (s : State) (lost : Bool) (h : (s.derivedLeaf lost).1 = .seatedLocked) :
    (s.derivedLeaf lost).2 = none := by
  rw [State.derivedLeaf, if_pos]
  obtain ⟨h1, h2, h3⟩ := (derivedLeaf_seated s lost).mp h
  simp [h1, h2, h3]

/-- Off the seat the leaf state follows from the trip cause, and that from the conditions in their order (R115, R121). -/
theorem derivedLeaf_away (s : State) (lost : Bool) (h : (s.derivedLeaf lost).1 ≠ .seatedLocked) :
    (s.derivedLeaf lost).2 = s.derivedTrip lost ∧
    (s.derivedLeaf lost).1 = if s.derivedTrip lost = none then .halted else .tripped := by
  have hn : ¬(s.bothSeated && s.allDriven && !lost) = true := fun hp => by
    rw [State.derivedLeaf, if_pos hp] at h; exact h rfl
  rw [State.derivedLeaf, if_neg hn]
  cases s.derivedTrip lost <;> exact ⟨rfl, rfl⟩

theorem derivedTrip_none (s : State) (lost : Bool) :
    (if s.derivedTrip lost = none then LeafState.halted else .tripped) =
      if s.pins.estop || s.leafZoneOccupied || lost then .tripped else .halted := by
  unfold State.derivedTrip
  cases s.pins.estop <;> cases s.leafZoneOccupied <;> cases lost <;> rfl

/-! ### The periods of the listen that have not ended (note 44) -/

/-- The latched set at the end of start-up is of no account. -/
theorem deriveBlocks_latched (s : State) (x : Half) :
    deriveBlocks { s with cl := { s.cl with latched := x } } = deriveBlocks s := rfl

/-- Nothing is told during start-up (R136). -/
theorem tellDisagree_quiet {a b : LeafAngle} {u : State} (h : u.running = false) : tellDisagree a b u = u := by
  unfold tellDisagree; rw [h]; simp

/-- A period that ends in start-up measures, and tells nobody. -/
theorem after_period_startup (h : s.tb.phase = .startup) (r : Vector EncoderReply 4) :
    ∃ x, hearPeriod r s = { s with
      cl := { s.cl with latched := x }
      msu := { s.msu.period true (s.par pEncoderTolerance) r with heard := true } } := by
  have hm : s.measuring = true := by simp [State.measuring, h]
  have hr : s.running = false := by simp [State.running, h]
  have hper : s.msu.period (decide (s.tb.phase = .startup)) (s.par pEncoderTolerance) r =
      s.msu.period true (s.par pEncoderTolerance) r := by rw [decide_eq_true h]
  have latched (p : Bool) (u : State) : ∃ x, latchIf p .position u = { u with cl := { u.cl with latched := x } } := by
    cases p
    · exact ⟨u.cl.latched, rfl⟩
    · exact ⟨_, rfl⟩
  obtain ⟨x, hx⟩ := latched (s.msu.positionEvent (s.msu.period true (s.par pEncoderTolerance) r))
    (s.onMsu fun _ => s.msu.period true (s.par pEncoderTolerance) r)
  refine ⟨x, ?_⟩
  unfold hearPeriod encoderPeriod
  rw [if_pos hm, if_pos hm, hper]
  dsimp only
  rw [hx, tellDisagree_quiet (u := { s.onMsu _ with cl := _ }) hr, tellDisagree_quiet (u := { s.onMsu _ with cl := _ }) hr]
  rfl

theorem Msu.period_heard (m : Msu) (b : Bool) (tol : Nat) (r : Vector EncoderReply 4) : (m.period b tol r).heard = m.heard := by
  unfold Msu.period Msu.countListen
  repeat' split
  all_goals rfl

/-- Settles O20: the periods that are missing end silent, and each block is derived from the inputs. -/
theorem startupEndDerives : Obligations.StartupEndDerives := by
  intro s
  have hexec (u : State) (h : u.tb.phase = .startup) : exec .startupEnd u = .next (completeStartup u) :=
    congrArg Host.Outcome.next (if_pos h)
  refine ⟨fun h => congrArg Host.Outcome.next (if_neg h), fun h hp => ?_, fun h => ⟨_, hexec s h, rfl⟩, fun h hp => ?_⟩
  · obtain ⟨x, hx⟩ := after_period_startup h silentLines
    have hafter : s.after (.encoderPeriodEnd .silent .silent .silent .silent) = hearPeriod silentLines s := rfl
    rw [hafter, hx, hexec s h]
    refine Eq.trans ?_ (hexec { s with
      cl := { s.cl with latched := x }
      msu := { s.msu.period true (s.par pEncoderTolerance) silentLines with heard := s.msu.heard } } h).symm
    refine congrArg Host.Outcome.next ?_
    have hm : ({ s.msu.period true (s.par pEncoderTolerance) silentLines with heard := s.msu.heard } : Msu) =
        s.msu.period true (s.par pEncoderTolerance) silentLines := by
      rw [← Msu.period_heard s.msu true (s.par pEncoderTolerance) silentLines]
    show deriveBlocks (listened s) = deriveBlocks { listened s with
      cl := { s.cl with latched := x }
      msu := ({ s.msu.period true (s.par pEncoderTolerance) silentLines with heard := s.msu.heard } : Msu).finishListen
        (s.par pEncoderTolerance) }
    rw [hm, Msu.finishListen_silent hp]
    exact (deriveBlocks_latched (listened s) x).symm
  · have hc : completeStartup s = deriveBlocks s := by unfold completeStartup; rw [listened_over hp]
    refine ⟨deriveBlocks s, (hexec s h).trans (congrArg _ hc), deriveBlocks_tb s, deriveBlocks_pins s,
      (congrArg Apu.table (deriveBlocks_apu s)).trans rfl, congrArg Link.latched (deriveBlocks_cl s),
      congrArg Link.reply (deriveBlocks_cl s), congrArg Link.framer (deriveBlocks_cl s),
      congrArg Apu.record (deriveBlocks_apu s), fun a => ?_, fun z => ?_, ?_, fun b => ?_, ?_, fun hl => ?_, ?_, fun d => ?_,
      congrArg Csu.sealed (deriveBlocks_csu s), congrArg Phu.counter (deriveBlocks_phu s),
      congrArg Phu.index (deriveBlocks_phu s)⟩
    · rw [State.arm, deriveBlocks_bzu, ← State.arm, placed_arm]
      exact ⟨stateOfLimits_state _ _, stateOfLimits_cause _ _, rfl, rfl, rfl⟩
    · rw [State.zone, deriveBlocks_bzu, ← State.zone, placed_zone]
      exact ⟨rfl, rfl, rfl, rfl⟩
    · have hu : (deriveBlocks s).allUp allArms = s.placed.allUp allArms := by
        unfold State.allUp State.arm; rw [deriveBlocks_bzu]
      rw [deriveBlocks_rcs, hu]; exact placed_road s
    · rw [State.bolt, deriveBlocks_lpu, ← State.bolt, placed_bolt]
      exact stateOfSwitches_state _ _
    · have hs : (deriveBlocks s).bothSeated = s.placed.bothSeated := by simp only [State.bothSeated, deriveBlocks_lpu]
      have hd : (deriveBlocks s).allDriven = s.placed.allDriven := by
        unfold State.allDriven State.bolt; rw [deriveBlocks_lpu]
      rw [deriveBlocks_lmc, hs, hd]; exact derivedLeaf_seated s.placed s.msu.listen.lost
    · have hz : (deriveBlocks s).leafZoneOccupied = s.placed.leafZoneOccupied := by
        simp only [State.leafZoneOccupied, State.zone, deriveBlocks_bzu]
      rw [deriveBlocks_lmc] at hl ⊢
      rw [hz]
      obtain ⟨h1, h2⟩ := derivedLeaf_away s.placed s.msu.listen.lost hl
      exact ⟨h2.trans (derivedTrip_none _ _), h1⟩
    · rw [deriveBlocks_msu]
    · rw [State.aspect, deriveBlocks_csu]; cases d <;> rfl

end Sys2Proof.Machine
end

section
/-! PROOFS. What the shared operations on the vessel table, the queues and the call list leave (spec/08, spec/09), and the
soft reset (spec/02 section 2.4). -/

namespace Sys2Proof.Machine

variable {s t : State}

/-! ### One entry of the vessel table (R138, R139) -/

theorem vessel_setSlot (k j : Fin 32) (v : Option Vessel) (s : State) :
    (setSlot k v s).vessel j = if j = k then v else s.vessel j := by
  by_cases h : j = k
  · subst h; simp [setSlot, State.vessel, State.onVt]
  · simp [setSlot, State.vessel, State.onVt, Fin.val_inj, Ne.symm h, h]

theorem vessel_onVessel (k j : Fin 32) (f : Vessel → Vessel) (s : State) :
    (s.onVessel k f).vessel j = if j = k then (s.vessel j).map f else s.vessel j := by
  unfold State.onVessel
  split
  · next v hv =>
    rw [vessel_setSlot]
    by_cases h : j = k
    · subst h; simp [hv]
    · simp [h]
  · next hv =>
    by_cases h : j = k
    · subst h; simp [hv]
    · simp [h]

theorem onVessel_eq (k : Fin 32) (f : Vessel → Vessel) (s : State) :
    s.onVessel k f = { s with vt := { s.vt with slots := (s.onVessel k f).vt.slots } } := by
  unfold State.onVessel; split <;> rfl

theorem vessel_setVesselState (k j : Fin 32) (st : VesselState) (s : State) :
    (setVesselState k st s).vessel j = if j = k then (s.vessel j).map (fun v => { v with state := st }) else s.vessel j :=
  vessel_onVessel k j _ s

theorem setVesselState_eq (k : Fin 32) (st : VesselState) (s : State) :
    setVesselState k st s = { s with vt := { s.vt with slots := (setVesselState k st s).vt.slots } } := onVessel_eq k _ s

@[simp] theorem setVesselState_psc (k : Fin 32) (st : VesselState) (s : State) : (setVesselState k st s).psc = s.psc := by
  rw [setVesselState_eq]
@[simp] theorem setVesselState_queue (k : Fin 32) (st : VesselState) (s : State) (q : Fin 8) :
    (setVesselState k st s).queue q = s.queue q := by
  unfold State.queue; rw [setVesselState_psc]

/-! ### Items returned (R168) -/

/-- A list of items holds a CALLED one of slot `k`. -/
def holdsCalled (l : List Item) (k : Fin 32) : Bool := l.any fun i => decide (i.slot = k) && decide (i.outcome = .called)

/-- A queue entry whose mark is cleared where its slot's item is returned. -/
def QueueEntry.returned (l : List Item) (e : QueueEntry) : QueueEntry :=
  if holdsCalled l e.slot then { e with called := false } else e

/-- An item RETURNED where a list holds a CALLED one of its slot. -/
def Item.returned (l : List Item) (i : Item) : Item :=
  if i.outcome = .called ∧ holdsCalled l i.slot then { i with outcome := .returned } else i

@[simp] theorem holdsCalled_nil (k : Fin 32) : holdsCalled [] k = false := rfl
theorem holdsCalled_cons (i : Item) (l : List Item) (k : Fin 32) :
    holdsCalled (i :: l) k = (decide (i.slot = k ∧ i.outcome = .called) || holdsCalled l k) := by
  simp [holdsCalled]

@[simp] theorem QueueEntry.returned_nil : QueueEntry.returned [] = id := rfl
@[simp] theorem Item.returned_nil : Item.returned [] = id := by
  funext i; simp [Item.returned]

theorem QueueEntry.returned_single (i : Item) (e : QueueEntry) : e.returned [i] =
    if i.outcome = .called then (if e.slot = i.slot then { e with called := false } else e) else e := by
  by_cases h : e.slot = i.slot <;> by_cases ho : i.outcome = .called <;>
    simp [QueueEntry.returned, holdsCalled_cons, eq_comm (a := i.slot), h, ho]

theorem QueueEntry.returned_cons (i : Item) (l : List Item) :
    QueueEntry.returned (i :: l) = QueueEntry.returned l ∘ QueueEntry.returned [i] := by
  funext e
  by_cases h : i.slot = e.slot ∧ i.outcome = .called <;> by_cases hl : holdsCalled l e.slot = true <;>
    simp [QueueEntry.returned, holdsCalled_cons, h, hl]

theorem Item.returned_cons (i : Item) (l : List Item) : Item.returned (i :: l) = Item.returned l ∘ Item.returned [i] := by
  funext j
  by_cases hj : j.outcome = .called
  · by_cases h : i.slot = j.slot ∧ i.outcome = .called <;> by_cases hl : holdsCalled l j.slot = true <;>
      simp [Item.returned, holdsCalled_cons, h, hl, hj]
  · simp [Item.returned, hj]

/-- What the return of a list of items leaves. -/
structure ReturnsItems (l : List Item) (s t : State) : Prop where
  vessel : ∀ k, t.vessel k = if holdsCalled l k then (s.vessel k).map (fun v => { v with state := .waiting }) else s.vessel k
  queue : ∀ q, t.queue q = (s.queue q).map (QueueEntry.returned l)
  batch : t.psc.batch = { s.psc.batch with items := s.psc.batch.items.map (Item.returned l) }
  rest : t = { s with
    vt := { s.vt with slots := t.vt.slots }, psc := { s.psc with queues := t.psc.queues, batch := t.psc.batch } }

theorem returnItem_vessel (i : Item) (s : State) (k : Fin 32) : (returnItem s i).vessel k =
    if i.slot = k ∧ i.outcome = .called then (s.vessel k).map (fun v => { v with state := .waiting }) else s.vessel k := by
  unfold returnItem
  by_cases ho : i.outcome = .called
  · rw [if_pos ho]
    show (setVesselState i.slot .waiting (markCalled i.slot false s)).vessel k = _
    rw [vessel_setVesselState]
    simp [ho, eq_comm, markCalled, State.vessel]
  · simp [ho]

theorem returnItem_queue (i : Item) (s : State) (q : Fin 8) :
    (returnItem s i).queue q = (s.queue q).map (QueueEntry.returned [i]) := by
  unfold returnItem
  by_cases ho : i.outcome = .called
  · rw [if_pos ho]
    show (setVesselState i.slot .waiting (markCalled i.slot false s)).queue q = _
    rw [setVesselState_queue, queue_markCalled, funext (QueueEntry.returned_single i)]
    simp only [ho, if_true]
  · rw [if_neg ho, funext (QueueEntry.returned_single i)]
    simp [ho]

theorem returnItem_batch (i : Item) (s : State) : (returnItem s i).psc.batch = { s.psc.batch with
    items := s.psc.batch.items.map (Item.returned [i]) } := by
  unfold returnItem
  by_cases ho : i.outcome = .called
  · rw [if_pos ho]
    show ({ (setVesselState i.slot .waiting (markCalled i.slot false s)).psc.batch with items := _ } : Batch) = _
    rw [setVesselState_psc]
    simp [markCalled, State.onPsc, Item.returned, holdsCalled, ho, and_comm, eq_comm]
  · rw [if_neg ho]
    have : Item.returned [i] = id := by funext j; simp [Item.returned, holdsCalled, ho]
    simp [this]

theorem returnItem_rest (i : Item) (s : State) : returnItem s i = { s with
    vt := { s.vt with slots := (returnItem s i).vt.slots }
    psc := { s.psc with queues := (returnItem s i).psc.queues, batch := (returnItem s i).psc.batch } } := by
  unfold returnItem
  split
  · show setOutcome _ _ (setVesselState _ _ _) = _
    rw [setVesselState_eq]; rfl
  · rfl

theorem foldl_returnItem (l : List Item) (s : State) : ReturnsItems l s (l.foldl returnItem s) := by
  induction l generalizing s with
  | nil => exact ⟨fun k => rfl, fun q => by simp, by simp, rfl⟩
  | cons i l ih =>
    obtain ⟨hv, hq, hb, hr⟩ := ih (returnItem s i)
    rw [List.foldl_cons]
    refine ⟨fun k => ?_, fun q => ?_, ?_, ?_⟩
    · rw [hv, returnItem_vessel, holdsCalled_cons]
      by_cases h1 : holdsCalled l k = true <;> by_cases h2 : i.slot = k ∧ i.outcome = .called <;> simp [h1, h2, Function.comp_def]
    · rw [hq, returnItem_queue, List.map_map, QueueEntry.returned_cons i l]
    · rw [hb, returnItem_batch, List.map_map, Item.returned_cons i l]
    · rw [hr, returnItem_rest]

/-- What the return of the CALLED items leaves (R168). -/
theorem returnItems_spec (s : State) :
    let called := s.psc.batch.items.filter fun i => decide (i.outcome = .called)
    ∃ t, ReturnsItems s.psc.batch.items s t ∧
      returnItems s = { t with psc := { t.psc with batch := { t.psc.batch with remaining := called.length } } } :=
  ⟨_, foldl_returnItem s.psc.batch.items s, rfl⟩

/-- Among its own items each CALLED one is RETURNED. -/
theorem Item.returned_own {l : List Item} {i : Item} (h : i ∈ l) :
    i.returned l = if i.outcome = .called then { i with outcome := .returned } else i := by
  unfold Item.returned
  by_cases ho : i.outcome = .called
  · have : holdsCalled l i.slot = true := List.any_eq_true.mpr ⟨i, h, by simp [ho]⟩
    simp [ho, this]
  · simp [ho]

/-! ### The soft reset block by block (R38, R39) -/

/-- The state in which the last marks are judged: everything derived, the channel and the scan begun anew. -/
def State.softBegun (s : State) : State := restartScan (softCsu (softPsc (softDerived s)))

theorem takeSoftReset_eq (s : State) : takeSoftReset s =
    (softReview s.softBegun).onCl fun l => { l with latched := 0, framer := .hunt, gap := 0 } := rfl

/-- The scheduler's part touches the vessel table, the queues and the batch alone. -/
theorem softPsc_rest (s : State) : softPsc s = { s with
    vt := { s.vt with slots := (softPsc s).vt.slots }
    psc := { s.psc with queues := (softPsc s).psc.queues, batch := (softPsc s).psc.batch } } := by
  obtain ⟨t, ht, hr⟩ := returnItems_spec s
  unfold softPsc
  dsimp only
  split
  · rw [hr, ht.rest]; rfl
  · rw [hr, ht.rest]; rfl
  all_goals rfl

theorem softBegun_rest (s : State) : s.softBegun = { softDerived s with
    vt := { s.vt with slots := s.softBegun.vt.slots }
    psc := { s.psc with queues := s.softBegun.psc.queues, batch := s.softBegun.psc.batch }
    csu := s.softBegun.csu
    phu := { s.phu with counter := (softDerived s).par pProvingDivisor, index := 0, proving := none, held := [] } } := by
  have h := softPsc_rest (softDerived s)
  unfold State.softBegun restartScan softCsu
  generalize softPsc (softDerived s) = u at h ⊢
  rw [h]
  simp only [State.onCsu, State.onPhu, softDerived_vt, softDerived_psc, softDerived_phu]
  rfl

/-- The batch of the soft reset (R173). -/
theorem softPsc_open (s : State) (h : s.psc.batch.state = .formed ∨ s.psc.batch.state = .running) :
    (∀ k, (softPsc s).vessel k = if holdsCalled s.psc.batch.items k then
      (s.vessel k).map (fun v => { v with state := .waiting }) else s.vessel k) ∧
    (∀ q, (softPsc s).queue q = (s.queue q).map (QueueEntry.returned s.psc.batch.items)) ∧
    (softPsc s).psc.batch = { s.psc.batch with
      state := .closed, closedAt := some s.tb.seconds
      items := s.psc.batch.items.map (Item.returned s.psc.batch.items)
      remaining := (s.psc.batch.items.filter fun i => decide (i.outcome = .called)).length } := by
  obtain ⟨t, ht, hr⟩ := returnItems_spec s
  have e : softPsc s = (returnItems s).onBatch fun b => { b with state := .closed, closedAt := some s.tb.seconds } := by
    unfold softPsc; rcases h with h | h <;> rw [h]
  rw [e, hr]
  refine ⟨ht.vessel, ht.queue, ?_⟩
  simp only [State.onBatch, State.onPsc, ht.batch]

theorem softPsc_closing (s : State) (h : s.psc.batch.state = .closing) :
    softPsc s = s.onBatch fun b => { b with state := .closed, closedAt := some s.tb.seconds } := by
  unfold softPsc; rw [h]
theorem softPsc_shut (s : State) (h : s.psc.batch.state = .none ∨ s.psc.batch.state = .closed) : softPsc s = s := by
  unfold softPsc; rcases h with h | h <;> rw [h]

theorem softPsc_state (s : State) : (softPsc s).psc.batch.state = if s.psc.batch.state = .none then .none else .closed := by
  cases h : s.psc.batch.state
  case none => rw [softPsc_shut s (.inl h)]; exact h
  case closed => rw [softPsc_shut s (.inr h)]; exact h
  case closing => rw [softPsc_closing s h]; rfl
  case formed => rw [(softPsc_open s (.inl h)).2.2]; rfl
  case running => rw [(softPsc_open s (.inr h)).2.2]; rfl

theorem latchIf_eq (p : Bool) (c : Condition) (s : State) : latchIf p c s =
    { s with cl := { s.cl with latched := if p then s.cl.latched ||| c.bit else s.cl.latched } } := by
  cases p <;> rfl

/-- The wind record as a changed factor or limit leaves it (R130, R134). -/
def State.rejudged (s : State) : Wind :=
  ({ s.msu.wind with w := s.msu.wind.value (s.par pAnemoFactor) } : Wind).judge (s.par pDerateLimit) (s.par pStopLimit)

theorem windWritten_atRest (h : s.lmc.leaf = .seatedLocked ∨ s.lmc.leaf = .halted ∨ s.lmc.leaf = .tripped) :
    ∃ x, windWritten s = { s with cl := { s.cl with latched := x }, msu := { s.msu with wind := s.rejudged } } := by
  unfold windWritten recomputeWind judgeWind
  dsimp only
  rw [latchIf_eq]
  split
  · exact ⟨_, reportWind_rests (by exact h)⟩
  · exact ⟨_, rfl⟩

theorem reviewTide_eq (s : State) : ∃ x, reviewTide s = { s with
    cl := { s.cl with latched := x }
    psc := { s.psc with tide := { s.psc.tide with stale := s.tideStaleNow } } } := by
  unfold reviewTide; rw [latchIf_eq]; exact ⟨_, rfl⟩

/-- What is judged anew after the reload, the leaves at rest (R96, R134, R159, R200). -/
theorem softReview_eq (h : s.lmc.leaf = .seatedLocked ∨ s.lmc.leaf = .halted ∨ s.lmc.leaf = .tripped) :
    ∃ x y, softReview s = { s with
      cl := { s.cl with latched := x }
      lpu := { s.lpu with standby := if s.standbyCondition then s.freshStandby else none }
      msu := { s.msu with wind := s.rejudged }
      psc := { s.psc with tide := { s.psc.tide with stale := s.tideStaleNow } }
      phu := { s.phu with health := y } } ∧ ∀ n : Fin 12, y[n] = s.marked n := by
  obtain ⟨x, hx⟩ := windWritten_atRest
    (s := s.onLpu fun l => { l with standby := if s.standbyCondition then s.freshStandby else none }) h
  obtain ⟨y, hy⟩ := reviewTide_eq (windWritten
    (s.onLpu fun l => { l with standby := if s.standbyCondition then s.freshStandby else none }))
  refine ⟨y, (softReview s).phu.health, ?_, fun n => ?_⟩
  · have e : softReview s = allActuators.foldl markWorn (reviewTide (windWritten
        (s.onLpu fun l => { l with standby := if s.standbyCondition then s.freshStandby else none }))) := rfl
    conv_lhs => rw [e, markWorns_rest, ← e, hy, hx]
    rfl
  · show (allActuators.foldl markWorn (reviewTide (windWritten
        (s.onLpu fun l => { l with standby := if s.standbyCondition then s.freshStandby else none })))).phu.health[n] = _
    rw [markWorns_all, hy, hx]
    rfl

/-- The state that the soft reset leaves, in terms of its beginning. -/
theorem takeSoftReset_fields (s : State) : ∃ y, takeSoftReset s = { s.softBegun with
      cl := { s.softBegun.cl with latched := 0, framer := .hunt, gap := 0 }
      lpu := { s.softBegun.lpu with
        standby := if s.softBegun.standbyCondition then s.softBegun.freshStandby else none }
      msu := { s.msu with wind := s.softBegun.rejudged }
      psc := { s.softBegun.psc with tide := { s.psc.tide with stale := s.softBegun.tideStaleNow } }
      phu := { s.softBegun.phu with health := y } } ∧ ∀ n : Fin 12, y[n] = s.softBegun.marked n := by
  have hr := softBegun_rest s
  have hl : s.softBegun.lmc = (softDerived s).lmc := by rw [hr]
  have hm : s.softBegun.msu = s.msu := by rw [hr]; exact softDerived_msu s
  have hp : s.softBegun.psc.tide = s.psc.tide := by rw [hr]
  obtain ⟨x, y, hx, hy⟩ := softReview_eq (s := s.softBegun) (by rw [hl]; exact softDerived_rests s)
  refine ⟨y, ?_, hy⟩
  rw [takeSoftReset_eq, hx, hm, hp]
  rfl

/-! ### The blocks as the soft reset derives them (R60, R79, R96, R121, R122, R187) -/

/-- Where the leaf state is derived: the arms, the road and the bolts are. -/
def State.softPlaced (s : State) : State := deriveBolts (softRcs s.flashOn (softBzu (softApu s)))

theorem softPlaced_rcs (s : State) : s.softPlaced.rcs =
    (deriveRoad (if s.flashOn then s.rcs.flashA else true) (if s.flashOn then s.rcs.flashTicks else 0)
      (softBzu (softApu s))).rcs := by
  unfold State.softPlaced softRcs deriveBolts
  cases s.flashOn <;> rfl
theorem softPlaced_bzu (s : State) : s.softPlaced.bzu = (softBzu s).bzu := by
  unfold State.softPlaced softRcs deriveBolts; split <;> rfl
theorem softPlaced_pins (s : State) : s.softPlaced.pins = s.pins := by
  unfold State.softPlaced softRcs deriveBolts; split <;> rfl
theorem softPlaced_lpu (s : State) :
    s.softPlaced.lpu = { s.lpu with bolts := Vector.ofFn s.derivedBolt, seqKind := .none } := by
  unfold State.softPlaced softRcs deriveBolts; split <;> rfl

theorem softPlaced_allUp (s : State) : s.softPlaced.rcs.road = if s.softPlaced.allUp allArms then .opened else .unknown := by
  unfold State.allUp State.arm
  rw [softPlaced_rcs, softPlaced_bzu]
  rfl

theorem softDerived_rcs (s : State) : (softDerived s).rcs = s.softPlaced.rcs := rfl
theorem softDerived_lpu (s : State) : (softDerived s).lpu = s.softPlaced.lpu := rfl
theorem softDerived_lmc (s : State) : (softDerived s).lmc =
    { leaf := (s.softPlaced.derivedLeaf s.positionLost).1, trip := (s.softPlaced.derivedLeaf s.positionLost).2,
      motion := s.lmc.motion.softReset } := rfl

theorem softBegun_csu (s : State) : s.softBegun.csu = { Csu.reset with
    violations := s.csu.violations
    horn := if s.aspect .seaward = .go ∨ s.aspect .landward = .go then 500 else s.csu.horn } := by
  have h : (softPsc (softDerived s)).csu = s.csu := by rw [softPsc_rest]; exact softDerived_csu s
  show ({ Csu.reset with horn := if (softPsc (softDerived s)).goShown then tenths 50 else (softPsc (softDerived s)).csu.horn
                         violations := (softPsc (softDerived s)).csu.violations } : Csu) = _
  unfold State.goShown State.aspect
  rw [h]
  by_cases h1 : s.csu.aspects.get .seaward = .go <;> by_cases h2 : s.csu.aspects.get .landward = .go <;>
    simp [h1, h2, tenths]

theorem softBegun_psc (s : State) : s.softBegun.psc = (softPsc (softDerived s)).psc := rfl
theorem softBegun_vt (s : State) : s.softBegun.vt = (softPsc (softDerived s)).vt := rfl

/-- The standby condition once no batch is open (R94). -/
theorem softBegun_standby (s : State) : s.softBegun.standbyCondition = true ↔
    (softDerived s).lmc.leaf = .seatedLocked ∧ (s.pump .north).state = .ready ∧ (s.pump .south).state = .ready := by
  have hb : s.softBegun.psc.batch.state ≠ .formed ∧ s.softBegun.psc.batch.state ≠ .running := by
    rw [softBegun_psc, softPsc_state]; split <;> simp
  have hp (g : Leaf) : s.softBegun.pump g = s.pump g := by
    unfold State.pump; rw [softBegun_rest]
    show s.softPlaced.lpu.pumps.get g = _
    rw [softPlaced_lpu]
  have hl : s.softBegun.lmc.leaf = (softDerived s).lmc.leaf := by rw [softBegun_rest]
  simp [State.standbyCondition, State.bothReady, hb.1, hb.2, hp, hl]

theorem wornCondition_congr {n : Fin 12} (ht : t.apu.table = s.apu.table)
    (hv : t.phu.health[n].value = s.phu.health[n].value) : t.wornCondition n = s.wornCondition n := by
  unfold State.wornCondition State.par; rw [ht, hv]


theorem live_iff : s.batchLive = true ↔ s.psc.batch.state = .formed ∨ s.psc.batch.state = .running := by
  simp [State.batchLive]

theorem holdsCalled_iff {l : List Item} {k : Fin 32} :
    holdsCalled l k = true ↔ ∃ i ∈ l, i.slot = k ∧ i.outcome = .called := by simp [holdsCalled]

/-- The reloaded table (R39). -/
theorem reloadTable_valid {a : Apu} {v : Vector Nat 64} {k : Half} (h : a.storeStatus = .valid) (hi : a.store = .image v k) :
    reloadTable a = { a with table := v, modified := false } := by unfold reloadTable; rw [h, hi]
theorem reloadTable_other {a : Apu} (h : a.storeStatus ≠ .valid) : reloadTable a = { a with modified := true } := by
  unfold reloadTable; split
  · next h' _ => exact absurd h' h
  · rfl
theorem reloadTable_kept (a : Apu) : ∃ v m, reloadTable a = { a with table := v, modified := m } := by
  unfold reloadTable; split
  · exact ⟨_, _, rfl⟩
  · exact ⟨a.table, _, rfl⟩

/-- A batch that is not open is not returned (R173). -/
theorem softPsc_settled (h : ¬(s.psc.batch.state = .formed ∨ s.psc.batch.state = .running)) :
    (∀ k, (softPsc s).vessel k = s.vessel k) ∧ ∀ q, (softPsc s).queue q = s.queue q := by
  cases hb : s.psc.batch.state
  case none => rw [softPsc_shut s (.inl hb)]; exact ⟨fun _ => rfl, fun _ => rfl⟩
  case closed => rw [softPsc_shut s (.inr hb)]; exact ⟨fun _ => rfl, fun _ => rfl⟩
  case closing => rw [softPsc_closing s hb]; exact ⟨fun _ => rfl, fun _ => rfl⟩
  case formed => exact absurd (.inl hb) h
  case running => exact absurd (.inr hb) h

/-- Settles O21: the state is taken apart block by block as `takeSoftReset_fields` gives it. -/
theorem softResetReloads : Obligations.SoftResetReloads := by
  intro s
  refine ⟨fun h => congrArg Host.Outcome.next (if_neg (by simp [h])), fun h => ?_⟩
  obtain ⟨y, ht, hy⟩ := takeSoftReset_fields s
  have hrun : s.tb.phase = .run := by
    simp only [State.softResetDue, Bool.and_eq_true] at h; exact running_iff.mp h.1.1.1
  obtain ⟨v, m, hre⟩ := reloadTable_kept s.apu
  have hB := softBegun_rest s
  have hapuB : s.softBegun.apu = { reloadTable s.apu with level := .view, restart := false } := by
    rw [hB]; exact softDerived_apu s
  have hmsuB : s.softBegun.msu = s.msu := by rw [hB]; exact softDerived_msu s
  have hphuB : s.softBegun.phu = { s.phu with
      counter := (softDerived s).par pProvingDivisor, index := 0, proving := none, held := [] } := by rw [hB]
  have hpscB : s.softBegun.psc = { s.psc with queues := s.softBegun.psc.queues, batch := s.softBegun.psc.batch } := by
    conv_lhs => rw [hB]
  have hvtB : s.softBegun.vt = { s.vt with slots := s.softBegun.vt.slots } := by
    conv_lhs => rw [hB]
  generalize hu : takeSoftReset s = u at ht
  refine ⟨u, (congrArg Host.Outcome.next (if_pos h)).trans (congrArg _ hu), ?_⟩
  have htb : u.tb = s.tb := by rw [ht, hB]; exact softDerived_tb s
  have hpins : u.pins = s.pins := by rw [ht, hB]; exact softDerived_pins s
  have hapu : u.apu = { reloadTable s.apu with level := .view, restart := false } := by rw [ht]; exact hapuB
  have hpar (i : Fin 64) : s.softBegun.par i = u.par i := by unfold State.par; rw [ht]
  have hcl : u.cl = { s.cl with mask := BitVec.ofNat 16 (u.par pMask), latched := 0, framer := .hunt, gap := 0 } := by
    rw [← hpar, ht]
    show ({ s.softBegun.cl with latched := 0, framer := .hunt, gap := 0 } : Link) = _
    have : s.softBegun.cl = { s.cl with mask := BitVec.ofNat 16 (s.softBegun.par pMask) } := by
      unfold State.par; rw [hapuB, hB]; exact softDerived_cl s
    rw [this]
  have hbzu : u.bzu = (softBzu s).bzu := by rw [ht, hB]; exact softDerived_bzu s
  have hrcs : u.rcs = s.softPlaced.rcs := by rw [ht, hB]; rfl
  have hlpu : u.lpu = { s.lpu with
      bolts := Vector.ofFn s.derivedBolt, seqKind := .none
      standby := if s.softBegun.standbyCondition then s.softBegun.freshStandby else none } := by
    have : s.softBegun.lpu = { s.lpu with bolts := Vector.ofFn s.derivedBolt, seqKind := .none } := by
      rw [hB]; exact softPlaced_lpu s
    rw [ht]
    show ({ s.softBegun.lpu with standby := _ } : Lpu) = _
    rw [this]
  have hlmc : u.lmc = { leaf := (s.softPlaced.derivedLeaf s.positionLost).1
                        trip := (s.softPlaced.derivedLeaf s.positionLost).2, motion := s.lmc.motion.softReset } := by
    rw [ht, hB]; rfl
  have hmsu : u.msu = { s.msu with wind := s.softBegun.rejudged } := by rw [ht]
  have hvt : u.vt = s.softBegun.vt := by rw [ht]
  have hpsc : u.psc = { s.softBegun.psc with tide := { s.psc.tide with stale := s.softBegun.tideStaleNow } } := by rw [ht]
  have hcsu : u.csu = s.softBegun.csu := by rw [ht]
  have hcsu' := hcsu.trans (softBegun_csu s)
  have hphu : u.phu = { s.softBegun.phu with health := y } := by rw [ht]
  have hallUp : u.allUp allArms = s.softPlaced.allUp allArms := by
    unfold State.allUp State.arm; rw [hbzu, softPlaced_bzu]
  have harm (a : Fin 8) : u.arm a = s.softArm a := by
    unfold State.arm; rw [hbzu]; simp [softBzu, State.onBzu]
  have hbolt (b : Fin 4) : u.bolt b = s.derivedBolt b := by unfold State.bolt; rw [hlpu]; simp
  have hzone (z : Fin 6) : u.zone z = (s.zone z).softReset := by
    unfold State.zone; rw [hbzu]; simp [softBzu, State.onBzu]
  have hseated : s.softPlaced.bothSeated = s.bothSeated := by unfold State.bothSeated; rw [softPlaced_lpu]
  have hdriven : s.softPlaced.allDriven = u.allDriven := by
    unfold State.allDriven State.bolt; rw [softPlaced_lpu, hlpu]
  have hleafZone : s.softPlaced.leafZoneOccupied = u.leafZoneOccupied := by
    unfold State.leafZoneOccupied State.zone; rw [softPlaced_bzu, hbzu]
  have hstale : s.softBegun.tideStaleNow = u.tideStaleNow := by
    rw [ht]
    unfold State.tideStaleNow
    rw [hpscB]; rfl
  have hhealth (n : Fin 12) : u.phu.health[n] = { s.phu.health[n] with worn := u.wornCondition n } := by
    have hv : y[n] = { s.phu.health[n] with worn := s.softBegun.wornCondition n } := by
      rw [hy, State.marked, hphuB]
    have hw : u.wornCondition n = s.softBegun.wornCondition n :=
      wornCondition_congr (by rw [hapu, hapuB]) (by rw [hphu]; simp only; rw [hv, hphuB])
    rw [hw, ← hv, hphu]
  have hbatch : u.psc.batch = (softPsc (softDerived s)).psc.batch := by rw [hpsc]; rfl
  have hvessel (k : Fin 32) : u.vessel k = (softPsc (softDerived s)).vessel k := by unfold State.vessel; rw [hvt]; rfl
  have hqueue (q : Fin 8) : u.queue q = (softPsc (softDerived s)).queue q := by unfold State.queue; rw [hpsc]; rfl
  have hpscD : (softDerived s).psc = s.psc := softDerived_psc s
  have hvesselD (k : Fin 32) : (softDerived s).vessel k = s.vessel k := by unfold State.vessel; rw [softDerived_vt]
  have hqueueD (q : Fin 8) : (softDerived s).queue q = s.queue q := by unfold State.queue; rw [hpscD]
  have hstill (l : Leaf) : (u.lmc.motion.leaves.get l).reference = 0 := by rw [hlmc]; cases l <;> rfl
  refine ⟨htb, hpins, by rw [hcl], by rw [hcl], by rw [hcl], by rw [hcl], by rw [hapu], by rw [hapu], by rw [hapu, hre],
    by rw [hapu, hre], by rw [hapu, hre], by rw [hapu, hre], by rw [hapu, hre], by rw [hapu, hre],
    fun w k hs hi => ?_, fun hs => ?_, fun a ha => ?_, fun a ha => ?_, fun b => ?_, fun z => ?_, ?_, fun d => ?_, ?_, ?_, hstill,
    fun n => by rw [hhealth], ?_, fun a ha => ?_, fun b => ?_, by rw [hlpu], ?_, by rw [hmsu], by rw [hmsu], by rw [hmsu], ?_,
    ⟨fun k => ?_, by rw [hvt, hvtB], by rw [hvt, hvtB], by rw [hvt, hvtB], fun q => ?_, ?_, ?_, fun hl => ?_, fun hc => ?_,
      fun hn => ?_⟩, by rw [hlpu], by rw [hlpu], ?_, ?_, fun hl => ?_, fun hl => ?_, by rw [hlmc]; rfl, ?_, ?_, ?_, ?_, ?_, ?_,
    ?_, ?_, ?_, ?_, ?_, ?_, hhealth⟩
  · rw [hapu, reloadTable_valid hs hi]; exact ⟨rfl, rfl⟩
  · rw [hapu, reloadTable_other (by rw [hs]; decide)]; exact ⟨rfl, rfl⟩
  · rw [harm, State.softArm, if_pos ha]
  · rw [harm, State.softArm, if_neg ha]; exact stateOfLimits_state _ _
  · rw [hbolt]; exact stateOfSwitches_state _ _
  · rw [hzone]; exact ⟨rfl, rfl, rfl⟩
  · rw [hrcs, hallUp]; exact softPlaced_allUp s
  · unfold State.aspect; rw [hcsu, softBegun_csu]; cases d <;> rfl
  · rw [hcsu, softBegun_csu]
  · rw [hbatch, softPsc_state, hpscD]
  · rw [hcl]
  · rw [harm, State.softArm, if_neg ha]; exact ⟨rfl, rfl, rfl, rfl, rfl⟩
  · rw [hbolt]; rfl
  · rw [hrcs, softPlaced_rcs]
    show (if s.flashOn then s.rcs.flashA else true) = _
    simp only [State.flashOn, hrun]
    by_cases hr : s.rcs.road = .opened <;> simp [hr]
  · rw [hmsu]
    show s.softBegun.rejudged = _
    unfold State.rejudged
    rw [hmsuB, hpar, hpar, hpar]
    rfl
  · rw [hvessel, ← hvesselD]
    by_cases hl : (softDerived s).psc.batch.state = .formed ∨ (softDerived s).psc.batch.state = .running
    · rw [(softPsc_open _ hl).1, hpscD]
      rw [hpscD] at hl
      by_cases hk : holdsCalled s.psc.batch.items k = true
      · rw [if_pos hk]
        exact ⟨fun _ => rfl, fun hn => absurd ⟨hl, holdsCalled_iff.mp hk⟩ hn⟩
      · rw [if_neg hk]
        exact ⟨fun hb => absurd (holdsCalled_iff.mpr hb.2) hk, fun _ => rfl⟩
    · rw [(softPsc_settled hl).1]
      rw [hpscD] at hl
      exact ⟨fun hb => absurd hb.1 hl, fun _ => rfl⟩
  · rw [hqueue, ← hqueueD]
    by_cases hl : (softDerived s).psc.batch.state = .formed ∨ (softDerived s).psc.batch.state = .running
    · rw [(softPsc_open _ hl).2.1, hpscD, show s.batchLive = true from live_iff.mpr (hpscD ▸ hl)]
      refine List.map_congr_left fun e _ => ?_
      simp [QueueEntry.returned, holdsCalled]
    · rw [(softPsc_settled hl).2, show s.batchLive = false from by
        rw [hpscD] at hl; exact Bool.eq_false_iff.mpr fun h => hl (live_iff.mp h)]
      simp
  · rw [hpsc, hpscB]
  · rw [hpsc, hstale]
  · have hmap : s.psc.batch.items.map (Item.returned s.psc.batch.items) = s.psc.batch.items.map fun i =>
        if i.outcome = .called then { i with outcome := .returned } else i :=
      List.map_congr_left fun i hi => Item.returned_own hi
    rw [hbatch, (softPsc_open _ (hpscD.symm ▸ hl)).2.2, hpscD, softDerived_tb, hmap]
  · rw [hbatch, softPsc_closing _ (hpscD.symm ▸ hc)]
    simp only [State.onBatch, State.onPsc, hpscD, softDerived_tb]
  · rw [hbatch, softPsc_shut _ (hpscD.symm ▸ hn), hpscD]
  · have hruns : s.softBegun.standbyCondition = true ↔ u.lmc.leaf = .seatedLocked ∧
        (s.pump .north).state = .ready ∧ (s.pump .south).state = .ready := by rw [hlmc]; exact softBegun_standby s
    have hper : s.softBegun.freshStandby = if u.par pStandby = 0 then none else some 0 := by
      unfold State.freshStandby; rw [hpar]
    rw [hlpu]
    exact ⟨fun hr => by rw [← hper]; exact if_pos (hruns.mpr hr), fun hr => if_neg fun hc => hr (hruns.mp hc)⟩
  · rw [hlmc, ← hseated, ← hdriven]; exact derivedLeaf_seated _ _
  · rw [hlmc] at hl ⊢; exact derivedLeaf_seated_trip _ _ hl
  · rw [hlmc] at hl ⊢
    obtain ⟨h2, h1⟩ := derivedLeaf_away _ _ hl
    refine ⟨?_, ?_⟩
    · show (s.softPlaced.derivedLeaf s.positionLost).2 = _
      rw [h2, State.derivedTrip, hleafZone, softPlaced_pins]
    · show (s.softPlaced.derivedLeaf s.positionLost).1 = if (s.softPlaced.derivedLeaf s.positionLost).2 = none then _ else _
      rw [h1, h2]
  · rw [hlmc]; rfl
  · exact hcsu'
  · exact congrArg Csu.sealTimer hcsu'
  · exact congrArg Csu.sealed hcsu'
  · exact congrArg Csu.batchNumber hcsu'
  · exact congrArg Csu.window hcsu'
  · exact congrArg Csu.changeover hcsu'
  all_goals rw [hphu, hphuB]
  unfold State.par
  rw [hapu, ← hapuB, hB]

end Sys2Proof.Machine
end

section
/-! PROOFS. What the operations of the locks, the pumps and the leaves leave (spec/05, spec/06), and the leaf requests. -/

namespace Sys2Proof.Machine

variable {s t : State}

/-! ### A bolt's stroke as it starts (R81) -/

/-- Bolt `b` as the start of a stroke leaves it. -/
def State.boltStarted (s : State) (way : BoltWay) (b : Fin 4) : Bolt :=
  let opposite := match way with
    | .withdraw => s.pins.boltDriven[b]
    | .drive => s.pins.boltWithdrawn[b]
  let r := (s.bolt b).begin way (isCentre b && decide (way = .drive)) opposite (s.worn (boltActuator b)) (s.par pBoltNominal)
  if s.apu.restart then s.bolt b
  else if s.pins.estop then { r with state := .jammed, cause := some .estop, restTimer := none }
  else if s.pins.boltDriven[b] && s.pins.boltWithdrawn[b] then
    { r with state := .jammed, cause := some .switchConflict, restTimer := none }
  else r

/-- What a step that touches the bolts and the latched conditions alone leaves. -/
def BoltsOnly (s t : State) : Prop := t = { s with
  cl := { s.cl with latched := t.cl.latched }, lpu := { s.lpu with bolts := t.lpu.bolts } }

theorem BoltsOnly.refl (s : State) : BoltsOnly s s := rfl
theorem BoltsOnly.trans {u : State} (h : BoltsOnly s t) (k : BoltsOnly t u) : BoltsOnly s u := by
  unfold BoltsOnly at *; rw [k, h]

theorem jamBolt_bolt (b k : Fin 4) (c : BoltCause) (s : State) : (jamBolt b c s).bolt k =
    if k = b then { s.bolt b with state := .jammed, cause := some c, restTimer := none } else s.bolt k := by
  show (s.onBolt b fun r => { r with state := .jammed, cause := some c, restTimer := none }).bolt k = _
  by_cases h : k = b
  · subst h; rw [bolt_onBolt_self, if_pos rfl]
  · rw [bolt_onBolt_ne _ h, if_neg h]
theorem jamBolt_only (b : Fin 4) (c : BoltCause) (s : State) : BoltsOnly s (jamBolt b c s) := rfl

theorem startBolt_bolt (b k : Fin 4) (way : BoltWay) (s : State) :
    (startBolt b way s).bolt k = if k = b then s.boltStarted way b else s.bolt k := by
  by_cases hk : k = b
  · subst hk
    rw [if_pos rfl]
    unfold startBolt State.boltStarted
    dsimp only
    split
    · rfl
    · split
      · rw [jamBolt_bolt, if_pos rfl, bolt_onBolt_self] <;> rfl
      · split
        · rw [jamBolt_bolt, if_pos rfl, bolt_onBolt_self] <;> rfl
        · exact bolt_onBolt_self _ _ _
  · rw [if_neg hk]
    unfold startBolt
    dsimp only
    split
    · rfl
    · split
      · rw [jamBolt_bolt, if_neg hk, bolt_onBolt_ne _ hk]
      · split
        · rw [jamBolt_bolt, if_neg hk, bolt_onBolt_ne _ hk]
        · exact bolt_onBolt_ne _ hk _

theorem startBolt_only (b : Fin 4) (way : BoltWay) (s : State) : BoltsOnly s (startBolt b way s) := by
  unfold startBolt
  dsimp only
  split
  · rfl
  · split
    · rfl
    · split <;> rfl

theorem startBolt_quiet (b : Fin 4) (way : BoltWay) (he : s.pins.estop = false)
    (hc : ¬(s.pins.boltDriven[b] = true ∧ s.pins.boltWithdrawn[b] = true)) : (startBolt b way s).cl = s.cl := by
  unfold startBolt
  dsimp only
  split
  · rfl
  · rw [if_neg (by simp [he]), if_neg (by simpa using hc)]; rfl

theorem boltCommanded_eq (way : BoltWay) (b : Fin 4) (s : State) : s.boltCommanded way b =
    match way, (s.bolt b).state with
    | .withdraw, .withdrawing => s.bolt b
    | .withdraw, .withdrawn => s.bolt b
    | .drive, .driving => s.bolt b
    | .drive, .driven => s.bolt b
    | _, _ => s.boltStarted way b := by
  unfold State.boltCommanded
  cases way <;> cases h : (s.bolt b).state <;> simp [startBolt_bolt]

theorem commandBolt_bolt (way : BoltWay) (b k : Fin 4) (s : State) :
    (commandBolt way s b).bolt k = if k = b then s.boltCommanded way b else s.bolt k := by
  rw [boltCommanded_eq]
  unfold commandBolt
  cases way <;> cases h : (s.bolt b).state <;>
    simp only [startBolt_bolt] <;> (split <;> simp_all)

theorem commandBolt_only (way : BoltWay) (b : Fin 4) (s : State) : BoltsOnly s (commandBolt way s b) := by
  unfold commandBolt
  split
  all_goals first | exact startBolt_only _ _ _ | exact .refl _

/-- A bolt's stroke depends on its own record, the table, the RESTART, the inputs and the health records alone. -/
theorem boltStarted_congr {way : BoltWay} {b : Fin 4} (hb : t.bolt b = s.bolt b) (ha : t.apu = s.apu) (hp : t.pins = s.pins)
    (hh : t.phu.health = s.phu.health) : t.boltStarted way b = s.boltStarted way b := by
  unfold State.boltStarted State.worn State.par
  rw [hb, ha, hp, hh]
theorem boltCommanded_congr {way : BoltWay} {b : Fin 4} (hb : t.bolt b = s.bolt b) (ha : t.apu = s.apu) (hp : t.pins = s.pins)
    (hh : t.phu.health = s.phu.health) : t.boltCommanded way b = s.boltCommanded way b := by
  rw [boltCommanded_eq, boltCommanded_eq, hb, boltStarted_congr hb ha hp hh]

theorem BoltsOnly.apu (h : BoltsOnly s t) : t.apu = s.apu := by rw [h]
theorem BoltsOnly.pins (h : BoltsOnly s t) : t.pins = s.pins := by rw [h]
theorem BoltsOnly.phu (h : BoltsOnly s t) : t.phu = s.phu := by rw [h]
theorem BoltsOnly.lmc (h : BoltsOnly s t) : t.lmc = s.lmc := by rw [h]
theorem BoltsOnly.seqKind (h : BoltsOnly s t) : t.lpu.seqKind = s.lpu.seqKind := by rw [h]
theorem BoltsOnly.seqStep (h : BoltsOnly s t) : t.lpu.seqStep = s.lpu.seqStep := by rw [h]

theorem commandBolts_only (way : BoltWay) (l : List (Fin 4)) (s : State) : BoltsOnly s (l.foldl (commandBolt way) s) := by
  induction l generalizing s with
  | nil => exact .refl s
  | cons b l ih => exact (commandBolt_only way b s).trans (ih _)

/-- A list of commands gives each bolt of the list its own command. -/
theorem commandBolts_bolt (way : BoltWay) (l : List (Fin 4)) (hn : l.Nodup) (k : Fin 4) (s : State) :
    (l.foldl (commandBolt way) s).bolt k = if k ∈ l then s.boltCommanded way k else s.bolt k := by
  induction l generalizing s with
  | nil => rfl
  | cons b l ih =>
    obtain ⟨hb, hl⟩ := List.nodup_cons.mp hn
    have hc := commandBolt_only way b s
    rw [List.foldl_cons, ih hl]
    by_cases h : k ∈ l
    · have hkb : k ≠ b := fun e => hb (e ▸ h)
      have hkeep : (commandBolt way s b).bolt k = s.bolt k := by rw [commandBolt_bolt, if_neg hkb]
      rw [if_pos h, if_pos (List.mem_cons_of_mem _ h),
        boltCommanded_congr hkeep hc.apu hc.pins (congrArg Phu.health hc.phu)]
    · rw [if_neg h, commandBolt_bolt]
      by_cases hkb : k = b
      · subst hkb; simp
      · simp [hkb, h]

/-- A commanded bolt stands at the end position of the command exactly where it stood there before. -/
theorem boltCommanded_withdrawn (b : Fin 4) (s : State) :
    (s.boltCommanded .withdraw b).state = .withdrawn ↔ (s.bolt b).state = .withdrawn := by
  rw [boltCommanded_eq]
  unfold State.boltStarted Bolt.begin
  cases h : (s.bolt b).state <;> simp only [h, iff_self, reduceCtorEq, iff_false] <;>
    (repeat' split) <;> simp [h]
theorem boltCommanded_driven (b : Fin 4) (s : State) :
    (s.boltCommanded .drive b).state = .driven ↔ (s.bolt b).state = .driven := by
  rw [boltCommanded_eq]
  unfold State.boltStarted Bolt.begin
  cases h : (s.bolt b).state <;> simp only [h, iff_self, reduceCtorEq, iff_false] <;>
    (repeat' split) <;> simp [h]

/-! ### The sequence (R86, R87) -/

/-- What a step of the sequence leaves: the bolts, the sequence record and the latched conditions alone change. -/
def SequenceOnly (s t : State) : Prop := t = { s with
  cl := { s.cl with latched := t.cl.latched }
  lpu := { s.lpu with bolts := t.lpu.bolts, seqKind := t.lpu.seqKind, seqStep := t.lpu.seqStep } }

theorem SequenceOnly.refl (s : State) : SequenceOnly s s := rfl
theorem SequenceOnly.trans {u : State} (h : SequenceOnly s t) (k : SequenceOnly t u) : SequenceOnly s u := by
  unfold SequenceOnly at *; rw [k, h]
theorem SequenceOnly.set (k : SeqKind) (p : SeqStep) (s : State) : SequenceOnly s (setSequence k p s) := rfl
theorem SequenceOnly.cancel (s : State) : SequenceOnly s (cancelSequence s) := rfl
theorem BoltsOnly.sequence (h : BoltsOnly s t) : SequenceOnly s t := by
  unfold BoltsOnly at h; unfold SequenceOnly; rw [h]

theorem SequenceOnly.apu (h : SequenceOnly s t) : t.apu = s.apu := by rw [h]
theorem SequenceOnly.pins (h : SequenceOnly s t) : t.pins = s.pins := by rw [h]
theorem SequenceOnly.phu (h : SequenceOnly s t) : t.phu = s.phu := by rw [h]
theorem SequenceOnly.lmc (h : SequenceOnly s t) : t.lmc = s.lmc := by rw [h]
theorem SequenceOnly.rcs (h : SequenceOnly s t) : t.rcs = s.rcs := by rw [h]
theorem SequenceOnly.msu (h : SequenceOnly s t) : t.msu = s.msu := by rw [h]
theorem SequenceOnly.seats (h : SequenceOnly s t) : t.lpu.seats = s.lpu.seats := by rw [h]
theorem SequenceOnly.pumps (h : SequenceOnly s t) : t.lpu.pumps = s.lpu.pumps := by rw [h]
theorem SequenceOnly.standby (h : SequenceOnly s t) : t.lpu.standby = s.lpu.standby := by rw [h]

theorem allWithdrawn_iff : s.allWithdrawn = true ↔ ∀ b : Fin 4, (s.bolt b).state = .withdrawn := by
  simp [State.allWithdrawn, allBolts, Fin.forall_fin_succ]
theorem allDriven_iff : s.allDriven = true ↔ ∀ b : Fin 4, (s.bolt b).state = .driven := by
  simp [State.allDriven, allBolts, Fin.forall_fin_succ]

/-- The first step test of the withdraw sequence is met (R87). -/
def State.heelDue (s : State) : Prop :=
  s.lpu.seqKind = .withdraw ∧ s.lpu.seqStep = .centre ∧ (s.bolt 0).state = .withdrawn ∧ (s.bolt 1).state = .withdrawn
/-- The first step test of the drive sequence is met (R87). -/
def State.centreDue (s : State) : Prop :=
  s.lpu.seqKind = .drive ∧ s.lpu.seqStep = .heel ∧ (s.bolt 2).state = .driven ∧ (s.bolt 3).state = .driven

/-- A sequence step: the commands of a pair of bolts under a new step. -/
theorem sequenceStep (way : BoltWay) (k : SeqKind) (p : SeqStep) (l : List (Fin 4)) (hn : l.Nodup) (s : State) :
    let t := l.foldl (commandBolt way) (setSequence k p s)
    SequenceOnly s t ∧ (∀ b, t.bolt b = if b ∈ l then s.boltCommanded way b else s.bolt b) ∧ t.lpu.seqKind = k ∧
      t.lpu.seqStep = p := by
  have h := commandBolts_only way l (setSequence k p s)
  refine ⟨(SequenceOnly.set k p s).trans h.sequence, fun b => ?_, h.seqKind, h.seqStep⟩
  rw [commandBolts_bolt way l hn b, show (setSequence k p s).boltCommanded way b = s.boltCommanded way b from
    boltCommanded_congr rfl rfl rfl rfl]
  rfl

theorem mem_heels : ∀ b : Fin 4, b ∈ ([2, 3] : List (Fin 4)) ↔ 2 ≤ b.val := by decide
theorem mem_centres : ∀ b : Fin 4, b ∈ ([0, 1] : List (Fin 4)) ↔ b.val < 2 := by decide

theorem withdrawHeelStep_due (h : s.heelDue) :
    SequenceOnly s (withdrawHeelStep s) ∧
      (∀ b, (withdrawHeelStep s).bolt b = if 2 ≤ b.val then s.boltCommanded .withdraw b else s.bolt b) ∧
      (withdrawHeelStep s).lpu.seqKind = .withdraw ∧ (withdrawHeelStep s).lpu.seqStep = .heel := by
  obtain ⟨hk, hs, h0, h1⟩ := h
  have e : withdrawHeelStep s = [2, 3].foldl (commandBolt .withdraw) (setSequence .withdraw .heel s) :=
    if_pos ⟨hk, hs, by simp [State.pairIs, h0, h1]⟩
  rw [e]
  obtain ⟨ho, hb, hrest⟩ := sequenceStep .withdraw .withdraw .heel [2, 3] (by decide) s
  refine ⟨ho, fun b => ?_, hrest⟩
  rw [hb]; exact if_congr (mem_heels b) rfl rfl

theorem withdrawHeelStep_not (h : ¬s.heelDue) : withdrawHeelStep s = s :=
  if_neg fun ⟨hk, hs, hp⟩ => h ⟨hk, hs, by simpa [State.pairIs] using hp⟩

theorem driveCentreStep_due (h : s.centreDue) :
    SequenceOnly s (driveCentreStep s) ∧
      (∀ b, (driveCentreStep s).bolt b = if b.val < 2 then s.boltCommanded .drive b else s.bolt b) ∧
      (driveCentreStep s).lpu.seqKind = .drive ∧ (driveCentreStep s).lpu.seqStep = .centre := by
  obtain ⟨hk, hs, h2, h3⟩ := h
  have e : driveCentreStep s = [0, 1].foldl (commandBolt .drive) (setSequence .drive .centre s) :=
    if_pos ⟨hk, hs, by simp [State.pairIs, h2, h3]⟩
  rw [e]
  obtain ⟨ho, hb, hrest⟩ := sequenceStep .drive .drive .centre [0, 1] (by decide) s
  refine ⟨ho, fun b => ?_, hrest⟩
  rw [hb]; exact if_congr (mem_centres b) rfl rfl

theorem driveCentreStep_not (h : ¬s.centreDue) : driveCentreStep s = s :=
  if_neg fun ⟨hk, hs, hp⟩ => h ⟨hk, hs, by simpa [State.pairIs] using hp⟩

/-- What the step tests leave of the bolts and the sequence record. -/
structure Advances (s t : State) : Prop where
  only : SequenceOnly s t
  heel : s.heelDue → (∀ b, t.bolt b = if 2 ≤ b.val then s.boltCommanded .withdraw b else s.bolt b) ∧ t.lpu.seqStep = .heel
  centre : s.centreDue → (∀ b, t.bolt b = if b.val < 2 then s.boltCommanded .drive b else s.bolt b) ∧ t.lpu.seqStep = .centre
  stays : ¬s.heelDue → ¬s.centreDue → (∀ b, t.bolt b = s.bolt b) ∧ t.lpu.seqStep = s.lpu.seqStep
  kind : t.lpu.seqKind =
    if (s.lpu.seqKind = .withdraw ∧ s.allWithdrawn = true) ∨ (s.lpu.seqKind = .drive ∧ s.allDriven = true) then .none
    else s.lpu.seqKind

/-- The final test ends the sequence at its end position; it changes no more. -/
theorem endSequence_eq (s : State) : endSequence s = s.onLpu fun l => { l with seqKind :=
    if (l.seqKind = .withdraw ∧ l.seqStep = .heel ∧ s.allWithdrawn) ∨ (l.seqKind = .drive ∧ l.seqStep = .centre ∧ s.allDriven)
    then .none else l.seqKind } := by
  unfold endSequence
  split
  · next h => unfold cancelSequence State.onLpu; simp only [if_pos h]
  · next h => unfold State.onLpu; simp only [if_neg h]

theorem advanceSequence_heel (h : s.heelDue) :
    advanceSequence s = endSequence (withdrawHeelStep s) := by
  unfold advanceSequence
  rw [driveCentreStep_not]
  rintro ⟨hk, -⟩
  rw [(withdrawHeelStep_due h).2.2.1] at hk
  cases hk

theorem advanceSequence_other (h : ¬s.heelDue) : advanceSequence s = endSequence (driveCentreStep s) := by
  unfold advanceSequence; rw [withdrawHeelStep_not h]

theorem allWithdrawn_congr (h : ∀ b, (t.bolt b).state = .withdrawn ↔ (s.bolt b).state = .withdrawn) :
    t.allWithdrawn = s.allWithdrawn := by
  rw [Bool.eq_iff_iff, allWithdrawn_iff, allWithdrawn_iff]; exact forall_congr' h
theorem allDriven_congr (h : ∀ b, (t.bolt b).state = .driven ↔ (s.bolt b).state = .driven) : t.allDriven = s.allDriven := by
  rw [Bool.eq_iff_iff, allDriven_iff, allDriven_iff]; exact forall_congr' h

theorem advanceSequence_spec (s : State) : Advances s (advanceSequence s) := by
  by_cases hh : s.heelDue
  · obtain ⟨ho, hb, hk, hp⟩ := withdrawHeelStep_due hh
    obtain ⟨hsk, -, -, -⟩ := id hh
    have hw : (withdrawHeelStep s).allWithdrawn = s.allWithdrawn := allWithdrawn_congr fun b => by
      rw [hb]; split
      · exact boltCommanded_withdrawn b s
      · rfl
    rw [advanceSequence_heel hh, endSequence_eq]
    refine ⟨ho.trans (by rfl), fun _ => ⟨hb, hp⟩, fun hc => ?_, fun hn => absurd hh hn, ?_⟩
    · rw [hc.1] at hsk; cases hsk
    · simp [hk, hp, hw, hsk]
  · rw [advanceSequence_other hh, endSequence_eq]
    by_cases hc : s.centreDue
    · obtain ⟨ho, hb, hk, hp⟩ := driveCentreStep_due hc
      obtain ⟨hsk, -, -, -⟩ := id hc
      have hd : (driveCentreStep s).allDriven = s.allDriven := allDriven_congr fun b => by
        rw [hb]; split
        · exact boltCommanded_driven b s
        · rfl
      refine ⟨ho.trans (by rfl), fun hn => absurd hn hh, fun _ => ⟨hb, hp⟩, fun _ hn => absurd hc hn, ?_⟩
      simp [hk, hp, hd, hsk]
    · rw [driveCentreStep_not hc]
      refine ⟨rfl, fun hn => absurd hn hh, fun hn => absurd hn hc, fun _ _ => ⟨fun _ => rfl, rfl⟩, ?_⟩
      have h1 : s.allWithdrawn = true → s.lpu.seqKind = .withdraw → s.lpu.seqStep = .heel := fun ha hk => by
        rw [allWithdrawn_iff] at ha
        cases hp : s.lpu.seqStep
        · exact absurd ⟨hk, hp, ha 0, ha 1⟩ hh
        · rfl
      have h2 : s.allDriven = true → s.lpu.seqKind = .drive → s.lpu.seqStep = .centre := fun ha hk => by
        rw [allDriven_iff] at ha
        cases hp : s.lpu.seqStep
        · rfl
        · exact absurd ⟨hk, hp, ha 2, ha 3⟩ hc
      refine if_congr (or_congr ?_ ?_) rfl rfl
      · exact ⟨fun ⟨a, _, c⟩ => ⟨a, c⟩, fun ⟨a, c⟩ => ⟨a, h1 c a, c⟩⟩
      · exact ⟨fun ⟨a, _, c⟩ => ⟨a, c⟩, fun ⟨a, c⟩ => ⟨a, h2 c a, c⟩⟩

theorem allWithdrawn_false (b : Fin 4) (h : (s.bolt b).state = .driven) : s.allWithdrawn = false :=
  Bool.eq_false_iff.mpr fun ha => by have := allWithdrawn_iff.mp ha b; rw [h] at this; cases this
theorem allDriven_false (b : Fin 4) (h : (s.bolt b).state = .withdrawn) : s.allDriven = false :=
  Bool.eq_false_iff.mpr fun ha => by have := allDriven_iff.mp ha b; rw [h] at this; cases this

/-- The step tests bring the four bolts to no end position and take them from none. -/
theorem Advances.allWithdrawn (h : Advances s t) : t.allWithdrawn = s.allWithdrawn := by
  by_cases hh : s.heelDue
  · refine allWithdrawn_congr fun b => ?_
    rw [(h.heel hh).1]; split
    · exact boltCommanded_withdrawn b s
    · rfl
  · by_cases hc : s.centreDue
    · rw [allWithdrawn_false 2 hc.2.2.1, allWithdrawn_false 2 (by rw [(h.centre hc).1]; exact hc.2.2.1)]
    · exact allWithdrawn_congr fun b => by rw [(h.stays hh hc).1]
theorem Advances.allDriven (h : Advances s t) : t.allDriven = s.allDriven := by
  by_cases hh : s.heelDue
  · rw [allDriven_false 0 hh.2.2.1, allDriven_false 0 (by rw [(h.heel hh).1]; exact hh.2.2.1)]
  · by_cases hc : s.centreDue
    · refine allDriven_congr fun b => ?_
      rw [(h.centre hc).1]; split
      · exact boltCommanded_driven b s
      · rfl
    · exact allDriven_congr fun b => by rw [(h.stays hh hc).1]

/-- What a call of the withdraw sequence leaves (R87). -/
structure CallsWithdraw (s t : State) : Prop where
  only : SequenceOnly s t
  centre : ∀ b : Fin 4, b.val < 2 → t.bolt b = s.boltCommanded .withdraw b
  heel : ∀ b : Fin 4, 2 ≤ b.val → t.bolt b =
    if (s.bolt 0).state = .withdrawn ∧ (s.bolt 1).state = .withdrawn then s.boltCommanded .withdraw b else s.bolt b
  kind : t.lpu.seqKind = if s.allWithdrawn then .none else .withdraw
  step : t.lpu.seqStep = if (s.bolt 0).state = .withdrawn ∧ (s.bolt 1).state = .withdrawn then .heel else .centre
  allWithdrawn : t.allWithdrawn = s.allWithdrawn

theorem callWithdraw_spec (s : State) : CallsWithdraw s (callWithdraw s) := by
  obtain ⟨ho, hb, hk, hp⟩ := sequenceStep .withdraw .withdraw .centre [0, 1] (by decide) s
  unfold callWithdraw
  generalize [0, 1].foldl (commandBolt .withdraw) (setSequence .withdraw .centre s) = u at *
  have ha := advanceSequence_spec u
  have hc : ¬u.centreDue := fun h => by rw [h.1] at hk; cases hk
  have hw (b : Fin 4) : (u.bolt b).state = .withdrawn ↔ (s.bolt b).state = .withdrawn := by
    rw [hb]; split
    · exact boltCommanded_withdrawn b s
    · rfl
  have hdue : u.heelDue ↔ (s.bolt 0).state = .withdrawn ∧ (s.bolt 1).state = .withdrawn := by
    unfold State.heelDue; rw [hw, hw]; exact ⟨fun h => h.2.2, fun h => ⟨hk, hp, h⟩⟩
  have hall : u.allWithdrawn = s.allWithdrawn := allWithdrawn_congr hw
  refine ⟨ho.trans ha.only, fun b h => ?_, fun b h => ?_, ?_, ?_, ha.allWithdrawn.trans hall⟩
  · have hub : u.bolt b = s.boltCommanded .withdraw b := by rw [hb, if_pos ((mem_centres b).mpr h)]
    by_cases hd : u.heelDue
    · rw [(ha.heel hd).1, if_neg (by omega), hub]
    · rw [(ha.stays hd hc).1, hub]
  · have hub : u.bolt b = s.bolt b := by rw [hb, if_neg fun m => absurd ((mem_centres b).mp m) (by omega)]
    by_cases hd : u.heelDue
    · rw [(ha.heel hd).1, if_pos h, if_pos (hdue.mp hd),
        boltCommanded_congr hub ho.apu ho.pins (congrArg Phu.health ho.phu)]
    · rw [(ha.stays hd hc).1, if_neg fun hn => hd (hdue.mpr hn), hub]
  · rw [ha.kind, hk, hall]; cases s.allWithdrawn <;> simp
  · by_cases hd : u.heelDue
    · rw [(ha.heel hd).2, if_pos (hdue.mp hd)]
    · rw [(ha.stays hd hc).2, hp, if_neg fun hn => hd (hdue.mpr hn)]

/-- What a call of the drive sequence leaves (R87). -/
structure CallsDrive (s t : State) : Prop where
  only : SequenceOnly s t
  heel : ∀ b : Fin 4, 2 ≤ b.val → t.bolt b = s.boltCommanded .drive b
  centre : ∀ b : Fin 4, b.val < 2 → t.bolt b =
    if (s.bolt 2).state = .driven ∧ (s.bolt 3).state = .driven then s.boltCommanded .drive b else s.bolt b
  kind : t.lpu.seqKind = if s.allDriven then .none else .drive
  step : t.lpu.seqStep = if (s.bolt 2).state = .driven ∧ (s.bolt 3).state = .driven then .centre else .heel
  allDriven : t.allDriven = s.allDriven

theorem callDrive_spec (s : State) : CallsDrive s (callDrive s) := by
  obtain ⟨ho, hb, hk, hp⟩ := sequenceStep .drive .drive .heel [2, 3] (by decide) s
  unfold callDrive
  generalize [2, 3].foldl (commandBolt .drive) (setSequence .drive .heel s) = u at *
  have ha := advanceSequence_spec u
  have hc : ¬u.heelDue := fun h => by rw [h.1] at hk; cases hk
  have hw (b : Fin 4) : (u.bolt b).state = .driven ↔ (s.bolt b).state = .driven := by
    rw [hb]; split
    · exact boltCommanded_driven b s
    · rfl
  have hdue : u.centreDue ↔ (s.bolt 2).state = .driven ∧ (s.bolt 3).state = .driven := by
    unfold State.centreDue; rw [hw, hw]; exact ⟨fun h => h.2.2, fun h => ⟨hk, hp, h⟩⟩
  have hall : u.allDriven = s.allDriven := allDriven_congr hw
  refine ⟨ho.trans ha.only, fun b h => ?_, fun b h => ?_, ?_, ?_, ha.allDriven.trans hall⟩
  · have hub : u.bolt b = s.boltCommanded .drive b := by rw [hb, if_pos ((mem_heels b).mpr h)]
    by_cases hd : u.centreDue
    · rw [(ha.centre hd).1, if_neg (by omega), hub]
    · rw [(ha.stays hc hd).1, hub]
  · have hub : u.bolt b = s.bolt b := by rw [hb, if_neg fun m => absurd ((mem_heels b).mp m) (by omega)]
    by_cases hd : u.centreDue
    · rw [(ha.centre hd).1, if_pos h, if_pos (hdue.mp hd),
        boltCommanded_congr hub ho.apu ho.pins (congrArg Phu.health ho.phu)]
    · rw [(ha.stays hc hd).1, if_neg fun hn => hd (hdue.mpr hn), hub]
  · rw [ha.kind, hk, hall]; cases s.allDriven <;> simp
  · by_cases hd : u.centreDue
    · rw [(ha.centre hd).2, if_pos (hdue.mp hd)]
    · rw [(ha.stays hc hd).2, hp, if_neg fun hn => hd (hdue.mpr hn)]

/-! ### The pump groups (R90) -/

/-- A start order to a group. -/
theorem orderPump_eq (g : Leaf) (s : State) : ∃ x, orderPump s g =
    { s with lpu := { s.lpu with pumps := s.lpu.pumps.set g (s.pumpOrdered g), standby := x } } ∧
      (s.lmc.leaf ≠ .seatedLocked → s.lpu.standby = none → x = none) := by
  unfold orderPump State.pumpOrdered
  split
  · next h =>
    unfold startPump
    by_cases hl : s.lmc.leaf = .seatedLocked
    · obtain ⟨x, hx⟩ := setPump_eq g (fun p => { p with
        state := .starting, limit := s.par pPumpLimit, limitElapsed := 0
        hold := if s.pins.pressure.get g then some 0 else none }) s
      exact ⟨x, hx, fun h => absurd hl h⟩
    · refine ⟨none, ?_, fun _ _ => rfl⟩
      unfold setPump
      rw [standbyEdge_off (by simp [State.standbyCondition, State.onPump, hl])]
      rfl
  · exact ⟨s.lpu.standby, by cases g <;> rfl, fun _ h => h⟩

/-- A start order to both groups. -/
theorem orderPumps_eq (s : State) : ∃ x, orderPumps s =
    { s with lpu := { s.lpu with pumps := ⟨s.pumpOrdered .north, s.pumpOrdered .south⟩, standby := x } } ∧
      (s.lmc.leaf ≠ .seatedLocked → s.lpu.standby = none → x = none) := by
  obtain ⟨x, hx, hs⟩ := orderPump_eq .north s
  obtain ⟨y, hy, ht⟩ := orderPump_eq .south (orderPump s .north)
  refine ⟨y, ?_, fun hl hn => ht ?_ ?_⟩
  · unfold orderPumps
    rw [hy, hx]
    rfl
  · rw [hx]; exact hl
  · rw [hx]; exact hs hl hn

theorem pumpOrdered_ready (s : State) (g : Leaf) : (s.pumpOrdered g).state = .ready ↔ (s.pump g).state = .ready := by
  unfold State.pumpOrdered
  split
  · next h => rw [h.1]; simp
  · rfl

theorem bothReady_iff : s.bothReady = true ↔ (s.pump .north).state = .ready ∧ (s.pump .south).state = .ready := by
  simp [State.bothReady]

/-- A latched condition, read as the spec's mask. -/
theorem mask_iff (x : Half) (i : Nat) : (x &&& BitVec.twoPow 16 i) ≠ 0 ↔ i < 16 ∧ x.getLsbD i = true := by
  rw [BitVec.and_twoPow]
  by_cases h : x.getLsbD i = true
  · have hi : i < 16 := BitVec.lt_of_getLsbD h
    have hne : BitVec.twoPow 16 i ≠ 0#16 := fun e => by
      have := congrArg (BitVec.getLsbD · i) e
      simp [hi] at this
    simp [h, hi, hne]
  · simp [h]

/-! ### RAISE (R99 to R101) -/

theorem raiseInterlock_code (s : State) : (raiseInterlock s).map Interlock.code =
    if s.rcs.road ≠ .secured then some 1
    else if s.apu.storeStatus ≠ .valid then some 15
    else if s.pins.estop then some 7
    else if !s.msu.wind.known then some 4
    else if s.par pStopLimit ≤ s.msu.wind.w then some 3
    else if s.leafZoneOccupied then some 16
    else if s.positionLost then some 5
    else if s.disagreeing then some 6
    else if s.pumpFault then some 8
    else if s.lockFault then some 9
    else none := by
  unfold raiseInterlock State.storeUnusable State.windAtStop
  simp only [apply_ite (Option.map Interlock.code), decide_eq_true_eq]
  rfl

/-- What an accepted raise needs of the interlocks: the road SECURED and the wind allowing it. -/
theorem raiseInterlock_none (h : raiseInterlock s = none) : s.rcs.road = .secured ∧ s.windAllows = true := by
  unfold raiseInterlock at h
  split at h
  · cases h
  · next hr =>
    refine ⟨of_not_not hr, ?_⟩
    repeat' split at h
    all_goals simp_all [State.windAllows]

/-- A raise before the passage out of UNLOCKING is tested: the motion begun, the bolts called, the pumps ordered. -/
structure RaiseBegun (s t : State) (src : TargetSource) (target : Nat) : Prop where
  leaves : t.lmc = { s.lmc with leaf := .unlocking, motion := s.motionRecord .raise src target }
  centre : ∀ b : Fin 4, b.val < 2 → t.bolt b = s.boltCommanded .withdraw b
  heel : ∀ b : Fin 4, 2 ≤ b.val → t.bolt b =
    if (s.bolt 0).state = .withdrawn ∧ (s.bolt 1).state = .withdrawn then s.boltCommanded .withdraw b else s.bolt b
  sequence : t.lpu.seqKind = if s.allWithdrawn then .none else .withdraw
  step : t.lpu.seqStep = if (s.bolt 0).state = .withdrawn ∧ (s.bolt 1).state = .withdrawn then .heel else .centre
  allWithdrawn : t.allWithdrawn = s.allWithdrawn
  pumps : ∀ g : Leaf, t.pump g = s.pumpOrdered g
  standby : t.lpu.standby = none
  latched : (t.cl.latched &&& 8) ≠ 0
  rest : { t with cl := s.cl, lpu := s.lpu, lmc := s.lmc } = s
  link : { t.cl with latched := s.cl.latched } = s.cl
  seats : t.lpu.seats = s.lpu.seats

/-- The leaf state's latched condition stays. -/
theorem Reach.leaf_latched {A : List Part} (h : Reach A s t) (hA : ∀ p ∈ atomsOf A, p ∉ ([.cleared, .trip, .fall, .lower, .turns] : List Part))
    (hs : (s.cl.latched &&& 8) ≠ 0) : (t.cl.latched &&& 8) ≠ 0 :=
  (mask_iff _ 3).mpr ⟨by decide, h.latched_stays hA ((mask_iff _ 3).mp hs).2⟩

theorem or_eight (x : Half) : ((x ||| 8) &&& 8) ≠ 0 := by
  refine (mask_iff _ 3).mpr ⟨by decide, ?_⟩
  simp


theorem beginRaise_begun (src : TargetSource) (target : Nat) (hl : s.lmc.leaf = .seatedLocked ∨ s.lmc.leaf = .halted) :
    RaiseBegun s (orderPumps (callWithdraw (setLeaf .unlocking (beginMotion .raise src target s)))) src target := by
  have hne : s.lmc.leaf ≠ .unlocking := by rcases hl with h | h <;> rw [h] <;> decide
  have h1 := setLeaf_away (s := beginMotion .raise src target s) (l := .unlocking) hne (by decide)
  generalize setLeaf .unlocking (beginMotion .raise src target s) = u at *
  obtain ⟨ho, hcentre, hheel, hkind, hstep, hall⟩ := callWithdraw_spec u
  have hlat := (callWithdraw_reach u).leaf_latched (by decide) (by rw [h1]; exact or_eight _)
  generalize callWithdraw u = v at *
  obtain ⟨x, hx, hs⟩ := orderPumps_eq v
  have hx0 : x = none := hs (by rw [ho.lmc, h1]; exact nofun) (by rw [ho.standby, h1])
  have hp (g : Leaf) : v.pumpOrdered g = s.pumpOrdered g := by
    unfold State.pumpOrdered State.pump State.par
    rw [ho.pumps, ho.pins, ho.apu, h1]; rfl
  have hu (b : Fin 4) : u.bolt b = s.bolt b := by rw [h1]; rfl
  have hcmd (b : Fin 4) : u.boltCommanded .withdraw b = s.boltCommanded .withdraw b :=
    boltCommanded_congr (hu b) (by rw [h1]; rfl) (by rw [h1]; rfl) (by rw [h1]; rfl)
  have huall : u.allWithdrawn = s.allWithdrawn := allWithdrawn_congr fun b => by rw [hu]
  simp only [hu, hcmd, huall] at hcentre hheel hkind hstep hall
  rw [hx]
  refine ⟨?_, hcentre, hheel, hkind, hstep, hall, fun g => ?_, hx0, hlat, ?_, ?_, ?_⟩
  · show v.lmc = _
    rw [ho.lmc, h1]; rfl
  · cases g
    · exact hp .north
    · exact hp .south
  · rw [ho, h1]; rfl
  · rw [ho, h1]; rfl
  · show v.lpu.seats = _
    rw [ho.seats, h1]; rfl

/-- What an accepted raise leaves. -/
theorem beginRaise_raises (src : TargetSource) (target : Nat) (hl : s.lmc.leaf = .seatedLocked ∨ s.lmc.leaf = .halted)
    (hi : raiseInterlock s = none) (hr : s.apu.restart = false) : (beginRaise src target s).raises s src target := by
  obtain ⟨hroad, hwind⟩ := raiseInterlock_none hi
  have h := beginRaise_begun src target hl
  unfold beginRaise
  generalize orderPumps (callWithdraw (setLeaf .unlocking (beginMotion .raise src target s))) = u at *
  have hready : u.bothReady = s.bothReady := by
    rw [Bool.eq_iff_iff, bothReady_iff, bothReady_iff, h.pumps, h.pumps, pumpOrdered_ready, pumpOrdered_ready]
  have hwu : u.windAllows = s.windAllows := by
    have : u.msu = s.msu ∧ u.apu = s.apu := ⟨by rw [← h.rest], by rw [← h.rest]⟩
    unfold State.windAllows State.windAtStop State.par; rw [this.1, this.2]
  have hru : u.apu.restart = false ∧ u.rcs.road = .secured := by rw [← h.rest] at hr hroad; exact ⟨hr, hroad⟩
  have hleaf : u.lmc.leaf = .unlocking := by rw [h.leaves]
  unfold testUnlocked
  by_cases hc : s.allWithdrawn = true ∧ s.bothReady = true
  · rw [if_pos ⟨hleaf, h.allWithdrawn.trans hc.1, hready.trans hc.2, hru.1⟩, hwu, hwind, if_neg (by simp), if_pos hru.2,
      setLeaf_away (by rw [hleaf]; decide) (by decide)]
    refine ⟨?_, h.pumps, h.centre, h.heel, h.sequence, h.step, rfl, or_eight _, h.rest, h.link, h.seats⟩
    rw [hc.1, hc.2, h.leaves]; rfl
  · rw [if_neg fun hn => hc ⟨h.allWithdrawn.symm.trans hn.2.1, hready.symm.trans hn.2.2.1⟩]
    refine ⟨?_, h.pumps, h.centre, h.heel, h.sequence, h.step, h.standby, h.latched, h.rest, h.link, h.seats⟩
    rw [h.leaves, if_neg (by simpa using hc)]

/-- Settles O35. -/
theorem raiseOutcomes : Obligations.RaiseOutcomes := by
  intro target s first
  have hfirst : first = (raiseInterlock s).map Interlock.code := (raiseInterlock_code s).symm
  rw [hfirst]
  have htakes : s.lmc.leaf = .seatedLocked ∨ s.lmc.leaf = .halted → ¬s.lmc.leaf.takesRaise = false := by
    rintro (h | h) <;> rw [h] <;> decide
  have hbars : s.lmc.leaf ≠ .seatedLocked → s.lmc.leaf ≠ .halted → s.lmc.leaf.takesRaise = false := fun h1 h2 => by
    simp [LeafState.takesRaise, h1, h2]
  have hshape {src : TargetSource} {n : Nat} (hl : s.lmc.leaf = .seatedLocked ∨ s.lmc.leaf = .halted)
      (hi : raiseInterlock s = none) (hr : s.apu.restart = false) :
      let t := beginRaise src n s
      t.raiseReply = be16 (BitVec.ofNat 16 n) ++ [BitVec.ofNat 8 t.lmc.leaf.code] ∧
        t.lmc.motion = s.motionRecord .raise src n ∧ (t.lmc.leaf = .unlocking ∨ t.lmc.leaf = .raising) := by
    have h := (beginRaise_raises src n hl hi hr).leaves
    refine ⟨?_, by rw [h], ?_⟩
    · unfold State.raiseReply; rw [show (beginRaise src n s).lmc.motion.target = n by rw [h]; rfl]; rfl
    · rw [h]; split <;> simp
  refine ⟨fun ha => ⟨fun h1 h2 => ?_, fun hl => ⟨fun hb => ?_, fun hb n hn => ?_, fun hb hn => ?_⟩⟩,
    fun ha => ⟨fun h1 h2 => ?_, fun hl => ⟨fun n hn => ?_, fun hn => ?_⟩⟩⟩
  · rw [exec_raise ha, raiseOp, if_pos (hbars h1 h2)]; rfl
  · rw [exec_raise ha, raiseOp, if_neg (htakes hl), if_pos hb]; rfl
  · obtain ⟨i, hi, rfl⟩ := Option.map_eq_some_iff.mp hn
    rw [exec_raise ha, raiseOp, if_neg (htakes hl), if_neg (by simpa using hb), hi]; rfl
  · have hi := Option.map_eq_none_iff.mp hn
    have hr := (taking_iff.mp ha.1).2.2
    obtain ⟨hreply, hmotion, hleaf⟩ := hshape (src := .batch) (n := min s.psc.batch.angle (s.par pTf)) hl hi hr
    refine ⟨beginRaise .batch (min s.psc.batch.angle (s.par pTf)) s, ?_, by rw [hmotion]; rfl, by rw [hmotion]; rfl,
      by rw [hmotion]; rfl, by rw [hmotion]; rfl, by rw [hmotion]; rfl, by rw [hmotion]; rfl, hleaf,
      beginRaise_raises _ _ hl hi hr⟩
    rw [exec_raise ha, raiseOp, if_neg (htakes hl), if_neg (by simpa using hb), hi, ← hreply]
  · rw [exec_raiseExplicit ha, raiseExplicitOp, if_pos (hbars h1 h2)]; rfl
  · obtain ⟨i, hi, rfl⟩ := Option.map_eq_some_iff.mp hn
    rw [exec_raiseExplicit ha, raiseExplicitOp, if_neg (htakes hl), hi]; rfl
  · have hi := Option.map_eq_none_iff.mp hn
    have hr := (taking_iff.mp ha.1).2.2
    obtain ⟨hreply, hmotion, hleaf⟩ := hshape (src := .explicit) (n := min (max target.toNat 500) (s.par pTf)) hl hi hr
    refine ⟨beginRaise .explicit (min (max target.toNat 500) (s.par pTf)) s, ?_, by rw [hmotion]; rfl,
      by rw [hmotion]; rfl, by rw [hmotion]; rfl, hleaf, beginRaise_raises _ _ hl hi hr⟩
    rw [exec_raiseExplicit ha, raiseExplicitOp, if_neg (htakes hl), hi, ← hreply]

end Sys2Proof.Machine
end

section
/-! PROOFS. What the channel jobs leave alone, and the requests of the leaves, the locks and the health records (spec/05, spec/06,
spec/11). -/

namespace Sys2Proof.Machine

variable {s t u : State}

/-! ### What the channel jobs leave to the other blocks (spec/08 to spec/10) -/

/-- A step of the channel jobs: beside the vessels, the queues, the batch and the signals only the standby timer and a
voided proving may change, and conditions be latched. -/
structure ChannelOnly (s t : State) : Prop where
  rest : t = { s with
    cl := { s.cl with latched := t.cl.latched }
    lpu := { s.lpu with standby := t.lpu.standby }
    vt := t.vt, psc := t.psc, csu := t.csu
    phu := { s.phu with proving := t.phu.proving } }
  latched : ∀ i, s.cl.latched.getLsbD i = true → t.cl.latched.getLsbD i = true

theorem ChannelOnly.refl (s : State) : ChannelOnly s s := ⟨rfl, fun _ h => h⟩
theorem ChannelOnly.trans (h : ChannelOnly s t) (k : ChannelOnly t u) : ChannelOnly s u :=
  ⟨by rw [k.rest, h.rest], fun i hi => k.latched i (h.latched i hi)⟩
/-- What is latched stays so, read as the spec's mask. -/
theorem ChannelOnly.mask (h : ChannelOnly s t) {i : Nat} (hs : (s.cl.latched &&& BitVec.twoPow 16 i) ≠ 0) :
    (t.cl.latched &&& BitVec.twoPow 16 i) ≠ 0 :=
  (mask_iff _ i).mpr ⟨((mask_iff _ i).mp hs).1, h.latched i ((mask_iff _ i).mp hs).2⟩

theorem ChannelOnly.lmc (h : ChannelOnly s t) : t.lmc = s.lmc := by rw [h.rest]
theorem ChannelOnly.apu (h : ChannelOnly s t) : t.apu = s.apu := by rw [h.rest]
theorem ChannelOnly.pins (h : ChannelOnly s t) : t.pins = s.pins := by rw [h.rest]
theorem ChannelOnly.tb (h : ChannelOnly s t) : t.tb = s.tb := by rw [h.rest]
theorem ChannelOnly.pumps (h : ChannelOnly s t) : t.lpu.pumps = s.lpu.pumps := by rw [h.rest]
theorem ChannelOnly.bolts (h : ChannelOnly s t) : t.lpu.bolts = s.lpu.bolts := by rw [h.rest]
theorem ChannelOnly.seats (h : ChannelOnly s t) : t.lpu.seats = s.lpu.seats := by rw [h.rest]
theorem ChannelOnly.seqKind (h : ChannelOnly s t) : t.lpu.seqKind = s.lpu.seqKind := by rw [h.rest]
theorem ChannelOnly.circuits (h : ChannelOnly s t) : t.phu.circuits = s.phu.circuits := by rw [h.rest]

theorem latch_only (c : Condition) (s : State) : ChannelOnly s (latch c s) :=
  ⟨rfl, fun i h => by show (s.cl.latched ||| c.bit).getLsbD i = true; rw [BitVec.getLsbD_or, h]; rfl⟩
theorem latchIf_only (p : Bool) (c : Condition) (s : State) : ChannelOnly s (latchIf p c s) := by
  cases p
  · exact .refl s
  · exact latch_only c s
theorem onCsu_only (f : Csu → Csu) (s : State) : ChannelOnly s (s.onCsu f) := ⟨rfl, fun _ h => h⟩
theorem onPsc_only (f : Psc → Psc) (s : State) : ChannelOnly s (s.onPsc f) := ⟨rfl, fun _ h => h⟩
theorem onVt_only (f : Vt → Vt) (s : State) : ChannelOnly s (s.onVt f) := ⟨rfl, fun _ h => h⟩
theorem onBatch_only (f : Batch → Batch) (s : State) : ChannelOnly s (s.onBatch f) := ⟨rfl, fun _ h => h⟩
theorem onTurn_only (d : Side) (f : SideTurn → SideTurn) (s : State) : ChannelOnly s (s.onTurn d f) := ⟨rfl, fun _ h => h⟩
theorem driveCsu_only (f : Csu → Csu) (s : State) : ChannelOnly s (s.driveCsu f) := by
  obtain ⟨p, hp⟩ := driveCsu_eq f s; rw [hp]; exact ⟨rfl, fun _ h => h⟩
theorem setAspect_only (d : Side) (a : Aspect) (s : State) : ChannelOnly s (setAspect d a s) := driveCsu_only _ s
theorem showStop_only (s : State) : ChannelOnly s (showStop s) := driveCsu_only _ s
theorem soundHorn_only (n : Nat) (s : State) : ChannelOnly s (soundHorn n s) := driveCsu_only _ s
theorem restartSeal_only (s : State) : ChannelOnly s (restartSeal s) := ⟨rfl, fun _ h => h⟩
theorem endGo_only (d : Side) (c : EndCause) (s : State) : ChannelOnly s (endGo d c s) := ⟨rfl, fun _ h => h⟩
theorem endPhase_only (r : TurnsResult) (s : State) : ChannelOnly s (endPhase r s) := ⟨rfl, fun _ h => h⟩
theorem turnBegun_only (s : State) : ChannelOnly s (turnBegun s) := ⟨rfl, fun _ h => h⟩
theorem setBatchState_only (b : BatchState) (s : State) : ChannelOnly s (setBatchState b s) := by
  have h : ChannelOnly s (standbyEdge s (s.onBatch fun r => { r with state := b })) := by
    obtain ⟨x, hx⟩ := standbyEdge_eq s (s.onBatch fun r => { r with state := b })
    rw [hx]; exact ⟨rfl, fun _ h => h⟩
  exact h.trans (latch_only _ _)
theorem closeBatch_only (s : State) : ChannelOnly s (closeBatch s) :=
  (setBatchState_only _ s).trans (onBatch_only _ _)
theorem returnItems_only (s : State) : ChannelOnly s (returnItems s) := by
  obtain ⟨r, hr, h⟩ := returnItems_spec s
  rw [h, hr.rest]; exact ⟨rfl, fun _ h => h⟩
theorem endTurn_only (d : Side) (c : EndCause) (s : State) : ChannelOnly s (endTurn d c s) :=
  (endGo_only d c s).trans <| (setAspect_only d _ _).trans <| (onCsu_only _ _).trans <|
    (restartSeal_only _).trans <| (setAspect_only _ _ _).trans (latch_only _ _)
theorem reviewItems_only (s : State) : ChannelOnly s (reviewItems s) := by
  unfold reviewItems
  split
  · split
    · exact (setAspect_only _ _ s).trans (setAspect_only _ _ _)
    · exact .refl s
  · split
    · split
      · exact .refl s
      · exact endTurn_only _ _ s
    · exact .refl s
  · split
    · exact setAspect_only _ _ s
    · exact .refl s
  · exact .refl s
theorem signalsClosing_only (s : State) : ChannelOnly s (signalsClosing s) := by
  unfold signalsClosing
  dsimp only
  split
  · exact (endGo_only _ _ s).trans <| (soundHorn_only _ _).trans <| (restartSeal_only _).trans <| (onCsu_only _ _).trans <|
      (showStop_only _).trans <| (endPhase_only _ _).trans (latchIf_only _ _ _)
  · exact (onCsu_only _ s).trans <| (showStop_only _).trans <| (endPhase_only _ _).trans (latchIf_only _ _ _)
theorem enterClosing_only (s : State) : ChannelOnly s (enterClosing s) := by
  have h : ChannelOnly s (signalsClosing (setBatchState .closing (returnItems s))) :=
    (returnItems_only s).trans <| (setBatchState_only _ _).trans (signalsClosing_only _)
  unfold enterClosing
  generalize signalsClosing (setBatchState .closing (returnItems s)) = r at h ⊢
  dsimp only
  split
  · exact h.trans (closeBatch_only _)
  · exact h
theorem testBatchEnd_only (s : State) : ChannelOnly s (testBatchEnd s) := by
  unfold testBatchEnd; split
  · exact enterClosing_only s
  · exact .refl s
theorem turnsOver_only (s : State) : ChannelOnly s (turnsOver s) := by
  unfold turnsOver; split
  · exact enterClosing_only s
  · exact .refl s
theorem finishTurns_only (r : TurnsResult) (s : State) : ChannelOnly s (finishTurns r s) :=
  (showStop_only s).trans <| (endPhase_only _ _).trans (turnsOver_only _)
theorem startTurn_only (d : Side) (s : State) : ChannelOnly s (startTurn d s) :=
  (setAspect_only _ _ s).trans <| (setAspect_only _ _ _).trans <| (onTurn_only _ _ _).trans <| (onCsu_only _ _).trans <|
    (soundHorn_only _ _).trans <| (latch_only _ _).trans (turnBegun_only _)
theorem skipTurn_only (d : Side) (s : State) : ChannelOnly s (skipTurn d s) :=
  (onTurn_only _ _ s).trans <| (setAspect_only _ _ _).trans (latch_only _ _)
theorem offerTurn_only (n : Nat) (d : Side) (s : State) : ChannelOnly s (offerTurn n d s) := by
  induction n generalizing d s with
  | zero => exact .refl s
  | succ n ih =>
    unfold offerTurn
    repeat' split
    · exact ih _ _
    · exact finishTurns_only _ s
    · exact finishTurns_only _ s
    · exact (finishTurns_only _ s).trans (latch_only _ _)
    · exact (skipTurn_only _ s).trans (ih _ _)
    · exact startTurn_only _ s
theorem withdrawGo_only (d : Side) (s : State) : ChannelOnly s (withdrawGo d s) :=
  (endGo_only _ _ s).trans <| (setAspect_only _ _ _).trans <| (soundHorn_only _ _).trans <| (restartSeal_only _).trans <|
    (endPhase_only _ _).trans <| (latch_only _ _).trans (turnsOver_only _)
theorem leavesLeftRaised_only (s : State) : ChannelOnly s (leavesLeftRaised s) := by
  unfold leavesLeftRaised
  split
  · exact withdrawGo_only _ s
  · exact (onCsu_only _ s).trans <| (showStop_only _).trans <| (endPhase_only _ _).trans <|
      (latch_only _ _).trans (turnsOver_only _)
  · exact .refl s
theorem batchRaised_only (s : State) : ChannelOnly s (batchRaised s) := by
  unfold batchRaised signalsRunning
  split
  · have h : ChannelOnly s ((setBatchState .running s).onBatch fun b => { b with raisedAt := some s.tb.seconds }) :=
      (setBatchState_only _ s).trans (onBatch_only _ _)
    split
    · exact h.trans (offerTurn_only _ _ _)
    · exact h
  · exact .refl s

/-! ### LOCKING (R102, R105) -/

/-- What the passage to LOCKING leaves: the drive sequence called, and SEATED_LOCKED at once where all is locked. -/
structure EntersLocking (s t : State) : Prop where
  leaves : t.lmc = { s.lmc with leaf := if s.allDriven && s.bothSeated then .seatedLocked else .locking }
  heel : ∀ b : Fin 4, 2 ≤ b.val → t.bolt b = s.boltCommanded .drive b
  centre : ∀ b : Fin 4, b.val < 2 → t.bolt b =
    if (s.bolt 2).state = .driven ∧ (s.bolt 3).state = .driven then s.boltCommanded .drive b else s.bolt b
  kind : t.lpu.seqKind = if s.allDriven then .none else .drive
  step : t.lpu.seqStep = if (s.bolt 2).state = .driven ∧ (s.bolt 3).state = .driven then .centre else .heel
  seats : t.lpu.seats = s.lpu.seats
  pumps : t.lpu.pumps = s.lpu.pumps
  latched : (t.cl.latched &&& 8) ≠ 0
  rest : { t with cl := s.cl, lpu := s.lpu, lmc := s.lmc } = s
  link : { t.cl with latched := s.cl.latched } = s.cl

theorem enterLocking_spec (hl : s.lmc.leaf ≠ .locking) : EntersLocking s (enterLocking s) := by
  have h1 := setLeaf_away hl (by decide)
  unfold enterLocking
  generalize setLeaf .locking s = u at *
  obtain ⟨ho, hheel, hcentre, hkind, hstep, hall⟩ := callDrive_spec u
  have hlat := (callDrive_reach u).leaf_latched (by decide) (by rw [h1]; exact or_eight _)
  generalize callDrive u = v at *
  have hu (b : Fin 4) : u.bolt b = s.bolt b := by rw [h1]; rfl
  have hcmd (b : Fin 4) : u.boltCommanded .drive b = s.boltCommanded .drive b :=
    boltCommanded_congr (hu b) (by rw [h1]) (by rw [h1]) (by rw [h1])
  have huall : u.allDriven = s.allDriven := allDriven_congr fun b => by rw [hu]
  simp only [hu, hcmd, huall] at hcentre hheel hkind hstep hall
  have hseats : v.lpu.seats = s.lpu.seats := by rw [ho.seats, h1]
  have hpumps : v.lpu.pumps = s.lpu.pumps := by rw [ho.pumps, h1]
  have hboth : v.bothSeated = s.bothSeated := by unfold State.bothSeated; rw [hseats]
  have hlmc : v.lmc = { s.lmc with leaf := .locking } := by rw [ho.lmc, h1]
  have hrest : { v with cl := s.cl, lpu := s.lpu, lmc := s.lmc } = s := by rw [ho, h1]
  have hlink : { v.cl with latched := s.cl.latched } = s.cl := by rw [ho, h1]
  unfold testLocked
  by_cases hc : s.allDriven = true ∧ s.bothSeated = true
  · rw [if_pos ⟨by rw [hlmc], hall.trans hc.1, hboth.trans hc.2⟩]
    obtain ⟨x, hx⟩ := setLeaf_eq .seatedLocked v
    rw [hx]
    refine ⟨?_, hheel, hcentre, hkind, hstep, hseats, hpumps, ?_, hrest, hlink⟩
    · rw [hc.1, hc.2, hlmc]; rfl
    · rw [hlmc]; exact or_eight _
  · rw [if_neg fun hn => hc ⟨hall.symm.trans hn.2.1, hboth.symm.trans hn.2.2⟩]
    refine ⟨?_, hheel, hcentre, hkind, hstep, hseats, hpumps, hlat, hrest, hlink⟩
    rw [hlmc, if_neg (by simpa using hc)]

/-! ### LOWER (R99, R103, R104, R112) -/

theorem lowerInterlock_code (s : State) : (lowerInterlock s).map Interlock.code =
    if s.apu.storeStatus ≠ .valid then some 15
    else if s.psc.batch.state = .formed ∨ s.psc.batch.state = .running then some 10
    else if !s.csu.sealed then some 11
    else if s.leafZoneOccupied then some 16
    else if s.positionLost then some 5
    else if s.disagreeing then some 6
    else if s.pumpFault then some 8
    else none := by
  unfold lowerInterlock State.storeUnusable State.batchLive
  simp only [apply_ite (Option.map Interlock.code), decide_eq_true_eq, Bool.or_eq_true]
  rfl

/-- What an accepted lowering from RAISED or HALTED leaves. -/
structure Lowers (s t : State) : Prop where
  leaves : t.lmc = { s.lmc with
    leaf := .lowering, motion := { s.motionRecord .lower .seat 0 with awaitingPumps := !s.bothReady } }
  ready : t.bothReady = s.bothReady
  pumps : ∀ g : Leaf, t.pump g = s.pumpOrdered g
  bolts : t.lpu.bolts = s.lpu.bolts
  seats : t.lpu.seats = s.lpu.seats
  kind : t.lpu.seqKind = s.lpu.seqKind
  latched : (t.cl.latched &&& 8) ≠ 0

theorem bothReady_ordered (h : ∀ g : Leaf, t.pump g = s.pumpOrdered g) : t.bothReady = s.bothReady := by
  rw [Bool.eq_iff_iff, bothReady_iff, bothReady_iff, h, h, pumpOrdered_ready, pumpOrdered_ready]

/-- A lowering prepared from a state in which the leaf state has just become LOWERING. -/
theorem prepareLowering_eq (s : State) (hl : s.lmc.leaf ≠ .seatedLocked) (hs : s.lpu.standby = none) :
    prepareLowering s = { s with
      lpu := { s.lpu with pumps := ⟨s.pumpOrdered .north, s.pumpOrdered .south⟩ }
      lmc := { s.lmc with motion := { s.lmc.motion with awaitingPumps := !s.bothReady } } } := by
  obtain ⟨x, hx, hn⟩ := orderPumps_eq s
  have hb : (orderPumps s).bothReady = s.bothReady := bothReady_ordered fun g => by rw [hx]; cases g <;> rfl
  unfold prepareLowering
  dsimp only
  rw [hb, hx, (hn hl hs).trans hs.symm]
  rfl

theorem beginLower_spec (hl : s.lmc.leaf = .raised ∨ s.lmc.leaf = .halted) :
    Lowers s (beginLower s) ∧ (s.lmc.leaf = .halted → (beginLower s).psc = s.psc ∧ (beginLower s).csu = s.csu) := by
  have hne : s.lmc.leaf ≠ .lowering := by rcases hl with h | h <;> rw [h] <;> decide
  have h1 := setLeaf_away (s := beginMotion .lower .seat 0 s) (l := .lowering) hne (by decide)
  have h2 := prepareLowering_eq (setLeaf .lowering (beginMotion .lower .seat 0 s)) (by rw [h1]; exact nofun) (by rw [h1])
  have hp (g : Leaf) : (setLeaf .lowering (beginMotion .lower .seat 0 s)).pumpOrdered g = s.pumpOrdered g := by rw [h1]; rfl
  have hb : (setLeaf .lowering (beginMotion .lower .seat 0 s)).bothReady = s.bothReady := by rw [h1]; rfl
  conv_rhs at h2 => rw [hp, hp, hb, h1]
  have hpump (g : Leaf) : (prepareLowering (setLeaf .lowering (beginMotion .lower .seat 0 s))).pump g = s.pumpOrdered g := by
    rw [h2]; cases g <;> rfl
  have h : Lowers s (prepareLowering (setLeaf .lowering (beginMotion .lower .seat 0 s))) := by
    refine ⟨?_, bothReady_ordered hpump, hpump, ?_, ?_, ?_, ?_⟩ <;> rw [h2]
    · rfl
    · rfl
    · rfl
    · rfl
    · exact or_eight _
  unfold beginLower
  rcases hl with hl | hl
  · refine ⟨?_, fun hh => by rw [hl] at hh; cases hh⟩
    obtain ⟨hlmc, hready, hpumps, hbolts, hseats, hkind, hlat⟩ := h
    generalize prepareLowering (setLeaf .lowering (beginMotion .lower .seat 0 s)) = u at *
    have ho := leavesLeftRaised_only u
    dsimp only
    rw [if_pos hl]
    have hpu (g : Leaf) : (leavesLeftRaised u).pump g = s.pumpOrdered g := by
      unfold State.pump; rw [ho.pumps]; exact hpumps g
    refine ⟨ho.lmc.trans hlmc, bothReady_ordered hpu, hpu, ho.bolts.trans hbolts, ho.seats.trans hseats,
      ho.seqKind.trans hkind, ho.mask (i := 3) hlat⟩
  · dsimp only
    rw [if_neg (by rw [hl]; decide)]
    exact ⟨h, fun _ => by rw [h2]; exact ⟨rfl, rfl⟩⟩

/-- Settles O36. -/
theorem lowerOutcomes : Obligations.LowerOutcomes := by
  intro s ha first
  have hfirst : first = (lowerInterlock s).map Interlock.code := (lowerInterlock_code s).symm
  rw [hfirst]
  refine ⟨fun hl => ?_, fun hl hv => ?_, fun hl hv => ?_, fun hl => ⟨fun n hn => ?_, fun hn => ?_⟩⟩
  · rw [exec_lower ha, lowerOp]
    rcases hl with h | h | h | h | h <;> rw [h] <;> rfl
  · rw [exec_lower ha, lowerOp, hl]
    dsimp only
    rw [if_pos (storeUnusable_iff.mpr hv)]; rfl
  · obtain ⟨h1, h2, h3, h4, h5, h6, h7, h8, -⟩ := enterLocking_spec (s := s) (by rw [hl]; decide)
    refine ⟨enterLocking s, ?_, h1, h2, h3, h4, h5, h6, h7, h8⟩
    rw [exec_lower ha, lowerOp, hl]
    dsimp only
    rw [if_neg (fun h => storeUnusable_iff.mp h hv)]; rfl
  · obtain ⟨i, hi, rfl⟩ := Option.map_eq_some_iff.mp hn
    rw [exec_lower ha, lowerOp]
    rcases hl with h | h <;> rw [h] <;> dsimp only <;> rw [hi] <;> rfl
  · have hi := Option.map_eq_none_iff.mp hn
    obtain ⟨⟨h1, h2, h3, h4, h5, h6, h7⟩, h8⟩ := beginLower_spec hl
    refine ⟨beginLower s, ?_, by rw [h1], by rw [h1]; rfl, by rw [h1]; rfl, by rw [h1]; rfl, by rw [h1, h2],
      h1, h3, h4, h5, h6, h7, h8⟩
    have hreply : (beginLower s).lmc.leaf = .lowering := by rw [h1]
    rw [exec_lower ha, lowerOp]
    rcases hl with h | h <;> rw [h] <;> dsimp only <;> rw [hi] <;> dsimp only <;> rw [hreply] <;> rfl

/-! ### STOP and TRIP-CLEAR (R114, R116) -/

theorem haltUnlocking_eq (h : s.lmc.leaf ≠ .halted) : haltUnlocking s = latch .leaf { s with
    lmc := { s.lmc with leaf := .halted }, lpu := { s.lpu with seqKind := .none, standby := none } } :=
  setLeaf_away (s := cancelSequence s) h (by decide)

theorem tripHolds_iff : s.tripHolds = true ↔
    s.pins.estop = true ∨ s.leafZoneOccupied = true ∨ s.positionLost = true ∨ s.pumpFault = true := by
  simp [State.tripHolds, or_assoc]

/-- Settles O37: STOP by leaf state, with R113's halt in a motion; TRIP-CLEAR by the trip conditions. -/
theorem stopAndTripClear : Obligations.StopAndTripClear := by
  refine ⟨fun s ht => ⟨fun hl => ?_, fun hl => ?_, fun hl => ⟨fun hr => ?_, fun hn hs => ?_⟩⟩,
    fun s ha => ⟨fun hl => ?_, fun hl => ⟨fun hc => ?_, fun h1 h2 h3 h4 => ?_⟩⟩⟩
  · rw [exec_stop ht, stopOp]
    rcases hl with h | h | h | h <;> rw [h] <;> rfl
  · have h := haltUnlocking_eq (s := s) (by rcases hl with h | h <;> rw [h] <;> decide)
    rw [exec_stop ht, stopOp]
    rcases hl with hl | hl <;> rw [hl] <;> dsimp only <;> rw [h] <;> rfl
  · have h := beginHalt_moving .stop (moving_iff.mpr hl) (Bool.eq_false_iff.mpr fun e => hr (atRest_iff.mp e))
    rw [exec_stop ht, stopOp]
    rcases hl with hl | hl <;> rw [hl] <;> dsimp only <;> rw [h, ← hl] <;> rfl
  · have h := beginHalt_atRest .stop (moving_iff.mpr hl) (atRest_iff.mpr ⟨hn, hs⟩) (.inl nofun)
    rw [exec_stop ht, stopOp]
    rcases hl with hl | hl <;> rw [hl] <;> dsimp only <;> rw [h] <;> rfl
  · rw [exec_tripClear ha, tripClearOp, if_pos hl]; rfl
  · rw [exec_tripClear ha, tripClearOp, if_neg (by simpa using hl), if_pos (tripHolds_iff.mpr hc)]; rfl
  · have h := setLeaf_away (s := s.onLmc fun l => { l with trip := none }) (l := .halted)
      (by show s.lmc.leaf ≠ _; rw [hl]; decide) (by decide)
    rw [exec_tripClear ha, tripClearOp, if_neg (by simpa using hl),
      if_neg (fun hc => by simpa [h1, h2, h3, h4] using tripHolds_iff.mp hc)]
    dsimp only
    rw [h]; rfl

/-! ### PUMPS and LOCK-RETRY (R88, R92) -/

theorem reportPump_pumps (s : State) : (reportPump s).lpu.pumps = s.lpu.pumps :=
  (reportPump_reach s).pumps_eq (by decide)

/-- A group that a PUMPS start finds STOPPED or in FAULT is STARTING (R92). -/
theorem requestPump_self (g : Leaf) (h : (s.pump g).state = .stopped ∨ (s.pump g).state = .fault) :
    ((requestPump s g).pump g).state = .starting ∧ ((requestPump s g).pump g).limit = s.par pPumpLimit ∧
      ((requestPump s g).pump g).limitElapsed = 0 := by
  have e : requestPump s g = reportPump (startPump g s) := by
    unfold requestPump; rcases h with h | h <;> rw [h]
  obtain ⟨x, hx⟩ := setPump_eq g (fun p => { p with
    state := .starting, limit := s.par pPumpLimit, limitElapsed := 0
    hold := if s.pins.pressure.get g then some 0 else none }) s
  unfold State.pump
  rw [e, reportPump_pumps, startPump, hx]
  cases g <;> exact ⟨rfl, rfl, rfl⟩

theorem requestPump_kept (g : Leaf) (h : (s.pump g).state = .starting ∨ (s.pump g).state = .ready) : requestPump s g = s := by
  unfold requestPump; rcases h with h | h <;> rw [h]

theorem requestPump_ne {g k : Leaf} (hk : k ≠ g) (s : State) : (requestPump s g).pump k = s.pump k := by
  obtain ⟨x, hx⟩ := setPump_eq g (fun p => { p with
    state := .starting, limit := s.par pPumpLimit, limitElapsed := 0
    hold := if s.pins.pressure.get g then some 0 else none }) s
  have hp : (reportPump (startPump g s)).pump k = s.pump k := by
    unfold State.pump
    rw [reportPump_pumps, startPump, hx]
    cases g <;> cases k <;> first | rfl | exact absurd rfl hk
  unfold requestPump
  split
  · exact hp
  · exact hp
  · rfl
  · rfl

theorem requestPump_apu (g : Leaf) (s : State) : (requestPump s g).apu = s.apu := by
  obtain ⟨x, hx⟩ := setPump_eq g (fun p => { p with
    state := .starting, limit := s.par pPumpLimit, limitElapsed := 0
    hold := if s.pins.pressure.get g then some 0 else none }) s
  have hp : (reportPump (startPump g s)).apu = s.apu := by
    rw [(reportPump_reach _).apu_eq (by decide), startPump, hx]
  unfold requestPump
  split
  · exact hp
  · exact hp
  · rfl
  · rfl

/-- In a leaf state that needs no pumps the LMC does nothing on a group's report (R92, R101, R104). -/
theorem reportPump_rests (h : s.lmc.leaf.needsPumps = false) : reportPump s = s := by
  unfold reportPump
  cases hl : s.lmc.leaf <;> rw [hl] at h <;> first | rfl | cases h

/-- A group stopped (R90, R94). -/
theorem stopPump_eq (g : Leaf) (s : State) : stopPump s g = { s with lpu := { s.lpu with
    pumps := s.lpu.pumps.set g { s.pump g with state := .stopped, limitElapsed := 0, hold := none }, standby := none } } := by
  unfold stopPump setPump
  rw [standbyEdge_off]
  · rfl
  · cases g <;> simp [State.standbyCondition, State.bothReady, State.onPump, State.onLpu, State.pump, PerLeaf.set, PerLeaf.get]

/-- Both groups stopped where the leaves need none (R92). -/
theorem stopBoth_eq (h : s.lmc.leaf.needsPumps = false) : stopAndTell (stopAndTell s .north) .south = { s with
    lpu := { s.lpu with
      pumps := ⟨{ s.pump .north with state := .stopped, limitElapsed := 0, hold := none },
        { s.pump .south with state := .stopped, limitElapsed := 0, hold := none }⟩
      standby := none } } := by
  have hn : stopAndTell s .north = stopPump s .north := reportPump_rests (by rw [stopPump_eq]; exact h)
  have hs : stopAndTell (stopPump s .north) .south = stopPump (stopPump s .north) .south :=
    reportPump_rests (by rw [stopPump_eq, stopPump_eq]; exact h)
  rw [hn, hs, stopPump_eq .south, stopPump_eq .north]
  rfl

/-! The bolts that LOCK-RETRY restarts -/

theorem retryBolt_only (b : Fin 4) (s : State) : BoltsOnly s (retryBolt s b) := by
  unfold retryBolt
  split
  · exact .refl s
  · exact startBolt_only _ _ s
  · exact startBolt_only _ _ s

theorem retryBolt_ne {b k : Fin 4} (h : k ≠ b) (s : State) : (retryBolt s b).bolt k = s.bolt k := by
  unfold retryBolt
  split
  · rfl
  · rw [startBolt_bolt, if_neg h]
  · rw [startBolt_bolt, if_neg h]

theorem retryBolt_congr {b : Fin 4} (h : BoltsOnly s t) (hb : t.bolt b = s.bolt b) :
    (retryBolt t b).bolt b = (retryBolt s b).bolt b := by
  have hc (w : BoltWay) : t.boltStarted w b = s.boltStarted w b :=
    boltStarted_congr hb h.apu h.pins (congrArg Phu.health h.phu)
  unfold retryBolt
  rw [hb]
  cases (s.bolt b).last
  · exact hb
  · simp only [startBolt_bolt, if_true, hc]
  · simp only [startBolt_bolt, if_true, hc]

theorem retryBolts_only (l : List (Fin 4)) (s : State) : BoltsOnly s (l.foldl retryBolt s) := by
  induction l generalizing s with
  | nil => exact .refl s
  | cons b l ih => exact (retryBolt_only b s).trans (ih _)

theorem retryBolts_bolt (l : List (Fin 4)) (hn : l.Nodup) (k : Fin 4) (s : State) :
    (l.foldl retryBolt s).bolt k = if k ∈ l then (retryBolt s k).bolt k else s.bolt k := by
  induction l generalizing s with
  | nil => rfl
  | cons b l ih =>
    obtain ⟨hb, hl⟩ := List.nodup_cons.mp hn
    rw [List.foldl_cons, ih hl]
    by_cases h : k ∈ l
    · have hkb : k ≠ b := fun e => hb (e ▸ h)
      rw [if_pos h, if_pos (List.mem_cons_of_mem _ h), retryBolt_congr (retryBolt_only b s) (retryBolt_ne hkb s)]
    · by_cases hkb : k = b
      · subst hkb; simp [h]
      · simp [h, hkb, retryBolt_ne hkb s]

theorem retryBolts_quiet (l : List (Fin 4)) (he : s.pins.estop = false)
    (hc : ∀ b : Fin 4, ¬(s.pins.boltDriven[b] = true ∧ s.pins.boltWithdrawn[b] = true)) :
    (l.foldl retryBolt s).cl = s.cl := by
  induction l generalizing s with
  | nil => rfl
  | cons b l ih =>
    have hp : (retryBolt s b).pins = s.pins := (retryBolt_only b s).pins
    have hq : (retryBolt s b).cl = s.cl := by
      unfold retryBolt
      split
      · rfl
      · exact startBolt_quiet _ _ he (hc b)
      · exact startBolt_quiet _ _ he (hc b)
    rw [List.foldl_cons, ih (by rw [hp]; exact he) (by rw [hp]; exact hc), hq]

theorem retriable_iff {r : Bolt} : r.retriable = true ↔ r.state = .jammed ∧ r.last ≠ .none := by simp [Bolt.retriable]
theorem mem_retriableBolts (b : Fin 4) : b ∈ s.retriableBolts ↔ (s.bolt b).state = .jammed ∧ (s.bolt b).last ≠ .none := by
  unfold State.retriableBolts
  rw [List.mem_filter, retriable_iff]
  exact and_iff_right (by revert b; decide)
theorem retriableBolts_nil : s.retriableBolts = [] ↔ ∀ b, (s.bolt b).state = .jammed → (s.bolt b).last = .none := by
  rw [List.eq_nil_iff_forall_not_mem]
  simp only [mem_retriableBolts, not_and, not_not]
theorem nearSeat_iff {l : LeafState} : l.nearSeat = true ↔ l = .seatedLocked ∨ l = .unlocking ∨ l = .locking := by
  cases l <;> simp [LeafState.nearSeat]
theorem needsPumps_iff {l : LeafState} : l.needsPumps = true ↔ l = .unlocking ∨ l = .raising ∨ l = .lowering ∨ l = .locking := by
  cases l <;> simp [LeafState.needsPumps]

/-- Settles O34. -/
theorem lockPowerRequests : Obligations.LockPowerRequests := by
  intro s
  refine ⟨fun ha => ⟨fun he => ?_, fun he => ?_, fun hl => ?_, fun hl => ?_⟩, fun ha => ⟨fun hn => ?_, fun hd h1 h2 h3 => ?_, ?_⟩⟩
  · rw [exec_pumpsStart ha, pumpsStartOp, if_pos he]; rfl
  · refine ⟨requestPump (requestPump s .north) .south, ?_, fun g => ⟨fun h => ?_, fun h => ?_⟩⟩
    · rw [exec_pumpsStart ha, pumpsStartOp, if_neg (by simp [he])]; rfl
    · cases g
      · rw [requestPump_ne (by decide)]; exact requestPump_self _ h
      · rw [← requestPump_ne (g := .north) (by decide)] at h
        have hp := requestPump_self .south h
        unfold State.par at hp ⊢
        rw [requestPump_apu] at hp
        exact hp
    · cases g
      · rw [requestPump_ne (by decide), requestPump_kept _ h]
      · rw [← requestPump_ne (g := .north) (by decide)] at h
        rw [requestPump_kept _ h, requestPump_ne (by decide)]
  · rw [exec_pumpsStop ha, pumpsStopOp, if_pos (needsPumps_iff.mpr hl)]; rfl
  · have hn : s.lmc.leaf.needsPumps = false := by rcases hl with h | h | h | h <;> rw [h] <;> rfl
    refine ⟨stopAndTell (stopAndTell s .north) .south, ?_, ?_, ?_, ?_, ?_⟩
    · rw [exec_pumpsStop ha, pumpsStopOp, if_neg (by simp [hn]), stopBoth_eq hn]; rfl
    · rw [stopBoth_eq hn]
    · rw [stopBoth_eq hn]; intro g; cases g <;> rfl
    · rw [stopBoth_eq hn]
    · rw [stopBoth_eq hn]
  · rw [exec_lockRetry ha, lockRetryOp]
    dsimp only
    rw [if_pos (retriableBolts_nil.mpr hn)]; rfl
  · obtain ⟨b, hj, hd⟩ := hd
    have hm : b ∈ s.retriableBolts := (mem_retriableBolts b).mpr ⟨hj, by rw [hd]; nofun⟩
    have hbar : (s.retriableBolts.any fun b => decide ((s.bolt b).last = .drive)) = true :=
      List.any_eq_true.mpr ⟨b, hm, by simp [hd]⟩
    have hnear : s.lmc.leaf.nearSeat = false := Bool.eq_false_iff.mpr fun h => by
      rcases nearSeat_iff.mp h with h | h | h
      · exact h1 h
      · exact h2 h
      · exact h3 h
    rw [exec_lockRetry ha, lockRetryOp]
    dsimp only
    rw [if_neg (List.ne_nil_of_mem hm), hbar, hnear]; rfl
  · rintro ⟨b, hb⟩ hdrive count
    have hm : b ∈ s.retriableBolts := (mem_retriableBolts b).mpr hb
    have hfree : ((s.retriableBolts.any fun b => decide ((s.bolt b).last = .drive)) && !s.lmc.leaf.nearSeat) = false := by
      refine Bool.eq_false_iff.mpr fun h => ?_
      obtain ⟨hd, hn⟩ := Bool.and_eq_true_iff.mp h
      obtain ⟨k, hk, hkd⟩ := List.any_eq_true.mp hd
      have := nearSeat_iff.mpr (hdrive k ((mem_retriableBolts k).mp hk).1 (of_decide_eq_true hkd))
      rw [this] at hn; cases hn
    have hcount : s.retriableBolts.length = count := rfl
    have ho := retryBolts_only s.retriableBolts s
    have hbolt := retryBolts_bolt s.retriableBolts ((by decide : allBolts.Nodup).filter _) (s := s)
    refine ⟨s.retriableBolts.foldl retryBolt s, ?_, ?_, ?_, fun he hc => retryBolts_quiet _ he hc, fun k => ⟨fun hj hw => ?_, fun hj hd => ?_, fun hn => ?_⟩⟩
    · rw [exec_lockRetry ha, lockRetryOp]
      dsimp only
      rw [if_neg (List.ne_nil_of_mem hm), hfree, ← hcount]; rfl
    · rw [ho]
    · rw [ho]
    · rw [hbolt, if_pos ((mem_retriableBolts k).mpr ⟨hj, by rw [hw]; nofun⟩), retryBolt, hw]
    · rw [hbolt, if_pos ((mem_retriableBolts k).mpr ⟨hj, by rw [hd]; nofun⟩), retryBolt, hd]
    · rw [hbolt, if_neg fun hk => ?_]
      obtain ⟨h1, h2⟩ := (mem_retriableBolts k).mp hk
      exact hn.elim (fun h => h h1) h2

/-! ### Health updates (R197, R198) -/

theorem evaluateWorn_phu (group : List (Fin 12)) (s : State) :
    (evaluateWorn group s).phu = (group.foldl markWorn s).phu := by
  unfold evaluateWorn; rw [latchIf_eq]
theorem evaluateWorn_wornCondition (group : List (Fin 12)) (n : Fin 12) (s : State) :
    (evaluateWorn group s).wornCondition n = s.wornCondition n := by
  rw [← markWorns_wornCondition group n s]
  unfold evaluateWorn; rw [latchIf_eq]; rfl
theorem evaluateWorn_health (group : List (Fin 12)) (n : Fin 12) (s : State) :
    (evaluateWorn group s).phu.health[n] = if n ∈ group then s.marked n else s.phu.health[n] := by
  rw [evaluateWorn_phu, markWorns_health]
theorem evaluateWorn_rest (group : List (Fin 12)) (s : State) : evaluateWorn group s = { s with
    cl := { s.cl with latched :=
      if (group.any fun n => s.wornCondition n && !s.worn n) then s.cl.latched ||| 0x1000 else s.cl.latched }
    phu := { s.phu with health := (evaluateWorn group s).phu.health } } := by
  rw [evaluateWorn_phu]
  unfold evaluateWorn
  rw [latchIf_eq, markWorns_rest]
  rfl

theorem onHealth_self (n : Fin 12) (f : Health → Health) (s : State) :
    (s.onHealth n f).phu.health[n] = f s.phu.health[n] := by simp [State.onHealth, State.onPhu]
theorem onHealth_ne {n m : Fin 12} (h : m ≠ n) (f : Health → Health) (s : State) :
    (s.onHealth n f).phu.health[m] = s.phu.health[m] := by
  simp [State.onHealth, State.onPhu, Fin.val_inj, Ne.symm h]

/-- One health record changed and its mark judged. -/
structure HealthJudged (n : Fin 12) (f : Health → Health) (s t : State) : Prop where
  self : t.phu.health[n] = { f s.phu.health[n] with worn := t.wornCondition n }
  latched : t.cl.latched = if t.phu.health[n].worn && !s.phu.health[n].worn then s.cl.latched ||| 0x1000 else s.cl.latched
  others : ∀ m : Fin 12, m ≠ n → t.phu.health[m] = s.phu.health[m]
  rest : { t with cl := s.cl, phu := s.phu } = s
  link : { t.cl with latched := s.cl.latched } = s.cl
  unit : { t.phu with health := s.phu.health } = s.phu

theorem evaluateWorn_judges (n : Fin 12) (f : Health → Health) (hf : ∀ r, (f r).worn = r.worn) (s : State) :
    HealthJudged n f s (evaluateWorn [n] (s.onHealth n f)) := by
  have hc := evaluateWorn_wornCondition [n] n (s.onHealth n f)
  have hself : (evaluateWorn [n] (s.onHealth n f)).phu.health[n] =
      { f s.phu.health[n] with worn := (s.onHealth n f).wornCondition n } := by
    rw [evaluateWorn_health, if_pos (List.mem_singleton.mpr rfl), State.marked, onHealth_self]
  have hrest := evaluateWorn_rest [n] (s.onHealth n f)
  refine ⟨by rw [hself, hc], ?_, fun m hm => ?_, by rw [hrest]; rfl, by rw [hrest]; rfl, by rw [hrest]; rfl⟩
  · rw [hself, hrest]
    have hw : (s.onHealth n f).worn n = s.phu.health[n].worn := by unfold State.worn; rw [onHealth_self, hf]
    simp only [List.any_cons, List.any_nil, Bool.or_false, hw]
    rfl
  · rw [evaluateWorn_health, if_neg (by simpa using hm), onHealth_ne hm]

/-- Settles O52. -/
theorem healthUpdates : Obligations.HealthUpdates := by
  intro s
  refine ⟨fun n => ?_, fun n nominal time hn => ?_, fun n a v hav ha => ?_⟩
  · unfold State.wornCondition isArmActuator
    by_cases h : n.val < 8 <;> simp [h]
  · obtain ⟨hself, hlat, hothers, -⟩ := evaluateWorn_judges n (fun h => { h with
      value := healthAfter h.value (healthSample (strokeRatio nominal time)), samples := bump h.samples
      ratio := some (strokeRatio nominal time) }) (fun _ => rfl) s
    intro t ratio sample
    have hs : 1 ≤ sample ∧ sample ≤ 253 := by
      show 1 ≤ (if ratio ≤ 110 then 253 else if 200 ≤ ratio then 1 else _) ∧ (if ratio ≤ 110 then 253 else _) ≤ 253
      split
      · omega
      · split <;> omega
    have hself' : t.phu.health[n] = { s.phu.health[n] with
        value := max 1 (min 253 ((3 * s.phu.health[n].value + sample + 2) / 4)), samples := bump s.phu.health[n].samples
        ratio := some ratio, worn := t.wornCondition n } := hself
    refine ⟨by rw [hself'], by rw [hself'], by rw [hself'], hs.1, hs.2, ?_, ?_, by rw [hself'], hlat, hothers⟩
    · rw [hself']; exact Nat.le_max_left _ _
    · rw [hself']; exact Nat.max_le.mpr ⟨by decide, Nat.min_le_left _ _⟩
  · obtain ⟨hself, hlat, hothers, hrest, hlink, hunit⟩ :=
      evaluateWorn_judges n (fun r => { r with value := max 1 (min 253 v.toNat) }) (fun _ => rfl) s
    refine ⟨_, ?_, by rw [hself], by rw [hself], by rw [hself], by rw [hself], hlat, hrest, hlink, hunit, hothers⟩
    have hlt : a.toNat < 12 := by rw [hav]; exact n.isLt
    obtain rfl : n = ⟨a.toNat, hlt⟩ := Fin.ext hav.symm
    have ha8 : BitVec.ofNat 8 a.toNat = a := by simp
    rw [exec_healthSet ha, healthSetOp, dif_pos hlt]
    dsimp only
    unfold State.worn
    rw [hself]
    simp only [b1, bm, ha8, List.cons_append, List.nil_append]

/-! ### The reference computation (R106 to R110) -/

/-- The root's bits are found from the top down: what is left untried stays below the next power. -/
theorem isqrtFrom_spec (k n r : Nat) (hl : r * r ≤ n) (hu : n < (r + 2 ^ k) * (r + 2 ^ k)) :
    isqrtFrom k n r * isqrtFrom k n r ≤ n ∧ n < (isqrtFrom k n r + 1) * (isqrtFrom k n r + 1) := by
  induction k generalizing r with
  | zero => exact ⟨hl, by simpa [isqrtFrom] using hu⟩
  | succ k ih =>
    unfold isqrtFrom
    rw [Nat.pow_succ] at hu
    split
    · next h => exact ih _ h (by rw [show r + 2 ^ k + 2 ^ k = r + 2 ^ k * 2 by omega]; exact hu)
    · next h => exact ih _ hl (by omega)

theorem isqrt_spec {n : Nat} (h : n < 2 ^ 64) : isqrt n * isqrt n ≤ n ∧ n < (isqrt n + 1) * (isqrt n + 1) :=
  isqrtFrom_spec 32 n 0 (Nat.zero_le _) (by simpa using h)

/-- The other leaf of `l` arrives in this period. -/
def Motion.otherArrives (m : Motion) (north south : Int) (l : Leaf) : Bool :=
  match l with
  | .north => m.arrives south m.leaves.south
  | .south => m.arrives north m.leaves.north

/-- Leaf `l`'s stored values after a period. -/
theorem period_get (m : Motion) (north south : Int) (pct : Nat) (l : Leaf) :
    (m.period north south pct).leaves.get l = m.issue
      (m.speed (north - south) pct l (match l with | .north => north | .south => south) (m.otherArrives north south l))
      (m.arrives (match l with | .north => north | .south => south) (m.leaves.get l)) := by
  cases l <;> rfl

theorem arrives_iff (m : Motion) (θ : Int) (d : LeafDrive) : m.arrives θ d = true ↔
    d.arrived = true ∨ m.distance θ ≤ m.w ∨ (m.direction = .raise ∧ (m.target : Int) < θ) ∨
      (m.direction = .lower ∧ θ < (m.target : Int)) := by
  unfold Motion.arrives Motion.passed
  cases m.direction <;> simp [or_assoc]

theorem arrives_kept {m : Motion} {θ : Int} {d : LeafDrive} (h : d.arrived = true) : m.arrives θ d = true :=
  (arrives_iff m θ d).mpr (.inl h)

theorem targetSpeed_halt {m : Motion} (h : m.halt ≠ .none) (θ : Int) (pct : Nat) : m.targetSpeed θ pct = 0 := if_pos h
theorem targetSpeed_free {m : Motion} (h : m.halt = .none) (θ : Int) (pct : Nat) : m.targetSpeed θ pct =
    max m.vk (if m.b < m.distance θ then min (m.cap θ pct) (m.brakeBound θ) else m.cap θ pct) := if_neg (by simp [h])

/-- Under the braking bound the target speed is the creep speed or lies within the bound (R107). -/
theorem targetSpeed_braked {m : Motion} (h : m.halt = .none) (θ : Int) (pct : Nat) (hb : m.b < m.distance θ)
    (hd : m.distance θ < 2 ^ 20) (hk : m.vk < 2 ^ 10) (hr : m.r < 2 ^ 10) : m.targetSpeed θ pct = m.vk ∨
      m.targetSpeed θ pct * m.targetSpeed θ pct ≤ m.vk * m.vk + 100 * m.r * (m.distance θ - m.b) := by
  have harg : m.vk * m.vk + 2 * m.acceleration * (m.distance θ - m.b) = m.vk * m.vk + 100 * m.r * (m.distance θ - m.b) := by
    unfold Motion.acceleration; ring
  have hlt : m.vk * m.vk + 100 * m.r * (m.distance θ - m.b) < 2 ^ 64 := by
    have h1 : m.vk * m.vk ≤ 2 ^ 10 * 2 ^ 10 := Nat.mul_le_mul hk.le hk.le
    have h2 : 100 * m.r * (m.distance θ - m.b) ≤ 100 * 2 ^ 10 * 2 ^ 20 :=
      Nat.mul_le_mul (Nat.mul_le_mul_left _ hr.le) ((Nat.sub_le _ _).trans hd.le)
    omega
  have hroot : m.brakeBound θ * m.brakeBound θ ≤ m.vk * m.vk + 100 * m.r * (m.distance θ - m.b) := by
    unfold Motion.brakeBound; rw [harg]; exact (isqrt_spec hlt).1
  rw [targetSpeed_free h, if_pos hb]
  rcases Nat.le_total (min (m.cap θ pct) (m.brakeBound θ)) m.vk with hle | hle
  · exact .inl (Nat.max_eq_left hle)
  · refine .inr ?_
    rw [Nat.max_eq_right hle]
    exact (Nat.mul_le_mul (Nat.min_le_right _ _) (Nat.min_le_right _ _)).trans hroot

theorem targetSpeed_creep {m : Motion} (h : m.halt = .none) (θ : Int) (pct : Nat)
    (hd : m.distance θ ≤ m.b ∨ θ < (m.bs : Int)) : m.targetSpeed θ pct = m.vk := by
  have hc : m.cap θ pct = m.vk := if_pos hd
  rw [targetSpeed_free h, hc]
  split
  · exact Nat.max_eq_left (Nat.min_le_left _ _)
  · exact Nat.max_self _

theorem ramp_bound (m : Motion) (vt v : Nat) : m.ramp vt v ≤ max v (min vt (v + m.r)) := by
  unfold Motion.ramp
  split
  · omega
  · split <;> omega
theorem ramp_halt {m : Motion} (h : m.halt ≠ .none) (vt v : Nat) : m.ramp vt v = v - min (2 * m.r) 40 := if_pos h
theorem ramp_free {m : Motion} (h : m.halt = .none) (vt v : Nat) :
    m.ramp vt v = if v < vt then min vt (v + m.r) else max vt (v - m.r) := if_neg (by simp [h])

/-- How far leaf `l` is ahead in the motion's direction (R109). -/
def Motion.ahead (m : Motion) (north south : Int) (l : Leaf) : Int :=
  match m.direction, l with
  | .raise, .north => north - south
  | .raise, .south => south - north
  | .lower, .north => south - north
  | .lower, .south => north - south

theorem ahead_spec (m : Motion) (north south : Int) (l : Leaf) :
    (m.leads (north - south) l = true ↔ 0 < m.ahead north south l) ∧
      (m.ahead north south l).natAbs = (north - south).natAbs := by
  cases h : m.direction <;> cases l <;> simp [Motion.leads, Motion.ahead, h] <;> omega

theorem corrected_near {m : Motion} {sk : Int} (h : sk.natAbs ≤ m.sDead) (l : Leaf) (v : Nat) : m.corrected sk l v = v := if_pos h
theorem corrected_behind {m : Motion} {sk : Int} {l : Leaf} (h : m.leads sk l = false) (v : Nat) : m.corrected sk l v = v := by
  unfold Motion.corrected; rw [h]; simp
theorem corrected_ahead {m : Motion} {sk : Int} {l : Leaf} (h : m.leads sk l = true) (hd : m.sDead < sk.natAbs) (v : Nat) :
    m.corrected sk l v = v * (m.sTrip - sk.natAbs) / m.sTrip := by
  unfold Motion.corrected; rw [if_neg (by omega), if_pos h]

theorem speed_arrived {m : Motion} {θ : Int} {l : Leaf} (h : m.arrives θ (m.leaves.get l) = true) (sk : Int) (pct : Nat) (o : Bool) :
    m.speed sk pct l θ o = 0 := if_pos h
theorem speed_moving {m : Motion} {θ : Int} {l : Leaf} (h : m.arrives θ (m.leaves.get l) = false) (sk : Int) (pct : Nat) (o : Bool) :
    m.speed sk pct l θ o = if o then m.ramp (m.targetSpeed θ pct) (m.leaves.get l).vPrev
      else m.corrected sk l (m.ramp (m.targetSpeed θ pct) (m.leaves.get l).vPrev) := if_neg (by simp [h])
theorem speed_le_ramp (m : Motion) (sk : Int) (pct : Nat) (l : Leaf) (θ : Int) (o : Bool) :
    m.speed sk pct l θ o ≤ m.ramp (m.targetSpeed θ pct) (m.leaves.get l).vPrev := by
  cases h : m.arrives θ (m.leaves.get l)
  · rw [speed_moving h]
    split
    · exact le_rfl
    · exact Motion.corrected_le _ _ _ _
  · rw [speed_arrived h]; exact Nat.zero_le _

/-- Settles O40: stage by stage. -/
theorem referenceComputation : Obligations.ReferenceComputation := by
  refine ⟨fun n h => isqrt_spec h, fun m north south pct l hk hp => ?_⟩
  intro θ d e dist
  have he : e = m.issue (m.speed (north - south) pct l θ (m.otherArrives north south l)) (m.arrives θ d) :=
    period_get m north south pct l
  have harr : e.arrived = m.arrives θ d := by rw [he]; rfl
  have hv : e.vPrev = m.speed (north - south) pct l θ (m.otherArrives north south l) := by rw [he]; rfl
  have hle : e.vPrev ≤ m.ramp (m.targetSpeed θ pct) d.vPrev := by rw [hv]; exact speed_le_ramp _ _ _ _ _ _
  refine ⟨fun h => by rw [harr]; exact arrives_kept h, by rw [harr]; exact arrives_iff m θ d,
    fun h => by rw [hv]; exact speed_arrived (harr ▸ h) _ _ _, ?_, fun h => targetSpeed_halt h θ pct,
    fun h => targetSpeed_free h θ pct, fun h => ⟨?_, Motion.targetSpeed_le hk θ hp⟩,
    fun h hb hd hk hr => targetSpeed_braked h θ pct hb hd hk hr, fun h hd => targetSpeed_creep h θ pct hd,
    hle.trans (ramp_bound m _ _), fun h => hle.trans (ramp_halt h _ _).le, fun ha hs => ?_, fun vt v => ⟨?_, ?_, ?_⟩, ?_⟩
  · rw [he]; rfl
  · rw [targetSpeed_free h]; exact Nat.le_max_left _ _
  · rw [hv, speed_moving (harr ▸ ha), corrected_near hs, ite_self]
  · exact fun h hlt => by rw [ramp_free h, if_pos hlt]
  · exact fun h hge => by rw [ramp_free h, if_neg (by omega)]
  · exact fun h => ramp_halt h vt v
  · intro o ahead ha
    have hahead : ahead = m.ahead north south l := rfl
    obtain ⟨hlead, habs⟩ := ahead_spec m north south l
    have ho : m.otherArrives north south l = o.arrived := by cases l <;> rfl
    rw [ho] at hv
    rw [hv, speed_moving (harr ▸ ha)]
    refine ⟨fun h => by rw [h]; rfl, fun h hd => ?_, fun hn => ?_⟩
    · rw [h, hahead, habs]
      exact corrected_ahead (hlead.mpr (by omega)) (by omega) _
    · rw [corrected_behind (Bool.eq_false_iff.mpr fun hl => by have := hlead.mp hl; omega), ite_self]

end Sys2Proof.Machine
end

section
/-! PROOFS. The arms: strokes as they start, limits and timers, the edge and the re-lowering, out-of-service arms and the arm requests (R41 to R54). -/

namespace Sys2Proof.Machine

variable {s t u : State} {a k : Fin 8}

/-! ### Events in the run, and what a tick makes of them -/

theorem inRun_run (f : State → State) (h : s.running = true) : inRun f s = f s := if_pos h

theorem after_run {c : Instr} {f : State → State} (hc : ∀ s, exec c s = .next (inRun f s)) (h : s.running = true) :
    s.after c = f s := (after_eq (hc s)).trans (inRun_run f h)

theorem happens_run {c : Instr} {f : State → State} (hc : ∀ s, exec c s = .next (inRun f s)) (h : s.running = true)
    (due : Bool) : s.happens due c = when due f s := by
  cases due
  · rfl
  · exact after_run hc h

/-- A command that is no reset leaves the time base as it is. -/
theorem exec_tb {c : Instr} (hc : resets c = false) (h : exec c s = .next t) : t.tb = s.tb := by
  refine (exec_reach h hc).tb_eq ?_
  cases c <;> (dsimp only [kinds]; decide)

theorem happens_running {c : Instr} (hc : resets c = false) (h : s.running = true) (due : Bool) :
    (s.happens due c).running = true := by
  cases due
  · exact h
  · obtain ⟨t, ht⟩ := exec_next c s
    show (s.after c).running = true
    rw [after_eq ht]
    unfold State.running
    rw [exec_tb hc ht]
    exact h

theorem reachedTicks_eq (t : Option Nat) (n : Nat) : reachedTicks t n = t.any fun v => decide (n ≤ v) := by cases t <;> rfl

/-! ### The arms' records (R41, R45, R49, R50) -/

theorem arm_onArm (f : Arm → Arm) (s : State) : (s.onArm a f).arm k = if k = a then f (s.arm a) else s.arm k := by
  by_cases h : k = a
  · subst h; rw [arm_onArm_self, if_pos rfl]
  · rw [arm_onArm_ne _ h, if_neg h]

theorem tickTimers_arm (a : Fin 8) (s : State) : (tickTimers s).arm a = (s.arm a).tick := by
  simp [tickTimers, State.arm]

theorem arm_heldDown_iff {r : Arm} : r.heldDown = true ↔ r.state = .down ∧ r.displaced = false := by simp [Arm.heldDown]
theorem arm_moving_iff {r : Arm} : r.moving = true ↔ r.state = .lowering ∨ r.state = .raising := by simp [Arm.moving]

theorem isSome_iff_ne {α : Type} {x : Option α} : x.isSome = true ↔ ¬x = none := by cases x <;> simp

theorem armDue_eq (a : Fin 8) (h : s.running = true) : armDue s a =
    (let s := s.happens (((s.arm a).state = .lowering || (s.arm a).state = .raising) &&
        10 * (s.arm a).timeout ≤ (s.arm a).elapsed) (.armStrokeTimeout a)
     let s := s.happens ((s.arm a).displaceTimer.any (100 ≤ ·)) (.armDisplaced a)
     let s := s.happens ((s.arm a).upTimer.any (100 ≤ ·)) (.upLimitLost a)
     let s := s.happens ((s.arm a).relowerWait.any (200 ≤ ·)) (.relowerWaitExpiry a)
     s.after (.armRelower a)) := by
  dsimp only
  rw [after_run (f := relowerArm a) (fun _ => rfl)
      (happens_running rfl (happens_running rfl (happens_running rfl (happens_running rfl h _) _) _) _),
    happens_run (f := endRelowerWait a) (fun _ => rfl)
      (happens_running rfl (happens_running rfl (happens_running rfl h _) _) _),
    happens_run (f := loseUpLimit a) (fun _ => rfl) (happens_running rfl (happens_running rfl h _) _),
    happens_run (f := displaceArm a) (fun _ => rfl) (happens_running rfl h _),
    happens_run (f := timeOutArm a) (fun _ => rfl) h]
  unfold armDue
  simp only [reachedTicks_eq]
  rfl

/-- An event in the run is what its block does. -/
theorem exec_run {c : Instr} {f : State → State} {v : State} (hc : exec c s = .next (inRun f v)) (hv : v.running = true)
    (e : f v = t) : exec c s = .next t := by rw [hc, inRun_run f hv, e]

theorem isNone_ite {α β : Type} {x : Option α} {p q : β} : (if x.isSome = true then p else q) = if x = none then q else p := by
  cases x <;> rfl

/-- Settles O23. -/
theorem armLimitsReleased : Obligations.ArmLimitsReleased := by
  intro a s h d u
  refine ⟨exec_run rfl h ?_, exec_run rfl h ?_, exec_run rfl h isNone_ite, exec_run rfl h isNone_ite, exec_run rfl h ?_, ?_, ?_, ?_, ?_, armDue_eq a h⟩
  · exact if_congr arm_heldDown_iff rfl rfl
  · show upLimitReleased a u = _
    simp only [ne_eq, ite_not]
    rfl
  · exact if_congr arm_moving_iff rfl rfl
  all_goals rw [tickTimers_arm]
  · exact if_congr arm_moving_iff rfl rfl
  all_goals rfl

/-! ### Strokes as they start (R41, R46, R48) -/

theorem strokeTimeout_eq (n : Nat) (w : Bool) : strokeTimeout n w = n * (if w then 5 else 3) / 2 := by cases w <;> rfl

theorem stallArm_eq (a : Fin 8) (c : ArmCause) (s : State) : stallArm a c s = { s.onArm a fun r => { r with
    state := .stalled, cause := some c, relowerPending := false, relowerWait := none, displaced := false, upLost := false
    displaceTimer := none, upTimer := none, reversal := false } with
      cl := { s.cl with latched := s.cl.latched ||| 2 } } := rfl

theorem stallArm_arm (c : ArmCause) (s : State) : (stallArm a c s).arm a = { s.arm a with
    state := .stalled, cause := some c, relowerPending := false, relowerWait := none, displaced := false, upLost := false
    displaceTimer := none, upTimer := none, reversal := false } := by
  refine (arm_onArm_self s a fun r => { r with
    state := .stalled, cause := some c, relowerPending := false, relowerWait := none, displaced := false, upLost := false
    displaceTimer := none, upTimer := none, reversal := false })

theorem meetStart_estop (he : s.pins.estop = true) : meetStart a s = stallArm a .estop s := if_pos he
theorem meetStart_conflict (he : s.pins.estop = false) (hu : s.pins.armUp[a] = true) (hd : s.pins.armDown[a] = true) :
    meetStart a s = stallArm a .limitConflict s := by
  unfold meetStart; rw [if_neg (by simp [he]), if_pos (by simp [hu, hd])]

theorem startRaising_eq (start : ArmStart) (h : s.apu.restart = false ∨ start = .reversal) :
    startRaising a start s = meetStart a (setupStroke a .raise start s) := if_neg (by rcases h with h | h <;> simp [h])

/-- A lowering that is stopped as it starts takes no obstruction. -/
theorem startLowering_stopped (start : ArmStart) (hr : s.apu.restart = false) {c : ArmCause}
    (h : meetStart a (setupStroke a .lower start s) = stallArm a c (setupStroke a .lower start s)) :
    startLowering a start s = stallArm a c (setupStroke a .lower start s) := by
  unfold startLowering
  rw [if_neg (by simp [hr]), h]
  exact if_neg fun hn => by rw [(stallArm_self _ _ _).1] at hn; cases hn.1

/-- A lowering that meets an active edge alone is an obstruction. -/
theorem startLowering_edge (start : ArmStart) (hr : s.apu.restart = false) (he : s.pins.estop = false)
    (hc : ¬(s.pins.armUp[a] = true ∧ s.pins.armDown[a] = true)) (hd : s.pins.armEdge[a] = true) :
    startLowering a start s = obstruct a (setupStroke a .lower start s) := by
  have e : meetStart a (setupStroke a .lower start s) = setupStroke a .lower start s := meetStart_free he hc
  unfold startLowering
  rw [if_neg (by simp [hr]), e]
  exact if_pos ⟨by rw [setupStroke_self]; rfl, hd⟩

/-- An obstruction that reverses. -/
theorem obstruct_reverses (h : (s.arm a).obstructions < 3) (he : s.pins.estop = false)
    (hc : ¬(s.pins.armUp[a] = true ∧ s.pins.armDown[a] = true)) : obstruct a s =
    setupStroke a .raise .reversal (s.onArm a fun r => { r with obstructions := r.obstructions + 1 }) := by
  unfold obstruct
  rw [if_pos h, startRaising_eq _ (.inr rfl)]
  exact meetStart_free he hc

/-- An obstruction that stalls. -/
theorem obstruct_stalls (h : 3 ≤ (s.arm a).obstructions) : obstruct a s =
    stallArm a .obstructed (s.onArm a fun r => { r with obstructions := 4 }) := if_neg (by omega)

theorem onArm_congr {f g : Arm → Arm} (h : f (s.arm a) = g (s.arm a)) : s.onArm a f = s.onArm a g :=
  congrArg (fun r : Arm => s.onBzu fun b => { b with arms := b.arms.set a r }) h

/-- The last commanded stroke that a start leaves (R41). -/
def ArmStart.lastStroke (start : ArmStart) (way : ArmWay) (before : ArmStroke) : ArmStroke :=
  match start with
  | .commanded => way.stroke
  | .relower => before
  | .reversal => before

theorem setupStroke_eq (way : ArmWay) (start : ArmStart) (s : State) : setupStroke a way start s = s.onArm a fun r => { r with
    state := match way with | .lower => .lowering | .raise => .raising
    cause := none, last := start.lastStroke way (s.arm a).last, relowerPending := false, relowerWait := none
    displaced := false, upLost := false, displaceTimer := none, upTimer := none, reversal := decide (start = .reversal)
    nominal := s.armNominal a, timeout := s.armNominal a * (if s.worn (armActuator a) then 5 else 3) / 2, elapsed := 0
    full := match way with | .lower => s.pins.armUp[a] | .raise => s.pins.armDown[a]
    edgeSeen := s.pins.armEdge[a] } := by
  unfold setupStroke
  refine onArm_congr ?_
  unfold Arm.begin
  rw [strokeTimeout_eq]
  cases start <;> rfl

theorem setupStroke_arm (way : ArmWay) (start : ArmStart) (s : State) : (setupStroke a way start s).arm a = { s.arm a with
    state := match way with | .lower => .lowering | .raise => .raising
    cause := none, last := start.lastStroke way (s.arm a).last, relowerPending := false, relowerWait := none
    displaced := false, upLost := false, displaceTimer := none, upTimer := none, reversal := decide (start = .reversal)
    nominal := s.armNominal a, timeout := s.armNominal a * (if s.worn (armActuator a) then 5 else 3) / 2, elapsed := 0
    full := match way with | .lower => s.pins.armUp[a] | .raise => s.pins.armDown[a]
    edgeSeen := s.pins.armEdge[a] } := by
  rw [setupStroke_eq, arm_onArm_self]

theorem setupStroke_cl (way : ArmWay) (start : ArmStart) (s : State) : (setupStroke a way start s).cl = s.cl := rfl

/-- An obstruction met as a lowering starts: the reversal of the first three, the stall of a later one (R46). -/
structure MeetsEdge (a : Fin 8) (start : ArmStart) (s t : State) : Prop where
  others : ∀ b : Fin 8, b ≠ a → t.arm b = s.arm b
  reverses : (s.arm a).obstructions < 3 → t.cl = s.cl ∧ t.arm a = { (s.arm a) with
    state := .raising, cause := none, last := start.lastStroke .lower (s.arm a).last, relowerPending := false
    relowerWait := none, displaced := false, upLost := false, displaceTimer := none, upTimer := none, reversal := true
    obstructions := (s.arm a).obstructions + 1, nominal := s.armNominal a
    timeout := s.armNominal a * (if s.worn (armActuator a) then 5 else 3) / 2, elapsed := 0
    full := s.pins.armDown[a], edgeSeen := s.pins.armEdge[a] }
  stalls : 3 ≤ (s.arm a).obstructions → (t.arm a).state = .stalled ∧ (t.arm a).cause = some .obstructed ∧
    (t.arm a).obstructions = 4 ∧ (t.arm a).last = start.lastStroke .lower (s.arm a).last ∧
    t.cl.latched = s.cl.latched ||| 2

theorem startLowering_meetsEdge (start : ArmStart) (hr : s.apu.restart = false) (he : s.pins.estop = false)
    (hc : ¬(s.pins.armUp[a] = true ∧ s.pins.armDown[a] = true)) (hd : s.pins.armEdge[a] = true) :
    MeetsEdge a start s (startLowering a start s) := by
  have ho : ((setupStroke a .lower start s).arm a).obstructions = (s.arm a).obstructions := by rw [setupStroke_arm]
  rw [startLowering_edge start hr he hc hd]
  refine ⟨fun b hb => by rw [obstruct_ne hb, setupStroke_ne hb], fun h => ?_, fun h => ?_⟩
  · rw [obstruct_reverses (s := setupStroke a .lower start s) (by rw [ho]; exact h) he hc]
    refine ⟨rfl, ?_⟩
    rw [setupStroke_arm, arm_onArm_self, setupStroke_arm]
    rfl
  · rw [obstruct_stalls (s := setupStroke a .lower start s) (by rw [ho]; exact h), stallArm_arm, arm_onArm_self, setupStroke_arm]
    exact ⟨rfl, rfl, rfl, rfl, rfl⟩

/-- Settles O25. -/
theorem strokeStarts : Obligations.StrokeStarts := by
  intro a s nominal timeout lowered raised
  have hraise (start : ArmStart) : setupStroke a .raise start s =
      raised (start.lastStroke .raise (s.arm a).last) (decide (start = .reversal)) := setupStroke_eq _ _ _
  refine ⟨fun hr => ⟨if_pos hr, if_pos hr, if_pos ⟨hr, nofun⟩⟩, fun he hc => ?_, fun hr he hc => ⟨?_, fun hd => ?_, fun hd => ?_⟩,
    fun hr he => ?_, fun hr he hu hd => ?_⟩
  · rw [startRaising_eq _ (.inr rfl)]
    exact (meetStart_free (s := setupStroke a .raise .reversal s) he hc).trans (hraise _)
  · exact (startRaising_free _ hr he hc).trans (hraise _)
  · have hlower (start : ArmStart) (hs : start ≠ .reversal) : startLowering a start s =
        lowered (start.lastStroke .lower (s.arm a).last) := by
      rw [startLowering_free start hr he hc hd, setupStroke_eq, hd, decide_eq_false hs]
      rfl
    exact ⟨hlower .commanded nofun, hlower .relower nofun⟩
  · have h (start : ArmStart) := startLowering_meetsEdge start hr he hc hd
    intro start last hm t
    obtain ⟨h1, h2, h3⟩ := h start
    rw [hd] at h2
    have hlast : last = start.lastStroke .lower (s.arm a).last := by
      simp only [List.mem_cons, Prod.mk.injEq, List.not_mem_nil, or_false] at hm
      rcases hm with ⟨rfl, rfl⟩ | ⟨rfl, rfl⟩ <;> rfl
    subst hlast
    exact ⟨h1, h2, h3⟩
  · have hl := startLowering_stopped (a := a) .commanded hr (meetStart_estop (s := setupStroke a .lower .commanded s) he)
    have hu := (startRaising_eq (a := a) .commanded (.inl hr)).trans
      (meetStart_estop (s := setupStroke a .raise .commanded s) he)
    rw [hl, hu, stallArm_arm, stallArm_arm, setupStroke_arm, setupStroke_arm]
    exact ⟨rfl, rfl, rfl, rfl, rfl, rfl, rfl⟩
  · have hl := startLowering_stopped (a := a) .commanded hr
      (meetStart_conflict (s := setupStroke a .lower .commanded s) he hu hd)
    have hu := (startRaising_eq (a := a) .commanded (.inl hr)).trans
      (meetStart_conflict (s := setupStroke a .raise .commanded s) he hu hd)
    rw [hl, hu, stallArm_arm, stallArm_arm, setupStroke_arm]
    exact ⟨rfl, rfl, rfl⟩

/-! ### The edge and the re-lowering (R46, R47) -/

theorem mayRelower_iff : s.mayRelower a = true ↔ (s.arm a).state = .up ∧ (s.arm a).relowerPending = true ∧
    (s.arm a).relowerWait = none ∧ s.pins.armEdge[a] = false ∧ (isExit a = true → s.deckCondition = true) ∧
    s.apu.restart = false := by
  unfold State.mayRelower
  cases isExit a <;> cases (s.arm a).relowerWait <;> simp [and_assoc]

/-- Settles O24. -/
theorem edgeAndRelowering : Obligations.EdgeAndRelowering := by
  intro a s hrun e
  have hrec (f : Arm → Arm) : (e.onArm a f).arm a = f (s.arm a) := arm_onArm_self e a f
  have hself : e.pins.armEdge[a] = true := by simp [e]
  refine ⟨fun hl ho he hc => ?_, fun hl ho => exec_run rfl hrun ?_, fun hl => exec_run rfl hrun ?_,
    fun h1 h2 => exec_run rfl hrun ?_, rfl, exec_run rfl hrun rfl, exec_run rfl hrun (if_congr mayRelower_iff rfl rfl)⟩
  · refine ⟨obstruct a (e.onArm a fun r => { r with edgeSeen := true }), exec_run rfl hrun ?_, ?_⟩
    · show edgeActive a e = _
      unfold edgeActive
      rw [show (e.arm a).state = .lowering from hl]
    · have hv := hrec fun r => { r with edgeSeen := true }
      have hne (b : Fin 8) (hb : b ≠ a) : (e.onArm a fun r => { r with edgeSeen := true }).arm b = s.arm b := arm_onArm_ne e hb _
      have hpins : (e.onArm a fun r => { r with edgeSeen := true }).pins = e.pins := rfl
      have hcl : (e.onArm a fun r => { r with edgeSeen := true }).cl = s.cl := rfl
      generalize (e.onArm a fun r => { r with edgeSeen := true }) = v at hv hne hpins hcl ⊢
      rw [obstruct_reverses (s := v) (by rw [hv]; exact ho) (by rw [hpins]; exact he) (by rw [hpins]; exact hc)]
      have hrev : (setupStroke a .raise .reversal (v.onArm a fun r => { r with obstructions := r.obstructions + 1 })).arm a = _ :=
        setupStroke_arm _ _ _
      rw [arm_onArm_self, hv] at hrev
      rw [hrev]
      refine ⟨rfl, rfl, rfl, rfl, ?_, rfl, ?_, hcl, fun b hb => ?_⟩
      · show v.pins.armEdge[a] = true
        rw [hpins]; exact hself
      · show v.pins.armDown[a] = _
        rw [hpins]
      · rw [setupStroke_ne hb, arm_onArm_ne _ hb, hne b hb]
  · show edgeActive a e = _
    unfold edgeActive
    rw [show (e.arm a).state = .lowering from hl]
    dsimp only
    rw [obstruct_stalls (s := e.onArm a _) (by rw [hrec]; exact ho), onArm_onArm]
    rfl
  · show edgeActive a e = _
    unfold edgeActive
    rw [show (e.arm a).state = .raising from hl]
  · show edgeActive a e = _
    unfold edgeActive
    have h1' : (e.arm a).state ≠ .lowering := h1
    have h2' : (e.arm a).state ≠ .raising := h2
    cases h : (e.arm a).state <;> first | rfl | exact absurd h h1' | exact absurd h h2'

/-! ### Arms out of service (R53): no command and no step of the road touches them -/

/-- An OUT_OF_SERVICE arm keeps its record, and no arm becomes OUT_OF_SERVICE. -/
structure ServiceKept (s t : State) : Prop where
  out : ∀ a, (s.arm a).state = .outOfService → t.arm a = s.arm a
  inService : ∀ a, (s.arm a).state ≠ .outOfService → (t.arm a).state ≠ .outOfService

theorem ServiceKept.refl (s : State) : ServiceKept s s := ⟨fun _ _ => rfl, fun _ h => h⟩
theorem ServiceKept.trans (h : ServiceKept s t) (k : ServiceKept t u) : ServiceKept s u :=
  ⟨fun a ha => (k.out a (by rw [h.out a ha]; exact ha)).trans (h.out a ha), fun a ha => k.inService a (h.inService a ha)⟩
theorem ServiceKept.of_arms (h : t.bzu.arms = s.bzu.arms) : ServiceKept s t := by
  have e (a : Fin 8) : t.arm a = s.arm a := by unfold State.arm; rw [h]
  exact ⟨fun a _ => e a, fun a ha => by rw [e]; exact ha⟩
theorem ServiceKept.of_arm {a : Fin 8} (ho : ∀ k, k ≠ a → t.arm k = s.arm k) (hs : (s.arm a).state ≠ .outOfService)
    (ht : (t.arm a).state ≠ .outOfService) : ServiceKept s t := by
  refine ⟨fun k hk => ho k (by rintro rfl; exact hs hk), fun k hk => ?_⟩
  by_cases e : k = a
  · subst e; exact ht
  · rw [ho k e]; exact hk

theorem onArm_kept {f : Arm → Arm} (hs : (s.arm a).state ≠ .outOfService) (hf : (f (s.arm a)).state ≠ .outOfService) :
    ServiceKept s (s.onArm a f) :=
  .of_arm (fun _ h => arm_onArm_ne s h f) hs (by rw [arm_onArm_self]; exact hf)
theorem stallArm_kept (c : ArmCause) (hs : (s.arm a).state ≠ .outOfService) : ServiceKept s (stallArm a c s) :=
  .of_arm (fun _ h => stallArm_ne h c s) hs (by rw [stallArm_arm]; nofun)
theorem setupStroke_kept (way : ArmWay) (start : ArmStart) (hs : (s.arm a).state ≠ .outOfService) :
    ServiceKept s (setupStroke a way start s) :=
  .of_arm (fun _ h => setupStroke_ne h way start s) hs (by rw [setupStroke_arm]; cases way <;> nofun)
theorem meetStart_kept (hs : (s.arm a).state ≠ .outOfService) : ServiceKept s (meetStart a s) := by
  unfold meetStart
  split
  · exact stallArm_kept _ hs
  · split
    · exact stallArm_kept _ hs
    · exact .refl s
theorem startRaising_kept (start : ArmStart) (hs : (s.arm a).state ≠ .outOfService) :
    ServiceKept s (startRaising a start s) := by
  have h := setupStroke_kept .raise start hs
  unfold startRaising
  split
  · exact .refl s
  · exact h.trans (meetStart_kept (h.inService a hs))
theorem obstruct_kept (hs : (s.arm a).state ≠ .outOfService) : ServiceKept s (obstruct a s) := by
  have h (f : Arm → Arm) (hf : ∀ r, (f r).state = r.state) : ServiceKept s (s.onArm a f) := onArm_kept hs (by rw [hf]; exact hs)
  unfold obstruct
  split
  · have h1 := h (fun r => { r with obstructions := r.obstructions + 1 }) fun _ => rfl
    exact h1.trans (startRaising_kept _ (h1.inService a hs))
  · have h1 := h (fun r => { r with obstructions := 4 }) fun _ => rfl
    exact h1.trans (stallArm_kept _ (h1.inService a hs))
theorem startLowering_kept (start : ArmStart) (hs : (s.arm a).state ≠ .outOfService) :
    ServiceKept s (startLowering a start s) := by
  have h1 := setupStroke_kept .lower start hs
  have h2 := h1.trans (meetStart_kept (h1.inService a hs))
  unfold startLowering
  split
  · exact .refl s
  · dsimp only
    split
    · exact h2.trans (obstruct_kept (h2.inService a hs))
    · exact h2
theorem commandLower_kept (a : Fin 8) (s : State) : ServiceKept s (commandLower a s).1 := by
  have h (hs : (s.arm a).state ≠ .outOfService) : ServiceKept s (lowerSubject a s).1 := by
    unfold lowerSubject
    split
    · exact .refl s
    · split
      · exact .refl s
      · exact startLowering_kept _ hs
  unfold commandLower
  split
  · next hs => split
               · exact .refl s
               · exact h (by rw [hs]; nofun)
  · exact .refl s
  · next hs => split
               · exact h (by rw [hs]; nofun)
               · exact .refl s
  · next hs => exact h (by rw [hs]; nofun)
  · next hs => exact h (by rw [hs]; nofun)
  · exact .refl s
theorem commandRaise_kept (s : State) (a : Fin 8) : ServiceKept s (commandRaise s a) := by
  unfold commandRaise
  split
  · next hs => exact onArm_kept (by rw [hs]; nofun) (by show (s.arm a).state ≠ _; rw [hs]; nofun)
  · next hs => exact startRaising_kept _ (by rw [hs]; nofun)
  · next hs => exact startRaising_kept _ (by rw [hs]; nofun)
  · next hs => exact startRaising_kept _ (by rw [hs]; nofun)
  · exact .refl s
  · exact .refl s
theorem commandRaises_kept (p : Arm → Bool) (l : List (Fin 8)) (s : State) : ServiceKept s (commandRaises p l s) := by
  unfold commandRaises
  induction l generalizing s with
  | nil => exact .refl s
  | cons a l ih =>
    rw [List.foldl_cons]
    refine .trans ?_ (ih _)
    split
    · exact commandRaise_kept s a
    · exact .refl s
theorem commandLowers_kept (p : Arm → Bool) (l : List (Fin 8)) (s : State) : ServiceKept s (commandLowers p l s).1 := by
  have h (r : State × Bool) : ServiceKept r.1 (l.foldl (fun (r : State × Bool) a =>
      if p (r.1.arm a) then ((commandLower a r.1).1, r.2 || (commandLower a r.1).2) else r) r).1 := by
    induction l generalizing r with
    | nil => exact .refl r.1
    | cons a l ih =>
      rw [List.foldl_cons]
      refine .trans ?_ (ih _)
      split
      · exact commandLower_kept a r.1
      · exact .refl r.1
  exact h (s, false)

/-! The steps of the road -/

theorem setRoad_kept (st : RoadState) (s : State) : ServiceKept s (setRoad st s) := by
  obtain ⟨p, hp⟩ := setRoad_eq st s
  exact .of_arms (by rw [hp])
theorem onRcs_kept (f : Rcs → Rcs) (s : State) : ServiceKept s (s.onRcs f) := .of_arms rfl
theorem latch_kept (c : Condition) (s : State) : ServiceKept s (latch c s) := .of_arms rfl
theorem setStep_kept (x : StepTimer) (s : State) : ServiceKept s (setStep x s) := .of_arms rfl
theorem viewDeck_kept (s : State) : ServiceKept s (viewDeck s) := .of_arms rfl
theorem reverseSecuring_kept (s : State) : ServiceKept s (reverseSecuring s) :=
  (latch_kept _ s).trans <| (viewDeck_kept _).trans <| (commandRaises_kept _ _ _).trans <|
    (setRoad_kept _ _).trans (setStep_kept _ _)
theorem testSecured_kept (s : State) : ServiceKept s (testSecured s) := by
  unfold testSecured; split
  · exact setRoad_kept _ s
  · exact .refl s
theorem testRestored_kept (s : State) : ServiceKept s (testRestored s) := by
  unfold testRestored; split
  · exact setRoad_kept _ s
  · exact .refl s
theorem enterSecuring_kept (s : State) : ServiceKept s (enterSecuring s) := by
  have h := ((setRoad_kept .securing s).trans (setStep_kept .none _)).trans
    (onRcs_kept (fun r => { r with limitPassed := false }) _)
  unfold enterSecuring
  dsimp only
  generalize (setStep .none (setRoad .securing s)).onRcs _ = v at h ⊢
  have hc := h.trans (commandLowers_kept Arm.strayed exitArms v)
  generalize commandLowers Arm.strayed exitArms v = c at hc ⊢
  split
  · exact hc.trans (reverseSecuring_kept _)
  · exact hc.trans (testSecured_kept _)
theorem testSecuring_kept (s : State) : ServiceKept s (testSecuring s) := by
  unfold testSecuring; split
  · exact enterSecuring_kept s
  · exact .refl s
theorem enterClearing_kept (s : State) : ServiceKept s (enterClearing s) :=
  (setRoad_kept _ s).trans <| (setStep_kept _ _).trans <| (onRcs_kept _ _).trans (testSecuring_kept _)
theorem testClearing_kept (s : State) : ServiceKept s (testClearing s) := by
  unfold testClearing; split
  · exact enterClearing_kept s
  · exact .refl s
theorem enterBreached_kept (s : State) : ServiceKept s (enterBreached s) :=
  (setRoad_kept _ s).trans <| (ServiceKept.of_arms ((reportBreach_reach _).arms_eq (by decide))).trans (commandLowers_kept _ _ _)
theorem testReopening_kept (s : State) : ServiceKept s (testReopening s) := by
  have h : ServiceKept s (if s.allUp exitArms ∧ s.rcs.entryRaising = false then
      commandRaises Arm.inService entryArms (s.onRcs fun r => { r with entryRaising := true }) else s) := by
    split
    · exact (onRcs_kept _ s).trans (commandRaises_kept _ _ _)
    · exact .refl s
  unfold testReopening
  generalize (if s.allUp exitArms ∧ s.rcs.entryRaising = false then _ else s) = v at h ⊢
  dsimp only
  split
  · split
    · exact h
    · exact h.trans (setStep_kept _ _)
  · split
    · exact h.trans (setStep_kept _ _)
    · exact h
theorem reportArm_kept (a : Fin 8) (s : State) : ServiceKept s (reportArm a s) := by
  have lower (p : Prop) [Decidable p] : ServiceKept s (if p then (commandLower a s).1 else s) := by
    split
    · exact commandLower_kept a s
    · exact .refl s
  have raise (p : Prop) [Decidable p] : ServiceKept s (if p then commandRaise s a else s) := by
    split
    · exact commandRaise_kept s a
    · exact .refl s
  unfold reportArm
  split
  · exact raise _
  · exact .refl s
  · exact .refl s
  · split
    · exact (lower _).trans (testClearing_kept _)
    · exact .refl s
  · exact (lower _).trans (testSecuring_kept _)
  · have h : ServiceKept s (if (s.arm a).wantsLower then commandLower a s else (s, false)).1 := by
      split
      · exact commandLower_kept a s
      · exact .refl s
    generalize (if (s.arm a).wantsLower then commandLower a s else (s, false)) = c at h ⊢
    dsimp only
    split
    · exact h.trans (reverseSecuring_kept _)
    · exact h.trans (testSecured_kept _)
  · split
    · exact .refl s
    · exact enterBreached_kept s
  · exact (lower _).trans (testRestored_kept _)
  · exact (raise _).trans (testReopening_kept _)

/-! ### ARM-RETRY and ARM-SERVICE (R52 to R54) -/

theorem armRetryOp_at {b : Byte} (h : b.toNat = a.val) (s : State) : armRetryOp b s = retryArm a s := by
  have hlt : b.toNat < 8 := by rw [h]; exact a.isLt
  obtain rfl : a = ⟨b.toNat, hlt⟩ := Fin.ext h.symm
  exact dif_pos hlt
theorem armServiceOp_out {b : Byte} (h : b.toNat = a.val) (s : State) : armServiceOp b 1 s = serviceOut a s := by
  have hlt : b.toNat < 8 := by rw [h]; exact a.isLt
  obtain rfl : a = ⟨b.toNat, hlt⟩ := Fin.ext h.symm
  exact dif_pos hlt
theorem armServiceOp_return {b : Byte} (h : b.toNat = a.val) (s : State) : armServiceOp b 0 s = serviceReturn a s := by
  have hlt : b.toNat < 8 := by rw [h]; exact a.isLt
  obtain rfl : a = ⟨b.toNat, hlt⟩ := Fin.ext h.symm
  exact dif_pos hlt

theorem byte_of_toNat {b : Byte} {n : Nat} (h : b.toNat = n) : BitVec.ofNat 8 n = b := by rw [← h]; simp

/-- Settles O26. -/
theorem armRequests : Obligations.ArmRequests := by
  intro a b s hb
  have hba : BitVec.ofNat 8 a.val = b := byte_of_toNat hb
  refine ⟨fun ha => ⟨fun hn => ?_, fun hs hl he hd => ?_, fun hs hl hd => ?_, fun hs hl => ?_⟩,
    fun ha => ⟨fun ho => ?_, fun hn hw => ?_, fun hst hr1 hr2 => ?_, fun hn => ?_, fun ho => ?_⟩⟩
  · rw [exec_armRetry ha, armRetryOp_at hb, retryArm]
    dsimp only
    by_cases hs : (s.arm a).state ≠ .stalled
    · rw [if_pos hs]; rfl
    · rw [if_neg hs, hn.resolve_left hs]; rfl
  · rw [exec_armRetry ha, armRetryOp_at hb, retryArm]
    dsimp only
    rw [if_neg (by simpa using hs), hl]
    dsimp only
    rw [if_pos ⟨he, hd⟩]; rfl
  · rw [exec_armRetry ha, armRetryOp_at hb, retryArm]
    dsimp only
    rw [if_neg (by simpa using hs), hl]
    dsimp only
    rw [if_neg (fun hn => by rw [hd hn.1] at hn; cases hn.2), b1, hba]; rfl
  · rw [exec_armRetry ha, armRetryOp_at hb, retryArm]
    dsimp only
    rw [if_neg (by simpa using hs), hl, b1, hba]; rfl
  · rw [exec_armServiceOut ha, armServiceOp_out hb, serviceOut, State.armService]
    dsimp only
    rw [if_pos ho, ho, b1, hba]; rfl
  · rw [exec_armServiceOut ha, armServiceOp_out hb, serviceOut]
    dsimp only
    rw [if_neg hn]
    rcases hw with hw | hw
    · rw [if_pos hw]; rfl
    · rw [if_pos hw, ite_self]; rfl
  · have hk := (reportArm_kept a (s.onArm a fun r => r.cleared .outOfService none)).out a (by rw [arm_onArm_self]; rfl)
    have hself := arm_onArm_self s a fun r => r.cleared .outOfService none
    refine ⟨s.onArm a fun r => r.cleared .outOfService none, ?_, by rw [hself]; rfl, by rw [hself]; rfl, by rw [hself]; rfl,
      by rw [hself]; rfl, by rw [hself]; rfl, by rw [hself]; rfl, by rw [hself]; rfl, rfl, fun k hne => arm_onArm_ne s hne _⟩
    rw [exec_armServiceOut ha, armServiceOp_out hb, serviceOut]
    dsimp only
    rw [if_neg (by rcases hst with h | h <;> rw [h] <;> nofun), if_neg (by rcases hst with h | h <;> rw [h] <;> simp),
      if_neg (fun h => h.elim hr1 hr2), State.armService, hk, hself, b1, hba]
    rfl
  · rw [exec_armServiceReturn ha, armServiceOp_return hb, serviceReturn, if_pos hn, State.armService, b1, hba]; rfl
  · intro same state cause
    have hself : (s.onArm a fun _ => s.derivedArm a).arm a = s.derivedArm a := arm_onArm_self s a _
    have hst : (s.derivedArm a).state = state := stateOfLimits_state _ _
    have hc : (s.derivedArm a).cause = cause := stateOfLimits_cause _ _
    refine ⟨s.onArm a fun _ => s.derivedArm a, ?_, by rw [hself, hst], by rw [hself, hc], by rw [hself]; rfl, by rw [hself]; rfl,
      by rw [hself]; rfl, by rw [hself]; rfl, by rw [hself]; rfl, by rw [hself]; rfl, by rw [hself]; rfl, by rw [hself]; rfl,
      rfl, rfl, fun k hne => arm_onArm_ne s hne _⟩
    rw [exec_armServiceReturn ha, armServiceOp_return hb, serviceReturn, if_neg (by simpa using ho)]
    dsimp only
    rw [State.armService, show (latchIf _ .arm _).arm a = (s.onArm a fun _ => s.derivedArm a).arm a by rw [State.arm, latchIf_eq]; rfl, hself, hst, hc, b1, hba]
    rfl

end Sys2Proof.Machine
end

section
/-! PROOFS. The road: zones and their changes, the RCS's commands, an arm's report by the road state (R43, R55 to R58, R63 to R72). -/

namespace Sys2Proof.Machine

variable {s t u : State} {a k : Fin 8}

/-! ### The deck-clear condition (R43, R63) -/

theorem deckCondition_congr (hz : t.bzu.zones = s.bzu.zones) (hd : t.dwell = s.dwell) : t.deckCondition = s.deckCondition := by
  unfold State.deckCondition State.zone
  rw [hz, hd]
theorem deckOccupied_congr (hz : t.bzu.zones = s.bzu.zones) : t.deckOccupied = s.deckOccupied := by
  unfold State.deckOccupied State.zone
  rw [hz]
theorem dwell_congr (hr : t.rcs = s.rcs) (ha : t.apu = s.apu) : t.dwell = s.dwell := by
  unfold State.dwell State.par
  rw [hr, ha]

theorem mem_allZones (z : Fin 6) : z ∈ allZones := by revert z; decide

theorem deckCondition_iff : s.deckCondition = true ↔
    ∀ z, (s.zone z).bypassed = true ∨ (s.zone z).counted = false ∧ sec s.dwell ≤ (s.zone z).clearTicks := by
  unfold State.deckCondition
  simp only [List.all_eq_true, mem_allZones, true_implies, Bool.or_eq_true, Bool.and_eq_true, Bool.not_eq_true', decide_eq_true_eq]
theorem deckOccupied_iff : s.deckOccupied = true ↔ ∃ z, (s.zone z).counted = true := by
  unfold State.deckOccupied
  simp only [List.any_eq_true, mem_allZones, true_and]

theorem counted_not_bypassed {r : Zone} (h : r.counted = true) : r.bypassed = false := by
  unfold Zone.counted at h
  cases hb : r.bypassed
  · rfl
  · rw [hb] at h; cases h

theorem deckCondition_counted {z : Fin 6} (h : (s.zone z).counted = true) : s.deckCondition = false := by
  cases hc : s.deckCondition
  · rfl
  · rcases deckCondition_iff.1 hc z with hb | ⟨hn, -⟩
    · rw [counted_not_bypassed h] at hb; cases hb
    · rw [h] at hn; cases hn

theorem deckCondition_short {z : Fin 6} (hb : (s.zone z).bypassed = false) (ht : (s.zone z).clearTicks < sec s.dwell) :
    s.deckCondition = false := by
  cases hc : s.deckCondition
  · rfl
  · rcases deckCondition_iff.1 hc z with h | ⟨-, h⟩
    · rw [hb] at h; cases h
    · omega

/-- While the condition fails the view is not clear, and waits for the dwell where nothing is occupied (R63). -/
theorem reviewDeck_fails (h : s.deckCondition = false) :
    reviewDeck s = { s with rcs := { s.rcs with deckClear := false, dwellWait := !s.deckOccupied } } := by
  have e : viewDeck s = { s with rcs := { s.rcs with deckClear := false, dwellWait := !s.deckOccupied } } := by
    unfold viewDeck State.onRcs; rw [h]; rfl
  unfold reviewDeck
  rw [e]; rfl

/-! ### Lower and raise commands of the RCS (R42, R43) -/

/-- Moves of arms' strokes alone. -/
abbrev Strokes : State → State → Prop := Reach [.latched, .arms, .strokes]

theorem Strokes.deckCondition (h : Strokes s t) : t.deckCondition = s.deckCondition :=
  deckCondition_congr (h.zones_eq (by decide)) (dwell_congr (h.rcs_eq (by decide)) (h.apu_eq (by decide)))

theorem arm_wantsLower_iff {r : Arm} : r.wantsLower = true ↔
    r.state = .up ∧ r.relowerPending = false ∨ r.state = .down ∧ r.displaced = true := by simp [Arm.wantsLower]
theorem arm_strayed_iff {r : Arm} : r.strayed = true ↔ r.state ≠ .outOfService ∧ ¬(r.state = .down ∧ r.displaced = false) := by
  simp [Arm.strayed, Arm.inService, Arm.heldDown, imp_iff_not_or]
theorem arm_reverses_iff {r : Arm} : r.reverses = true ↔ r.state = .lowering ∨ r.state = .up ∧ r.relowerPending = true := by
  simp [Arm.reverses]
theorem arm_breachLower_iff {r : Arm} : r.breachLower = true ↔
    r.wantsLower = true ∨ r.state = .up ∧ r.relowerPending = true := by
  unfold Arm.breachLower Arm.strayed Arm.wantsLower Arm.moving Arm.inService Arm.heldDown
  cases r.state <;> cases r.displaced <;> cases r.relowerPending <;> decide

theorem allHeld_iff {l : List (Fin 8)} : s.allHeld l = true ↔ ∀ a ∈ l, (s.arm a).strayed = false := by
  unfold State.allHeld Arm.strayed
  rw [List.all_eq_true]
  refine forall_congr' fun a => imp_congr_right fun _ => ?_
  cases (s.arm a).inService <;> cases (s.arm a).heldDown <;> decide
theorem allHeld_false {l : List (Fin 8)} : s.allHeld l = false ↔ ∃ a ∈ l, (s.arm a).strayed = true := by
  rw [← Bool.not_eq_true, allHeld_iff]; simp
theorem allHeld_congr {l : List (Fin 8)} (h : t.bzu.arms = s.bzu.arms) : t.allHeld l = s.allHeld l := by
  unfold State.allHeld State.arm; rw [h]

theorem mem_allArms (a : Fin 8) : a ∈ allArms := by revert a; decide
theorem exit_iff : isExit a = true ↔ a ∈ exitArms := by revert a; decide
theorem entry_iff : isExit a = false ↔ a ∈ entryArms := by revert a; decide

/-- A command that an arm wants starts its stroke (R42). -/
theorem commandLower_wants (hw : (s.arm a).wantsLower = true) (hr : s.apu.restart = false)
    (hd : isExit a = true → s.deckCondition = true) : commandLower a s = (startLowering a .commanded s, false) := by
  have e : lowerSubject a s = (startLowering a .commanded s, false) := by
    unfold lowerSubject
    rw [if_neg (by simp [hr]), if_neg (fun h => by rw [hd h.1] at h; cases h.2)]
  unfold commandLower
  rcases arm_wantsLower_iff.1 hw with ⟨h, hp⟩ | ⟨h, hp⟩
  · rw [h]; dsimp only; rw [hp]; exact e
  · rw [h]; dsimp only; rw [hp]; exact e

/-- The deck holds the command of an exit arm (R43). -/
theorem commandLower_held (hw : (s.arm a).wantsLower = true) (hr : s.apu.restart = false)
    (hx : isExit a = true) (hd : s.deckCondition = false) : commandLower a s = (s, true) := by
  have e : lowerSubject a s = (s, true) := by
    unfold lowerSubject
    rw [if_neg (by simp [hr]), if_pos ⟨hx, hd⟩]
  unfold commandLower
  rcases arm_wantsLower_iff.1 hw with ⟨h, hp⟩ | ⟨h, hp⟩
  · rw [h]; dsimp only; rw [hp]; exact e
  · rw [h]; dsimp only; rw [hp]; exact e

/-- Without an occupied deck no command is held. -/
theorem commandLower_unheld (hd : s.deckCondition = true) : (commandLower a s).2 = false := by
  have e : (lowerSubject a s).2 = false := by
    unfold lowerSubject
    rw [hd]
    split
    · rfl
    · rw [if_neg (by simp)]
  unfold commandLower
  cases h : (s.arm a).state <;> dsimp only
  case up => split <;> first | rfl | exact e
  case down => split <;> first | rfl | exact e
  all_goals first | rfl | exact e

/-- An arm whose lowering starts is not held down: it lowers, is reversed or stalls. -/
theorem startLowering_strayed (start : ArmStart) (hr : s.apu.restart = false) :
    ((startLowering a start s).arm a).strayed = true := by
  have stalled (v : State) (c : ArmCause) : ((stallArm a c v).arm a).strayed = true := by rw [stallArm_arm]; rfl
  have moving (v : State) (w : ArmWay) (x : ArmStart) : ((setupStroke a w x v).arm a).strayed = true := by
    rw [setupStroke_arm]; cases w <;> rfl
  have meets (v : State) (h : (v.arm a).strayed = true) : ((meetStart a v).arm a).strayed = true := by
    unfold meetStart
    split
    · exact stalled _ _
    · split
      · exact stalled _ _
      · exact h
  unfold startLowering
  rw [if_neg (by simp [hr])]
  dsimp only
  split
  · unfold obstruct
    split
    · rw [startRaising_eq _ (.inr rfl)]
      exact meets _ (moving _ _ _)
    · exact stalled _ _
  · exact meets _ (moving _ _ _)

/-- A strayed arm that is commanded to lower is not held down at once. -/
theorem commandLower_strayed (h : (s.arm a).strayed = true) : ((commandLower a s).1.arm a).strayed = true := by
  have e : ((lowerSubject a s).1.arm a).strayed = true := by
    unfold lowerSubject
    split
    · exact h
    · split
      · exact h
      · next hr _ => exact startLowering_strayed _ (by simpa using hr)
  unfold commandLower
  cases hs : (s.arm a).state <;> dsimp only
  case up => split <;> assumption
  case down => split <;> assumption
  all_goals assumption

/-! Commands to a group of arms -/

/-- A group in which no arm passes the test is commanded nothing. -/
theorem commandLowers_none {p : Arm → Bool} {l : List (Fin 8)} (h : ∀ a ∈ l, p (s.arm a) = false) :
    commandLowers p l s = (s, false) := by
  unfold commandLowers
  induction l with
  | nil => rfl
  | cons b l ih =>
    rw [List.foldl_cons, if_neg (by simp [h b List.mem_cons_self])]
    exact ih fun a ha => h a (List.mem_cons_of_mem b ha)

/-- With the deck clear no command of a group is held. -/
theorem commandLowers_unheld (p : Arm → Bool) (l : List (Fin 8)) (hd : s.deckCondition = true) :
    (commandLowers p l s).2 = false := by
  have h (r : State × Bool) (h1 : r.1.deckCondition = true) (h2 : r.2 = false) : (l.foldl (fun (r : State × Bool) a =>
      if p (r.1.arm a) then ((commandLower a r.1).1, r.2 || (commandLower a r.1).2) else r) r).2 = false := by
    induction l generalizing r with
    | nil => exact h2
    | cons b l ih =>
      rw [List.foldl_cons]
      refine ih _ ?_ ?_
      · split
        · rw [Strokes.deckCondition (commandLower_reach b r.1)]; exact h1
        · exact h1
      · split
        · show (r.2 || (commandLower b r.1).2) = false
          rw [h2, commandLower_unheld h1]; rfl
        · exact h2
  exact h (s, false) hd rfl

/-- What a group of lower commands does to an arm in it is the one command to it, after strokes of other arms. -/
theorem commandLowers_at (p : Arm → Bool) {l : List (Fin 8)} (hn : l.Nodup) (h : a ∈ l) (s : State) :
    ∃ v, Strokes s v ∧ v.arm a = s.arm a ∧
      (commandLowers p l s).1.arm a = if p (s.arm a) then (commandLower a v).1.arm a else s.arm a := by
  have key (r : State × Bool) : ∃ v, Strokes r.1 v ∧ v.arm a = r.1.arm a ∧ (l.foldl (fun (r : State × Bool) a =>
      if p (r.1.arm a) then ((commandLower a r.1).1, r.2 || (commandLower a r.1).2) else r) r).1.arm a =
        if p (r.1.arm a) then (commandLower a v).1.arm a else r.1.arm a := by
    induction l generalizing r with
    | nil => cases h
    | cons b l ih =>
      rw [List.foldl_cons]
      by_cases e : a = b
      · subst e
        refine ⟨r.1, .refl _, rfl, ?_⟩
        rw [commandLowers_ne p l (List.nodup_cons.mp hn).1]
        split <;> rfl
      · obtain ⟨v, h1, h2, h3⟩ := ih (List.nodup_cons.mp hn).2 ((List.mem_cons.mp h).resolve_left e)
          (if p (r.1.arm b) then ((commandLower b r.1).1, r.2 || (commandLower b r.1).2) else r)
        have hs : Strokes r.1 (if p (r.1.arm b) then ((commandLower b r.1).1, r.2 || (commandLower b r.1).2) else r).1 := by
          split
          · exact commandLower_reach b r.1
          · exact .refl _
        have ha : (if p (r.1.arm b) then ((commandLower b r.1).1, r.2 || (commandLower b r.1).2) else r).1.arm a = r.1.arm a := by
          split
          · exact commandLower_ne e r.1
          · rfl
        rw [ha] at h2 h3
        exact ⟨v, hs.trans h1, h2, h3⟩
  exact key (s, false)

theorem commandRaises_none {p : Arm → Bool} {l : List (Fin 8)} (h : ∀ a ∈ l, p (s.arm a) = false) :
    commandRaises p l s = s := by
  unfold commandRaises
  induction l with
  | nil => rfl
  | cons b l ih =>
    rw [List.foldl_cons, if_neg (by simp [h b List.mem_cons_self])]
    exact ih fun a ha => h a (List.mem_cons_of_mem b ha)

/-- What a raise command leaves of an arm, by its state (R42). -/
theorem commandRaise_starts (h : (s.arm a).state = .lowering ∨ (s.arm a).state = .down ∨ (s.arm a).state = .stalled) :
    commandRaise s a = startRaising a .commanded s := by
  unfold commandRaise
  rcases h with h | h | h <;> rw [h]
theorem commandRaise_up (h : (s.arm a).state = .up) :
    (commandRaise s a).arm a = { s.arm a with relowerPending := false, relowerWait := none } := by
  unfold commandRaise
  rw [h]
  exact arm_onArm_self s a _
theorem startRaising_raises (start : ArmStart) (hr : s.apu.restart = false) (he : s.pins.estop = false)
    (hc : ¬(s.pins.armUp[a] = true ∧ s.pins.armDown[a] = true)) : ((startRaising a start s).arm a).state = .raising := by
  rw [startRaising_free start hr he hc, setupStroke_arm]
theorem startLowering_lowers (start : ArmStart) (hr : s.apu.restart = false) (he : s.pins.estop = false)
    (hc : ¬(s.pins.armUp[a] = true ∧ s.pins.armDown[a] = true)) (hd : s.pins.armEdge[a] = false) :
    ((startLowering a start s).arm a).state = .lowering := by
  rw [startLowering_free start hr he hc hd, setupStroke_arm]

/-! ### Masks of the latched conditions -/

theorem mask_road (x : Half) : (x &&& 1) ≠ 0 ↔ x.getLsbD 0 = true := (mask_iff x 0).trans (and_iff_right (by decide))
theorem mask_deck (x : Half) : (x &&& 4) ≠ 0 ↔ x.getLsbD 2 = true := (mask_iff x 2).trans (and_iff_right (by decide))
theorem mask_roadDeck {x : Half} (h0 : x.getLsbD 0 = true) (h2 : x.getLsbD 2 = true) : x &&& 5 = 5 := by
  apply BitVec.eq_of_getLsbD_eq
  intro i hi
  rw [BitVec.getLsbD_and]
  have h5 : (5 : Half).getLsbD i = true → i = 0 ∨ i = 2 := by revert i; decide
  cases h : (5 : Half).getLsbD i
  · rw [Bool.and_false]
  · rcases h5 h with rfl | rfl <;> simp [*]

theorem latch_latches (c : Condition) (s : State) : (latch c s).cl.latched.getLsbD c.number = true := by
  show (s.cl.latched ||| c.bit).getLsbD c.number = true
  rw [BitVec.getLsbD_or]
  cases c <;> simp [Condition.bit, Condition.number]
theorem latchIf_latches {p : Bool} (h : p = true) (c : Condition) (s : State) :
    (latchIf p c s).cl.latched.getLsbD c.number = true := by
  unfold latchIf; rw [if_pos h]; exact latch_latches c s

/-! ### A zone's change (R55, R56) -/

/-- The record that a change of a zone leaves: its read latch and its clear duration follow. -/
def Zone.taken (old new : Zone) : Zone :=
  { new with
    occupiedSinceRead := new.occupiedSinceRead || (decide (new.code ≠ old.code) && new.occupied)
    clearTicks := if new.counted = old.counted then new.clearTicks else 0 }

/-- A zone's changed record in place, with DECK latched where a fault begins. -/
def State.zoneTaken (s : State) (z : Fin 6) (f : Zone → Zone) : State :=
  latchIf ((f (s.zone z)).fault && !(s.zone z).fault) .deck (s.onZone z fun _ => (s.zone z).taken (f (s.zone z)))

/-- An occupation of a leaf zone off the seats (R56). -/
def State.intrudes (s : State) (z : Fin 6) (f : Zone → Zone) : Bool :=
  (f (s.zone z)).counted && decide (z.val < 4) && decide (s.lmc.leaf ≠ .seatedLocked)

/-- The changed record with what a new occupation of a leaf zone latches. -/
def State.zoneTold (s : State) (z : Fin 6) (f : Zone → Zone) : State := latchIf (s.intrudes z f) .deck (s.zoneTaken z f)

section
variable {z : Fin 6} {f : Zone → Zone}

theorem changeZone_same (h : (f (s.zone z)).counted = (s.zone z).counted) : changeZone z f s = s.zoneTaken z f := if_pos h
theorem changeZone_told (h : (f (s.zone z)).counted ≠ (s.zone z).counted) :
    changeZone z f s = reportZone (f (s.zone z)).counted (s.zoneTold z f) := if_neg h

theorem zoneTaken_eq (z : Fin 6) (f : Zone → Zone) (s : State) : ∃ l, s.zoneTaken z f =
    { s.onZone z fun _ => (s.zone z).taken (f (s.zone z)) with cl := { s.cl with latched := l } } :=
  ⟨_, latchIf_eq _ _ _⟩
theorem zoneTold_eq (z : Fin 6) (f : Zone → Zone) (s : State) : ∃ l, s.zoneTold z f =
    { s.onZone z fun _ => (s.zone z).taken (f (s.zone z)) with cl := { s.cl with latched := l } } := by
  obtain ⟨l, h⟩ := zoneTaken_eq z f s
  exact ⟨_, (latchIf_eq _ _ _).trans (by rw [h])⟩

theorem zone_congr (h : t.bzu.zones = s.bzu.zones) (z : Fin 6) : t.zone z = s.zone z := by unfold State.zone; rw [h]

theorem zoneTold_zones : (s.zoneTold z f).bzu.zones = (s.onZone z fun _ => (s.zone z).taken (f (s.zone z))).bzu.zones := by
  obtain ⟨l, h⟩ := zoneTold_eq z f s
  rw [h]
theorem zoneTold_zone : (s.zoneTold z f).zone z = (s.zone z).taken (f (s.zone z)) :=
  (zone_congr zoneTold_zones z).trans (zone_onZone_self _ z _)
theorem zoneTold_dwell : (s.zoneTold z f).dwell = s.dwell := by
  obtain ⟨l, h⟩ := zoneTold_eq z f s
  exact dwell_congr (by rw [h]; rfl) (by rw [h]; rfl)

/-- Every zone's record after a change is as taken; the road's reaction leaves them alone. -/
theorem changeZone_zones (z : Fin 6) (f : Zone → Zone) (s : State) :
    (changeZone z f s).bzu.zones = (s.onZone z fun _ => (s.zone z).taken (f (s.zone z))).bzu.zones := by
  by_cases h : (f (s.zone z)).counted = (s.zone z).counted
  · obtain ⟨l, hl⟩ := zoneTaken_eq z f s
    rw [changeZone_same h, hl]
  · rw [changeZone_told h, (reportZone_reach _ _).zones_eq (by decide), zoneTold_zones]
theorem changeZone_zone (z : Fin 6) (f : Zone → Zone) (s : State) :
    (changeZone z f s).zone z = (s.zone z).taken (f (s.zone z)) :=
  (zone_congr (changeZone_zones z f s) z).trans (zone_onZone_self _ z _)
theorem changeZone_zone_ne {k : Fin 6} (h : k ≠ z) : (changeZone z f s).zone k = s.zone k :=
  (zone_congr (changeZone_zones z f s) k).trans (zone_onZone_ne _ h _)

theorem occupied_iff {r : Zone} : r.occupied = true ↔ 0 < r.code := by
  unfold Zone.occupied Zone.code
  cases r.fault <;> cases r.filtered <;> decide

/-- A fault that begins latches DECK. -/
theorem changeZone_fault (ho : (s.zone z).fault = false) (hn : (f (s.zone z)).fault = true) :
    (changeZone z f s).cl.latched.getLsbD 2 = true := by
  have h : (s.zoneTaken z f).cl.latched.getLsbD 2 = true := latchIf_latches (by rw [ho, hn]; rfl) .deck _
  by_cases hc : (f (s.zone z)).counted = (s.zone z).counted
  · rw [changeZone_same hc]; exact h
  · rw [changeZone_told hc]
    exact (reportZone_reach _ _).latched_stays (by decide) ((latchIf_reach _ _ _).latched_stays (by decide) h)

/-- An occupation of a leaf zone off the seats latches DECK. -/
theorem changeZone_intrusion (ho : (s.zone z).counted = false) (hn : (f (s.zone z)).counted = true) (hz : z.val < 4)
    (hl : s.lmc.leaf ≠ .seatedLocked) : (changeZone z f s).cl.latched.getLsbD 2 = true := by
  rw [changeZone_told (by rw [ho, hn]; nofun)]
  refine (reportZone_reach _ _).latched_stays (by decide) (latchIf_latches ?_ .deck _)
  unfold State.intrudes
  rw [hn, decide_eq_true hz, decide_eq_true hl]; rfl
end

/-! ### ZONE-BYPASS (R57) and the zone inputs (R55) -/

theorem zoneBypassOp_set {z : Fin 6} {b : Byte} (h : b.toNat = z.val + 1) (s : State) : zoneBypassOp b 1 s = bypassZone z true s := by
  have hb : 1 ≤ b.toNat ∧ b.toNat ≤ 6 := by omega
  have hz : z = ⟨b.toNat - 1, by omega⟩ := Fin.ext (by simp [h])
  exact (dif_pos hb).trans (by rw [hz]; rfl)
theorem zoneBypassOp_clear {z : Fin 6} {b : Byte} (h : b.toNat = z.val + 1) (s : State) : zoneBypassOp b 0 s = bypassZone z false s := by
  have hb : 1 ≤ b.toNat ∧ b.toNat ≤ 6 := by omega
  have hz : z = ⟨b.toNat - 1, by omega⟩ := Fin.ext (by simp [h])
  exact (dif_pos hb).trans (by rw [hz]; rfl)

/-- A mark that changes is taken through `changeZone`, and the view follows. -/
theorem setBypass_changes {z : Fin 6} {m : Bool} (h : (s.zone z).bypassed ≠ m) :
    setBypass z m s = reviewDeck (changeZone z (fun r => { r with bypassed := m }) s) := if_neg h
theorem setBypass_zone {z : Fin 6} {m : Bool} (h : (s.zone z).bypassed ≠ m) :
    (setBypass z m s).zone z = (s.zone z).taken { s.zone z with bypassed := m } := by
  rw [setBypass_changes h, zone_congr ((reviewDeck_reach _).zones_eq (by decide)), changeZone_zone]

/-- The reply data of ZONE-BYPASS. -/
theorem zoneBypass_eq {z : Fin 6} {b : Byte} (h : b.toNat = z.val + 1) (s : State) : s.zoneBypass z =
    [b, BitVec.ofNat 8 (s.zone z).code, BitVec.ofNat 8 (s.zone z).bypassed.toNat, BitVec.ofNat 8 (s.zone z).counted.toNat] := by
  unfold State.zoneBypass
  rw [b1, byte_of_toNat h]
  cases (s.zone z).bypassed <;> cases (s.zone z).counted <;> rfl

theorem zoneDue_eq (z : Fin 6) (h : s.running = true) : zoneDue s z =
    (let s := s.happens ((s.zone z).filter.any (10 ≤ ·)) (.zoneFilterExpiry z)
     s.happens ((s.zone z).faultEnd.any (10 ≤ ·)) (.zoneFaultEnd z)) := by
  dsimp only
  rw [happens_run (f := endFault z) (fun _ => rfl) (happens_running rfl h _), happens_run (f := takeZone z) (fun _ => rfl) h]
  unfold zoneDue
  simp only [reachedTicks_eq]

theorem tickTimers_zone (z : Fin 6) (s : State) : (tickTimers s).zone z = (s.zone z).tick := by
  simp [tickTimers, State.zone]

theorem onZone_congr {z : Fin 6} {f g : Zone → Zone} (h : f (s.zone z) = g (s.zone z)) : s.onZone z f = s.onZone z g :=
  congrArg (fun r : Zone => s.onBzu fun b => { b with zones := b.zones.set z r }) h
theorem onZone_same {z : Fin 6} {f : Zone → Zone} (h : f (s.zone z) = s.zone z) : s.onZone z f = s := by
  rw [onZone_congr (g := id) h]
  unfold State.onZone State.onBzu id
  simp only [Fin.getElem_fin, Vector.set_getElem_self]

/-- Settles O27. -/
theorem zoneInputsAndBypass : Obligations.ZoneInputsAndBypass := by
  refine ⟨?_, ?_⟩
  · intro z level s h raw
    have hfilter {v : Option Nat} (e : (if level = (s.zone z).filtered then none else (s.zone z).filter <|> some 0) = v) :
        filterZone z level raw = raw.onZone z fun r => { r with filter := v } :=
      onZone_congr (s := raw) (congrArg (fun v => { s.zone z with filter := v }) e)
    refine ⟨fun hl => exec_run rfl h (hfilter (if_pos hl)), fun hl hf => exec_run rfl h (hfilter ?_),
      fun hl hf => exec_run rfl h (onZone_same (s := raw) ?_),
      fun hf => exec_run rfl h (isNone_ite.trans (if_pos hf)), fun hf => exec_run rfl h (isNone_ite.trans (if_neg hf)),
      exec_run rfl h rfl, exec_run rfl h rfl,
      fun hf => exec_run rfl h (isNone_ite.trans (if_pos hf)), fun hf => exec_run rfl h (isNone_ite.trans (if_neg hf)), ?_, ?_, ?_,
      zoneDue_eq z h⟩
    · rw [if_neg hl, hf]; rfl
    · have e : (if level = (s.zone z).filtered then none else (s.zone z).filter <|> some 0) = (s.zone z).filter := by
        rw [if_neg hl]
        cases hs : (s.zone z).filter
        · exact absurd hs hf
        · rfl
      exact congrArg (fun v => { s.zone z with filter := v }) e
    · rw [tickTimers_zone]; rfl
    · rw [tickTimers_zone]; rfl
    · rw [tickTimers_zone]; rfl
  · intro z b s hb ha
    have hset (d) (hd : (s.zone z).bypassed = d) : setBypass z d s = s := if_pos hd
    have hcode (m : Bool) : ((s.zone z).taken { s.zone z with bypassed := m }).code = (s.zone z).code := rfl
    refine ⟨fun hm => ?_, fun hm => ?_, fun hm => ?_, fun hm => ?_⟩
    · rw [exec_zoneBypassSet ha, zoneBypassOp_set hb, bypassZone, hset _ hm, zoneBypass_eq hb, Zone.counted, hm]; rfl
    · rw [exec_zoneBypassClear ha, zoneBypassOp_clear hb, bypassZone, hset _ hm, zoneBypass_eq hb, Zone.counted, hm]; rfl
    · have hne : (s.zone z).bypassed ≠ true := by rw [hm]; nofun
      have hz := setBypass_zone hne
      refine ⟨setBypass z true s, _, ?_, setBypass_changes hne, by rw [hz]; rfl, by rw [hz]; rfl, rfl⟩
      rw [exec_zoneBypassSet ha, zoneBypassOp_set hb, bypassZone, zoneBypass_eq hb, hz]; rfl
    · have hne : (s.zone z).bypassed ≠ false := by rw [hm]; nofun
      have hz := setBypass_zone hne
      refine ⟨setBypass z false s, _, ?_, setBypass_changes hne, by rw [hz]; rfl, by rw [hz]; rfl, rfl⟩
      rw [exec_zoneBypassClear ha, zoneBypassOp_clear hb, bypassZone, zoneBypass_eq hb, hz]; rfl

/-! ### The return from SECURING (R69) -/

theorem setRoad_closed {st : RoadState} (h : s.rcs.road ≠ .opened) : ∃ p, setRoad st s = { s with
    rcs := { s.rcs with road := st }, cl := { s.cl with latched := s.cl.latched ||| 1 }, phu := { s.phu with proving := p } } := by
  obtain ⟨p, hp⟩ := setRoad_eq st s
  rw [if_neg h, if_neg h] at hp
  exact ⟨p, hp⟩

/-- What an occupation in SECURING does: the lowering exit arms turn back and the road is CLEARING again. -/
structure Reverses (s t : State) : Prop where
  rcs : t.rcs = { s.rcs with
    road := .clearing, stepTimer := .clearanceLimit, stepElapsed := 0, deckClear := s.deckCondition
    dwellWait := !s.deckCondition && !s.deckOccupied }
  lmc : t.lmc = s.lmc
  latched : t.cl.latched &&& 5 = 5
  others : ∀ a, a ∉ exitArms → t.arm a = s.arm a
  lowering : ∀ a ∈ exitArms, s.apu.restart = false → s.pins.estop = false →
    ¬(s.pins.armUp[a] = true ∧ s.pins.armDown[a] = true) → (s.arm a).state = .lowering → (t.arm a).state = .raising
  up : ∀ a ∈ exitArms, (s.arm a).state = .up → (t.arm a).state = .up ∧ (t.arm a).relowerPending = false
  still : ∀ a, (s.arm a).state ≠ .lowering → ¬((s.arm a).state = .up ∧ (s.arm a).relowerPending = true) → t.arm a = s.arm a

theorem commandRaises_strokes (p : Arm → Bool) (l : List (Fin 8)) (s : State) : Strokes s (commandRaises p l s) :=
  commandRaises_reach p l s

theorem reverseSecuring_reverses (h : s.rcs.road ≠ .opened) : Reverses s (reverseSecuring s) := by
  have hlatch := latch_latches .deck s
  have hview : viewDeck (latch .deck s) = { latch .deck s with rcs := { s.rcs with
      deckClear := s.deckCondition, dwellWait := !s.deckCondition && !s.deckOccupied } } := rfl
  unfold reverseSecuring
  dsimp only
  rw [hview]
  generalize hv : ({ latch .deck s with rcs := { s.rcs with
      deckClear := s.deckCondition, dwellWait := !s.deckCondition && !s.deckOccupied } } : State) = v
  have hc := commandRaises_strokes Arm.reverses exitArms v
  have hne (a : Fin 8) (ha : a ∉ exitArms) := commandRaises_ne Arm.reverses exitArms ha v
  have hmem (a : Fin 8) (ha : a ∈ exitArms) := commandRaises_mem Arm.reverses exitArms (by decide) ha v
  have hrcs := hc.rcs_eq (by decide)
  have hlmc := hc.lmc_eq (by decide)
  have hl : (commandRaises Arm.reverses exitArms v).cl.latched.getLsbD 2 = true :=
    hc.latched_stays (by decide) (by rw [← hv]; exact hlatch)
  have harm (a : Fin 8) : v.arm a = s.arm a := by rw [← hv]; rfl
  have hpins : v.pins = s.pins := by rw [← hv]; rfl
  have hapu : v.apu = s.apu := by rw [← hv]; rfl
  have hvr : v.rcs = { s.rcs with
      deckClear := s.deckCondition, dwellWait := !s.deckCondition && !s.deckOccupied } := by rw [← hv]
  have hvl : v.lmc = s.lmc := by rw [← hv]; rfl
  clear hv hview hlatch
  generalize commandRaises Arm.reverses exitArms v = c at *
  obtain ⟨p, hp⟩ := setRoad_closed (s := c) (st := .clearing) (by rw [hrcs, hvr]; exact h)
  rw [hp]
  refine ⟨?_, hlmc.trans hvl, mask_roadDeck ?_ ?_, fun a ha => (hne a ha).trans (harm a), fun a ha hr he hx hs => ?_, fun a ha hs => ?_,
    fun a h1 h2 => ?_⟩
  · show { c.rcs with road := .clearing, stepTimer := .clearanceLimit, stepElapsed := 0 } = _
    rw [hrcs, hvr]
  · show (c.cl.latched ||| 1).getLsbD 0 = true
    simp
  · show (c.cl.latched ||| 1).getLsbD 2 = true
    rw [BitVec.getLsbD_or, hl]; rfl
  · obtain ⟨w, w1, w2, w3, w4⟩ := hmem a ha
    have hw : (w.arm a).state = .lowering := by rw [w1, harm, hs]
    show (c.arm a).state = _
    rw [w4, if_pos (arm_reverses_iff.2 (.inl hw)), commandRaise_starts (.inl hw)]
    exact startRaising_raises _ (by rw [w3, hapu, hr]) (by rw [w2, hpins, he]) (by rw [w2, hpins]; exact hx)
  · obtain ⟨w, w1, -, -, w4⟩ := hmem a ha
    have hw : (w.arm a).state = .up := by rw [w1, harm, hs]
    show (c.arm a).state = _ ∧ (c.arm a).relowerPending = false
    rw [w4]
    split
    · rw [commandRaise_up hw]; exact ⟨hw, rfl⟩
    · next hn =>
      refine ⟨hw, ?_⟩
      cases hr : (w.arm a).relowerPending
      · rfl
      · exact absurd (arm_reverses_iff.2 (.inr ⟨hw, hr⟩)) hn
  · by_cases ha : a ∈ exitArms
    · obtain ⟨w, w1, -, -, w4⟩ := hmem a ha
      show c.arm a = s.arm a
      rw [w4, if_neg, w1, harm]
      rw [w1, harm, arm_reverses_iff]
      exact not_or.2 ⟨h1, h2⟩
    · exact (hne a ha).trans (harm a)

/-- Settles O28. -/
theorem zoneChangeIsTaken : Obligations.ZoneChangeIsTaken := by
  intro z f s new t
  have hz : t.zone z = (s.zone z).taken new := changeZone_zone z f s
  refine ⟨by rw [hz]; rfl, by rw [hz]; rfl, by rw [hz]; rfl, fun h => by rw [hz]; exact if_pos h, fun h => by rw [hz]; exact if_neg h,
    fun ho hn => ?_, fun ho hn => (mask_deck _).2 (changeZone_fault ho hn),
    fun ho hn hl hs => (mask_deck _).2 (changeZone_intrusion ho hn hl hs), fun k hk => changeZone_zone_ne hk, fun h => ?_,
    fun ho hn => ?_, fun ho hn hb hd => ?_⟩
  · have hc : new.code ≠ (s.zone z).code := by
      have h1 := occupied_iff.1 hn
      have h2 : ¬0 < (s.zone z).code := fun h => by rw [occupied_iff.2 h] at ho; cases ho
      omega
    rw [hz]
    show (new.occupiedSinceRead || (decide (new.code ≠ (s.zone z).code) && new.occupied)) = true
    rw [decide_eq_true hc, hn]
    simp
  · obtain ⟨l, hl⟩ := zoneTaken_eq z f s
    rw [show t = _ from changeZone_same h, hl]
    exact ⟨rfl, rfl⟩
  · obtain ⟨l, hl⟩ := zoneTold_eq z f s
    have hcount : ((s.zoneTold z f).zone z).counted = true := by rw [zoneTold_zone]; exact hn
    have hdeck := deckCondition_counted hcount
    have hocc : (s.zoneTold z f).deckOccupied = true := deckOccupied_iff.2 ⟨z, hcount⟩
    have hrcs : (s.zoneTold z f).rcs = s.rcs := by rw [hl]; rfl
    have hlmc : (s.zoneTold z f).lmc = s.lmc := by rw [hl]; rfl
    have hapu : (s.zoneTold z f).apu = s.apu := by rw [hl]; rfl
    have hpins : (s.zoneTold z f).pins = s.pins := by rw [hl]; rfl
    have harm : (s.zoneTold z f).bzu.arms = s.bzu.arms := by rw [hl]; rfl
    rw [show t = _ from changeZone_told (by rw [show (f (s.zone z)).counted = true from hn, ho]; nofun),
      show (f (s.zone z)).counted = true from hn]
    unfold reportZone
    rw [reviewDeck_fails hdeck, hocc]
    clear hl hcount
    generalize s.zoneTold z f = v at *
    have hrev := reverseSecuring_reverses (s := { v with rcs := { v.rcs with deckClear := false, dwellWait := !true } })
    have hdeck' : (({ v with rcs := { v.rcs with deckClear := false, dwellWait := !true } } : State)).deckCondition = false :=
      hdeck
    have hocc' : (({ v with rcs := { v.rcs with deckClear := false, dwellWait := !true } } : State)).deckOccupied = true := hocc
    generalize hu : ({ v with rcs := { v.rcs with deckClear := false, dwellWait := !true } } : State) = u at *
    have hur : u.rcs = { s.rcs with deckClear := false, dwellWait := false } := by rw [← hu, ← hrcs]; rfl
    have hulmc : u.lmc = s.lmc := by rw [← hu]; exact hlmc
    have huapu : u.apu = s.apu := by rw [← hu]; exact hapu
    have hupins : u.pins = s.pins := by rw [← hu]; exact hpins
    have huarm : u.bzu.arms = s.bzu.arms := by rw [← hu]; exact harm
    have hua (a : Fin 8) : u.arm a = s.arm a := by unfold State.arm; rw [huarm]
    have hroad : u.rcs.road = s.rcs.road := by rw [hur]
    dsimp only
    rw [if_pos rfl]
    by_cases hsec : s.rcs.road = .securing
    · obtain ⟨r1, r2, r3, r4, r5, r6, r7⟩ := hrev (by rw [hroad, hsec]; nofun)
      rw [show u.rcs.road = .securing from hroad.trans hsec]
      dsimp only
      refine ⟨by rw [r1]; exact hdeck', by rw [r1, hocc']; simp, r2.trans hulmc, fun h => absurd hsec h, fun h => ?_, fun _ =>
        ⟨by rw [r1], by rw [r1], by rw [r1], r3, fun a ha => (r4 a ha).trans (hua a), fun a ha =>
          ⟨fun h1 h2 h3 h4 => ?_, fun h1 => r6 a ha (by rw [hua]; exact h1), fun h1 => ?_⟩⟩⟩
      · rw [hsec] at h; cases h
      · exact r5 a ha (by rw [huapu, h2]) (by rw [hupins, h3]) (by rw [hupins]; exact h4) (by rw [hua]; exact h1)
      · rw [r7 a (by rw [hua]; rcases h1 with h | h <;> rw [h] <;> nofun)
          (by rw [hua]; rcases h1 with h | h <;> rw [h] <;> rintro ⟨h, -⟩ <;> cases h), hua]
    · have hstay : ∀ w : State, w.rcs = u.rcs → w.bzu = u.bzu → w.lmc = u.lmc →
          w.rcs.deckClear = false ∧ w.rcs.dwellWait = false ∧ w.lmc = s.lmc ∧
          (s.rcs.road ≠ .securing → w.rcs.road = s.rcs.road ∧ w.rcs.stepTimer = s.rcs.stepTimer ∧ w.bzu.arms = s.bzu.arms) := by
        intro w h1 h2 h3
        rw [h1, h2, h3, hur, hulmc, huarm]
        exact ⟨rfl, rfl, rfl, fun _ => ⟨rfl, rfl, rfl⟩⟩
      cases hr : s.rcs.road <;> rw [hroad, hr] <;> dsimp only
      case securing => exact absurd hr hsec
      case secured =>
        obtain ⟨w1, w2, w3, w4⟩ := hstay (latch .deck u) rfl rfl rfl
        exact ⟨w1, w2, w3, by rw [← hr]; exact w4, fun _ => (mask_deck _).2 (latch_latches .deck u), nofun⟩
      all_goals
        obtain ⟨w1, w2, w3, w4⟩ := hstay u rfl rfl rfl
        exact ⟨w1, w2, w3, by rw [← hr]; exact w4, nofun, nofun⟩
  · obtain ⟨l, hl⟩ := zoneTold_eq z f s
    have hshort : (s.zoneTold z f).deckCondition = false := by
      refine deckCondition_short (z := z) (by rw [zoneTold_zone]; exact hb) ?_
      rw [zoneTold_zone, zoneTold_dwell, show ((s.zone z).taken (f (s.zone z))).clearTicks = 0 from
        if_neg (by rw [show (f (s.zone z)).counted = false from hn, ho]; nofun)]
      show 0 < 100 * s.dwell
      omega
    have ht : t = { s.zoneTold z f with
        rcs := { (s.zoneTold z f).rcs with deckClear := false, dwellWait := !(s.zoneTold z f).deckOccupied } } := by
      rw [show t = _ from changeZone_told (by rw [show (f (s.zone z)).counted = false from hn, ho]; nofun),
        show (f (s.zone z)).counted = false from hn]
      unfold reportZone
      rw [reviewDeck_fails hshort]; rfl
    have hocc : t.deckOccupied = (s.zoneTold z f).deckOccupied := deckOccupied_congr (by rw [ht])
    rw [hocc, ht, hl]
    exact ⟨rfl, rfl, rfl⟩

/-! ### The limits made (R44, R48 to R50) -/

theorem downLimitMade_out (h : (s.arm a).state = .outOfService) : downLimitMade a s = s := if_pos h
theorem upLimitMade_out (h : (s.arm a).state = .outOfService) : upLimitMade a s = s := if_pos h

theorem conflictArm_taken (h : ¬((s.arm a).state = .stalled ∧ (s.arm a).cause = some .limitConflict)) :
    conflictArm a s = reportArm a (stallArm a .limitConflict s) := if_neg h
theorem downLimitMade_conflict (h : (s.arm a).state ≠ .outOfService) (hu : s.pins.armUp[a] = true) :
    downLimitMade a s = conflictArm a s := by
  unfold downLimitMade; rw [if_neg h, if_pos hu]
theorem upLimitMade_conflict (h : (s.arm a).state ≠ .outOfService) (hd : s.pins.armDown[a] = true) :
    upLimitMade a s = conflictArm a s := by
  unfold upLimitMade; rw [if_neg h, if_pos hd]


/-! A lone limit, by the arm's state -/

theorem downLimitMade_lowering (hs : (s.arm a).state = .lowering) (h : s.pins.armUp[a] = false) :
    downLimitMade a s = completeLowering a s := by
  unfold downLimitMade; rw [hs, h]; rfl
theorem downLimitMade_up (hs : (s.arm a).state = .up) (h : s.pins.armUp[a] = false) :
    downLimitMade a s = movedDown a s := by
  unfold downLimitMade; rw [hs, h]; rfl
theorem downLimitMade_down_displaced (hs : (s.arm a).state = .down) (h : s.pins.armUp[a] = false) (hd : (s.arm a).displaced = true) :
    downLimitMade a s = reportArm a (s.onArm a fun r => { r with displaced := false }) := by
  unfold downLimitMade; rw [hs, h, hd]; rfl
theorem downLimitMade_down_held (hs : (s.arm a).state = .down) (h : s.pins.armUp[a] = false) (hd : (s.arm a).displaced = false) :
    downLimitMade a s = s.onArm a fun r => { r with displaceTimer := none } := by
  unfold downLimitMade; rw [hs, h, hd]; rfl
theorem downLimitMade_raising (hs : (s.arm a).state = .raising) (h : s.pins.armUp[a] = false) :
    downLimitMade a s = s := by
  unfold downLimitMade; rw [hs, h]; rfl
theorem downLimitMade_stalled (hs : (s.arm a).state = .stalled) (h : s.pins.armUp[a] = false) :
    downLimitMade a s = s := by
  unfold downLimitMade; rw [hs, h]; rfl
theorem upLimitMade_raising (hs : (s.arm a).state = .raising) (h : s.pins.armDown[a] = false) :
    upLimitMade a s = completeRaising a s := by
  unfold upLimitMade; rw [hs, h]; rfl
theorem upLimitMade_down (hs : (s.arm a).state = .down) (h : s.pins.armDown[a] = false) :
    upLimitMade a s = movedUp a s := by
  unfold upLimitMade; rw [hs, h]; rfl
theorem upLimitMade_up (hs : (s.arm a).state = .up) (h : s.pins.armDown[a] = false) :
    upLimitMade a s = s.onArm a fun r => { r with upLost := false, upTimer := none } := by
  unfold upLimitMade; rw [hs, h]; rfl
theorem upLimitMade_lowering (hs : (s.arm a).state = .lowering) (h : s.pins.armDown[a] = false) :
    upLimitMade a s = s := by
  unfold upLimitMade; rw [hs, h]; rfl
theorem upLimitMade_stalled (hs : (s.arm a).state = .stalled) (h : s.pins.armDown[a] = false) :
    upLimitMade a s = s := by
  unfold upLimitMade; rw [hs, h]; rfl

/-! ### The steps of a closure (R66 to R72) -/

/-- SECURING is entered with every arm held down: the road is SECURED at once (R68). -/
theorem enterSecuring_held (hr : s.rcs.road ≠ .opened) (h : s.allHeld allArms = true) : ∃ p, enterSecuring s = { s with
    rcs := { s.rcs with road := .secured, stepTimer := .none, stepElapsed := 0, limitPassed := false }
    cl := { s.cl with latched := s.cl.latched ||| 1 }, phu := { s.phu with proving := p } } := by
  obtain ⟨p, hp⟩ := setRoad_closed (st := .securing) hr
  unfold enterSecuring
  dsimp only
  rw [hp]
  generalize hv : State.onRcs _ _ = v
  have harm : v.bzu = s.bzu := by rw [← hv]; rfl
  have hheld (l : List (Fin 8)) : v.allHeld l = s.allHeld l := allHeld_congr (by rw [harm])
  have hnone : commandLowers Arm.strayed exitArms v = (v, false) := commandLowers_none fun a _ => by
    rw [State.arm, harm]
    exact allHeld_iff.1 h a (mem_allArms a)
  rw [hnone]
  dsimp only
  rw [if_neg nofun]
  unfold testSecured
  rw [if_pos ((hheld _).trans h)]
  obtain ⟨q, hq⟩ := setRoad_closed (s := v) (st := .secured) (by rw [← hv]; nofun)
  rw [hq, ← hv]
  refine ⟨q, ?_⟩
  show ({ s with
    rcs := { s.rcs with road := .secured, stepTimer := .none, stepElapsed := 0, limitPassed := false }
    cl := { s.cl with latched := s.cl.latched ||| 1 ||| 1 }, phu := { s.phu with proving := q } } : State) = _
  rw [BitVec.or_assoc, BitVec.or_self]

/-- SECURING is entered with the deck clear and an exit arm not held down: the exit arms lower (R68). -/
theorem enterSecuring_lowers (hr : s.rcs.road ≠ .opened) (hd : s.deckCondition = true) (h : s.allHeld exitArms = false) :
    (enterSecuring s).rcs.road = .securing ∧ (enterSecuring s).rcs.stepTimer = .none ∧
    ∀ e ∈ exitArms, s.apu.restart = false → s.pins.estop = false → s.pins.armEdge[e] = false →
      ¬(s.pins.armUp[e] = true ∧ s.pins.armDown[e] = true) → (s.arm e).state = .up → (s.arm e).relowerPending = false →
      ((enterSecuring s).arm e).state = .lowering := by
  obtain ⟨p, hp⟩ := setRoad_closed (st := .securing) hr
  unfold enterSecuring
  dsimp only
  rw [hp]
  generalize hv : State.onRcs _ _ = v
  have harm (a : Fin 8) : v.arm a = s.arm a := by rw [← hv]; rfl
  have hapu : v.apu = s.apu := by rw [← hv]; rfl
  have hpins : v.pins = s.pins := by rw [← hv]; rfl
  have hroad : v.rcs.road = .securing ∧ v.rcs.stepTimer = .none := by rw [← hv]; exact ⟨rfl, rfl⟩
  have hdv : v.deckCondition = true := by rw [← hd, ← hv]; rfl
  clear hv hp
  have hunheld := commandLowers_unheld Arm.strayed exitArms hdv
  have hrcs := (commandLowers_reach Arm.strayed exitArms v).rcs_eq (by decide)
  have hat (e : Fin 8) (he : e ∈ exitArms) := commandLowers_at Arm.strayed (l := exitArms) (by decide) he v
  obtain ⟨e, he, hs⟩ := allHeld_false.1 h
  have hstray : ((commandLowers Arm.strayed exitArms v).1.arm e).strayed = true := by
    obtain ⟨w, -, w2, w3⟩ := hat e he
    rw [w3, if_pos (by rw [harm]; exact hs)]
    exact commandLower_strayed (by rw [w2, harm]; exact hs)
  generalize commandLowers Arm.strayed exitArms v = c at hunheld hrcs hat hstray ⊢
  rw [hunheld, if_neg nofun]
  have hc : testSecured c.1 = c.1 :=
    if_neg (by rw [allHeld_false.2 ⟨e, mem_allArms e, hstray⟩]; nofun)
  rw [hc, hrcs]
  refine ⟨hroad.1, hroad.2, fun e he hr he' hg hx hu hp => ?_⟩
  obtain ⟨w, w1, w2, w3⟩ := hat e he
  have hwp : w.pins = s.pins := (w1.pins_eq (by decide)).trans hpins
  have hwa : w.apu = s.apu := (w1.apu_eq (by decide)).trans hapu
  have hwant : (w.arm e).wantsLower = true := arm_wantsLower_iff.2 (by rw [w2, harm]; exact .inl ⟨hu, hp⟩)
  rw [w3, if_pos (by rw [harm]; exact arm_strayed_iff.2 ⟨by rw [hu]; nofun, by rw [hu]; nofun⟩),
    commandLower_wants hwant (by rw [hwa]; exact hr) (fun _ => w1.deckCondition.trans hdv)]
  exact startLowering_lowers _ (by rw [hwa, hr]) (by rw [hwp, he']) (by rw [hwp]; exact hx) (by rw [hwp, hg])

/-- CLEARING is entered (R67). -/
theorem enterClearing_eq (hr : s.rcs.road ≠ .opened) : ∃ p, enterClearing s = testSecuring { s with
    rcs := { s.rcs with road := .clearing, stepTimer := .clearanceLimit, stepElapsed := 0, entryLowering := false, limitPassed := false }
    cl := { s.cl with latched := s.cl.latched ||| 1 }, phu := { s.phu with proving := p } } := by
  obtain ⟨p, hp⟩ := setRoad_closed (st := .clearing) hr
  refine ⟨p, ?_⟩
  unfold enterClearing
  rw [hp]; rfl

theorem testSecuring_waits (h : s.rcs.deckClear = false ∨ s.allHeld entryArms = false) : testSecuring s = s :=
  if_neg fun hn => by rcases h with h | h <;> rw [h] at hn <;> simp at hn
theorem testSecuring_passes (h : s.rcs.deckClear = true) (ha : s.allHeld entryArms = true) : testSecuring s = enterSecuring s :=
  if_pos ⟨h, ha⟩
theorem testClearing_waits (h : s.allHeld entryArms = false) : testClearing s = s := if_neg fun hn => by rw [h] at hn; cases hn.2
theorem testClearing_passes (h : s.rcs.entryLowering = true) (ha : s.allHeld entryArms = true) : testClearing s = enterClearing s :=
  if_pos ⟨h, ha⟩
theorem testSecured_waits (h : s.allHeld allArms = false) : testSecured s = s := if_neg (by rw [h]; nofun)
theorem testRestored_waits (h : s.allHeld allArms = false) : testRestored s = s := if_neg (by rw [h]; nofun)

theorem allHeld_entry (h : s.allHeld allArms = true) : s.allHeld entryArms = true :=
  allHeld_iff.2 fun a _ => allHeld_iff.1 h a (mem_allArms a)

/-- An arm held down, or out of service, wants no command. -/
theorem wantsLower_strayed {r : Arm} (h : r.wantsLower = true) : r.strayed = true := by
  refine arm_strayed_iff.2 ?_
  rcases arm_wantsLower_iff.1 h with ⟨h1, -⟩ | ⟨h1, h2⟩ <;> rw [h1]
  · exact ⟨nofun, fun h => by cases h.1⟩
  · exact ⟨nofun, fun h => by rw [h2] at h; cases h.2⟩
theorem wantsLower_held (h : s.allHeld allArms = true) (a : Fin 8) : (s.arm a).wantsLower = false := by
  cases hw : (s.arm a).wantsLower
  · rfl
  · have h1 := allHeld_iff.1 h a (mem_allArms a)
    rw [wantsLower_strayed hw] at h1; cases h1

/-- An arm commanded to lower keeps the road where it waits for the arms held down. -/
theorem startLowering_unheld {l : List (Fin 8)} (hr : s.apu.restart = false) (ha : a ∈ l) (x : ArmStart) :
    (startLowering a x s).allHeld l = false := allHeld_false.2 ⟨a, ha, startLowering_strayed x hr⟩

/-! ### An arm's report by the road state (R66 to R72) -/

theorem reportArm_opened (h : s.rcs.road = .opened) :
    reportArm a s = if (s.arm a).state = .down then commandRaise s a else s := by unfold reportArm; rw [h]
theorem reportArm_stopping (h : s.rcs.road = .stopping) (he : s.rcs.entryLowering = true) : reportArm a s =
    testClearing (if !isExit a && (s.arm a).wantsLower then (commandLower a s).1 else s) := by
  unfold reportArm; rw [h]; exact if_pos he
theorem reportArm_clearing (h : s.rcs.road = .clearing) : reportArm a s =
    testSecuring (if !isExit a && (s.arm a).wantsLower then (commandLower a s).1 else s) := by unfold reportArm; rw [h]
theorem reportArm_securing_wants (h : s.rcs.road = .securing) (hw : (s.arm a).wantsLower = true) {v : State} {b : Bool}
    (hc : commandLower a s = (v, b)) : reportArm a s = if b then reverseSecuring v else testSecured v := by
  unfold reportArm; rw [h]; dsimp only; rw [if_pos hw, hc]
theorem reportArm_securing_rests (h : s.rcs.road = .securing) (hw : (s.arm a).wantsLower = false) :
    reportArm a s = testSecured s := by
  unfold reportArm; rw [h]; dsimp only; rw [hw]; rfl
theorem reportArm_secured (h : s.rcs.road = .secured) : reportArm a s = if s.allHeld allArms then s else enterBreached s := by
  unfold reportArm; rw [h]
theorem reportArm_breached (h : s.rcs.road = .breached) : reportArm a s =
    testRestored (if (s.arm a).breachLower then (commandLower a s).1 else s) := by unfold reportArm; rw [h]

/-- In STOPPING, the entry arms commanded, and in CLEARING an entry arm that wants to lower is commanded again. -/
theorem reportArm_lowers (h : (s.rcs.road = .stopping ∧ s.rcs.entryLowering = true) ∨ s.rcs.road = .clearing)
    (hx : isExit a = false) (hw : (s.arm a).wantsLower = true) (hr : s.apu.restart = false) :
    reportArm a s = startLowering a .commanded s := by
  have hc := commandLower_wants hw hr (fun h => by rw [hx] at h; cases h)
  have hnot := startLowering_unheld hr (entry_iff.1 hx) .commanded
  rcases h with ⟨h, he⟩ | h
  · rw [reportArm_stopping h he, hx, hw, hc]
    exact testClearing_waits hnot
  · rw [reportArm_clearing h, hx, hw, hc]
    exact testSecuring_waits (.inr hnot)

/-- What the road goes on to where no command is due: CLEARING from STOPPING and SECURING from CLEARING. -/
theorem reportArm_passes (hx : isExit a = true ∨ (s.arm a).wantsLower = false) :
    (s.rcs.road = .stopping → s.rcs.entryLowering = true → reportArm a s = testClearing s) ∧
    (s.rcs.road = .clearing → reportArm a s = testSecuring s) := by
  have e : (!isExit a && (s.arm a).wantsLower) = false := by rcases hx with h | h <;> rw [h] <;> simp
  refine ⟨fun h he => ?_, fun h => ?_⟩
  · rw [reportArm_stopping h he, e]; rfl
  · rw [reportArm_clearing h, e]; rfl

/-- The road on its way from STOPPING or CLEARING to SECURING: in CLEARING, the rest as it stands (R67). -/
structure ToSecuring (s v : State) : Prop where
  closed : v.rcs.road ≠ .opened
  deckClear : v.rcs.deckClear = s.rcs.deckClear
  deckCondition : v.deckCondition = s.deckCondition
  bzu : v.bzu = s.bzu
  apu : v.apu = s.apu
  pins : v.pins = s.pins
  latched : v.cl.latched ||| 1 = s.cl.latched ||| 1

theorem ToSecuring.held {v : State} (h : ToSecuring s v) (l : List (Fin 8)) : v.allHeld l = s.allHeld l :=
  allHeld_congr (by rw [h.bzu])
theorem ToSecuring.arm {v : State} (h : ToSecuring s v) (a : Fin 8) : v.arm a = s.arm a := by unfold State.arm; rw [h.bzu]

/-- With the entry arms held down, and no command due, the road is CLEARING and goes on to SECURING where it may. -/
theorem reportArm_clears (h : (s.rcs.road = .stopping ∧ s.rcs.entryLowering = true) ∨ s.rcs.road = .clearing)
    (hx : isExit a = true ∨ (s.arm a).wantsLower = false) (ha : s.allHeld entryArms = true) :
    ∃ v, ToSecuring s v ∧ reportArm a s = testSecuring v := by
  have hpass := reportArm_passes (s := s) hx
  rcases h with ⟨h, he⟩ | h
  · obtain ⟨p, hp⟩ := enterClearing_eq (s := s) (by rw [h]; nofun)
    refine ⟨_, ⟨?_, ?_, ?_, ?_, ?_, ?_, ?_⟩, (hpass.1 h he).trans ((testClearing_passes he ha).trans hp)⟩
    case refine_1 => nofun
    case refine_7 =>
      show s.cl.latched ||| 1 ||| 1 = _
      rw [BitVec.or_assoc, BitVec.or_self]
    all_goals rfl
  · exact ⟨s, ⟨by rw [h]; nofun, rfl, rfl, rfl, rfl, rfl, rfl⟩, hpass.2 h⟩

/-- BREACHED is entered (R72): the LMC is told, and each arm that strays without a stall is commanded to lower. -/
structure Breaches (s t : State) : Prop where
  rcs : t.rcs = { s.rcs with road := .breached }
  latched : t.cl.latched.getLsbD 0 = true
  unlocking : s.lmc.leaf = .unlocking → t.lmc.leaf = .halted ∧ t.lpu.seqKind = .none
  moving : s.lmc.leaf.moving = true → s.lmc.motion.atRest = false →
    t.lmc = { s.lmc with motion := { s.lmc.motion with halt := .breach } }
  stands : s.lmc.leaf.moving = true → s.lmc.motion.atRest = true → t.lmc.leaf = .halted
  rests : s.lmc.leaf ≠ .unlocking → s.lmc.leaf.moving = false → t.lmc = s.lmc
  lowers : ∀ e, s.apu.restart = false → s.pins.estop = false → s.pins.armEdge[e] = false →
    ¬(s.pins.armUp[e] = true ∧ s.pins.armDown[e] = true) → (isExit e = true → s.deckCondition = true) →
    (s.arm e).wantsLower = true → (t.arm e).state = .lowering
  keeps : ∀ e, (s.arm e).state = .stalled ∨ (s.arm e).state = .outOfService → t.arm e = s.arm e

theorem reportBreach_unlocking (h : s.lmc.leaf = .unlocking) : reportBreach s = haltUnlocking s := by unfold reportBreach; rw [h]
theorem reportBreach_moving (h : s.lmc.leaf.moving = true) : reportBreach s = beginHalt .breach s := by
  unfold reportBreach
  rcases moving_iff.1 h with h | h <;> rw [h]
theorem reportBreach_rests (h : s.lmc.leaf ≠ .unlocking) (hm : s.lmc.leaf.moving = false) : reportBreach s = s := by
  have hm' : ¬(s.lmc.leaf = .raising ∨ s.lmc.leaf = .lowering) := fun e => by rw [moving_iff.2 e] at hm; cases hm
  unfold reportBreach
  cases hl : s.lmc.leaf <;> simp_all

theorem enterBreached_breaches (hr : s.rcs.road ≠ .opened) : Breaches s (enterBreached s) := by
  obtain ⟨p, hp⟩ := setRoad_closed (st := .breached) hr
  unfold enterBreached
  rw [hp]
  generalize hv : ({ s with
    rcs := { s.rcs with road := .breached }, cl := { s.cl with latched := s.cl.latched ||| 1 }
    phu := { s.phu with proving := p } } : State) = v
  have hvr : v.rcs = { s.rcs with road := .breached } := by rw [← hv]
  have hvl : v.lmc = s.lmc := by rw [← hv]
  have hva : v.apu = s.apu := by rw [← hv]
  have hvp : v.pins = s.pins := by rw [← hv]
  have hvb : v.bzu = s.bzu := by rw [← hv]
  have hvd : v.deckCondition = s.deckCondition := deckCondition_congr (by rw [hvb]) (by rw [← hv]; rfl)
  have hlatch : v.cl.latched.getLsbD 0 = true := by rw [← hv]; simp
  clear hv hp
  have hb := reportBreach_reach v
  have hu := fun h => reportBreach_unlocking (s := v) h
  have hm := fun h => reportBreach_moving (s := v) h
  have hn := fun h h' => reportBreach_rests (s := v) h h'
  generalize reportBreach v = w at hb hu hm hn ⊢
  have hwr := (hb.rcs_eq (by decide)).trans hvr
  have hwa := (hb.apu_eq (by decide)).trans hva
  have hwp := (hb.pins_eq (by decide)).trans hvp
  have hwb (a : Fin 8) : w.arm a = s.arm a := by
    unfold State.arm; rw [hb.arms_eq (by decide), hvb]
  have hwd : w.deckCondition = s.deckCondition :=
    (deckCondition_congr (hb.zones_eq (by decide)) (dwell_congr (hb.rcs_eq (by decide)) (hb.apu_eq (by decide)))).trans hvd
  have hwl := hb.latched_stays (by decide) hlatch
  have hc := commandLowers_reach (fun r => r.strayed && decide (r.state ≠ .stalled)) allArms w
  have hat (e : Fin 8) := commandLowers_at (fun r => r.strayed && decide (r.state ≠ .stalled)) (l := allArms) (by decide)
    (mem_allArms e) w
  have hcl := hc.lmc_eq (by decide)
  refine ⟨(hc.rcs_eq (by decide)).trans hwr, hc.latched_stays (by decide) hwl, fun h => ?_, fun h h' => ?_, fun h h' => ?_,
    fun h h' => ?_, fun e h1 h2 h3 h4 h5 h6 => ?_, fun e h => ?_⟩
  · rw [hcl, hc.lpu_eq (by decide), hu (by rw [hvl, h]), haltUnlocking_eq (by rw [hvl, h]; nofun)]
    exact ⟨rfl, rfl⟩
  · rw [hcl, hm (by rw [hvl, h]), beginHalt_moving _ (by rw [hvl, h]) (by rw [hvl, h']), ← hvl]; rfl
  · rw [hcl, hm (by rw [hvl, h]), beginHalt_atRest .breach (by rw [hvl, h]) (by rw [hvl, h']) (.inl (by decide))]; rfl
  · rw [hcl, hn (by rw [hvl]; exact h) (by rw [hvl, h']), hvl]
  · obtain ⟨x, x1, x2, x3⟩ := hat e
    have hxa : x.apu = s.apu := (x1.apu_eq (by decide)).trans hwa
    have hxp : x.pins = s.pins := (x1.pins_eq (by decide)).trans hwp
    have hns : (s.arm e).state ≠ .stalled := by
      rcases arm_wantsLower_iff.1 h6 with ⟨h, -⟩ | ⟨h, -⟩ <;> rw [h] <;> nofun
    rw [x3, if_pos (by rw [hwb, wantsLower_strayed h6, decide_eq_true hns]; rfl),
      commandLower_wants (by rw [x2, hwb]; exact h6) (by rw [hxa, h1])
        (fun he => (x1.deckCondition.trans hwd).trans (h5 he))]
    exact startLowering_lowers _ (by rw [hxa, h1]) (by rw [hxp, h2]) (by rw [hxp]; exact h4) (by rw [hxp, h3])
  · obtain ⟨x, -, -, x3⟩ := hat e
    rw [x3, if_neg, hwb]
    rw [hwb]
    rcases h with h | h
    · simp [h]
    · simp [Arm.strayed, Arm.inService, h]

/-- Settles O22. -/
theorem armLimitsMade : Obligations.ArmLimitsMade := by
  refine ⟨?_, ?_⟩
  · intro a s hrun d u
    refine ⟨fun h => ⟨exec_run rfl hrun (downLimitMade_out h), exec_run rfl hrun (upLimitMade_out h)⟩,
      fun ho hc => ⟨fun h => exec_run rfl hrun ((downLimitMade_conflict (s := d) ho h).trans (conflictArm_taken hc)),
        fun h => exec_run rfl hrun ((upLimitMade_conflict (s := u) ho h).trans (conflictArm_taken hc))⟩,
      fun hs hc => ⟨exec_run rfl hrun ?_, exec_run rfl hrun ?_⟩,
      fun hs h => exec_run rfl hrun (downLimitMade_lowering (s := d) hs h),
      fun hs h => exec_run rfl hrun (upLimitMade_raising (s := u) hs h),
      fun hs h => exec_run rfl hrun (downLimitMade_raising (s := d) hs h),
      fun hs h => exec_run rfl hrun (upLimitMade_lowering (s := u) hs h),
      fun hs h => exec_run rfl hrun (downLimitMade_up (s := d) hs h),
      fun hs h => exec_run rfl hrun (upLimitMade_down (s := u) hs h),
      fun hs h hd => exec_run rfl hrun (downLimitMade_down_displaced (s := d) hs h hd),
      fun hs h hd => exec_run rfl hrun (downLimitMade_down_held (s := d) hs h hd),
      fun hs h => exec_run rfl hrun (upLimitMade_up (s := u) hs h)⟩
    · show downLimitMade a d = d
      cases hp : s.pins.armUp[a]
      · exact downLimitMade_stalled (s := d) hs hp
      · have hk := hc.resolve_right fun h => by rw [h.1] at hp; cases hp
        exact (downLimitMade_conflict (s := d) (fun h => by rw [show (s.arm a).state = _ from h] at hs; cases hs) hp).trans (if_pos ⟨hs, hk⟩)
    · show upLimitMade a u = u
      cases hp : s.pins.armDown[a]
      · exact upLimitMade_stalled (s := u) hs hp
      · have hk := hc.resolve_right fun h => by rw [h.2] at hp; cases hp
        exact (upLimitMade_conflict (s := u) (fun h => by rw [show (s.arm a).state = _ from h] at hs; cases hs) hp).trans (if_pos ⟨hs, hk⟩)
  · intro a s t wants
    have hwants : wants ↔ (s.arm a).wantsLower = true := arm_wantsLower_iff.symm
    have hnot : ¬wants ↔ (s.arm a).wantsLower = false := by rw [hwants, Bool.not_eq_true]
    refine ⟨fun h => ?_, fun h => ⟨fun hs => ?_, fun hs => ?_⟩, fun h he => ?_, fun h => ⟨fun hx hw hr => ?_, fun hx => ?_⟩,
      fun h => ⟨fun ha => ?_, fun ha hw => ?_, fun hw hr hd => ?_, fun hw hr hx hd => ?_⟩, fun h => ⟨fun ha => ?_, fun ha => ?_⟩,
      fun h => ⟨fun ha => ?_, fun ha hw => ?_, fun hw hr hd => ?_⟩⟩
    · show reportArm a s = s
      unfold reportArm
      rcases h with h | h <;> rw [h]
    · exact (reportArm_opened h).trans (if_neg hs)
    · exact (reportArm_opened h).trans ((if_pos hs).trans (commandRaise_starts (.inr (.inl hs))))
    · show reportArm a s = s
      unfold reportArm
      rw [h]; exact if_neg (by simp [he])
    · exact reportArm_lowers h hx (hwants.1 hw) hr
    · have hpass := reportArm_passes (s := s) (a := a) (hx.imp_right hnot.1)
      have hop : s.rcs.road ≠ .opened := by rcases h with ⟨h, -⟩ | h <;> rw [h] <;> nofun
      refine ⟨fun ha => ?_, fun ha hd => ⟨fun hr => ?_, fun hr => ?_⟩, fun ha hd => ?_, fun ha hd hr he hdc hne => ?_⟩
      · rcases h with ⟨h, he⟩ | h
        · exact (hpass.1 h he).trans (testClearing_waits ha)
        · exact (hpass.2 h).trans (testSecuring_waits (.inr ha))
      · exact (hpass.2 hr).trans (testSecuring_waits (.inl hd))
      · have he : s.rcs.entryLowering = true := by
          rcases h with ⟨-, he⟩ | h
          · exact he
          · rw [h] at hr; cases hr
        obtain ⟨p, hp⟩ := enterClearing_eq (s := s) hop
        rw [show t = _ from (hpass.1 hr he).trans ((testClearing_passes he ha).trans (hp.trans (testSecuring_waits (.inl hd))))]
        exact ⟨rfl, rfl, rfl, rfl⟩
      · obtain ⟨v, hv, ht⟩ := reportArm_clears h (hx.imp_right hnot.1) (allHeld_entry ha)
        obtain ⟨q, hq⟩ := enterSecuring_held (s := v) hv.closed (by rw [hv.held]; exact ha)
        rw [show t = _ from ht, testSecuring_passes (by rw [hv.deckClear, hd]) (by rw [hv.held]; exact allHeld_entry ha), hq]
        exact ⟨rfl, rfl, rfl, hv.bzu, hv.latched⟩
      · obtain ⟨v, hv, ht⟩ := reportArm_clears h (hx.imp_right hnot.1) ha
        obtain ⟨q1, q2, q3⟩ := enterSecuring_lowers (s := v) hv.closed (by rw [hv.deckCondition, hdc]) (by rw [hv.held]; exact hne)
        rw [show t = _ from ht, testSecuring_passes (by rw [hv.deckClear, hd]) (by rw [hv.held]; exact ha)]
        rw [hv.apu, hv.pins] at q3
        exact ⟨q1, q2, fun e hex h1 h2 h3 h4 => q3 e hex hr he h3 h4 (by rw [hv.arm]; exact h1) (by rw [hv.arm]; exact h2)⟩
    · obtain ⟨p, hp⟩ := setRoad_closed (s := s) (st := .secured) (by rw [h]; nofun)
      rw [show t = _ from (reportArm_securing_rests h (wantsLower_held ha a)).trans ((if_pos ha).trans hp)]
      exact ⟨rfl, rfl, rfl⟩
    · exact (reportArm_securing_rests h (hnot.1 hw)).trans (testSecured_waits ha)
    · exact (reportArm_securing_wants h (hwants.1 hw) (commandLower_wants (hwants.1 hw) hr hd)).trans
        (testSecured_waits (startLowering_unheld hr (mem_allArms a) .commanded))
    · rw [show t = _ from (reportArm_securing_wants h (hwants.1 hw) (commandLower_held (hwants.1 hw) hr hx hd)).trans (if_pos rfl)]
      obtain ⟨r1, -, r3, -, r5, r6, r7⟩ := reverseSecuring_reverses (s := s) (by rw [h]; nofun)
      refine ⟨by rw [r1], by rw [r1], by rw [r1], by rw [r1]; exact hd, r3, r7 a ?_ ?_, fun e he hs hc =>
        ⟨r5 e he hr hs hc, r6 e he, fun h => r7 e ?_ ?_⟩⟩
      · rcases hw with ⟨hw, -⟩ | ⟨hw, -⟩ <;> rw [hw] <;> nofun
      · rcases hw with ⟨hw, hp⟩ | ⟨hw, -⟩
        · rw [hp]; nofun
        · rw [hw]; nofun
      · rcases h with h | h <;> rw [h] <;> nofun
      · rcases h with h | h <;> rw [h] <;> nofun
    · exact (reportArm_secured h).trans (if_pos ha)
    · rw [show t = _ from (reportArm_secured h).trans (if_neg (by rw [ha]; nofun))]
      obtain ⟨b1, b2, b3, b4, b5, b6, b7, b8⟩ := enterBreached_breaches (s := s) (by rw [h]; nofun)
      refine ⟨b1, (mask_road _).2 b2, b3, fun hm => ⟨fun hr => b4 (moving_iff.2 hm) ?_, fun h1 h2 => b5 (moving_iff.2 hm) (atRest_iff.2 ⟨h1, h2⟩)⟩,
        fun h1 h2 h3 => b6 h1 ?_, fun e h1 h2 h3 h4 h5 hw => b7 e h1 h2 h3 h4 h5 (arm_wantsLower_iff.2 hw), b8⟩
      · rw [← Bool.not_eq_true, atRest_iff]; exact hr
      · rw [← Bool.not_eq_true, moving_iff]; exact not_or.2 ⟨h2, h3⟩
    · obtain ⟨p, hp⟩ := setRoad_closed (s := s) (st := .secured) (by rw [h]; nofun)
      have hb : (s.arm a).breachLower = false := by
        have hs := allHeld_iff.1 ha a (mem_allArms a)
        unfold Arm.breachLower; rw [hs]; rfl
      rw [show t = _ from ((reportArm_breached h).trans (by rw [hb]; exact if_pos ha)).trans hp]
      exact ⟨rfl, rfl, rfl, rfl⟩
    · have hs : (if (s.arm a).breachLower then (commandLower a s).1 else s) = s := by
        split
        · next hb =>
          obtain ⟨hu, hp⟩ := (arm_breachLower_iff.1 hb).resolve_left (by rw [hnot.1 hw]; nofun)
          unfold commandLower
          rw [hu]
          dsimp only
          rw [if_pos hp]
        · rfl
      exact (reportArm_breached h).trans (by rw [hs, testRestored_waits ha])
    · have hb : (s.arm a).breachLower = true := arm_breachLower_iff.2 (.inl (hwants.1 hw))
      refine (reportArm_breached h).trans ?_
      rw [hb, commandLower_wants (hwants.1 hw) hr hd]
      exact testRestored_waits (startLowering_unheld hr (mem_allArms a) .commanded)

end Sys2Proof.Machine
end

section
/-! PROOFS. The closing and the reopening of the road: CLOSE-ROAD, OPEN-ROAD, the road's timers, the view and the flash (R58, R62 to R68, R72 to R75). -/

namespace Sys2Proof.Machine

variable {s t u : State} {a k : Fin 8}

/-! ### CLOSE-ROAD (R64, R65) -/

theorem foldl_onArm (f : Arm → Arm) {l : List (Fin 8)} (hn : l.Nodup) (s : State) :
    (l.foldl (fun t a => t.onArm a f) s).arm k = if k ∈ l then f (s.arm k) else s.arm k := by
  induction l generalizing s with
  | nil => rfl
  | cons b l ih =>
    obtain ⟨hb, hl⟩ := List.nodup_cons.mp hn
    rw [List.foldl_cons, ih hl, arm_onArm]
    by_cases h : k = b
    · subst h; rw [if_neg hb, if_pos rfl, if_pos List.mem_cons_self]
    · simp only [h, List.mem_cons, false_or, if_false]

theorem clearObstructions_arm (s : State) (a : Fin 8) : (clearObstructions s).arm a = { s.arm a with obstructions := 0 } := by
  unfold clearObstructions
  rw [foldl_onArm (l := allArms) _ (by decide)]
  exact if_pos (mem_allArms a)

/-- Outside CLEARING and BREACHED nothing follows from the view as it becomes clear (R67, R72). -/
theorem deckBecameClear_quiet (h1 : s.rcs.road ≠ .clearing) (h2 : s.rcs.road ≠ .breached) : deckBecameClear s = s := by
  unfold deckBecameClear
  cases h : s.rcs.road
  case clearing => exact absurd h h1
  case breached => exact absurd h h2
  all_goals rfl
theorem reviewDeck_quiet (h1 : s.rcs.road ≠ .clearing) (h2 : s.rcs.road ≠ .breached) : reviewDeck s = { s with
    rcs := { s.rcs with deckClear := s.deckCondition, dwellWait := !s.deckCondition && !s.deckOccupied } } := by
  unfold reviewDeck
  dsimp only
  split
  · exact deckBecameClear_quiet (s := viewDeck s) h1 h2
  · rfl

/-- What the acceptance of CLOSE-ROAD leaves (R64). -/
structure ClosureBegun (s t : State) : Prop where
  rcs : t.rcs = { s.rcs with
    road := .prewarn, stepTimer := .prewarn, stepElapsed := 0
    flashA := if s.rcs.road = .opened then true else s.rcs.flashA
    flashTicks := if s.rcs.road = .opened then 0 else s.rcs.flashTicks
    capPrewarn := s.par pPrewarn, capEntryDelay := s.par pEntryDelay, capClearDwell := s.par pClearDwell
    capClearanceLimit := s.par pClearanceLimit, dwellCaptured := true, entryLowering := false, limitPassed := false
    deckClear := t.deckCondition, dwellWait := !t.deckCondition && !t.deckOccupied }
  latched : t.cl.latched = s.cl.latched ||| 1
  arm : ∀ a, t.arm a = { s.arm a with obstructions := 0 }
  lmc : t.lmc = s.lmc
  lpu : t.lpu = s.lpu

theorem beginClosure_begun (s : State) : ClosureBegun s (beginClosure s) := by
  have hreach := clearObstructions_reach (captureTimings s)
  have harm := clearObstructions_arm (captureTimings s)
  unfold beginClosure
  generalize clearObstructions (captureTimings s) = c at hreach harm ⊢
  have hrcs : c.rcs = _ := hreach.rcs_eq (by decide)
  have hcl : c.cl.latched = s.cl.latched := hreach.latched_eq (by decide)
  have hlmc : c.lmc = s.lmc := hreach.lmc_eq (by decide)
  have hlpu : c.lpu = s.lpu := hreach.lpu_eq (by decide)
  clear hreach
  obtain ⟨p, hp⟩ := setRoad_eq .prewarn c
  rw [hp]
  generalize hv : setStep _ _ = v
  have hq : reviewDeck v = _ := reviewDeck_quiet (by rw [← hv]; nofun) (by rw [← hv]; nofun)
  rw [hq]
  refine ⟨?_, ?_, fun a => ?_, ?_, ?_⟩
  · show { v.rcs with deckClear := v.deckCondition, dwellWait := !v.deckCondition && !v.deckOccupied } =
      { s.rcs with
        road := .prewarn, stepTimer := .prewarn, stepElapsed := 0
        flashA := if s.rcs.road = .opened then true else s.rcs.flashA
        flashTicks := if s.rcs.road = .opened then 0 else s.rcs.flashTicks
        capPrewarn := s.par pPrewarn, capEntryDelay := s.par pEntryDelay, capClearDwell := s.par pClearDwell
        capClearanceLimit := s.par pClearanceLimit, dwellCaptured := true, entryLowering := false, limitPassed := false
        deckClear := v.deckCondition, dwellWait := !v.deckCondition && !v.deckOccupied }
    have hr : v.rcs = { c.rcs with
        road := .prewarn, stepTimer := .prewarn, stepElapsed := 0
        flashA := if c.rcs.road = .opened then true else c.rcs.flashA
        flashTicks := if c.rcs.road = .opened then 0 else c.rcs.flashTicks } := by rw [← hv]; rfl
    rw [hr, hrcs]; rfl
  · show v.cl.latched = _
    rw [← hv, ← hcl]; rfl
  · show v.arm a = _
    rw [← hv]; exact harm a
  · show v.lmc = _
    rw [← hv]; exact hlmc
  · show v.lpu = _
    rw [← hv]; exact hlpu

/-- Settles O29. -/
theorem closeRoadOutcomes : Obligations.CloseRoadOutcomes := by
  intro s ha
  have hr (v : Verdict) (h : closeRoadOp s = (s, v)) : exec .closeRoad s = .next (answer 0x20 (s, v)) := by
    rw [exec_closeRoad ha, h]
  refine ⟨fun h1 h2 => hr _ (if_pos ⟨h1, h2⟩), fun h => ?_⟩
  have hno : ¬(s.rcs.road ≠ .opened ∧ s.rcs.road ≠ .unknown) := by rcases h with h | h <;> simp [h]
  have hel : s.intervalElapsed = decide (s.intervalRemaining = 0) := rfl
  refine ⟨fun h1 => hr _ ?_, fun h1 h2 => hr _ ?_, fun h1 h2 h3 => hr _ ?_, fun h1 h2 h3 h4 h5 => hr _ ?_, fun h1 h2 h3 h4 => ?_⟩
  · unfold closeRoadOp; rw [if_neg hno, h1]; rfl
  · unfold closeRoadOp; rw [if_neg hno, h1, h2]; rfl
  · unfold closeRoadOp; rw [if_neg hno, h1, h2, h3]; rfl
  · unfold closeRoadOp
    rw [if_neg hno, h1, h2, h3, hel, h5, decide_eq_false (by omega)]; rfl
  · obtain ⟨hb, hl, harm, hlmc, hlpu⟩ := beginClosure_begun s
    have hop : closeRoadOp s = (beginClosure s, .accepted (b2 (beginClosure s).rcs.capPrewarn ++
        b2 (beginClosure s).rcs.capEntryDelay ++ b2 (beginClosure s).rcs.capClearDwell ++
        b2 (beginClosure s).rcs.capClearanceLimit)) := by
      unfold closeRoadOp
      rw [if_neg hno, h1, h2, h3, if_neg nofun, if_neg nofun, if_neg nofun, if_neg]
      rw [hel]
      rcases h4 with h | h <;> simp [h]
    refine ⟨beginClosure s, ?_, ?_⟩
    · rw [exec_closeRoad ha, hop, hb]; rfl
    · generalize beginClosure s = t at *
      refine ⟨by rw [hb], by rw [hb], by rw [hb], by rw [hb], by rw [hb], by rw [hb], by rw [hb], by rw [hb], by rw [hb], by rw [hb],
        fun ho => ?_, harm, hl, hlmc, hlpu⟩
      rw [hb]
      exact ⟨if_pos ho, if_pos ho⟩

/-! ### OPEN-ROAD and the reopening (R73 to R75) -/

theorem allUp_iff {l : List (Fin 8)} : s.allUp l = true ↔ ∀ a ∈ l, (s.arm a).state = .outOfService ∨ (s.arm a).state = .up := by
  unfold State.allUp Arm.inService
  simp
theorem allUp_false {l : List (Fin 8)} : s.allUp l = false ↔
    ∃ a ∈ l, (s.arm a).state ≠ .outOfService ∧ (s.arm a).state ≠ .up := by
  rw [← Bool.not_eq_true, allUp_iff]; simp
theorem allUp_congr {l : List (Fin 8)} (h : t.bzu.arms = s.bzu.arms) : t.allUp l = s.allUp l := by
  unfold State.allUp State.arm; rw [h]

/-- The entry arms are commanded as the reopening's second step (R74). -/
def entryStep (s : State) : State :=
  if s.allUp exitArms ∧ s.rcs.entryRaising = false then
    commandRaises Arm.inService entryArms (s.onRcs fun r => { r with entryRaising := true })
  else s

/-- The run-on runs while all arms are UP, and else does not (R74). -/
def runOnStep (s : State) : State :=
  if s.rcs.entryRaising ∧ s.allUp allArms then (if s.rcs.stepTimer = .runOn then s else setStep .runOn s)
  else if s.rcs.stepTimer = .runOn then setStep .none s
  else s

theorem testReopening_eq (s : State) : testReopening s = runOnStep (entryStep s) := rfl

theorem runOnStep_eq (s : State) : ∃ x n, runOnStep s = { s with rcs := { s.rcs with stepTimer := x, stepElapsed := n } } ∧
    (x = s.rcs.stepTimer ∨ x = .none ∨ x = .runOn) ∧ (s.allUp allArms = false → x ≠ .runOn) := by
  have same : s = { s with rcs := { s.rcs with stepTimer := s.rcs.stepTimer, stepElapsed := s.rcs.stepElapsed } } := rfl
  unfold runOnStep
  split
  · next h =>
    split
    · exact ⟨_, _, same, .inl rfl, fun hn => by rw [hn] at h; cases h.2⟩
    · exact ⟨.runOn, 0, rfl, .inr (.inr rfl), fun hn => by rw [hn] at h; cases h.2⟩
  · split
    · exact ⟨.none, 0, rfl, .inr (.inl rfl), fun _ => nofun⟩
    · next h => exact ⟨_, _, same, .inl rfl, fun _ => h⟩

theorem entryStep_idle (h : s.allUp exitArms = false ∨ s.rcs.entryRaising = true) : entryStep s = s :=
  if_neg fun hn => by rcases h with h | h <;> rw [h] at hn <;> simp at hn
theorem entryStep_rcs (s : State) : (entryStep s).rcs = { s.rcs with
    entryRaising := s.rcs.entryRaising || s.allUp exitArms } := by
  unfold entryStep
  split
  · next h =>
    rw [(commandRaises_reach _ _ _).rcs_eq (by decide), h.1, h.2]; rfl
  · next h =>
    have : (s.rcs.entryRaising || s.allUp exitArms) = s.rcs.entryRaising := by
      cases h1 : s.rcs.entryRaising
      · simp_all
      · rfl
    rw [this]
theorem entryStep_exit (he : a ∈ exitArms) (s : State) : (entryStep s).arm a = s.arm a := by
  unfold entryStep
  split
  · exact commandRaises_ne _ _ (by revert he; revert a; decide) _
  · rfl

theorem allows_restart {q : Request} (h : s.allows q) : s.apu.restart = false := (taking_iff.1 h.1).2.2

theorem commandRaises_sames (p : Arm → Bool) (l : List (Fin 8)) (s : State) :
    (commandRaises p l s).pins = s.pins ∧ (commandRaises p l s).apu = s.apu ∧ (commandRaises p l s).rcs = s.rcs :=
  ⟨(commandRaises_reach p l s).pins_eq (by decide), (commandRaises_reach p l s).apu_eq (by decide),
    (commandRaises_reach p l s).rcs_eq (by decide)⟩

/-- OPEN-ROAD's acceptance raises every exit arm in service that nothing stops (R73). -/
theorem beginReopening_spec (s : State) : (beginReopening s).rcs.road = .reopening ∧
    (beginReopening s).rcs.capRunOn = s.par pRunOn ∧
    ((beginReopening s).rcs.stepTimer = .none ∨ (beginReopening s).rcs.stepTimer = .runOn) ∧
    (beginReopening s).rcs.entryLowering = false ∧ (beginReopening s).rcs.limitPassed = false ∧
    ∀ a ∈ exitArms, s.apu.restart = false → s.pins.estop = false → ¬(s.pins.armUp[a] = true ∧ s.pins.armDown[a] = true) →
      ((beginReopening s).arm a).state = .outOfService ∨ ((beginReopening s).arm a).state = .up ∨
        ((beginReopening s).arm a).state = .raising := by
  obtain ⟨p, hp⟩ := setRoad_eq .reopening s
  unfold beginReopening
  rw [hp]
  dsimp only
  generalize hv : State.onRcs _ _ = v
  have hvr : v.rcs.road = .reopening ∧ v.rcs.capRunOn = s.par pRunOn ∧ v.rcs.stepTimer = .none ∧ v.rcs.entryLowering = false ∧
      v.rcs.limitPassed = false := by rw [← hv]; exact ⟨rfl, rfl, rfl, rfl, rfl⟩
  have hva : v.apu = s.apu := by rw [← hv]; rfl
  have hvp : v.pins = s.pins := by rw [← hv]; rfl
  clear hv hp
  have hraise (a : Fin 8) (ha : a ∈ exitArms) := commandRaises_mem Arm.inService exitArms (by decide) ha v
  have hrcs := (commandRaises_sames Arm.inService exitArms v).2.2
  generalize commandRaises Arm.inService exitArms v = w at hraise hrcs ⊢
  have hne (a : Fin 8) (ha : a ∈ exitArms) : (commandRaises Arm.reopens entryArms w).arm a = w.arm a :=
    commandRaises_ne _ _ (by revert ha; revert a; decide) w
  have hrcs' := ((commandRaises_sames Arm.reopens entryArms w).2.2).trans hrcs
  generalize commandRaises Arm.reopens entryArms w = x at hne hrcs' ⊢
  have hex (a : Fin 8) (ha : a ∈ exitArms) := entryStep_exit ha x
  have her := entryStep_rcs x
  rw [testReopening_eq]
  generalize entryStep x = y at hex her ⊢
  obtain ⟨z, n, hz, hx, -⟩ := runOnStep_eq y
  rw [hz]
  obtain ⟨r1, r2, r3, r4, r5⟩ := hvr
  have hst : y.rcs.stepTimer = .none := by rw [her, hrcs', r3]
  refine ⟨by rw [her, hrcs']; exact r1, by rw [her, hrcs']; exact r2, ?_, by rw [her, hrcs']; exact r4,
    by rw [her, hrcs']; exact r5, fun a ha hr he hc => ?_⟩
  · rw [hst] at hx
    exact (hx.elim .inl fun h => h)
  · show (y.arm a).state = _ ∨ (y.arm a).state = _ ∨ (y.arm a).state = _
    obtain ⟨q, q1, q2, q3, q4⟩ := hraise a ha
    rw [hex a ha, hne a ha, q4]
    split
    · exact commandRaise_self (by rw [q3, hva, hr]) (by rw [q2, hvp, he]) (by rw [q2, hvp]; exact hc)
    · next hin => exact .inl (by simpa [Arm.inService] using hin)

theorem reportArm_reopening (h : s.rcs.road = .reopening) : reportArm a s =
    testReopening (if (s.arm a).state = .down ∧ (isExit a ∨ s.rcs.entryRaising) then commandRaise s a else s) := by
  unfold reportArm; rw [h]

/-- An arm that is commanded to raise from DOWN is not UP at once. -/
theorem commandRaise_down_state (h : (s.arm a).state = .down) :
    ((commandRaise s a).arm a).state ≠ .up ∧ ((commandRaise s a).arm a).state ≠ .outOfService := by
  rw [commandRaise_starts (.inr (.inl h))]
  have meets (v : State) (hv : (v.arm a).state = .raising) :
      ((meetStart a v).arm a).state ≠ .up ∧ ((meetStart a v).arm a).state ≠ .outOfService := by
    unfold meetStart
    split
    · rw [(stallArm_self a _ v).1]; exact ⟨nofun, nofun⟩
    · split
      · rw [(stallArm_self a _ v).1]; exact ⟨nofun, nofun⟩
      · rw [hv]; exact ⟨nofun, nofun⟩
  unfold startRaising
  split
  · rw [h]; exact ⟨nofun, nofun⟩
  · exact meets _ (by rw [setupStroke_arm])

/-- The second step of a reopening raises the entry arms in service (R74, R75). -/
theorem entryStep_entry (hup : s.allUp exitArms = true) (hne : s.rcs.entryRaising = false) (hr : s.apu.restart = false)
    (he : s.pins.estop = false) (ha : a ∈ entryArms) (hc : ¬(s.pins.armUp[a] = true ∧ s.pins.armDown[a] = true)) :
    ((s.arm a).state = .down ∨ (s.arm a).state = .lowering ∨ (s.arm a).state = .stalled →
      ((entryStep s).arm a).state = .raising) ∧
    ((s.arm a).state = .up → ((entryStep s).arm a).state = .up ∧ ((entryStep s).arm a).relowerPending = false) := by
  obtain ⟨w, w1, w2, w3, w4⟩ := commandRaises_mem Arm.inService entryArms (by decide) ha
    (s.onRcs fun r => { r with entryRaising := true })
  have w1' : w.arm a = s.arm a := w1
  have hes : (entryStep s).arm a = if (s.arm a).inService then (commandRaise w a).arm a else s.arm a := by
    unfold entryStep
    rw [if_pos ⟨hup, hne⟩, w4, w1']
  rw [hes]
  refine ⟨fun h => ?_, fun h => ?_⟩
  · rw [if_pos (by rcases h with h | h | h <;> simp [Arm.inService, h]),
      commandRaise_starts (by rw [w1']; rcases h with h | h | h <;> simp [h])]
    exact startRaising_raises _ (by rw [w3]; exact hr) (by rw [w2]; exact he) (by rw [w2]; exact hc)
  · rw [if_pos (by simp [Arm.inService, h]), commandRaise_up (by rw [w1', h])]
    exact ⟨(congrArg Arm.state w1').trans h, rfl⟩

/-- Settles O30. -/
theorem openRoadOutcomes : Obligations.OpenRoadOutcomes := by
  refine ⟨fun s ha => ⟨fun h => ?_, fun h1 h2 h3 => ?_, fun h1 h2 h3 => ?_⟩, fun a s hroad => ?_⟩
  · rw [exec_openRoad ha, openRoadOp, if_pos h]; rfl
  · rw [exec_openRoad ha, openRoadOp, if_neg (not_or.2 ⟨h1, h2⟩), if_pos h3]; rfl
  · obtain ⟨r1, r2, r3, r4, r5, r6⟩ := beginReopening_spec s
    refine ⟨beginReopening s, ?_, r1, r2, r3, r4, r5, fun a hx he hc => r6 a hx (allows_restart ha) he hc⟩
    rw [exec_openRoad ha, openRoadOp, if_neg (not_or.2 ⟨h1, h2⟩), if_neg (not_not.2 h3)]; rfl
  · intro t
    have ht : t = runOnStep (entryStep (if (s.arm a).state = .down ∧ (isExit a ∨ s.rcs.entryRaising) then commandRaise s a else s)) :=
      reportArm_reopening hroad
    have hrcs : (if (s.arm a).state = .down ∧ (isExit a ∨ s.rcs.entryRaising) then commandRaise s a else s).rcs = s.rcs := by
      split
      · exact (commandRaise_reach s a).rcs_eq (by decide)
      · rfl
    have hroad' : t.rcs.road = .reopening := by
      obtain ⟨x, n, hx, -, -⟩ := runOnStep_eq (entryStep (if (s.arm a).state = .down ∧ (isExit a ∨ s.rcs.entryRaising) then commandRaise s a else s))
      rw [ht, hx]
      show (entryStep _).rcs.road = _
      rw [entryStep_rcs, hrcs]; exact hroad
    have hquiet (h : ¬((s.arm a).state = .down ∧ (isExit a ∨ s.rcs.entryRaising))) : t = runOnStep (entryStep s) := by
      rw [if_neg h] at ht; exact ht
    refine ⟨hroad', fun hd hx hr he hc => ?_, fun hup hne hr he => ?_, fun hup hne => ?_, fun hne hup => ?_, fun hne hup hd => ?_⟩
    · have hx' : isExit a = true ∨ s.rcs.entryRaising = true := hx
      rw [if_pos ⟨hd, hx'⟩, commandRaise_starts (.inr (.inl hd)), startRaising_free .commanded hr he hc] at ht
      have harm := setupStroke_arm (a := a) .raise .commanded s
      have hrc : (setupStroke a .raise .commanded s).rcs = s.rcs := rfl
      generalize setupStroke a .raise .commanded s = u at ht harm hrc
      have hu : (u.arm a).state = .raising ∧ (u.arm a).last = .raise := by rw [harm]; exact ⟨rfl, rfl⟩
      have hidle : entryStep u = u := entryStep_idle (hx'.imp (fun h => allUp_false.2 ⟨a, exit_iff.1 h, by rw [hu.1]; exact ⟨nofun, nofun⟩⟩)
        (fun h => by rw [hrc]; exact h))
      obtain ⟨x, n, hxn, -, hrun⟩ := runOnStep_eq u
      rw [ht, hidle, hxn]
      exact ⟨hu.1, hu.2, hrun (allUp_false.2 ⟨a, mem_allArms a, by rw [hu.1]; exact ⟨nofun, nofun⟩⟩)⟩
    · have hq := hquiet fun h => by
        rcases h with ⟨hd, hx | hx⟩
        · rcases allUp_iff.1 hup a (exit_iff.1 hx) with h | h <;> rw [hd] at h <;> cases h
        · rw [hne] at hx; cases hx
      obtain ⟨x, n, hxn, -, -⟩ := runOnStep_eq (entryStep s)
      rw [hq, hxn]
      refine ⟨?_, fun e hm hc => entryStep_entry hup hne hr he hm hc⟩
      show (entryStep s).rcs.entryRaising = true
      rw [entryStep_rcs, hup, Bool.or_true]
    · have hup' : (if (s.arm a).state = .down ∧ (isExit a ∨ s.rcs.entryRaising) then commandRaise s a else s).allUp exitArms = false := by
        split
        · next h =>
          exact allUp_false.2 ⟨a, exit_iff.1 (h.2.resolve_right (by rw [hne]; nofun)), (commandRaise_down_state h.1).2,
            (commandRaise_down_state h.1).1⟩
        · exact hup
      obtain ⟨x, n, hxn, -, -⟩ := runOnStep_eq (entryStep
        (if (s.arm a).state = .down ∧ (isExit a ∨ s.rcs.entryRaising) then commandRaise s a else s))
      rw [ht, hxn]
      show (entryStep _).rcs.entryRaising = false
      rw [entryStep_rcs, hup', hrcs, hne]; rfl
    · have hq := hquiet fun h => by
        rcases allUp_iff.1 hup a (mem_allArms a) with h' | h' <;> rw [h.1] at h' <;> cases h'
      rw [hq, entryStep_idle (.inr hne)]
      exact if_pos ⟨hne, hup⟩
    · rw [hquiet fun h => hd h.1, entryStep_idle (.inr hne)]
      exact if_neg fun h => by rw [hup] at h; cases h.2

/-! ### A stroke's start depends on its own arm alone -/

/-- Two states in which a stroke of arm `a` starts alike. -/
structure SameArm (a : Fin 8) (s t : State) : Prop where
  arm : t.arm a = s.arm a
  pins : t.pins = s.pins
  apu : t.apu = s.apu
  health : t.phu.health = s.phu.health

theorem SameArm.of_strokes (h : Strokes s t) (ha : t.arm a = s.arm a) : SameArm a s t :=
  ⟨ha, h.pins_eq (by decide), h.apu_eq (by decide), h.health_eq (by decide)⟩
theorem SameArm.onArm (h : SameArm a s t) (f : Arm → Arm) : SameArm a (s.onArm a f) (t.onArm a f) :=
  ⟨by rw [arm_onArm_self, arm_onArm_self, h.arm], h.pins, h.apu, h.health⟩
theorem SameArm.stall (h : SameArm a s t) (c : ArmCause) : SameArm a (stallArm a c s) (stallArm a c t) :=
  ⟨by rw [stallArm_arm, stallArm_arm, h.arm], h.pins, h.apu, h.health⟩
theorem SameArm.setup (h : SameArm a s t) (way : ArmWay) (start : ArmStart) :
    SameArm a (setupStroke a way start s) (setupStroke a way start t) := by
  refine ⟨?_, h.pins, h.apu, h.health⟩
  rw [setupStroke_arm, setupStroke_arm]
  unfold State.armNominal State.worn State.par
  rw [h.arm, h.pins, h.apu, h.health]
theorem SameArm.meet (h : SameArm a s t) : SameArm a (meetStart a s) (meetStart a t) := by
  unfold meetStart
  rw [h.pins]
  split
  · exact h.stall _
  · split
    · exact h.stall _
    · exact h
theorem SameArm.raise (h : SameArm a s t) (start : ArmStart) : SameArm a (startRaising a start s) (startRaising a start t) := by
  unfold startRaising
  rw [h.apu]
  split
  · exact h
  · exact (h.setup _ _).meet
theorem SameArm.obstructed (h : SameArm a s t) : SameArm a (obstruct a s) (obstruct a t) := by
  unfold obstruct
  rw [h.arm]
  split
  · exact (h.onArm _).raise _
  · exact (h.onArm _).stall _
theorem SameArm.lower (h : SameArm a s t) (start : ArmStart) : SameArm a (startLowering a start s) (startLowering a start t) := by
  have hm := (h.setup .lower start).meet
  unfold startLowering
  rw [h.apu]
  split
  · exact h
  · dsimp only
    rw [hm.arm, hm.pins]
    split
    · exact hm.obstructed
    · exact hm

/-! ### Lower commands by the table of R42 -/

/-- A lower command starts a stroke of such an arm (R42). -/
def Arm.takesLower (r : Arm) : Prop :=
  (r.state = .up ∧ r.relowerPending = false) ∨ (r.state = .down ∧ r.displaced = true) ∨ r.state = .raising ∨ r.state = .stalled

theorem takesLower_strayed {r : Arm} (h : r.takesLower) : r.strayed = true := by
  rcases h with h | h | h | h
  · exact wantsLower_strayed (arm_wantsLower_iff.2 (.inl h))
  · exact wantsLower_strayed (arm_wantsLower_iff.2 (.inr h))
  all_goals exact arm_strayed_iff.2 ⟨by rw [h]; nofun, by rw [h]; nofun⟩

theorem commandLower_takes (h : (s.arm a).takesLower) (hd : isExit a = true → s.deckCondition = true) :
    (commandLower a s).1 = startLowering a .commanded s := by
  have e : (lowerSubject a s).1 = startLowering a .commanded s := by
    unfold lowerSubject
    split
    · next hr => exact (if_pos hr).symm
    · rw [if_neg (fun h => by rw [hd h.1] at h; cases h.2)]
  unfold commandLower
  rcases h with ⟨h, h'⟩ | ⟨h, h'⟩ | h | h <;> rw [h] <;> dsimp only
  · rw [h']; exact e
  · rw [h']; exact e
  · exact e
  · exact e

theorem commandLower_idle (h : ¬(s.arm a).takesLower) : commandLower a s = (s, false) := by
  obtain ⟨h1, h2⟩ := not_or.1 h
  obtain ⟨h2, h3⟩ := not_or.1 h2
  obtain ⟨h3, h4⟩ := not_or.1 h3
  unfold commandLower
  cases hs : (s.arm a).state <;> dsimp only
  case up => exact if_pos (by simpa [hs] using h1)
  case down => exact if_neg (by simpa [hs] using h2)
  case raising => exact absurd hs h3
  case stalled => exact absurd hs h4

/-- What a group of lower commands leaves of an arm in it, by the table of R42. -/
theorem commandLowers_arm {p : Arm → Bool} {l : List (Fin 8)} (hn : l.Nodup) (ha : a ∈ l)
    (hd : isExit a = true → s.deckCondition = true) :
    ((s.arm a).takesLower → p (s.arm a) = true → (commandLowers p l s).1.arm a = (startLowering a .commanded s).arm a) ∧
    (¬(s.arm a).takesLower → (commandLowers p l s).1.arm a = s.arm a) := by
  obtain ⟨v, v1, v2, v3⟩ := commandLowers_at p hn ha s
  refine ⟨fun h hp => ?_, fun h => ?_⟩
  · rw [v3, if_pos hp, commandLower_takes (by rw [v2]; exact h) (fun hx => v1.deckCondition.trans (hd hx))]
    exact ((SameArm.of_strokes v1 v2).lower _).arm
  · rw [v3, commandLower_idle (by rw [v2]; exact h), v2, ite_self]

/-! ### The road states that light the same lamps (R61, R62, R191) -/

theorem switched_false {c : Fin 16} (h1 : t.amber = s.amber) (h2 : t.flashOn = s.flashOn) (h3 : t.rcs.flashA = s.rcs.flashA)
    (h4 : t.csu = s.csu) (h5 : t.tb = s.tb) : switched s t c = false := by
  have hc : t.circuitOn c = s.circuitOn c := by
    unfold State.circuitOn State.lampLit State.hornOn State.aspect State.running
    rw [h1, h2, h3, h4, h5]
  unfold switched
  rw [hc, h2]
  simp

theorem voidSwitched_unchanged (h : ∀ c, switched s t c = false) : voidSwitched s t = t := by
  unfold voidSwitched
  split
  · rfl
  · next p _ => rw [h p.circuit]; rfl

/-- The steps of a closure after PREWARN switch no lamp, so that no proving is voided. -/
theorem setRoad_onward {st : RoadState} (h1 : s.rcs.road ≠ .opened) (h2 : s.rcs.road ≠ .prewarn) (h3 : st ≠ .opened)
    (h4 : st ≠ .prewarn) :
    setRoad st s = { s with rcs := { s.rcs with road := st }, cl := { s.cl with latched := s.cl.latched ||| 1 } } := by
  have e : (s.driveRcs fun r =>
      if r.road = .opened then { r with road := st, flashA := true, flashTicks := 0 } else { r with road := st }) =
      s.onRcs fun r => { r with road := st } := by
    have hf : (s.onRcs fun r => if r.road = .opened then { r with road := st, flashA := true, flashTicks := 0 } else { r with road := st }) =
        s.onRcs fun r => { r with road := st } :=
      congrArg (fun r => { s with rcs := r }) (if_neg h1)
    unfold State.driveRcs
    rw [hf]
    refine voidSwitched_unchanged fun c => switched_false ?_ ?_ rfl rfl rfl
    · show (s.running && decide (st = .prewarn)) = (s.running && decide (s.rcs.road = .prewarn))
      rw [decide_eq_false h4, decide_eq_false h2]
    · have hst : decide (st ≠ .opened) = decide (s.rcs.road ≠ .opened) := by rw [decide_eq_true h1, decide_eq_true h3]
      unfold State.flashOn
      simp only [onRcs_tb]
      cases s.tb.phase
      case run => exact hst
      all_goals rfl
  unfold setRoad
  rw [e]; rfl

/-- SECURING is entered with the deck clear and an exit arm not held down: the exit arms are commanded to lower (R68). -/
theorem enterSecuring_commands (hr : s.rcs.road ≠ .opened) (hd : s.deckCondition = true) (h : s.allHeld exitArms = false) :
    ∃ p, enterSecuring s = (commandLowers Arm.strayed exitArms { s with
      rcs := { s.rcs with road := .securing, stepTimer := .none, stepElapsed := 0, limitPassed := false }
      cl := { s.cl with latched := s.cl.latched ||| 1 }, phu := { s.phu with proving := p } }).1 := by
  obtain ⟨p, hp⟩ := setRoad_closed (st := .securing) hr
  refine ⟨p, ?_⟩
  unfold enterSecuring
  dsimp only
  rw [hp]
  generalize hu : State.onRcs _ _ = u
  have hv : ({ s with
      rcs := { s.rcs with road := .securing, stepTimer := .none, stepElapsed := 0, limitPassed := false }
      cl := { s.cl with latched := s.cl.latched ||| 1 }, phu := { s.phu with proving := p } } : State) = u := hu
  rw [hv]
  clear hu hp
  have harm (a : Fin 8) : u.arm a = s.arm a := by rw [← hv]; rfl
  have hdv : u.deckCondition = true := by rw [← hd, ← hv]; rfl
  clear hv
  obtain ⟨e, he, hs⟩ := allHeld_false.1 h
  obtain ⟨w, -, w2, w3⟩ := commandLowers_at Arm.strayed (l := exitArms) (by decide) he u
  have hunheld := commandLowers_unheld Arm.strayed exitArms hdv
  have hstray : ((commandLowers Arm.strayed exitArms u).1.arm e).strayed = true := by
    rw [w3, if_pos (by rw [harm]; exact hs)]
    exact commandLower_strayed (by rw [w2, harm]; exact hs)
  generalize commandLowers Arm.strayed exitArms u = c at hunheld hstray ⊢
  rw [hunheld, if_neg nofun]
  exact testSecured_waits (allHeld_false.2 ⟨e, mem_allArms e, hstray⟩)

/-! ### The entry delay (R66) -/

/-- The entry delay's expiry with an entry arm not held down: the entry arms in service are commanded, and the road
stays in STOPPING. -/
theorem entryDelayExpires_waits (h : s.rcs.stepTimer = .entryDelay) (ha : s.allHeld entryArms = false) :
    (entryDelayExpires s).rcs = { s.rcs with stepTimer := .none, stepElapsed := 0, entryLowering := true } ∧
    (∀ a, a ∉ entryArms → (entryDelayExpires s).arm a = s.arm a) ∧
    ∀ a ∈ entryArms, ((s.arm a).takesLower → (entryDelayExpires s).arm a = (startLowering a .commanded s).arm a) ∧
      (¬(s.arm a).takesLower → (entryDelayExpires s).arm a = s.arm a) := by
  unfold entryDelayExpires
  rw [if_pos h]
  dsimp only
  generalize hv : State.onRcs _ _ = v
  have hvr : v.rcs = { s.rcs with stepTimer := .none, stepElapsed := 0, entryLowering := true } := by rw [← hv]; rfl
  have hsame (a : Fin 8) : SameArm a s v := by rw [← hv]; exact ⟨rfl, rfl, rfl, rfl⟩
  clear hv
  obtain ⟨e, he, hs⟩ := allHeld_false.1 ha
  obtain ⟨w, -, w2, w3⟩ := commandLowers_at Arm.inService (l := entryArms) (by decide) he v
  have hin : (s.arm e).inService = true := by unfold Arm.strayed at hs; simp_all
  have hstray : ((commandLowers Arm.inService entryArms v).1.arm e).strayed = true := by
    rw [w3, if_pos (by rw [(hsame e).arm]; exact hin)]
    exact commandLower_strayed (by rw [w2, (hsame e).arm]; exact hs)
  have hne (a : Fin 8) (hna : a ∉ entryArms) := commandLowers_ne Arm.inService entryArms hna (v, false)
  have harm (a : Fin 8) (hm : a ∈ entryArms) := commandLowers_arm (s := v) (p := Arm.inService) (l := entryArms) (by decide) hm
    (fun hx => absurd hx (by rw [entry_iff.2 hm]; nofun))
  have hrcs := ((commandLowers_reach Arm.inService entryArms v).rcs_eq (by decide)).trans hvr
  rw [testClearing_waits (allHeld_false.2 ⟨e, he, hstray⟩)]
  refine ⟨hrcs, fun a hna => (hne a hna).trans (hsame a).arm, fun a hm => ⟨fun ht => ?_, fun ht => ?_⟩⟩
  · have hins : (v.arm a).inService = true := by
      have := takesLower_strayed ht
      rw [(hsame a).arm]; unfold Arm.strayed at this; simp_all
    exact ((harm a hm).1 (by rw [(hsame a).arm]; exact ht) hins).trans ((hsame a).lower _).arm
  · exact ((harm a hm).2 (by rw [(hsame a).arm]; exact ht)).trans (hsame a).arm

/-- A held-down or out-of-service arm takes no command. -/
theorem held_not_takes {r : Arm} (h : r.strayed = false) : ¬r.takesLower := fun ht => by
  rw [takesLower_strayed ht] at h; cases h

theorem commandLowers_held {p : Arm → Bool} {l : List (Fin 8)} (h : s.allHeld l = true) : commandLowers p l s = (s, false) := by
  rw [allHeld_iff] at h
  unfold commandLowers
  induction l with
  | nil => rfl
  | cons b l ih =>
    have hb : commandLower b s = (s, false) := commandLower_idle (held_not_takes (h b List.mem_cons_self))
    have ih' := ih fun a ha => h a (List.mem_cons_of_mem b ha)
    rw [List.foldl_cons]
    dsimp only
    rw [hb]
    split
    · exact ih'
    · exact ih'

/-- With the entry arms held down already, CLEARING follows at once. -/
theorem entryDelayExpires_clears (h : s.rcs.stepTimer = .entryDelay) (hr : s.rcs.road = .stopping)
    (ha : s.allHeld entryArms = true) : entryDelayExpires s = testSecuring { s with
      rcs := { s.rcs with road := .clearing, stepTimer := .clearanceLimit, stepElapsed := 0, entryLowering := false, limitPassed := false }
      cl := { s.cl with latched := s.cl.latched ||| 1 } } := by
  unfold entryDelayExpires
  rw [if_pos h]
  dsimp only
  generalize hv : State.onRcs _ _ = v
  have hroad : v.rcs.road = .stopping := by rw [← hv]; exact hr
  have hheld : v.allHeld entryArms = true := by rw [allHeld_congr (s := s) (by rw [← hv]; rfl)]; exact ha
  rw [commandLowers_held hheld, testClearing_passes (by rw [← hv]; rfl) hheld]
  unfold enterClearing
  rw [setRoad_onward (st := .clearing) (by rw [hroad]; nofun) (by rw [hroad]; nofun) nofun nofun, ← hv]
  rfl

/-! ### The run-on and the dwell (R63, R74) -/

/-- The end of a bypass on an OPEN road moves only its zone and the view. -/
theorem endBypass_opened (hr : s.rcs.road = .opened) (z : Fin 6) :
    (endBypass s z).rcs.road = .opened ∧ (endBypass s z).rcs.openTime = s.rcs.openTime ∧
    (endBypass s z).rcs.stepTimer = s.rcs.stepTimer ∧ (endBypass s z).rcs.entryRaising = s.rcs.entryRaising ∧
    (endBypass s z).bzu.arms = s.bzu.arms ∧ ((endBypass s z).zone z).bypassed = false ∧
    ∀ k, k ≠ z → (endBypass s z).zone k = s.zone k := by
  have hchange (f : Zone → Zone) : ∃ d w, (changeZone z f s).rcs = { s.rcs with deckClear := d, dwellWait := w } ∧
      (changeZone z f s).bzu.arms = s.bzu.arms := by
    by_cases hc : (f (s.zone z)).counted = (s.zone z).counted
    · obtain ⟨l, hl⟩ := zoneTaken_eq z f s
      rw [changeZone_same hc, hl]
      exact ⟨_, _, rfl, rfl⟩
    · obtain ⟨l, hl⟩ := zoneTold_eq z f s
      have hvr : (s.zoneTold z f).rcs = s.rcs := by rw [hl]; rfl
      have hva : (s.zoneTold z f).bzu.arms = s.bzu.arms := by rw [hl]; rfl
      rw [changeZone_told hc]
      unfold reportZone
      rw [reviewDeck_quiet (by rw [hvr, hr]; nofun) (by rw [hvr, hr]; nofun)]
      generalize s.zoneTold z f = v at hvr hva ⊢
      refine ⟨v.deckCondition, !v.deckCondition && !v.deckOccupied, ?_⟩
      dsimp only
      rw [hvr]
      cases (f (s.zone z)).counted
      · exact ⟨rfl, hva⟩
      · rw [if_pos rfl, hr]
        exact ⟨rfl, hva⟩
  unfold endBypass
  by_cases hb : (s.zone z).bypassed = false
  · rw [show setBypass z false s = s from if_pos hb]
    exact ⟨hr, rfl, rfl, rfl, rfl, hb, fun _ _ => rfl⟩
  · have hz := setBypass_zone hb
    obtain ⟨d, w, h1, h2⟩ := hchange fun r => { r with bypassed := false }
    have hne (k : Fin 6) (hk : k ≠ z) := changeZone_zone_ne (s := s) (f := fun r => { r with bypassed := false }) hk
    rw [setBypass_changes hb] at hz ⊢
    generalize changeZone z (fun r => { r with bypassed := false }) s = v at h1 h2 hz hne ⊢
    rw [reviewDeck_quiet (by rw [h1]; show s.rcs.road ≠ _; rw [hr]; nofun) (by rw [h1]; show s.rcs.road ≠ _; rw [hr]; nofun)] at hz ⊢
    refine ⟨by rw [h1]; exact hr, by rw [h1], by rw [h1], by rw [h1], h2, by rw [hz]; rfl, hne⟩

/-- Every bypass ends as the road becomes OPEN (R58). -/
theorem endBypasses_opened (l : List (Fin 6)) (s : State) (hr : s.rcs.road = .opened) :
    (l.foldl endBypass s).rcs.road = .opened ∧ (l.foldl endBypass s).rcs.openTime = s.rcs.openTime ∧
    (l.foldl endBypass s).rcs.stepTimer = s.rcs.stepTimer ∧ (l.foldl endBypass s).rcs.entryRaising = s.rcs.entryRaising ∧
    (l.foldl endBypass s).bzu.arms = s.bzu.arms ∧
    ∀ k, k ∈ l ∨ (s.zone k).bypassed = false → ((l.foldl endBypass s).zone k).bypassed = false := by
  induction l generalizing s with
  | nil => exact ⟨hr, rfl, rfl, rfl, rfl, fun k h => h.resolve_left (by simp)⟩
  | cons b l ih =>
    obtain ⟨e1, e2, e3, e4, e5, e6, e7⟩ := endBypass_opened hr b
    obtain ⟨i1, i2, i3, i4, i5, i6⟩ := ih (endBypass s b) e1
    rw [List.foldl_cons]
    refine ⟨i1, i2.trans e2, i3.trans e3, i4.trans e4, i5.trans e5, fun k h => i6 k ?_⟩
    by_cases hk : k = b
    · subst hk; exact .inr e6
    · rw [e7 k hk]
      exact h.imp_left fun h => (List.mem_cons.1 h).resolve_left hk

/-- With nothing counted occupied the clear durations that reach the dwell make the condition (R63; note 17). -/
def State.dwelt (s : State) : State := allZones.foldl (fun t z => t.onZone z fun r => r.reachDwell s.dwell) s

theorem foldl_onZone (f : Zone → Zone) {l : List (Fin 6)} (hn : l.Nodup) (s : State) (k : Fin 6) :
    (l.foldl (fun t z => t.onZone z f) s).zone k = if k ∈ l then f (s.zone k) else s.zone k := by
  induction l generalizing s with
  | nil => rfl
  | cons b l ih =>
    obtain ⟨hb, hl⟩ := List.nodup_cons.mp hn
    rw [List.foldl_cons, ih hl]
    by_cases h : k = b
    · subst h; rw [if_neg hb, zone_onZone_self, if_pos List.mem_cons_self]
    · rw [zone_onZone_ne _ h]
      simp only [h, List.mem_cons, false_or]

theorem dwelt_zone (s : State) (k : Fin 6) : (s.dwelt).zone k = (s.zone k).reachDwell s.dwell := by
  unfold State.dwelt
  rw [foldl_onZone (l := allZones) _ (by decide), if_pos (mem_allZones k)]
theorem dwelt_reach (s : State) : Reach [.zones] s s.dwelt := reach_foldl (fun t z => onZone_reach z _ t) allZones s

theorem dwelt_condition (h : s.deckOccupied = false) : s.dwelt.deckCondition = true := by
  have hd : s.dwelt.dwell = s.dwell := dwell_congr ((dwelt_reach s).rcs_eq (by decide)) ((dwelt_reach s).apu_eq (by decide))
  refine deckCondition_iff.2 fun z => ?_
  have hc : (s.zone z).counted = false := by
    cases hz : (s.zone z).counted
    · rfl
    · rw [deckOccupied_iff.2 ⟨z, hz⟩] at h; cases h
  rw [dwelt_zone, hd]
  unfold Zone.reachDwell
  rw [hc, Bool.or_false]
  split
  · next hb => exact .inl hb
  · exact .inr ⟨hc, Nat.le_max_right _ _⟩

/-- Where the condition holds already, the expiry changes no zone. -/
theorem dwelt_same (h : s.deckCondition = true) : s.dwelt = s := by
  have hz (z : Fin 6) : (s.zone z).reachDwell s.dwell = s.zone z := by
    have := deckCondition_iff.1 h z
    unfold Zone.reachDwell
    rcases this with hb | ⟨hc, ht⟩
    · rw [hb]; rfl
    · split
      · rfl
      · rw [Nat.max_eq_left ht]
  unfold State.dwelt
  generalize allZones = l
  induction l with
  | nil => rfl
  | cons b l ih => rw [List.foldl_cons, onZone_same (hz b)]; exact ih

theorem dwellExpires_eq (h : s.rcs.dwellWait = true) : dwellExpires s = reviewDeck s.dwelt := if_pos h

/-- The view as it becomes clear. -/
theorem reviewDeck_clears (h : s.deckCondition = true) (hc : s.rcs.deckClear = false) :
    reviewDeck s = deckBecameClear { s with rcs := { s.rcs with deckClear := true, dwellWait := false } } := by
  have e : viewDeck s = { s with rcs := { s.rcs with deckClear := true, dwellWait := false } } := by
    unfold viewDeck State.onRcs; rw [h]; rfl
  unfold reviewDeck
  rw [e]
  exact if_pos (by simp [hc])

theorem allHeld_all (h1 : s.allHeld entryArms = true) (h2 : s.allHeld exitArms = true) : s.allHeld allArms = true :=
  allHeld_iff.2 fun a _ => by
    cases hx : isExit a
    · exact allHeld_iff.1 h1 a (entry_iff.1 hx)
    · exact allHeld_iff.1 h2 a (exit_iff.1 hx)

/-- SECURING is entered with the deck clear: SECURED follows where every exit arm is held down, else the exit arms lower. -/
theorem enterSecuring_onward (hr : s.rcs.road ≠ .opened) (hd : s.deckCondition = true) (ha : s.allHeld entryArms = true) :
    (enterSecuring s).rcs = { s.rcs with
      road := if s.allHeld exitArms then .secured else .securing, stepTimer := .none, stepElapsed := 0, limitPassed := false } ∧
    (enterSecuring s).cl.latched.getLsbD 0 = true ∧
    (s.allHeld exitArms = true → (enterSecuring s).bzu = s.bzu ∧ (enterSecuring s).cl.latched = s.cl.latched ||| 1) ∧
    ∀ a, (¬(s.arm a).takesLower → (enterSecuring s).arm a = s.arm a) ∧
      ((s.arm a).takesLower → (enterSecuring s).arm a = (startLowering a .commanded s).arm a) := by
  have hbit (x : Half) : (x ||| 1).getLsbD 0 = true := by simp
  have hentry (a : Fin 8) (h : a ∉ exitArms) : ¬(s.arm a).takesLower := held_not_takes
    (allHeld_iff.1 ha a (entry_iff.1 (by rw [← Bool.not_eq_true, exit_iff]; exact h)))
  cases hx : s.allHeld exitArms
  · obtain ⟨p, hp⟩ := enterSecuring_commands hr hd hx
    rw [hp]
    generalize hv : ({ s with
      rcs := { s.rcs with road := .securing, stepTimer := .none, stepElapsed := 0, limitPassed := false }
      cl := { s.cl with latched := s.cl.latched ||| 1 }, phu := { s.phu with proving := p } } : State) = v
    have hsame (a : Fin 8) : SameArm a s v := by rw [← hv]; exact ⟨rfl, rfl, rfl, rfl⟩
    have hvr : v.rcs = { s.rcs with road := .securing, stepTimer := .none, stepElapsed := 0, limitPassed := false } := by
      rw [← hv]
    have hvd : v.deckCondition = true := by rw [← hd, ← hv]; rfl
    have hvl : v.cl.latched.getLsbD 0 = true := by rw [← hv]; exact hbit _
    clear hv hp
    have hc := commandLowers_reach Arm.strayed exitArms v
    refine ⟨(hc.rcs_eq (by decide)).trans hvr, hc.latched_stays (by decide) hvl, nofun, fun a => ?_⟩
    by_cases he : a ∈ exitArms
    · have hl := commandLowers_arm (s := v) (p := Arm.strayed) (by decide) he fun _ => hvd
      rw [(hsame a).arm] at hl
      exact ⟨hl.2, fun ht => (hl.1 ht (takesLower_strayed ht)).trans ((hsame a).lower _).arm⟩
    · exact ⟨fun _ => (commandLowers_ne Arm.strayed exitArms he (v, false)).trans (hsame a).arm, fun ht => absurd ht (hentry a he)⟩
  · obtain ⟨p, hp⟩ := enterSecuring_held hr (allHeld_all ha hx)
    rw [hp]
    refine ⟨rfl, hbit _, fun _ => ⟨rfl, rfl⟩, fun a => ⟨fun _ => rfl, fun ht => absurd ht (held_not_takes ?_)⟩⟩
    exact allHeld_iff.1 (allHeld_all ha hx) a (mem_allArms a)

/-- The entry delay's expiry with the entry arms held down and the view clear. -/
theorem entryDelayExpires_onward (h : s.rcs.stepTimer = .entryDelay) (hr : s.rcs.road = .stopping)
    (ha : s.allHeld entryArms = true) (hc : s.rcs.deckClear = true) (hd : s.deckCondition = true) :
    (entryDelayExpires s).rcs = { s.rcs with
      road := if s.allHeld exitArms then .secured else .securing, stepTimer := .none, stepElapsed := 0
      entryLowering := false, limitPassed := false } ∧
    (entryDelayExpires s).cl.latched.getLsbD 0 = true ∧
    ∀ a, (¬(s.arm a).takesLower → (entryDelayExpires s).arm a = s.arm a) ∧
      ((s.arm a).takesLower → (entryDelayExpires s).arm a = (startLowering a .commanded s).arm a) := by
  rw [entryDelayExpires_clears h hr ha]
  generalize hv : ({ s with
    rcs := { s.rcs with road := .clearing, stepTimer := .clearanceLimit, stepElapsed := 0, entryLowering := false, limitPassed := false }
    cl := { s.cl with latched := s.cl.latched ||| 1 } } : State) = v
  have hsame (a : Fin 8) : SameArm a s v := by rw [← hv]; exact ⟨rfl, rfl, rfl, rfl⟩
  have hheld (l : List (Fin 8)) : v.allHeld l = s.allHeld l := allHeld_congr (by rw [← hv])
  have hvr : v.rcs = { s.rcs with
    road := .clearing, stepTimer := .clearanceLimit, stepElapsed := 0, entryLowering := false, limitPassed := false } := by rw [← hv]
  have hvd : v.deckCondition = true := by rw [← hd, ← hv]; rfl
  clear hv
  obtain ⟨e1, e2, -, e4⟩ := enterSecuring_onward (s := v) (by rw [hvr]; nofun) hvd (by rw [hheld]; exact ha)
  rw [testSecuring_passes (by rw [hvr]; exact hc) (by rw [hheld]; exact ha)]
  refine ⟨by rw [e1, hvr, hheld], e2, fun a => ?_⟩
  rw [← (hsame a).arm]
  exact ⟨(e4 a).1, fun ht => ((e4 a).2 ht).trans ((hsame a).lower _).arm⟩

/-- The entry delay's expiry with the entry arms held down and the view not clear. -/
theorem entryDelayExpires_clearing (h : s.rcs.stepTimer = .entryDelay) (hr : s.rcs.road = .stopping)
    (ha : s.allHeld entryArms = true) (hc : s.rcs.deckClear = false) : entryDelayExpires s = { s with
      rcs := { s.rcs with road := .clearing, stepTimer := .clearanceLimit, stepElapsed := 0, entryLowering := false, limitPassed := false }
      cl := { s.cl with latched := s.cl.latched ||| 1 } } :=
  (entryDelayExpires_clears h hr ha).trans (testSecuring_waits (.inl hc))

/-- What an arm's lowering leaves where nothing stops or reverses it. -/
theorem startLowering_record (hr : s.apu.restart = false) (he : s.pins.estop = false) (hg : s.pins.armEdge[a] = false)
    (hc : ¬(s.pins.armUp[a] = true ∧ s.pins.armDown[a] = true)) :
    ((startLowering a .commanded s).arm a).state = .lowering ∧ ((startLowering a .commanded s).arm a).cause = none ∧
    ((startLowering a .commanded s).arm a).last = .lower ∧ ((startLowering a .commanded s).arm a).displaced = false := by
  rw [startLowering_free _ hr he hc hg, setupStroke_arm]
  exact ⟨rfl, rfl, rfl, rfl⟩

/-- The dwell's expiry makes the view clear (R63, R67, R72). -/
structure ViewClears (s t : State) : Prop where
  deckClear : t.rcs.deckClear = true
  dwellWait : t.rcs.dwellWait = false
  waits : s.rcs.road = .clearing → s.allHeld entryArms = false → t.rcs.road = .clearing ∧ t.bzu.arms = s.bzu.arms ∧ t.cl = s.cl
  secured : s.rcs.road = .clearing → s.allHeld allArms = true → t.rcs.road = .secured ∧ t.rcs.stepTimer = .none ∧
    t.rcs.limitPassed = false ∧ t.bzu.arms = s.bzu.arms ∧ t.cl.latched = s.cl.latched ||| 1
  securing : s.rcs.road = .clearing → s.allHeld entryArms = true → s.allHeld exitArms = false →
    t.rcs.road = .securing ∧ t.rcs.stepTimer = .none ∧ t.rcs.limitPassed = false
  breached : s.rcs.road = .breached → t.rcs.road = .breached ∧ t.rcs.stepTimer = s.rcs.stepTimer
  lowers : (s.rcs.road = .clearing ∧ s.allHeld entryArms = true) ∨ s.rcs.road = .breached →
    ∀ a ∈ exitArms, (s.arm a).takesLower → (s.arm a).state = .up → t.arm a = (startLowering a .commanded s).arm a

theorem dwellExpires_clears (hw : s.rcs.dwellWait = true) (hc : s.rcs.deckClear = false) (ho : s.deckOccupied = false) :
    ViewClears s (dwellExpires s) := by
  have hd := dwelt_condition ho
  have hrcs := (dwelt_reach s).rcs_eq (by decide)
  rw [dwellExpires_eq hw, reviewDeck_clears hd (by rw [hrcs]; exact hc)]
  generalize hv : ({ s.dwelt with rcs := { s.dwelt.rcs with deckClear := true, dwellWait := false } } : State) = v
  have hvr : v.rcs = { s.rcs with deckClear := true, dwellWait := false } := by rw [← hv, ← hrcs]
  have hvd : v.deckCondition = true := by rw [← hd, ← hv]; rfl
  have hvb : v.bzu.arms = s.bzu.arms := by rw [← hv]; exact (dwelt_reach s).arms_eq (by decide)
  have hvc : v.cl = s.cl := by rw [← hv]; exact (dwelt_reach s).cl_eq (by decide)
  have hheld (l : List (Fin 8)) : v.allHeld l = s.allHeld l := allHeld_congr hvb
  have hsame (a : Fin 8) : SameArm a s v := by
    refine ⟨by unfold State.arm; rw [hvb], ?_, ?_, ?_⟩ <;> rw [← hv]
    · exact (dwelt_reach s).pins_eq (by decide)
    · exact (dwelt_reach s).apu_eq (by decide)
    · exact (dwelt_reach s).health_eq (by decide)
  have hroad : v.rcs.road = s.rcs.road := by rw [hvr]
  clear hv
  unfold deckBecameClear
  cases hr : s.rcs.road <;> rw [hroad, hr] <;> dsimp only
  case clearing =>
    have hon := enterSecuring_onward (s := v) (by rw [hroad, hr]; nofun) hvd
    cases he : s.allHeld entryArms
    · rw [testSecuring_waits (.inr (by rw [hheld, he]))]
      refine ⟨by rw [hvr], by rw [hvr], fun _ _ => ⟨hroad.trans hr, hvb, hvc⟩, fun _ h => ?_, fun _ h => ?_, fun h => ?_, fun h => ?_⟩
      · rw [allHeld_entry h] at he; cases he
      · rw [he] at h; cases h
      · rw [hr] at h; cases h
      · rw [he, hr] at h; simp at h
    · obtain ⟨e1, -, e3, e4⟩ := hon (by rw [hheld, he])
      rw [testSecuring_passes (by rw [hvr]) (by rw [hheld, he])]
      refine ⟨by rw [e1, hvr], by rw [e1, hvr], fun _ h => ?_, fun _ h => ?_, fun _ _ hx => ?_, fun h => ?_, fun _ a hx ht hu => ?_⟩
      · rw [he] at h; cases h
      · have hx : v.allHeld exitArms = true := by
          rw [hheld]; exact allHeld_iff.2 fun a _ => allHeld_iff.1 h a (mem_allArms a)
        obtain ⟨e5, e6⟩ := e3 hx
        rw [e1, hx, e5, e6, hvc]
        exact ⟨rfl, rfl, rfl, hvb, rfl⟩
      · rw [e1, hheld, hx]
        exact ⟨rfl, rfl, rfl⟩
      · rw [hr] at h; cases h
      · exact ((e4 a).2 (by rw [(hsame a).arm]; exact ht)).trans ((hsame a).lower _).arm
  case breached =>
    have hcr := (commandLowers_reach Arm.breachLower exitArms v).rcs_eq (by decide)
    refine ⟨by rw [hcr, hvr], by rw [hcr, hvr], fun h => ?_, fun h => ?_, fun h => ?_, fun _ => by rw [hcr, hvr]; exact ⟨hr, rfl⟩,
      fun _ a hx ht hu => ?_⟩
    · rw [hr] at h; cases h
    · rw [hr] at h; cases h
    · rw [hr] at h; cases h
    · have hl := commandLowers_arm (s := v) (p := Arm.breachLower) (by decide) hx fun _ => hvd
      rw [(hsame a).arm] at hl
      refine (hl.1 ht (arm_breachLower_iff.2 (.inl (arm_wantsLower_iff.2 (.inl ⟨hu, ?_⟩))))).trans ((hsame a).lower _).arm
      rcases ht with h | h | h | h
      · exact h.2
      · rw [hu] at h; cases h.1
      · rw [hu] at h; cases h
      · rw [hu] at h; cases h
  all_goals
    refine ⟨by rw [hvr], by rw [hvr], fun h => ?_, fun h => ?_, fun h => ?_, fun h => ?_, fun h => ?_⟩
    all_goals rw [hr] at h; simp at h

/-- The flash changes where it is on (R62). -/
theorem flashChanges_eq (h : s.flashOn = true) : ∃ p, flashChanges s = { s with
    rcs := { s.rcs with flashA := !s.rcs.flashA, flashTicks := 0 }, phu := { s.phu with proving := p } } := by
  obtain ⟨p, hp⟩ := driveRcs_eq (fun r => { r with flashA := !r.flashA, flashTicks := 0 }) s
  exact ⟨p, (if_pos h).trans hp⟩

theorem flashOn_run (h : s.running = true) : s.flashOn = decide (s.rcs.road ≠ .opened) := by
  have hp : s.tb.phase = .run := running_iff.1 h
  unfold State.flashOn
  rw [hp]

theorem flashDue_eq (h : s.running = true) : flashDue s =
    s.happens (s.rcs.road ≠ .opened && 50 ≤ s.rcs.flashTicks) .redFlashChange := by
  unfold flashDue
  rw [flashOn_run h]
  cases hd : (decide (s.rcs.road ≠ .opened) && decide (50 ≤ s.rcs.flashTicks))
  · rfl
  · exact (after_eq (c := .redFlashChange) rfl).symm

theorem dwellDue_eq (h : s.running = true) : when (s.rcs.dwellWait && s.deckCondition) reviewDeck s =
    s.happens (s.rcs.dwellWait && s.deckCondition) .dwellWaitExpiry := by
  rw [happens_run (f := dwellExpires) (fun _ => rfl) h]
  unfold when
  split
  · next hc =>
    obtain ⟨hw, hd⟩ := Bool.and_eq_true_iff.1 hc
    rw [dwellExpires_eq hw, dwelt_same hd]
  · rfl

theorem roadDue_eq (h : s.running = true) : roadDue s =
    (let s := s.happens (s.rcs.dwellWait && s.deckCondition) .dwellWaitExpiry
     let s := s.happens (s.rcs.stepTimer = .prewarn && 100 * s.rcs.capPrewarn ≤ s.rcs.stepElapsed) .prewarnExpiry
     let s := s.happens (s.rcs.stepTimer = .entryDelay && 100 * s.rcs.capEntryDelay ≤ s.rcs.stepElapsed) .entryDelayExpiry
     let s := s.happens (s.rcs.stepTimer = .clearanceLimit && 100 * s.rcs.capClearanceLimit ≤ s.rcs.stepElapsed) .clearanceLimitExpiry
     let s := s.happens (s.rcs.stepTimer = .runOn && 100 * s.rcs.capRunOn ≤ s.rcs.stepElapsed) .runOnExpiry
     s.happens (s.rcs.road ≠ .opened && 50 ≤ s.rcs.flashTicks) .redFlashChange) := by
  dsimp only
  rw [← flashDue_eq (happens_running rfl (happens_running rfl (happens_running rfl (happens_running rfl
      (happens_running rfl h _) _) _) _) _),
    happens_run (f := runOnExpires) (fun _ => rfl)
      (happens_running rfl (happens_running rfl (happens_running rfl (happens_running rfl h _) _) _) _),
    happens_run (f := clearanceLimitExpires) (fun _ => rfl)
      (happens_running rfl (happens_running rfl (happens_running rfl h _) _) _),
    happens_run (f := entryDelayExpires) (fun _ => rfl) (happens_running rfl (happens_running rfl h _) _),
    happens_run (f := prewarnExpires) (fun _ => rfl) (happens_running rfl h _), ← dwellDue_eq h]
  rfl

/-- Settles O31. -/
theorem roadTimersAndFlash : Obligations.RoadTimersAndFlash := by
  refine ⟨fun s h => ⟨fun hn => exec_run rfl h (if_neg hn), fun ht hr => ?_, fun hn => exec_run rfl h (if_neg hn), fun ht hr => ?_,
    fun hn => exec_run rfl h (if_neg hn), fun ht => exec_run rfl h (if_pos ht), fun hn => exec_run rfl h (if_neg hn), fun ht => ?_⟩,
    fun s => ⟨fun h hw => exec_run rfl h (if_neg (by simp [hw])), fun h hw ho h1 h2 => ?_, fun h hw hc ho hr he => ?_, fun hf => ?_,
      fun hf => congrArg Host.Outcome.next (if_neg (by simp [hf]))⟩, fun s h => ⟨?_, ?_, roadDue_eq h⟩⟩
  · obtain ⟨p, hp⟩ := setRoad_closed (s := s) (st := .stopping) (by rw [hr]; nofun)
    refine ⟨_, exec_run rfl h ((if_pos ht).trans rfl), ?_⟩
    rw [hp]
    exact ⟨rfl, rfl, rfl, rfl⟩
  · intro held onward
    have hreach := entryDelayExpires_reach s
    refine ⟨entryDelayExpires s, exec_run rfl h rfl, hreach.lmc_eq (by decide), hreach.zones_eq (by decide),
      fun ha => (entryDelayExpires_waits ht ha).1,
      fun ha hd => entryDelayExpires_clearing ht hr ha hd, fun hon hd => ?_, fun a hon => ?_⟩
    · obtain ⟨e1, e2, -⟩ := entryDelayExpires_onward ht hr hon.1 hon.2 hd
      rw [e1]
      exact ⟨rfl, rfl, rfl, rfl, (mask_road _).2 e2⟩
    · intro commanded
      -- the three ways on: STOPPING waits, CLEARING waits, SECURING or SECURED follows
      have hidle : ¬commanded → (entryDelayExpires s).arm a = s.arm a := by
        intro hn
        cases ha : s.allHeld entryArms
        · by_cases hm : a ∈ entryArms
          · exact ((entryDelayExpires_waits ht ha).2.2 a hm).2 hn
          · exact (entryDelayExpires_waits ht ha).2.1 a hm
        · cases hc : s.rcs.deckClear
          · rw [entryDelayExpires_clearing ht hr ha hc]; rfl
          · exact ((entryDelayExpires_onward ht hr ha hc (hon.resolve_left (not_not.2 ⟨ha, hc⟩))).2.2 a).1 hn
      have htakes : a ∈ entryArms ∨ onward → commanded →
          (entryDelayExpires s).arm a = (startLowering a .commanded s).arm a := by
        intro hm hc
        by_cases ho : onward
        · exact ((entryDelayExpires_onward ht hr ho.1 ho.2 (hon.resolve_left (not_not.2 ho))).2.2 a).2 hc
        · cases ha : s.allHeld entryArms
          · exact ((entryDelayExpires_waits ht ha).2.2 a (hm.resolve_right ho)).1 hc
          · exact absurd hc (held_not_takes (allHeld_iff.1 ha a (hm.resolve_right ho)))
      refine ⟨hidle, fun hm hn => ?_, fun hm hc => ⟨htakes hm hc, fun h1 h2 h3 h4 => ?_⟩⟩
      · cases ha : s.allHeld entryArms
        · exact (entryDelayExpires_waits ht ha).2.1 a hm
        · have hc : s.rcs.deckClear = false := by
            rw [← Bool.not_eq_true]; exact fun hc => hn ⟨ha, hc⟩
          rw [entryDelayExpires_clearing ht hr ha hc]; rfl
      · rw [htakes hm hc]
        exact startLowering_record h1 h2 h3 h4
  · obtain ⟨p, hp⟩ := setRoad_eq .opened s
    refine ⟨_, exec_run rfl h (if_pos ht), ?_⟩
    dsimp only
    rw [hp]
    generalize hv : State.onRcs _ _ = v
    have hvr : v.rcs.road = .opened ∧ v.rcs.openTime = some s.tb.seconds ∧ v.rcs.stepTimer = .none ∧ v.rcs.entryRaising = false := by
      rw [← hv]; exact ⟨rfl, rfl, rfl, rfl⟩
    have hvb : v.bzu = s.bzu := by rw [← hv]; rfl
    obtain ⟨e1, e2, e3, e4, e5, e6⟩ := endBypasses_opened allZones v hvr.1
    exact ⟨e1, e2.trans hvr.2.1, e3.trans hvr.2.2.1, e4.trans hvr.2.2.2, fun z => e6 z (.inl (mem_allZones z)), by rw [e5, hvb]⟩
  · have hd := dwelt_condition ho
    have hrcs := (dwelt_reach s).rcs_eq (by decide)
    have harms := (dwelt_reach s).arms_eq (by decide)
    have hcl := (dwelt_reach s).cl_eq (by decide)
    refine ⟨_, exec_run rfl h (dwellExpires_eq hw), ?_⟩
    rw [reviewDeck_quiet (by rw [hrcs]; exact h1) (by rw [hrcs]; exact h2), hd, hrcs]
    exact ⟨rfl, rfl, rfl, harms, hcl⟩
  · obtain ⟨v1, v2, v3, v4, v5, v6, v7⟩ := dwellExpires_clears hw hc ho
    refine ⟨_, exec_run rfl h rfl, v1, v2, v3, v4, v5, v6, fun hx a ha hu hp hg hq => ?_⟩
    obtain ⟨r1, -, r3, -⟩ := startLowering_record hr he hg hq
    rw [v7 hx a ha (.inl ⟨hu, hp⟩) hu]
    exact ⟨r1, r3⟩
  · obtain ⟨p, hp⟩ := flashChanges_eq hf
    have hon : (flashChanges s).flashOn = true := by rw [hp, ← hf]; rfl
    have ha : (flashChanges s).rcs.flashA = !s.rcs.flashA := by rw [hp]
    refine ⟨flashChanges s, rfl, by rw [hp], ?_, ?_, by rw [hp]⟩
    · unfold State.redA; rw [hf, hon, ha]; rfl
    · unfold State.redB; rw [hf, hon, ha]; rfl
  · show s.rcs.tick.stepElapsed = _
    unfold Rcs.tick
    split <;> rfl
  · unfold tickFlash
    rw [flashOn_run h]
    by_cases ho : s.rcs.road = .opened
    · rw [if_neg (by simp [ho]), if_pos ho]
    · rw [if_pos (by simp [ho]), if_neg ho]; rfl

end Sys2Proof.Machine
end

section
/-! PROOFS. The configuration marks and the authority record while the part is frozen (R25, R53, R57, R58). -/

namespace Sys2Proof.Machine

variable {s t u : State} {a k : Fin 8}

/-! ### No step of the road but OPEN-ROAD begins a reopening (R73, R74) -/

/-- A road that is not REOPENING stays so, and its run-on is not started. -/
def NotReopened (s t : State) : Prop :=
  s.rcs.road ≠ .reopening → t.rcs.road ≠ .reopening ∧ (t.rcs.stepTimer = .runOn → s.rcs.stepTimer = .runOn)

theorem NotReopened.of_rcs (h : t.rcs = s.rcs) : NotReopened s t := fun hr => by rw [h]; exact ⟨hr, id⟩
theorem NotReopened.refl (s : State) : NotReopened s s := .of_rcs rfl
theorem NotReopened.trans (h : NotReopened s t) (k : NotReopened t u) : NotReopened s u := fun hr =>
  ⟨(k (h hr).1).1, fun hu => (h hr).2 ((k (h hr).1).2 hu)⟩
theorem NotReopened.strokes (h : Strokes s t) : NotReopened s t := .of_rcs (h.rcs_eq (by decide))

theorem setRoad_notReopened (st : RoadState) (h : st ≠ .reopening) (s : State) : NotReopened s (setRoad st s) := by
  obtain ⟨p, hp⟩ := setRoad_eq st s
  rw [hp]
  exact fun _ => ⟨h, id⟩
theorem setStep_notReopened (x : StepTimer) (h : x ≠ .runOn) (s : State) : NotReopened s (setStep x s) :=
  fun hr => ⟨hr, fun hx => absurd hx h⟩
theorem onRcs_notReopened (f : Rcs → Rcs) (h : ∀ r, (f r).road = r.road ∧ (f r).stepTimer = r.stepTimer) (s : State) :
    NotReopened s (s.onRcs f) := fun hr => by
  show (f s.rcs).road ≠ _ ∧ ((f s.rcs).stepTimer = _ → _)
  rw [(h _).1, (h _).2]; exact ⟨hr, id⟩

theorem reverseSecuring_notReopened (s : State) : NotReopened s (reverseSecuring s) := by
  have h1 : NotReopened s (viewDeck (latch .deck s)) := onRcs_notReopened _ (fun _ => ⟨rfl, rfl⟩) (latch .deck s)
  unfold reverseSecuring
  dsimp only
  generalize viewDeck (latch .deck s) = v at h1 ⊢
  have h2 := h1.trans (.strokes (commandRaises_reach Arm.reverses exitArms v))
  exact (h2.trans (setRoad_notReopened .clearing nofun _)).trans (setStep_notReopened .clearanceLimit nofun _)
theorem testSecured_notReopened (s : State) : NotReopened s (testSecured s) := by
  unfold testSecured; split
  · exact setRoad_notReopened .secured nofun s
  · exact .refl s
theorem testRestored_notReopened (s : State) : NotReopened s (testRestored s) := by
  unfold testRestored; split
  · exact setRoad_notReopened .secured nofun s
  · exact .refl s
theorem enterSecuring_notReopened (s : State) : NotReopened s (enterSecuring s) := by
  have h := ((setRoad_notReopened .securing nofun s).trans (setStep_notReopened .none nofun _)).trans
    (onRcs_notReopened (fun r => { r with limitPassed := false }) (fun _ => ⟨rfl, rfl⟩) _)
  unfold enterSecuring
  dsimp only
  generalize (setStep .none (setRoad .securing s)).onRcs _ = v at h ⊢
  have hc := h.trans (.strokes (commandLowers_reach Arm.strayed exitArms v))
  generalize commandLowers Arm.strayed exitArms v = c at hc ⊢
  split
  · exact hc.trans (reverseSecuring_notReopened _)
  · exact hc.trans (testSecured_notReopened _)
theorem testSecuring_notReopened (s : State) : NotReopened s (testSecuring s) := by
  unfold testSecuring; split
  · exact enterSecuring_notReopened s
  · exact .refl s
theorem enterClearing_notReopened (s : State) : NotReopened s (enterClearing s) := by
  have h := ((setRoad_notReopened .clearing nofun s).trans (setStep_notReopened .clearanceLimit nofun _)).trans
    (onRcs_notReopened (fun r => { r with entryLowering := false, limitPassed := false }) (fun _ => ⟨rfl, rfl⟩) _)
  unfold enterClearing
  generalize (setStep .clearanceLimit (setRoad .clearing s)).onRcs _ = v at h ⊢
  exact h.trans (testSecuring_notReopened v)
theorem testClearing_notReopened (s : State) : NotReopened s (testClearing s) := by
  unfold testClearing; split
  · exact enterClearing_notReopened s
  · exact .refl s
theorem enterBreached_notReopened (s : State) : NotReopened s (enterBreached s) := by
  have h := setRoad_notReopened .breached nofun s
  unfold enterBreached
  generalize setRoad .breached s = v at h ⊢
  have hb := h.trans (.of_rcs ((reportBreach_reach v).rcs_eq (by decide)))
  generalize reportBreach v = w at hb ⊢
  exact hb.trans (.strokes (commandLowers_reach _ _ w))

theorem commandLower_strokes (a : Fin 8) (s : State) (p : Prop) [Decidable p] :
    Strokes s (if p then (commandLower a s).1 else s) := by
  split
  · exact commandLower_reach a s
  · exact .refl s
theorem commandRaise_strokes (a : Fin 8) (s : State) (p : Prop) [Decidable p] :
    Strokes s (if p then commandRaise s a else s) := by
  split
  · exact commandRaise_reach s a
  · exact .refl s

theorem reportArm_notReopened (a : Fin 8) (s : State) : NotReopened s (reportArm a s) := by
  unfold reportArm
  split
  · exact .strokes (commandRaise_strokes a s _)
  · exact .refl s
  · exact .refl s
  · split
    · exact (NotReopened.strokes (commandLower_strokes a s _)).trans (testClearing_notReopened _)
    · exact .refl s
  · exact (NotReopened.strokes (commandLower_strokes a s _)).trans (testSecuring_notReopened _)
  · have h : NotReopened s (if (s.arm a).wantsLower then commandLower a s else (s, false)).1 := by
      split
      · exact .strokes (commandLower_reach a s)
      · exact .refl s
    generalize (if (s.arm a).wantsLower then commandLower a s else (s, false)) = c at h ⊢
    dsimp only
    split
    · exact h.trans (reverseSecuring_notReopened _)
    · exact h.trans (testSecured_notReopened _)
  · split
    · exact .refl s
    · exact enterBreached_notReopened s
  · exact (NotReopened.strokes (commandLower_strokes a s _)).trans (testRestored_notReopened _)
  · next h => exact fun hr => absurd h hr

theorem deckBecameClear_notReopened (s : State) : NotReopened s (deckBecameClear s) := by
  unfold deckBecameClear
  split
  · exact testSecuring_notReopened s
  · exact .strokes (commandLowers_reach _ _ s)
  all_goals exact .refl s
theorem viewDeck_notReopened (s : State) : NotReopened s (viewDeck s) := onRcs_notReopened _ (fun _ => ⟨rfl, rfl⟩) s
theorem reviewDeck_notReopened (s : State) : NotReopened s (reviewDeck s) := by
  unfold reviewDeck
  dsimp only
  split
  · exact (viewDeck_notReopened s).trans (deckBecameClear_notReopened _)
  · exact viewDeck_notReopened s
theorem reportZone_notReopened (b : Bool) (s : State) : NotReopened s (reportZone b s) := by
  have h := reviewDeck_notReopened s
  unfold reportZone
  generalize reviewDeck s = v at h ⊢
  dsimp only
  split
  · split
    · exact h.trans (reverseSecuring_notReopened v)
    · exact h.trans (.of_rcs rfl)
    all_goals exact h
  · exact h
theorem changeZone_notReopened (z : Fin 6) (f : Zone → Zone) (s : State) : NotReopened s (changeZone z f s) := by
  by_cases h : (f (s.zone z)).counted = (s.zone z).counted
  · obtain ⟨l, hl⟩ := zoneTaken_eq z f s
    rw [changeZone_same h, hl]
    exact .of_rcs rfl
  · obtain ⟨l, hl⟩ := zoneTold_eq z f s
    rw [changeZone_told h]
    exact (NotReopened.of_rcs (by rw [hl]; rfl)).trans (reportZone_notReopened _ _)

/-! ### The configuration marks are kept (R25, R53, R57) -/

theorem deckBecameClear_kept (s : State) : ServiceKept s (deckBecameClear s) := by
  unfold deckBecameClear
  split
  · exact testSecuring_kept s
  · exact commandLowers_kept _ _ s
  all_goals exact .refl s
theorem reviewDeck_kept (s : State) : ServiceKept s (reviewDeck s) := by
  unfold reviewDeck
  dsimp only
  split
  · exact (viewDeck_kept s).trans (deckBecameClear_kept _)
  · exact viewDeck_kept s
theorem reportZone_kept (b : Bool) (s : State) : ServiceKept s (reportZone b s) := by
  have h := reviewDeck_kept s
  unfold reportZone
  generalize reviewDeck s = v at h ⊢
  dsimp only
  split
  · split
    · exact h.trans (reverseSecuring_kept v)
    · exact h.trans (latch_kept _ v)
    all_goals exact h
  · exact h
theorem changeZone_kept (z : Fin 6) (f : Zone → Zone) (s : State) : ServiceKept s (changeZone z f s) := by
  by_cases h : (f (s.zone z)).counted = (s.zone z).counted
  · obtain ⟨l, hl⟩ := zoneTaken_eq z f s
    rw [changeZone_same h, hl]
    exact .of_arms rfl
  · obtain ⟨l, hl⟩ := zoneTold_eq z f s
    rw [changeZone_told h]
    exact (ServiceKept.of_arms (by rw [hl]; rfl)).trans (reportZone_kept _ _)

/-- No arm is taken out of service or returned, and no bypass begins or ends. -/
structure MarksHeld (s t : State) : Prop where
  out : ∀ a, (t.arm a).state = .outOfService ↔ (s.arm a).state = .outOfService
  bypassed : ∀ z, (t.zone z).bypassed = (s.zone z).bypassed

theorem MarksHeld.trans (h : MarksHeld s t) (k : MarksHeld t u) : MarksHeld s u :=
  ⟨fun a => (k.out a).trans (h.out a), fun z => (k.bypassed z).trans (h.bypassed z)⟩
theorem MarksHeld.of_service (h : ServiceKept s t) (hz : t.bzu.zones = s.bzu.zones) : MarksHeld s t :=
  ⟨fun a => ⟨fun ht => by by_contra hs; exact h.inService a hs ht, fun hs => by rw [h.out a hs]; exact hs⟩,
    fun z => by rw [zone_congr hz]⟩
theorem MarksHeld.of_bzu (hb : t.bzu = s.bzu) : MarksHeld s t := .of_service (.of_arms (by rw [hb])) (by rw [hb])

/-- The marks are held and no reopening begins. -/
structure ConfigKept (s t : State) : Prop where
  marks : MarksHeld s t
  road : NotReopened s t

theorem ConfigKept.of_same (hb : t.bzu = s.bzu) (hr : t.rcs = s.rcs) : ConfigKept s t := ⟨.of_bzu hb, .of_rcs hr⟩
theorem ConfigKept.refl (s : State) : ConfigKept s s := .of_same rfl rfl
theorem ConfigKept.trans (h : ConfigKept s t) (k : ConfigKept t u) : ConfigKept s u :=
  ⟨h.marks.trans k.marks, h.road.trans k.road⟩
theorem ConfigKept.of_service (h : ServiceKept s t) (hz : t.bzu.zones = s.bzu.zones) (hr : NotReopened s t) : ConfigKept s t :=
  ⟨.of_service h hz, hr⟩

theorem onArm_config {f : Arm → Arm} (h : (f (s.arm a)).state = .outOfService ↔ (s.arm a).state = .outOfService) :
    ConfigKept s (s.onArm a f) := by
  refine ⟨⟨fun k => ?_, fun _ => rfl⟩, .of_rcs rfl⟩
  rw [arm_onArm]
  split
  · next hk => subst hk; exact h
  · exact .rfl
theorem reportArm_config (a : Fin 8) (s : State) : ConfigKept s (reportArm a s) :=
  .of_service (reportArm_kept a s) ((reportArm_reach a s).zones_eq (by decide)) (reportArm_notReopened a s)
theorem changeZone_config {z : Fin 6} {f : Zone → Zone} (h : ∀ r, (f r).bypassed = r.bypassed) (s : State) :
    ConfigKept s (changeZone z f s) := by
  have hs := changeZone_kept z f s
  refine ⟨⟨fun a => ⟨fun ht => by by_contra hn; exact hs.inService a hn ht, fun hn => by rw [hs.out a hn]; exact hn⟩,
    fun k => ?_⟩, changeZone_notReopened z f s⟩
  by_cases hk : k = z
  · subst hk
    rw [changeZone_zone]; exact h _
  · rw [changeZone_zone_ne hk]
theorem stallArm_config {c : ArmCause} (h : (s.arm a).state ≠ .outOfService) : ConfigKept s (stallArm a c s) :=
  .of_service (stallArm_kept c h) rfl (.of_rcs rfl)
theorem obstruct_config (h : (s.arm a).state = .lowering) : ConfigKept s (obstruct a s) := by
  have hr := obstruct_reach a s h
  exact .of_service (obstruct_kept (by rw [h]; nofun)) (hr.zones_eq (by decide)) (.of_rcs (hr.rcs_eq (by decide)))
theorem startLowering_config (x : ArmStart) (h : (s.arm a).state ≠ .outOfService) : ConfigKept s (startLowering a x s) := by
  have hr := startLowering_reach a x s
  exact .of_service (startLowering_kept x h) (hr.zones_eq (by decide)) (.of_rcs (hr.rcs_eq (by decide)))

/-! ### The field events keep the configuration -/

theorem onArm_config_same {f : Arm → Arm} (h : ∀ r, (f r).state = r.state) (s : State) (a : Fin 8) : ConfigKept s (s.onArm a f) :=
  onArm_config (by rw [h])
theorem onArm_config_moves {f : Arm → Arm} {st : ArmState} (hs : (s.arm a).state ≠ .outOfService) (h : ∀ r, (f r).state = st)
    (hst : st ≠ .outOfService) : ConfigKept s (s.onArm a f) :=
  onArm_config (by rw [h]; exact iff_of_false hst hs)
theorem reportArmStroke_config (a : Fin 8) (s : State) : ConfigKept s (reportArmStroke a s) :=
  .of_same ((reportArmStroke_reach a s).bzu_eq (by decide)) ((reportArmStroke_reach a s).rcs_eq (by decide))
theorem reportArmStroke_arm (a k : Fin 8) (s : State) : (reportArmStroke a s).arm k = s.arm k := by
  unfold State.arm; rw [(reportArmStroke_reach a s).bzu_eq (by decide)]

theorem conflictArm_config (h : (s.arm a).state ≠ .outOfService) : ConfigKept s (conflictArm a s) := by
  unfold conflictArm
  split
  · exact .refl s
  · exact (stallArm_config h).trans (reportArm_config a _)
theorem completeLowering_config (h : (s.arm a).state = .lowering) : ConfigKept s (completeLowering a s) :=
  ((reportArmStroke_config a s).trans (onArm_config_moves (st := .down) (by rw [reportArmStroke_arm, h]; nofun) (fun _ => by rfl) nofun)).trans
    (reportArm_config a _)
theorem completeRaising_config (h : (s.arm a).state = .raising) : ConfigKept s (completeRaising a s) :=
  ((reportArmStroke_config a s).trans (onArm_config_moves (st := .up) (by rw [reportArmStroke_arm, h]; nofun) (fun _ => by rfl) nofun)).trans
    (reportArm_config a _)
theorem latch_config (c : Condition) (s : State) : ConfigKept s (latch c s) := .of_same rfl rfl
theorem latchIf_config (b : Bool) (c : Condition) (s : State) : ConfigKept s (latchIf b c s) := by
  rw [latchIf_eq]; exact .of_same rfl rfl
theorem movedDown_config (h : (s.arm a).state = .up) : ConfigKept s (movedDown a s) :=
  ((onArm_config_moves (st := .down) (by rw [h]; nofun) (fun _ => by rfl) nofun).trans (latch_config .arm _)).trans (reportArm_config a _)
theorem movedUp_config (h : (s.arm a).state = .down) : ConfigKept s (movedUp a s) :=
  ((onArm_config_moves (st := .up) (by rw [h]; nofun) (fun _ => by rfl) nofun).trans (latchIf_config _ .arm _)).trans (reportArm_config a _)

theorem downLimitMade_config (a : Fin 8) (s : State) : ConfigKept s (downLimitMade a s) := by
  unfold downLimitMade
  split
  · exact .refl s
  · next h => split
              · exact conflictArm_config h
              · split
                · next hs => exact completeLowering_config hs
                · next hs => exact movedDown_config hs
                · split
                  · exact (onArm_config_same (fun _ => by rfl) s a).trans (reportArm_config a _)
                  · exact onArm_config_same (fun _ => by rfl) s a
                all_goals exact .refl s
theorem upLimitMade_config (a : Fin 8) (s : State) : ConfigKept s (upLimitMade a s) := by
  unfold upLimitMade
  split
  · exact .refl s
  · next h => split
              · exact conflictArm_config h
              · split
                · next hs => exact completeRaising_config hs
                · next hs => exact movedUp_config hs
                · exact onArm_config_same (fun _ => by rfl) s a
                all_goals exact .refl s
theorem downLimitReleased_config (a : Fin 8) (s : State) : ConfigKept s (downLimitReleased a s) := by
  unfold downLimitReleased; split
  · exact onArm_config_same (fun _ => by rfl) s a
  · exact .refl s
theorem upLimitReleased_config (a : Fin 8) (s : State) : ConfigKept s (upLimitReleased a s) := by
  unfold upLimitReleased; split
  · next h => split
              · exact movedDown_config h
              · exact onArm_config_same (fun _ => by rfl) s a
  · exact .refl s
theorem displaceArm_config (a : Fin 8) (s : State) : ConfigKept s (displaceArm a s) := by
  unfold displaceArm; split
  · exact ((onArm_config_same (fun _ => by rfl) s a).trans (latch_config .arm _)).trans (reportArm_config a _)
  · exact .refl s
theorem loseUpLimit_config (a : Fin 8) (s : State) : ConfigKept s (loseUpLimit a s) := by
  unfold loseUpLimit; split
  · exact (onArm_config_same (fun _ => by rfl) s a).trans (latch_config .arm _)
  · exact .refl s
theorem timeOutArm_config (a : Fin 8) (s : State) : ConfigKept s (timeOutArm a s) := by
  unfold timeOutArm; split
  · next h => exact (stallArm_config (by rcases arm_moving_iff.1 h with h | h <;> rw [h] <;> nofun)).trans (reportArm_config a _)
  · exact .refl s
theorem edgeActive_config (a : Fin 8) (s : State) : ConfigKept s (edgeActive a s) := by
  unfold edgeActive
  split
  · next h =>
    have h1 := onArm_config_same (f := fun r => { r with edgeSeen := true }) (fun _ => by rfl) s a
    have h2 : ((s.onArm a fun r => { r with edgeSeen := true }).arm a).state = .lowering := by rw [arm_onArm_self]; exact h
    generalize s.onArm a _ = v at h1 h2 ⊢
    exact (h1.trans (obstruct_config h2)).trans (reportArm_config a _)
  · exact onArm_config_same (fun _ => by rfl) s a
  all_goals exact .refl s
theorem endRelowerWait_config (a : Fin 8) (s : State) : ConfigKept s (endRelowerWait a s) := onArm_config_same (fun _ => by rfl) s a
theorem relowerArm_config (a : Fin 8) (s : State) : ConfigKept s (relowerArm a s) := by
  unfold relowerArm; split
  · next h => exact (startLowering_config _ (by rw [(mayRelower_iff.1 h).1]; nofun)).trans (reportArm_config a _)
  · exact .refl s

theorem onZone_config {z : Fin 6} {f : Zone → Zone} (h : ∀ r, (f r).bypassed = r.bypassed) (s : State) :
    ConfigKept s (s.onZone z f) := by
  refine ⟨⟨fun _ => .rfl, fun k => ?_⟩, .of_rcs rfl⟩
  by_cases hk : k = z
  · subst hk; rw [zone_onZone_self]; exact h _
  · rw [zone_onZone_ne _ hk]
theorem filterZone_config (z : Fin 6) (b : Bool) (s : State) : ConfigKept s (filterZone z b s) := onZone_config (fun _ => by rfl) s
theorem waitFaultEnd_config (z : Fin 6) (s : State) : ConfigKept s (waitFaultEnd z s) := onZone_config (fun _ => by rfl) s
theorem takeFault_config (z : Fin 6) (s : State) : ConfigKept s (takeFault z s) := changeZone_config (fun _ => by rfl) s
theorem takeZone_config (z : Fin 6) (s : State) : ConfigKept s (takeZone z s) := by
  unfold takeZone; split
  · exact changeZone_config (fun _ => by rfl) s
  · exact .refl s
theorem endFault_config (z : Fin 6) (s : State) : ConfigKept s (endFault z s) := by
  unfold endFault; split
  · exact changeZone_config (fun _ => by rfl) s
  · exact .refl s

theorem reviewDeck_config (s : State) : ConfigKept s (reviewDeck s) :=
  .of_service (reviewDeck_kept s) ((reviewDeck_reach s).zones_eq (by decide)) (reviewDeck_notReopened s)
theorem dwellExpires_config (s : State) : ConfigKept s (dwellExpires s) := by
  have hd : ConfigKept s s.dwelt := by
    refine ⟨⟨fun a => ?_, fun z => ?_⟩, .of_rcs ((dwelt_reach s).rcs_eq (by decide))⟩
    · unfold State.arm; rw [(dwelt_reach s).arms_eq (by decide)]
    · rw [dwelt_zone]
      unfold Zone.reachDwell
      split <;> rfl
  unfold dwellExpires; split
  · exact hd.trans (reviewDeck_config s.dwelt)
  · exact .refl s
theorem prewarnExpires_config (s : State) : ConfigKept s (prewarnExpires s) := by
  unfold prewarnExpires; split
  · have h := (setRoad_notReopened .stopping nofun s).trans (setStep_notReopened .entryDelay nofun _)
    obtain ⟨p, hp⟩ := setRoad_eq .stopping s
    refine ⟨.of_bzu (by rw [hp]; rfl), h⟩
  · exact .refl s
theorem testClearing_config (s : State) : ConfigKept s (testClearing s) :=
  .of_service (testClearing_kept s) ((testClearing_reach s).zones_eq (by decide)) (testClearing_notReopened s)
theorem entryDelayExpires_config (s : State) : ConfigKept s (entryDelayExpires s) := by
  unfold entryDelayExpires; split
  · have h : ConfigKept s ((setStep .none s).onRcs fun r => { r with entryLowering := true }) :=
      ⟨.of_bzu rfl, (setStep_notReopened .none nofun s).trans (onRcs_notReopened _ (fun _ => ⟨rfl, rfl⟩) _)⟩
    dsimp only
    generalize (setStep .none s).onRcs _ = v at h ⊢
    have hc : ConfigKept v (commandLowers Arm.inService entryArms v).1 :=
      .of_service (commandLowers_kept _ _ v) ((commandLowers_reach _ _ v).zones_eq (by decide)) (.strokes (commandLowers_reach _ _ v))
    exact (h.trans hc).trans (testClearing_config _)
  · exact .refl s
theorem clearanceLimitExpires_config (s : State) : ConfigKept s (clearanceLimitExpires s) := by
  unfold clearanceLimitExpires; split
  · exact ⟨.of_bzu rfl, ((setStep_notReopened .none nofun s).trans
      (onRcs_notReopened (fun r => { r with limitPassed := true }) (fun _ => ⟨rfl, rfl⟩) _)).trans (.of_rcs rfl)⟩
  · exact .refl s

/-! ESTOP -/

theorem estopArm_config (h : (s.arm a).state ≠ .outOfService) : ConfigKept s (estopArm s a) := by
  have h1 := onArm_config_same (f := fun r => { r with last := if r.state = .up then .lower else r.last }) (fun _ => by rfl) s a
  have h2 : ((s.onArm a fun r => { r with last := if r.state = .up then .lower else r.last }).arm a).state ≠ .outOfService := by
    rw [arm_onArm_self]; exact h
  exact h1.trans (stallArm_config h2)
theorem stopsOnEstop_inService {r : Arm} (h : r.stopsOnEstop = true) : r.state ≠ .outOfService := by
  rintro e
  rw [Arm.stopsOnEstop, Arm.moving, e] at h
  cases h
theorem estopArms_config (l : List (Fin 8)) (s : State) (h : ∀ a ∈ l, (s.arm a).state ≠ .outOfService) :
    ConfigKept s (l.foldl estopArm s) := by
  induction l generalizing s with
  | nil => exact .refl s
  | cons b l ih =>
    have hb := estopArm_config (h b List.mem_cons_self)
    rw [List.foldl_cons]
    exact hb.trans (ih _ fun a ha => fun hn => h a (List.mem_cons_of_mem b ha) ((hb.marks.out a).1 hn))
theorem foldl_config {α : Type} {f : State → α → State} (h : ∀ s x, ConfigKept s (f s x)) (l : List α) (s : State) :
    ConfigKept s (l.foldl f s) := by
  induction l generalizing s with
  | nil => exact .refl s
  | cons b l ih => rw [List.foldl_cons]; exact (h s b).trans (ih _)
theorem testTrip_config (s : State) : ConfigKept s (testTrip s) :=
  .of_same ((testTrip_reach s).bzu_eq (by decide)) ((testTrip_reach s).rcs_eq (by decide))
theorem takeEstop_config (s : State) : ConfigKept s (takeEstop s) := by
  have h1 := estopArms_config (allArms.filter fun a => (s.arm a).stopsOnEstop) s fun a ha =>
    stopsOnEstop_inService (List.mem_filter.1 ha).2
  have h2 (s : State) (b : Fin 4) : ConfigKept s (jamBolt b .estop s) :=
    .of_same ((jamBolt_reach b .estop s).bzu_eq (by decide)) ((jamBolt_reach b .estop s).rcs_eq (by decide))
  have h3 (s : State) (g : Leaf) : ConfigKept s (stopPump s g) :=
    .of_same ((stopPump_reach s g).bzu_eq (by decide)) ((stopPump_reach s g).rcs_eq (by decide))
  have h4 (s : State) : ConfigKept s (reportBolt s) :=
    .of_same ((reportBolt_reach s).bzu_eq (by decide)) ((reportBolt_reach s).rcs_eq (by decide))
  have h5 (s : State) : ConfigKept s (reportPump s) :=
    .of_same ((reportPump_reach s).bzu_eq (by decide)) ((reportPump_reach s).rcs_eq (by decide))
  unfold takeEstop
  dsimp only
  exact (((((h1.trans (foldl_config h2 _ _)).trans (foldl_config h3 _ _)).trans
    (foldl_config (fun t a => reportArm_config a t) _ _)).trans (foldl_config (fun t _ => h4 t) _ _)).trans
    (foldl_config (fun t _ => h5 t) _ _)).trans (testTrip_config _)

/-! ### The authority record while it is frozen (R25) -/

/-- The frozen mark stays, the table is not written, and no commit begins. -/
structure ApuHeld (s t : State) : Prop where
  frozen : s.apu.frozen = true → t.apu.frozen = true
  table : t.apu.table = s.apu.table
  commit : ∀ x, t.apu.commit = some x → s.apu.commit = some x

theorem ApuHeld.of_apu (h : t.apu = s.apu) : ApuHeld s t := ⟨fun hf => by rw [h]; exact hf, by rw [h], fun x hx => by rw [← h]; exact hx⟩
theorem ApuHeld.trans (h : ApuHeld s t) (k : ApuHeld t u) : ApuHeld s u :=
  ⟨fun hf => k.frozen (h.frozen hf), k.table.trans h.table, fun x hx => h.commit x (k.commit x hx)⟩

theorem Move.apuHeld {p : Part} (m : Move p s t) (h : p ∉ ([.table, .commit, .trip, .fall, .lower, .turns] : List Part)) :
    ApuHeld s t := by
  cases m
  case apu f hf =>
    obtain ⟨h1, -, h3, -, h5, -⟩ := hf s.apu
    exact ⟨h5, h1, fun x hx => h3 ▸ hx⟩
  case extend => exact .of_apu (by unfold reportExtension; split <;> rfl)
  all_goals first
    | exact .of_apu rfl
    | exact ⟨id, rfl, fun _ => id⟩
    | exact absurd (by decide) h

theorem Reach.apuHeld {A : List Part} (h : Reach A s t)
    (hA : ∀ p ∈ atomsOf A, p ∉ ([.table, .commit, .trip, .fall, .lower, .turns] : List Part)) : ApuHeld s t :=
  h.atoms.keeps (P := ApuHeld s) (fun p hp _ _ m hu => hu.trans (m.apuHeld (hA p hp))) (.of_apu rfl)

/-- What a request leaves of the configuration while the part is frozen. -/
structure FrozenHeld (s t : State) : Prop where
  marks : MarksHeld s t
  apu : ApuHeld s t

theorem FrozenHeld.of_same (hb : t.bzu = s.bzu) (ha : t.apu = s.apu) : FrozenHeld s t := ⟨.of_bzu hb, .of_apu ha⟩
theorem FrozenHeld.trans (h : FrozenHeld s t) (k : FrozenHeld t u) : FrozenHeld s u := ⟨h.marks.trans k.marks, h.apu.trans k.apu⟩

/-- What a served request leaves is a refusal's state or what its owner leaves. -/
theorem serve_led {P : State → Prop} {q : Request} {op : State → State × Verdict}
    (hsame : ∀ v, v.bzu = s.bzu → v.apu = s.apu → P v)
    (hop : s.allows q → ∀ v, v.bzu = (op s).1.bzu → v.apu = (op s).1.apu → P v) : P (serve q op s) := by
  cases ht : s.taking
  · rw [serve_untaken ht]
    split
    · exact hsame _ rfl rfl
    · exact hsame _ rfl rfl
  · cases ha : admission q s with
    | none =>
      rw [serve_allows ⟨ht, ha⟩]
      exact hop ⟨ht, ha⟩ _ rfl rfl
    | some r =>
      rw [serve_refuses ht ha, latchIf_eq]
      exact hsame _ rfl rfl

/-- A request that the freeze bars changes nothing (R20). -/
theorem serve_barred {q : Request} {op : State → State × Verdict} (hq : q.frozenBar = true) (hf : s.apu.frozen = true) :
    FrozenHeld s (serve q op s) := by
  refine serve_led (fun v => .of_same) fun ha => ?_
  have h := ha.2
  unfold admission at h
  split at h
  · cases h
  · split at h
    · cases h
    · rw [if_pos ⟨hq, hf⟩] at h; cases h

theorem serve_marks {q : Request} {op : State → State × Verdict} (h : s.allows q → MarksHeld s (op s).1) :
    MarksHeld s (serve q op s) :=
  serve_led (P := MarksHeld s) (fun _ hb _ => .of_bzu hb) fun ha _ hb _ => (h ha).trans (.of_bzu hb)

theorem foldl_obstructions_marks (s : State) : MarksHeld s (clearObstructions s) :=
  ⟨fun a => by rw [clearObstructions_arm], fun z => by
    rw [zone_congr ((clearObstructions_reach s).zones_eq (by decide))]⟩

theorem beginClosure_marks (s : State) : MarksHeld s (beginClosure s) := by
  unfold beginClosure
  have h1 : MarksHeld s (clearObstructions (captureTimings s)) :=
    (MarksHeld.of_bzu (s := s) (t := captureTimings s) rfl).trans (foldl_obstructions_marks _)
  generalize clearObstructions (captureTimings s) = v at h1 ⊢
  have h2 : MarksHeld v (setStep .prewarn (setRoad .prewarn v)) :=
    .of_bzu (by obtain ⟨p, hp⟩ := setRoad_eq .prewarn v; rw [hp]; rfl)
  exact (h1.trans h2).trans (reviewDeck_config _).marks

theorem closeRoadOp_marks (s : State) : MarksHeld s (closeRoadOp s).1 := by
  unfold closeRoadOp
  split
  · exact .of_bzu rfl
  · split
    · exact .of_bzu rfl
    · split
      · exact .of_bzu rfl
      · split
        · exact .of_bzu rfl
        · split
          · exact .of_bzu rfl
          · exact beginClosure_marks s

theorem beginReopening_marks (s : State) : MarksHeld s (beginReopening s) := by
  have hv : MarksHeld s ((setStep .none (setRoad .reopening s)).onRcs fun r =>
      { r with capRunOn := s.par pRunOn, entryLowering := false, limitPassed := false, entryRaising := false }) :=
    .of_bzu (by obtain ⟨p, hp⟩ := setRoad_eq .reopening s; rw [hp]; rfl)
  unfold beginReopening
  dsimp only
  generalize (setStep .none (setRoad .reopening s)).onRcs _ = v at hv ⊢
  have h1 := commandRaises_kept Arm.inService exitArms v
  have z1 := (commandRaises_reach Arm.inService exitArms v).zones_eq (by decide)
  generalize commandRaises Arm.inService exitArms v = w at h1 z1 ⊢
  have h2 := h1.trans (commandRaises_kept Arm.reopens entryArms w)
  have z2 := ((commandRaises_reach Arm.reopens entryArms w).zones_eq (by decide)).trans z1
  generalize commandRaises Arm.reopens entryArms w = x at h2 z2 ⊢
  exact hv.trans (.of_service (h2.trans (testReopening_kept x)) (((testReopening_reach x).zones_eq (by decide)).trans z2))

theorem openRoadOp_marks (s : State) : MarksHeld s (openRoadOp s).1 := by
  unfold openRoadOp
  by_cases h : s.rcs.road = .opened ∨ s.rcs.road = .reopening
  · rw [if_pos h]; exact .of_bzu rfl
  · rw [if_neg h]
    by_cases hl : s.lmc.leaf ≠ .seatedLocked
    · rw [if_pos hl]; exact .of_bzu rfl
    · rw [if_neg hl]
      dsimp only
      exact beginReopening_marks s

theorem retryArm_marks (a : Fin 8) (s : State) : MarksHeld s (retryArm a s).1 := by
  unfold retryArm
  dsimp only
  split
  · exact .of_bzu rfl
  · next h =>
    have hs : (s.arm a).state ≠ .outOfService := by rw [not_not.1 h]; nofun
    split
    · exact .of_bzu rfl
    · split
      · exact .of_bzu rfl
      · exact ((startLowering_config _ hs).trans (reportArm_config a _)).marks
    · refine MarksHeld.trans ?_ (reportArm_config a _).marks
      exact .of_service (startRaising_kept _ hs) ((startRaising_reach a .commanded s (.inl nofun)).zones_eq (by decide))
theorem armRetryOp_marks (b : Byte) (s : State) : MarksHeld s (armRetryOp b s).1 := by
  unfold armRetryOp
  split
  · exact retryArm_marks _ s
  · exact .of_bzu rfl
theorem roadReadOp_marks (s : State) : MarksHeld s (roadReadOp s).1 :=
  ⟨fun _ => .rfl, fun z => by simp [roadReadOp, State.zone, State.onBzu]⟩

/-- No request changes the configuration while the part is frozen. -/
theorem serveCommand_frozen (i : Instr) (hf : s.apu.frozen = true) : FrozenHeld s (serveCommand i s) := by
  cases hi : i.isRequest
  · rw [serveCommand_event hi]; exact .of_same rfl rfl
  · have hreach := exec_reach (exec_request hi s) (by cases i <;> first | rfl | cases hi)
    cases i
    case paramWrite => exact serve_barred rfl hf
    case paramCommit => exact serve_barred rfl hf
    case paramDefaults => exact serve_barred rfl hf
    case armServiceOut => exact serve_barred rfl hf
    case armServiceReturn => exact serve_barred rfl hf
    case zoneBypassSet => exact serve_barred rfl hf
    case zoneBypassClear => exact serve_barred rfl hf
    case closeRoad =>
      exact ⟨serve_marks (q := operateRequest 0x20) fun _ => closeRoadOp_marks s, hreach.apuHeld (by dsimp only [kinds]; decide)⟩
    case openRoad =>
      exact ⟨serve_marks (q := operateRequest 0x21) fun _ => openRoadOp_marks s, hreach.apuHeld (by dsimp only [kinds]; decide)⟩
    case armRetry b =>
      exact ⟨serve_marks (q := operateRequest 0x23) fun _ => armRetryOp_marks b s, hreach.apuHeld (by dsimp only [kinds]; decide)⟩
    case roadRead =>
      exact ⟨serve_marks (q := viewRequest 0x22) fun _ => roadReadOp_marks s, hreach.apuHeld (by dsimp only [kinds]; decide)⟩
    all_goals first
      | cases hi; done
      | exact ⟨.of_bzu (hreach.bzu_eq (by dsimp only [kinds]; decide)), hreach.apuHeld (by dsimp only [kinds]; decide)⟩

/-- No frame does (R8). -/
theorem dispatch_frozen (body : List Byte) (hf : s.apu.frozen = true) : FrozenHeld s (dispatch body s) := by
  unfold dispatch
  split
  · exact .of_same rfl rfl
  · exact .of_same rfl rfl
  · exact serveCommand_frozen _ hf
  · exact serve_barred rfl hf
  · exact serve_barred rfl hf
  · exact serve_led (P := FrozenHeld s) (fun _ => .of_same) fun _ _ => .of_same

theorem receiveByte_frozen (b : Byte) (hf : s.apu.frozen = true) : FrozenHeld s (receiveByte b s) := by
  have set (f : Framer) : FrozenHeld s (setFramer f s) := .of_same rfl rfl
  unfold receiveByte
  split
  · split
    · split
      · exact set _
      · exact .of_same rfl rfl
    · unfold takeLength
      split
      · exact .of_same rfl rfl
      · exact set _
    · unfold takeBody
      split
      · exact set _
      · exact set _
    · exact set _
    · unfold frameDone
      dsimp only
      split
      · exact .of_same rfl rfl
      · split
        · exact set _
        · split
          · exact (set .hunt).trans (dispatch_frozen _ hf)
          · exact .of_same rfl rfl
  · exact .of_same rfl rfl

/-! ### The configuration marks over commands and ticks (R25, R53, R58) -/

/-- No arm is taken out of service or returned, no bypass begins, and one ends only as the road becomes OPEN, from a
reopening or with its run-on running. -/
structure MarksOpen (s t : State) : Prop where
  out : ∀ a, (t.arm a).state = .outOfService ↔ (s.arm a).state = .outOfService
  bypassed : ∀ z, (t.zone z).bypassed = true → (s.zone z).bypassed = true
  ended : ∀ z, (s.zone z).bypassed = true → (t.zone z).bypassed = false → t.rcs.road = .opened ∧
    (s.rcs.road ≠ .opened ∨ s.rcs.stepTimer = .runOn)

theorem MarksHeld.opens (h : MarksHeld s t) : MarksOpen s t :=
  ⟨h.out, fun z hz => by rw [← h.bypassed]; exact hz, fun z hs ht => by rw [h.bypassed, hs] at ht; cases ht⟩
theorem ConfigKept.opens (h : ConfigKept s t) : MarksOpen s t := h.marks.opens

/-- The steps before the road becomes OPEN begin no reopening, so that its run-on ran before them. -/
theorem ConfigKept.then_opens (h : ConfigKept s t) (k : MarksOpen t u) (hk : ∀ z, (t.zone z).bypassed = true →
    (u.zone z).bypassed = false → t.rcs.stepTimer = .runOn) : MarksOpen s u := by
  refine ⟨fun a => (k.out a).trans (h.marks.out a), fun z hz => by rw [← h.marks.bypassed]; exact k.bypassed z hz, fun z hs hu => ?_⟩
  have ht : (t.zone z).bypassed = true := by rw [h.marks.bypassed]; exact hs
  refine ⟨(k.ended z ht hu).1, ?_⟩
  by_cases ho : s.rcs.road = .opened
  · exact .inr ((h.road (by rw [ho]; nofun)).2 (hk z ht hu))
  · exact .inl ho

/-- What leaves the arms, the zones and the road state alone leaves the marks as they stand. -/
theorem MarksOpen.then_same (h : MarksOpen s t) (hb : u.bzu = t.bzu) (hr : u.rcs.road = t.rcs.road) : MarksOpen s u := by
  refine ⟨fun a => ?_, fun z => ?_, fun z => ?_⟩
  · rw [show u.arm a = t.arm a by unfold State.arm; rw [hb]]; exact h.out a
  · rw [zone_congr (s := t) (by rw [hb])]; exact h.bypassed z
  · rw [zone_congr (s := t) (t := u) (by rw [hb]), hr]; exact h.ended z

theorem runOnExpires_opens (s : State) : MarksOpen s (runOnExpires s) ∧
    ∀ z, (s.zone z).bypassed = true → ((runOnExpires s).zone z).bypassed = false → s.rcs.stepTimer = .runOn := by
  by_cases h : s.rcs.stepTimer = .runOn
  · refine ⟨?_, fun _ _ _ => h⟩
    obtain ⟨p, hp⟩ := setRoad_eq .opened s
    have e : runOnExpires s = allZones.foldl endBypass ((setStep .none (setRoad .opened s)).onRcs fun r =>
      { r with openTime := some s.tb.seconds, entryRaising := false }) := if_pos h
    rw [e, hp]
    generalize hv : State.onRcs _ _ = v
    have hvr : v.rcs.road = .opened := by rw [← hv]; rfl
    have hvb : v.bzu.arms = s.bzu.arms := by rw [← hv]; rfl
    obtain ⟨e1, -, -, -, e5, e6⟩ := endBypasses_opened allZones v hvr
    refine ⟨fun a => ?_, fun z hz => ?_, fun _ _ _ => ⟨e1, .inr h⟩⟩
    · unfold State.arm; rw [e5, hvb]
    · rw [e6 z (.inl (mem_allZones z))] at hz; cases hz
  · have e : runOnExpires s = s := if_neg h
    rw [e]
    exact ⟨(ConfigKept.refl s).opens, fun z h1 h2 => by rw [h1] at h2; cases h2⟩

theorem inRun_config {f : State → State} (h : ∀ v, ConfigKept v (f v)) {v : State} (hv : ConfigKept s v) :
    ConfigKept s (inRun f v) := by
  unfold inRun
  split
  · exact hv.trans (h v)
  · exact hv

/-- While the part is frozen no command but the resets moves the marks, but for the end of the bypasses (R25, R58). -/
theorem exec_marksOpen {c : Instr} (hc : resets c = false) (hf : s.apu.frozen = true) (h : exec c s = .next t) : MarksOpen s t := by
  have hreach := exec_reach h hc
  have same (v : State) (hb : v.bzu = s.bzu) (hr : v.rcs = s.rcs) : ConfigKept s v := .of_same hb hr
  have next {v : State} (k : MarksOpen s v) (e : exec c s = .next v) : MarksOpen s t := by
    obtain rfl := Host.Outcome.next.inj (e.symm.trans h); exact k
  cases hi : c.isRequest
  · cases c
    case armDownLimitMade a => exact next (inRun_config (downLimitMade_config a) (same (setDownLimit a true s) rfl rfl)).opens rfl
    case armUpLimitMade a => exact next (inRun_config (upLimitMade_config a) (same (setUpLimit a true s) rfl rfl)).opens rfl
    case armDownLimitReleased a =>
      exact next (inRun_config (downLimitReleased_config a) (same (setDownLimit a false s) rfl rfl)).opens rfl
    case armUpLimitReleased a =>
      exact next (inRun_config (upLimitReleased_config a) (same (setUpLimit a false s) rfl rfl)).opens rfl
    case armDisplaced a => exact next (inRun_config (displaceArm_config a) (.refl s)).opens rfl
    case upLimitLost a => exact next (inRun_config (loseUpLimit_config a) (.refl s)).opens rfl
    case armStrokeTimeout a => exact next (inRun_config (timeOutArm_config a) (.refl s)).opens rfl
    case obstructionEdgeActive a => exact next (inRun_config (edgeActive_config a) (same (setEdge a true s) rfl rfl)).opens rfl
    case relowerWaitExpiry a => exact next (inRun_config (endRelowerWait_config a) (.refl s)).opens rfl
    case armRelower a => exact next (inRun_config (relowerArm_config a) (.refl s)).opens rfl
    case estopAsserted => exact next (inRun_config takeEstop_config (same (setEstop true s) rfl rfl)).opens rfl
    case zoneOccupancyInput z b => exact next (inRun_config (filterZone_config z b) (same (setZoneInput z b s) rfl rfl)).opens rfl
    case zoneFilterExpiry z => exact next (inRun_config (takeZone_config z) (.refl s)).opens rfl
    case zoneFaultActive z => exact next (inRun_config (takeFault_config z) (same (setZoneFault z true s) rfl rfl)).opens rfl
    case zoneFaultInactive z => exact next (inRun_config (waitFaultEnd_config z) (same (setZoneFault z false s) rfl rfl)).opens rfl
    case zoneFaultEnd z => exact next (inRun_config (endFault_config z) (.refl s)).opens rfl
    case dwellWaitExpiry => exact next (inRun_config dwellExpires_config (.refl s)).opens rfl
    case entryDelayExpiry => exact next (inRun_config entryDelayExpires_config (.refl s)).opens rfl
    case runOnExpiry =>
      refine next (v := inRun runOnExpires s) ?_ rfl
      unfold inRun
      split
      · exact (runOnExpires_opens s).1
      · exact (ConfigKept.refl s).opens
    case consoleByteReceived b => exact next (receiveByte_frozen b hf).marks.opens rfl
    case frameComplete b =>
      refine next (v := if s.awaitsLast then receiveByte b s else s) ?_ rfl
      split
      · exact (receiveByte_frozen b hf).marks.opens
      · exact (ConfigKept.refl s).opens
    case lengthByteError b =>
      refine next (v := if s.awaitsLength && (decide (b.toNat = 0) || decide (250 < b.toNat)) then receiveByte b s else s) ?_ rfl
      split
      · exact (receiveByte_frozen b hf).marks.opens
      · exact (ConfigKept.refl s).opens
    all_goals first
      | cases hi; done
      | cases hc; done
      | exact (MarksHeld.of_bzu (hreach.bzu_eq (by dsimp only [kinds]; decide))).opens
  · exact next (serveCommand_frozen c hf).marks.opens (exec_request hi s)

/-- While the part is frozen no command but the resets touches the table or begins a commit (R25). -/
theorem exec_apuHeld {c : Instr} (hc : resets c = false) (hf : s.apu.frozen = true) (h : exec c s = .next t) : ApuHeld s t := by
  have hreach := exec_reach h hc
  have next {v : State} (k : ApuHeld s v) (e : exec c s = .next v) : ApuHeld s t := by
    obtain rfl := Host.Outcome.next.inj (e.symm.trans h); exact k
  cases hi : c.isRequest
  · cases c
    case consoleByteReceived b => exact next (receiveByte_frozen b hf).apu rfl
    case frameComplete b =>
      refine next (v := if s.awaitsLast then receiveByte b s else s) ?_ rfl
      split
      · exact (receiveByte_frozen b hf).apu
      · exact .of_apu rfl
    case lengthByteError b =>
      refine next (v := if s.awaitsLength && (decide (b.toNat = 0) || decide (250 < b.toNat)) then receiveByte b s else s) ?_ rfl
      split
      · exact (receiveByte_frozen b hf).apu
      · exact .of_apu rfl
    case commitEnd good =>
      refine next (v := if s.running then endCommit good s else s) ?_ rfl
      split
      · unfold endCommit
        split
        · exact .of_apu rfl
        · cases good
          · exact ⟨id, rfl, nofun⟩
          · exact ⟨id, rfl, nofun⟩
      · exact .of_apu rfl
    all_goals first
      | cases hi; done
      | cases hc; done
      | exact hreach.apuHeld (by dsimp only [kinds]; decide)
  · exact next (serveCommand_frozen c hf).apu (exec_request hi s)

/-! ### A tick (R25) -/

theorem when_config {f : State → State} (b : Bool) (h : ∀ v, ConfigKept v (f v)) (v : State) : ConfigKept v (when b f v) := by
  unfold when; split
  · exact h v
  · exact .refl v
theorem armDue_config (s : State) (a : Fin 8) : ConfigKept s (armDue s a) := by
  unfold armDue
  dsimp only
  exact ((((when_config _ (timeOutArm_config a) s).trans (when_config _ (displaceArm_config a) _)).trans
    (when_config _ (loseUpLimit_config a) _)).trans (when_config _ (endRelowerWait_config a) _)).trans (relowerArm_config a _)
theorem zoneDue_config (s : State) (z : Fin 6) : ConfigKept s (zoneDue s z) :=
  (when_config _ (takeZone_config z) s).trans (when_config _ (endFault_config z) _)

theorem tickTimers_config (s : State) : ConfigKept s (tickTimers s) := by
  refine ⟨⟨fun a => by rw [tickTimers_arm]; exact .rfl, fun z => by rw [tickTimers_zone]; rfl⟩, fun hr => ?_⟩
  show s.rcs.tick.road ≠ _ ∧ (s.rcs.tick.stepTimer = _ → _)
  unfold Rcs.tick
  split
  · exact ⟨hr, id⟩
  · exact ⟨hr, id⟩
theorem tickFlash_config (s : State) : ConfigKept s (tickFlash s) := by
  unfold tickFlash; split
  · exact ⟨.of_bzu rfl, onRcs_notReopened _ (fun _ => ⟨rfl, rfl⟩) s⟩
  · exact .refl s

/-- A flash change leaves the road state alone. -/
theorem flashDue_same (s : State) : (flashDue s).bzu = s.bzu ∧ (flashDue s).rcs.road = s.rcs.road := by
  refine ⟨(flashDue_reach s).bzu_eq (by decide), ?_⟩
  unfold flashDue when
  split
  · next h =>
    obtain ⟨p, hp⟩ := flashChanges_eq (Bool.and_eq_true_iff.1 h).1
    rw [hp]
  · rfl

/-- The road's part of a tick. -/
theorem roadDue_opens (h : ConfigKept s t) : MarksOpen s (roadDue t) := by
  have h1 := h.trans (when_config (t.rcs.dwellWait && t.deckCondition) reviewDeck_config t)
  unfold roadDue
  dsimp only
  generalize when (t.rcs.dwellWait && t.deckCondition) reviewDeck t = v at h1 ⊢
  have h2 := h1.trans (when_config (v.stepDue .prewarn v.rcs.capPrewarn) prewarnExpires_config v)
  generalize when (v.stepDue .prewarn v.rcs.capPrewarn) prewarnExpires v = w at h2 ⊢
  have h3 := h2.trans (when_config (w.stepDue .entryDelay w.rcs.capEntryDelay) entryDelayExpires_config w)
  generalize when (w.stepDue .entryDelay w.rcs.capEntryDelay) entryDelayExpires w = x at h3 ⊢
  have h4 := h3.trans (when_config (x.stepDue .clearanceLimit x.rcs.capClearanceLimit) clearanceLimitExpires_config x)
  generalize when (x.stepDue .clearanceLimit x.rcs.capClearanceLimit) clearanceLimitExpires x = y at h4 ⊢
  have h5 : MarksOpen s (when (y.stepDue .runOn y.rcs.capRunOn) runOnExpires y) := by
    unfold when
    split
    · exact h4.then_opens (runOnExpires_opens y).1 (runOnExpires_opens y).2
    · exact h4.opens
  exact h5.then_same (flashDue_same _).1 (flashDue_same _).2

/-- What of a tick comes after the road's part. -/
theorem MarksOpen.then_reach {A : List Part} (h : MarksOpen s t) (k : Reach A t u)
    (hb : ∀ p ∈ atomsOf A, p ∉ ([.arms, .strokes, .reversals, .zones, .trip, .fall, .lower, .turns, .time] : List Part))
    (hr : ∀ p ∈ atomsOf A, p ∉ ([.rcs, .trip, .fall, .lower, .turns, .time] : List Part)) : MarksOpen s u :=
  h.then_same (k.bzu_eq hb) (by rw [k.rcs_eq hr])

theorem tickRun_opens (s : State) : MarksOpen s (tickRun s) := by
  unfold tickRun
  dsimp only
  have h1 := (tickTimers_config s).trans (tickFlash_config _)
  generalize tickFlash (tickTimers s) = v at h1 ⊢
  have h2 : ConfigKept s (hornDue (v.onTb fun _ => s.tb.tick.1)) :=
    h1.trans (.of_same ((hornDue_reach (v.onTb fun _ => s.tb.tick.1)).bzu_eq (by decide))
      ((hornDue_reach (v.onTb fun _ => s.tb.tick.1)).rcs_eq (by decide)))
  generalize hornDue (v.onTb fun _ => s.tb.tick.1) = w at h2 ⊢
  have h3 := (h2.trans (foldl_config armDue_config allArms w)).trans (foldl_config zoneDue_config allZones _)
  generalize allZones.foldl zoneDue (allArms.foldl armDue w) = x at h3 ⊢
  have h4 := roadDue_opens h3
  generalize roadDue x = y at h4 ⊢
  have h5 := ((h4.then_reach (lpuDue_reach y) (by decide) (by decide)).then_reach (encoderDue_reach _) (by decide)
    (by decide)).then_reach (controlDue_reach _) (by decide) (by decide)
  generalize controlDue (encoderDue (lpuDue y)) = z at h5 ⊢
  exact (((h5.then_reach (when_reach _ secondDue_reach z) (by decide) (by decide)).then_reach (channelDue_reach _) (by decide)
    (by decide)).then_reach (provingDue_reach _) (by decide) (by decide)).then_reach (linkDue_reach _) (by decide) (by decide)

theorem tick_opens (s : State) : MarksOpen s (tick s) := by
  unfold tick
  split
  · exact (ConfigKept.refl s).opens
  · exact ((tickFlash_config s).opens).then_same (flashDue_same _).1 (flashDue_same _).2
  · unfold tickStartup
    dsimp only
    have h1 := ((tickFlash_config s).opens.then_same (u := (tickFlash s).onTb fun _ => s.tb.tick.1) rfl rfl).then_reach
      (encoderDue_reach _) (by decide) (by decide)
    generalize encoderDue ((tickFlash s).onTb fun _ => s.tb.tick.1) = v at h1 ⊢
    exact (h1.then_reach (when_reach _ anemoInterval_reach v) (by decide) (by decide)).then_same (flashDue_same _).1
      (flashDue_same _).2
  · exact tickRun_opens s

/-! What the resets leave of the authority record -/

theorem takeSoftReset_frozen (h : s.apu.frozen = true) : (takeSoftReset s).apu.frozen = true := by
  obtain ⟨v, m, hre⟩ := reloadTable_kept s.apu
  rw [(takeSoftReset_reach s).apu_eq (by decide), softDerived_apu, hre]
  exact h

/-- The resets but POWER_ON and the end of a hard reset keep the frozen mark, and all but the soft reset the table. -/
theorem exec_reset_frozen {c : Instr} (hc : resets c = true) (hf : s.apu.frozen = true) (h : exec c s = .next t)
    (h1 : ∀ p f, c ≠ .powerOn p f) (h2 : ∀ p f, c ≠ .hardResetRelease p f) : t.apu.frozen = true ∧
    (c ≠ .softResetEffect → ApuHeld s t) := by
  have both (v : State) (hv : ApuHeld s v) : v.apu.frozen = true ∧ (c ≠ .softResetEffect → ApuHeld s v) := ⟨hv.frozen hf, fun _ => hv⟩
  cases c <;> first
    | (cases hc; done)
    | (obtain rfl := Host.Outcome.next.inj h)
  case powerOn p f => exact absurd rfl (h1 p f)
  case hardResetRelease p f => exact absurd rfl (h2 p f)
  case supplyLoss => exact ⟨hf, fun _ => ⟨id, rfl, nofun⟩⟩
  case hardResetAssert =>
    have cold : ApuHeld s (holdTime .resetHeld (flashFromA (coldBlocks s))) := ⟨id, rfl, nofun⟩
    split
    · exact both _ (.of_apu rfl)
    · exact both _ (.of_apu rfl)
    · exact both _ cold
    · exact both _ cold
  case startupEnd =>
    split
    · exact ⟨hf, fun _ => ⟨id, rfl, fun _ => id⟩⟩
    · exact both _ (.of_apu rfl)
  case softResetEffect =>
    split
    · exact ⟨takeSoftReset_frozen hf, fun hn => absurd rfl hn⟩
    · exact both _ (.of_apu rfl)

/-- Settles O15. -/
theorem freezeHoldsConfiguration : Obligations.FreezeHoldsConfiguration := by
  unfold Obligations.FreezeHoldsConfiguration
  intro marks
  have opens {s t : State} (h : MarksOpen s t) : marks s t := ⟨h.out, fun z => ⟨h.bypassed z, h.ended z⟩⟩
  refine ⟨fun s ha => by rw [exec_freeze ha]; rfl, fun c s t hf h h1 h2 => ?_, fun s t hp h => ?_⟩
  · cases hc : resets c
    · have ha := exec_apuHeld hc hf h
      exact ⟨ha.frozen hf, fun _ => ⟨ha.table, ha.commit⟩, fun _ _ _ _ => opens (exec_marksOpen hc hf h)⟩
    · obtain ⟨r1, r2⟩ := exec_reset_frozen hc hf h h1 h2
      refine ⟨r1, fun hn => ⟨(r2 hn).table, (r2 hn).commit⟩, fun n1 n2 n3 n4 => ?_⟩
      cases c <;> first
        | (cases hc; done)
        | (exact absurd rfl (h1 _ _))
        | (exact absurd rfl (h2 _ _))
        | contradiction
  · obtain rfl : tick s = t := by
      rw [step_nil hp] at h
      exact Host.Outcome.next.inj h
    exact ⟨(tick_reach s).apu_eq (by decide), opens (tick_opens s)⟩

end Sys2Proof.Machine
end

section
/-! PROOFS. The locks, the seats and the pump groups, and what the leaves do on their reports (R80 to R94, R101 to R105). -/

namespace Sys2Proof.Machine

variable {s t u : State} {a k : Fin 8}

/-! ### A bolt's record, event by event (R81 to R84) -/

theorem onBolt_congr {b : Fin 4} {f g : Bolt → Bolt} (h : f (s.bolt b) = g (s.bolt b)) : s.onBolt b f = s.onBolt b g :=
  congrArg (fun r : Bolt => s.onLpu fun l => { l with bolts := l.bolts.set b r }) h

theorem bolt_moving_iff {r : Bolt} : r.moving = true ↔ r.state = .withdrawing ∨ r.state = .driving := by simp [Bolt.moving]
theorem bolt_waits_iff {r : Bolt} : r.waits = true ↔ r.state = .driving ∧ r.outputOn = none := by simp [Bolt.waits]

theorem tickTimers_bolt (b : Fin 4) (s : State) : (tickTimers s).bolt b = (s.bolt b).tick := by
  simp [tickTimers, State.bolt, Lpu.tick]

theorem boltDue_eq (b : Fin 4) (h : s.running = true) : boltDue s b =
    (let s := s.happens (((s.bolt b).state = .withdrawing || (s.bolt b).state = .driving) &&
        10 * (s.bolt b).timeout ≤ (s.bolt b).elapsed) (.boltStrokeTimeout b)
     s.happens ((s.bolt b).restTimer.any (100 ≤ ·)) (.boltNoPosition b)) := by
  dsimp only
  rw [happens_run (f := losePosition b) (fun _ => rfl) (happens_running rfl h _), happens_run (f := timeOutBolt b) (fun _ => rfl) h]
  unfold boltDue
  simp only [reachedTicks_eq]
  rfl

/-- A stroke's timeout where it waits and where it does not (R82, R84). -/
theorem timeOutBolt_rests {b : Fin 4} (hw : (s.bolt b).state ≠ .withdrawing) (hd : (s.bolt b).state ≠ .driving) :
    timeOutBolt b s = s :=
  if_neg fun h => (bolt_moving_iff.mp h).elim hw hd
theorem timeOutBolt_withdrawing {b : Fin 4} (h : (s.bolt b).state = .withdrawing) :
    timeOutBolt b s = reportBolt (jamBolt b .timeout s) := by
  have hw : ¬(s.bolt b).waits = true := fun hw => by have := (bolt_waits_iff.mp hw).1; rw [h] at this; cases this
  unfold timeOutBolt
  rw [if_pos (bolt_moving_iff.mpr (.inl h)), if_neg hw]
  rfl
theorem timeOutBolt_driving {b : Fin 4} (h : (s.bolt b).state = .driving) : timeOutBolt b s =
    reportBolt (jamBolt b (if (s.bolt b).outputOn = none then .misaligned else .timeout) s) := by
  have hw : (s.bolt b).waits = true ↔ (s.bolt b).outputOn = none := bolt_waits_iff.trans (and_iff_right h)
  unfold timeOutBolt
  rw [if_pos (bolt_moving_iff.mpr (.inr h))]
  simp only [hw]
  rfl

theorem aligned_iff : s.aligned = true ↔ s.msu.angles.north.source ≠ .lost ∧ s.msu.angles.south.source ≠ .lost ∧
    (s.msu.angles.north.angle - s.msu.angles.south.angle).natAbs ≤ s.par pAlignment := by
  simp only [State.aligned, State.positionLost, Bool.and_eq_true, Bool.not_eq_true', Bool.or_eq_false_iff,
    decide_eq_false_iff_not, ne_eq, and_assoc]
  exact and_congr_right fun _ => and_congr_right fun _ => decide_eq_true_iff

theorem alignBolt_waits {b : Fin 4} (h : ¬(b.val < 2 ∧ ((s.bolt b).state = .driving ∧ (s.bolt b).outputOn = none) ∧ s.aligned = true)) :
    alignBolt b s = s := by
  refine if_neg fun hn => h ?_
  simpa [isCentre, bolt_waits_iff, and_assoc] using hn
theorem alignBolt_aligned {b : Fin 4} (hb : b.val < 2) (hd : (s.bolt b).state = .driving) (ho : (s.bolt b).outputOn = none)
    (ha : s.aligned = true) : alignBolt b s =
      s.onBolt b fun r => { r with outputOn := some r.elapsed, full := s.pins.boltWithdrawn[b] } :=
  if_pos (by simp [isCentre, hb, bolt_waits_iff, hd, ho, ha])

/-! ### A bolt's stroke as it starts (R81) -/

/-- The record of a stroke that starts, in the spec's own terms (R81, R84). -/
theorem bolt_begin_eq (b : Fin 4) (way : BoltWay) (s : State) (r : Bolt) (opposite : Bool) :
    r.begin way (isCentre b && decide (way = .drive)) opposite (s.worn (boltActuator b)) (s.par pBoltNominal) = { r with
      state := match way with | .withdraw => .withdrawing | .drive => .driving
      cause := none, last := match way with | .withdraw => .withdraw | .drive => .drive
      nominal := s.par pBoltNominal
      timeout := s.par pBoltNominal * (if s.worn (boltActuator b) then 5 else 3) / 2, elapsed := 0
      outputOn := if decide (b.val < 2 ∧ way = .drive) then none else some 0
      full := !decide (b.val < 2 ∧ way = .drive) && opposite, restTimer := none } := by
  unfold Bolt.begin isCentre
  rw [strokeTimeout_eq, Bool.decide_and] <;> rfl

theorem startBolt_barred {b : Fin 4} {way : BoltWay} (h : s.apu.restart = true) : startBolt b way s = s := if_pos h

theorem jamBolt_onBolt (b : Fin 4) (c : BoltCause) (f : Bolt → Bolt) (s : State) : jamBolt b c (s.onBolt b f) =
    { s.onBolt b fun r => { f r with state := .jammed, cause := some c, restTimer := none } with
      cl := { s.cl with latched := s.cl.latched ||| 0x20 } } := by
  unfold jamBolt
  rw [onBolt_onBolt]
  rfl

/-- Settles the stroke's start: what R81 sets up, and what stops it as it starts. -/
theorem startBolt_outcomes (b : Fin 4) (way : BoltWay) (s : State) :
     let opposite := match way with | .withdraw => s.pins.boltDriven[b] | .drive => s.pins.boltWithdrawn[b]
     let waits := decide (b.val < 2 ∧ way = .drive)
     let begun (r : Bolt) : Bolt := { r with
       state := match way with | .withdraw => .withdrawing | .drive => .driving
       cause := none, last := match way with | .withdraw => .withdraw | .drive => .drive
       nominal := s.par pBoltNominal
       timeout := s.par pBoltNominal * (if s.worn (boltActuator b) then 5 else 3) / 2, elapsed := 0
       outputOn := if waits then none else some 0, full := !waits && opposite, restTimer := none }
     let jammed (cause : BoltCause) : State :=
       { s.onBolt b fun r => { begun r with state := .jammed, cause := some cause } with
         cl := { s.cl with latched := s.cl.latched ||| 0x20 } }
     let both := s.pins.boltDriven[b] = true ∧ s.pins.boltWithdrawn[b] = true
     (s.apu.restart = true → startBolt b way s = s) ∧
     (s.apu.restart = false → s.pins.estop = true → startBolt b way s = jammed .estop) ∧
     (s.apu.restart = false → s.pins.estop = false → both → startBolt b way s = jammed .switchConflict) ∧
     (s.apu.restart = false → s.pins.estop = false → ¬both → startBolt b way s = s.onBolt b begun) := by
  intro opposite waits begun jammed both
  have hbegun : (fun r : Bolt => r.begin way (isCentre b && decide (way = .drive)) opposite (s.worn (boltActuator b))
      (s.par pBoltNominal)) = begun := funext fun r => bolt_begin_eq b way s r opposite
  have hstart (hr : s.apu.restart = false) : startBolt b way s =
      if s.pins.estop then jamBolt b .estop (s.onBolt b begun)
      else if s.pins.boltDriven[b] && s.pins.boltWithdrawn[b] then jamBolt b .switchConflict (s.onBolt b begun)
      else s.onBolt b begun := by
    rw [← hbegun]
    exact if_neg (by simp [hr])
  refine ⟨startBolt_barred, fun hr he => ?_, fun hr he hb => ?_, fun hr he hb => ?_⟩
  · rw [hstart hr, if_pos he, jamBolt_onBolt]
  · rw [hstart hr, if_neg (by simp [he]), if_pos (by simpa [both] using hb), jamBolt_onBolt]
  · rw [hstart hr, if_neg (by simp [he]), if_neg (by simpa [both] using hb)]

/-! ### The switches of a bolt (R82, R83) -/

theorem conflictBolt_new {b : Fin 4} (h : ¬((s.bolt b).state = .jammed ∧ (s.bolt b).cause = some .switchConflict)) :
    conflictBolt b s = reportBolt (jamBolt b .switchConflict s) := if_neg h
theorem conflictBolt_known {b : Fin 4} (h : (s.bolt b).state = .jammed) (hc : (s.bolt b).cause = some .switchConflict) :
    conflictBolt b s = s := if_pos ⟨h, hc⟩

theorem withdrawnMade_conflict {b : Fin 4} (h : s.pins.boltDriven[b] = true) : withdrawnMade b s = conflictBolt b s := if_pos h
theorem drivenMade_conflict {b : Fin 4} (h : s.pins.boltWithdrawn[b] = true) : drivenMade b s = conflictBolt b s := if_pos h

theorem withdrawnMade_jammed {b : Fin 4} (h : (s.bolt b).state = .jammed) (hc : (s.bolt b).cause = some .switchConflict) :
    withdrawnMade b s = s := by
  unfold withdrawnMade
  split
  · exact conflictBolt_known h hc
  · rw [h]
theorem drivenMade_jammed {b : Fin 4} (h : (s.bolt b).state = .jammed) (hc : (s.bolt b).cause = some .switchConflict) :
    drivenMade b s = s := by
  unfold drivenMade
  split
  · exact conflictBolt_known h hc
  · rw [h]

theorem withdrawnMade_completes {b : Fin 4} (hd : s.pins.boltDriven[b] = false) (h : (s.bolt b).state = .withdrawing) :
    withdrawnMade b s = completeBolt b .withdrawn s := by
  unfold withdrawnMade
  rw [if_neg (by simp [hd]), h]
theorem withdrawnMade_rests {b : Fin 4} (hd : s.pins.boltDriven[b] = false) (h : (s.bolt b).state = .withdrawn) :
    withdrawnMade b s = cancelRest b s := by
  unfold withdrawnMade
  rw [if_neg (by simp [hd]), h]
theorem drivenMade_completes {b : Fin 4} (hd : s.pins.boltWithdrawn[b] = false) (h : (s.bolt b).state = .driving)
    (ho : (s.bolt b).outputOn ≠ none) : drivenMade b s = completeBolt b .driven s := by
  unfold drivenMade
  rw [if_neg (by simp [hd]), h]
  exact if_pos (isSome_iff_ne.mpr ho)
theorem drivenMade_waits {b : Fin 4} (hd : s.pins.boltWithdrawn[b] = false) (h : (s.bolt b).state = .driving)
    (ho : (s.bolt b).outputOn = none) : drivenMade b s = s := by
  unfold drivenMade
  rw [if_neg (by simp [hd]), h]
  exact if_neg fun hn => isSome_iff_ne.mp hn ho
theorem drivenMade_rests {b : Fin 4} (hd : s.pins.boltWithdrawn[b] = false) (h : (s.bolt b).state = .driven) :
    drivenMade b s = cancelRest b s := by
  unfold drivenMade
  rw [if_neg (by simp [hd]), h]

theorem switchReleased_driven (b : Fin 4) (s : State) : switchReleased b .driven s =
    if (s.bolt b).state = .driven then s.onBolt b fun r => { r with restTimer := some 0 } else s := by
  unfold switchReleased
  cases (s.bolt b).state <;> rfl
theorem switchReleased_withdrawn (b : Fin 4) (s : State) : switchReleased b .withdrawn s =
    if (s.bolt b).state = .withdrawn then s.onBolt b fun r => { r with restTimer := some 0 } else s := by
  unfold switchReleased
  cases (s.bolt b).state <;> rfl

/-! ### What the sequence and the LMC do on a bolt's report (R86, R87, R101, R102, R105) -/

theorem windAllows_iff : s.windAllows = true ↔ s.msu.wind.known = true ∧ s.msu.wind.w < s.par pStopLimit := by
  simp [State.windAllows, State.windAtStop]

theorem allDriven_of_withdrawn (h : s.allWithdrawn = true) : s.allDriven = false :=
  Bool.eq_false_iff.mpr fun hd => by
    have := allDriven_iff.mp hd 0
    rw [allWithdrawn_iff.mp h 0] at this; cases this

theorem testUnlocked_waits (h : s.allWithdrawn = false ∨ s.bothReady = false ∨ s.apu.restart = true) : testUnlocked s = s :=
  if_neg fun ⟨_, hw, hb, hr⟩ => by rcases h with h | h | h <;> simp_all

/-- What the passage out of UNLOCKING leaves, once every bolt is out and both groups are READY. -/
structure UnlocksTo (s t : State) : Prop where
  allowed : s.windAllows = true →
    t.lmc = { s.lmc with leaf := (if s.rcs.road = .secured then .raising else .halted) } ∧
    (t.lpu.seqKind = s.lpu.seqKind ∨ t.lpu.seqKind = .none) ∧ (t.cl.latched &&& 8) ≠ 0
  barred : s.windAllows = false →
    t.lmc = { s.lmc with leaf := .locking } ∧ t.lpu.seqKind = .drive ∧ t.lpu.seqStep = .heel ∧ (t.cl.latched &&& 0x48) = 0x48

theorem or_wind {x : Half} (h : (x &&& 8) ≠ 0) : ((x ||| 0x40) &&& 0x48) = 0x48 := by
  have h3 : x.getLsbD 3 = true := ((mask_iff x 3).mp h).2
  have hbits : ∀ i < 16, (0x48 : Half).getLsbD i = true → i = 3 ∨ i = 6 := by decide
  refine BitVec.eq_of_getLsbD_eq fun i hi => ?_
  rw [BitVec.getLsbD_and, BitVec.getLsbD_or]
  by_cases hb : (0x48 : Half).getLsbD i = true
  · rw [hb]
    rcases hbits i hi hb with rfl | rfl
    · rw [h3]; rfl
    · rw [show (0x40 : Half).getLsbD 6 = true from rfl, Bool.or_true]; rfl
  · rw [Bool.not_eq_true] at hb
    rw [hb, Bool.and_false]

theorem testUnlocked_unlocks (hl : s.lmc.leaf = .unlocking) (hw : s.allWithdrawn = true) (hb : s.bothReady = true)
    (hr : s.apu.restart = false) : UnlocksTo s (testUnlocked s) := by
  have e : testUnlocked s = if !s.windAllows then latch .wind (enterLocking s)
      else if s.rcs.road = .secured then setLeaf .raising s else haltUnlocking s := if_pos ⟨hl, hw, hb, hr⟩
  rw [e]
  refine ⟨fun ha => ?_, fun ha => ?_⟩
  · rw [if_neg (by simp [ha])]
    split
    · rw [setLeaf_away (by rw [hl]; decide) (by decide)]
      exact ⟨rfl, .inl rfl, or_eight _⟩
    · rw [haltUnlocking_eq (by rw [hl]; decide)]
      exact ⟨rfl, .inr rfl, or_eight _⟩
  · rw [if_pos (by simp [ha])]
    obtain ⟨hlmc, -, -, hkind, hstep, -, -, hlat, -, -⟩ := enterLocking_spec (s := s) (by rw [hl]; decide)
    have hd := allDriven_of_withdrawn hw
    generalize enterLocking s = v at *
    refine ⟨hlmc.trans (by rw [hd]; rfl), hkind.trans (by rw [hd]; rfl), hstep.trans (if_neg fun h => ?_), or_wind hlat⟩
    rw [allWithdrawn_iff.mp hw 2] at h; cases h.1

theorem testLocked_waits (h : s.allDriven = false ∨ s.bothSeated = false) : testLocked s = s :=
  if_neg fun ⟨_, hd, hb⟩ => by rcases h with h | h <;> simp_all
theorem testLocked_locks (hl : s.lmc.leaf = .locking) (hd : s.allDriven = true) (hb : s.bothSeated = true) :
    testLocked s = setLeaf .seatedLocked s := if_pos ⟨hl, hd, hb⟩

/-- The LMC does nothing on a bolt's report where no test of its leaf state is met. -/
theorem leavesTakeBolts_waits (hu : s.lmc.leaf = .unlocking → s.allWithdrawn = false)
    (hl : s.lmc.leaf = .locking → s.allDriven = false) (hs : s.lmc.leaf ≠ .seatedLocked) : leavesTakeBolts s = s := by
  unfold leavesTakeBolts
  split
  · next h => exact testUnlocked_waits (.inl (hu h))
  · next h => exact testLocked_waits (.inl (hl h))
  · next h => exact absurd h hs
  all_goals rfl

/-- Outside UNLOCKING the LMC commands no bolt on a bolt's report. -/
theorem leavesTakeBolts_bolts (h : s.lmc.leaf ≠ .unlocking) :
    (leavesTakeBolts s).lpu.bolts = s.lpu.bolts ∧ (leavesTakeBolts s).lpu.seqKind = s.lpu.seqKind := by
  have hset (l : LeafState) : (setLeaf l s).lpu.bolts = s.lpu.bolts ∧ (setLeaf l s).lpu.seqKind = s.lpu.seqKind := by
    obtain ⟨x, hx⟩ := setLeaf_eq l s
    rw [hx]; exact ⟨rfl, rfl⟩
  unfold leavesTakeBolts testLocked
  split
  · next hu => exact absurd hu h
  · split
    · exact hset _
    · exact ⟨rfl, rfl⟩
  · split
    · exact ⟨rfl, rfl⟩
    · exact hset _
  all_goals exact ⟨rfl, rfl⟩

theorem advanceSequence_none (h : s.lpu.seqKind = .none) : advanceSequence s = s := by
  have hh : ¬s.heelDue := fun hd => by have := hd.1; rw [h] at this; cases this
  have hc : ¬s.centreDue := fun hd => by have := hd.1; rw [h] at this; cases this
  unfold advanceSequence
  rw [withdrawHeelStep_not hh, driveCentreStep_not hc, endSequence, h]
  exact if_neg nofun

/-- A step test keeps what the LMC tests: which bolts are at which end, the seats, the groups, the wind and the RESTART. -/
theorem Advances.bothSeated (h : Advances s t) : t.bothSeated = s.bothSeated := by
  unfold State.bothSeated; rw [h.only.seats]
theorem Advances.bothReady (h : Advances s t) : t.bothReady = s.bothReady := by
  unfold State.bothReady State.pump; rw [h.only.pumps]
theorem Advances.windAllows (h : Advances s t) : t.windAllows = s.windAllows := by
  unfold State.windAllows State.windAtStop State.par; rw [h.only.msu, h.only.apu]

/-- The bolts of a sequence at its end position stay as they are. -/
theorem Advances.ended (h : Advances s t)
    (he : (s.lpu.seqKind = .withdraw ∧ s.allWithdrawn = true) ∨ (s.lpu.seqKind = .drive ∧ s.allDriven = true)) :
    t.lpu.seqKind = .none ∧ t.lpu.bolts = s.lpu.bolts := by
  refine ⟨h.kind.trans (if_pos he), ?_⟩
  have hb (b : Fin 4) : t.bolt b = s.bolt b := by
    by_cases hh : s.heelDue
    · have hw : (s.bolt b).state = .withdrawn := by
        rcases he with he | he
        · exact allWithdrawn_iff.mp he.2 b
        · have := hh.1; rw [he.1] at this; cases this
      rw [(h.heel hh).1]
      split
      · rw [boltCommanded_eq, hw]
      · rfl
    · by_cases hc : s.centreDue
      · have hd : (s.bolt b).state = .driven := by
          rcases he with he | he
          · have := hc.1; rw [he.1] at this; cases this
          · exact allDriven_iff.mp he.2 b
        rw [(h.centre hc).1]
        split
        · rw [boltCommanded_eq, hd]
        · rfl
      · exact (h.stays hh hc).1 b
  refine Vector.ext fun i hi => ?_
  exact hb ⟨i, hi⟩

/-- A bolt that a sequence step commands away from its end position starts its stroke (R81, R86). -/
theorem boltCommanded_starts {b : Fin 4} {way : BoltWay}
    (h : match way with
      | .withdraw => (s.bolt b).state ≠ .withdrawing ∧ (s.bolt b).state ≠ .withdrawn
      | .drive => (s.bolt b).state ≠ .driving ∧ (s.bolt b).state ≠ .driven) :
    s.boltCommanded way b = (startBolt b way s).bolt b := by
  rw [boltCommanded_eq, startBolt_bolt, if_pos rfl]
  cases way <;> cases hb : (s.bolt b).state <;> simp_all

theorem boltStarted_free {b : Fin 4} {way : BoltWay} (hr : s.apu.restart = false) (he : s.pins.estop = false)
    (hc : ¬(s.pins.boltDriven[b] = true ∧ s.pins.boltWithdrawn[b] = true)) :
    ((startBolt b way s).bolt b).state = (match way with | .withdraw => .withdrawing | .drive => .driving) ∧
      ((startBolt b way s).bolt b).cause = none ∧
      ((startBolt b way s).bolt b).outputOn = if b.val < 2 ∧ way = .drive then none else some 0 := by
  rw [((startBolt_outcomes b way s).2.2.2) hr he hc, bolt_onBolt_self]
  cases way
  · exact ⟨rfl, rfl, if_congr (by simp) rfl rfl⟩
  · exact ⟨rfl, rfl, if_congr (by simp) rfl rfl⟩

/-- Settles the withdraw sequence's step (R87). -/
theorem reportBolt_heel (hk : s.lpu.seqKind = .withdraw) (hs : s.lpu.seqStep = .centre) (h0 : (s.bolt 0).state = .withdrawn)
    (h1 : (s.bolt 1).state = .withdrawn) (hw : s.allWithdrawn = false) (hl : s.lmc.leaf ≠ .seatedLocked) :
    (reportBolt s).lpu.seqKind = .withdraw ∧ (reportBolt s).lpu.seqStep = .heel ∧
      (∀ b, (reportBolt s).bolt b = if 2 ≤ b.val then s.boltCommanded .withdraw b else s.bolt b) ∧
      (reportBolt s).lmc = s.lmc := by
  have ha := advanceSequence_spec s
  obtain ⟨hb, hp⟩ := ha.heel ⟨hk, hs, h0, h1⟩
  have e : reportBolt s = advanceSequence s := by
    refine leavesTakeBolts_waits (fun _ => ha.allWithdrawn.trans hw) (fun _ => Bool.eq_false_iff.mpr fun hd => ?_)
      (by rw [ha.only.lmc]; exact hl)
    have := allDriven_iff.mp hd 0
    rw [hb 0, if_neg (by decide), h0] at this; cases this
  rw [e]
  exact ⟨ha.kind.trans (by simp [hk, hw]), hp, hb, ha.only.lmc⟩

/-- Settles the drive sequence's step (R87). -/
theorem reportBolt_centre (hk : s.lpu.seqKind = .drive) (hs : s.lpu.seqStep = .heel) (h2 : (s.bolt 2).state = .driven)
    (h3 : (s.bolt 3).state = .driven) (hd : s.allDriven = false) (hl : s.lmc.leaf ≠ .seatedLocked) :
    (reportBolt s).lpu.seqKind = .drive ∧ (reportBolt s).lpu.seqStep = .centre ∧
      (∀ b, (reportBolt s).bolt b = if b.val < 2 then s.boltCommanded .drive b else s.bolt b) ∧
      (reportBolt s).lmc = s.lmc := by
  have ha := advanceSequence_spec s
  obtain ⟨hb, hp⟩ := ha.centre ⟨hk, hs, h2, h3⟩
  have e : reportBolt s = advanceSequence s := by
    refine leavesTakeBolts_waits (fun _ => Bool.eq_false_iff.mpr fun hw => ?_) (fun _ => ha.allDriven.trans hd)
      (by rw [ha.only.lmc]; exact hl)
    have := allWithdrawn_iff.mp hw 2
    rw [hb 2, if_neg (by decide), h2] at this; cases this
  rw [e]
  exact ⟨ha.kind.trans (by simp [hk, hd]), hp, hb, ha.only.lmc⟩

/-- A stroke completes: the full one is reported, then the bolt stands at its position (R82). -/
theorem completeBolt_eq (b : Fin 4) (home : BoltState) (s : State) : completeBolt b home s =
    reportBolt ((if (s.bolt b).full then reportStroke (boltActuator b) (s.bolt b).nominal
      (((s.bolt b).elapsed - (s.bolt b).outputOn.getD 0) / 10) s else s).onBolt b fun r =>
        { r with state := home, restTimer := none }) := rfl

/-- The LMC's part of a bolt's report in UNLOCKING, after the sequence's step test (R101, R102). -/
theorem reportBolt_unlocking (hl : s.lmc.leaf = .unlocking) :
    (s.allWithdrawn = false ∨ s.bothReady = false ∨ s.apu.restart = true → (reportBolt s).lmc = s.lmc) ∧
    (s.allWithdrawn = true → s.bothReady = true → s.apu.restart = false →
      (s.msu.wind.known = true → s.msu.wind.w < s.par pStopLimit →
        (reportBolt s).lmc = { s.lmc with leaf := (if s.rcs.road = .secured then .raising else .halted) } ∧
        (s.lpu.seqKind = .withdraw → (reportBolt s).lpu.seqKind = .none) ∧ ((reportBolt s).cl.latched &&& 8) ≠ 0) ∧
      (s.msu.wind.known = false ∨ s.par pStopLimit ≤ s.msu.wind.w →
        (reportBolt s).lmc = { s.lmc with leaf := .locking } ∧ (reportBolt s).lpu.seqKind = .drive ∧
        (reportBolt s).lpu.seqStep = .heel ∧ ((reportBolt s).cl.latched &&& 0x48) = 0x48)) := by
  have ha := advanceSequence_spec s
  have hlu : (advanceSequence s).lmc.leaf = .unlocking := by rw [ha.only.lmc]; exact hl
  have e : reportBolt s = testUnlocked (advanceSequence s) := by
    unfold reportBolt leavesTakeBolts; rw [hlu]
  have hwind : s.windAllows = true ↔ _ := windAllows_iff
  rw [e]
  refine ⟨fun h => ?_, fun hw hb hr => ?_⟩
  · rw [testUnlocked_waits (by rw [ha.allWithdrawn, ha.bothReady, ha.only.apu]; exact h), ha.only.lmc]
  · obtain ⟨hgo, hbar⟩ := testUnlocked_unlocks hlu (ha.allWithdrawn.trans hw) (ha.bothReady.trans hb)
      (by rw [ha.only.apu]; exact hr)
    rw [ha.windAllows, ha.only.lmc] at hgo hbar
    rw [ha.only.rcs] at hgo
    generalize testUnlocked (advanceSequence s) = v at *
    refine ⟨fun hk hv => ?_, fun hk => hbar (Bool.eq_false_iff.mpr fun hn => ?_)⟩
    · obtain ⟨h1, h2, h3⟩ := hgo (hwind.mpr ⟨hk, hv⟩)
      refine ⟨h1, fun hs => ?_, h3⟩
      rcases h2 with h2 | h2
      · rw [h2, ha.kind, if_pos (.inl ⟨hs, hw⟩)]
      · exact h2
    · obtain ⟨h1, h2⟩ := hwind.mp hn
      rcases hk with hk | hk
      · rw [h1] at hk; cases hk
      · omega

theorem reportBolt_locking (hl : s.lmc.leaf = .locking) :
    (s.allDriven = true → s.bothSeated = true →
      (reportBolt s).lmc = { s.lmc with leaf := .seatedLocked } ∧ ((reportBolt s).cl.latched &&& 8) ≠ 0) ∧
    (s.allDriven = false ∨ s.bothSeated = false → (reportBolt s).lmc = s.lmc) := by
  have ha := advanceSequence_spec s
  have hlu : (advanceSequence s).lmc.leaf = .locking := by rw [ha.only.lmc]; exact hl
  have e : reportBolt s = testLocked (advanceSequence s) := by
    unfold reportBolt leavesTakeBolts; rw [hlu]
  rw [e, ← ha.allDriven, ← ha.bothSeated, ← ha.only.lmc]
  refine ⟨fun hd hb => ?_, fun h => by rw [testLocked_waits h]⟩
  rw [testLocked_locks hlu hd hb]
  obtain ⟨x, hx⟩ := setLeaf_eq .seatedLocked (advanceSequence s)
  rw [hx, if_neg (by rw [hlu]; decide)]
  exact ⟨rfl, or_eight _⟩

theorem reportBolt_seatedLocked (hl : s.lmc.leaf = .seatedLocked) :
    (s.allDriven = true → (reportBolt s).lmc = s.lmc) ∧
    (s.allDriven = false → (reportBolt s).lmc = { s.lmc with leaf := .halted } ∧ ((reportBolt s).cl.latched &&& 8) ≠ 0) := by
  have ha := advanceSequence_spec s
  have hlu : (advanceSequence s).lmc.leaf = .seatedLocked := by rw [ha.only.lmc]; exact hl
  have e : reportBolt s = if (advanceSequence s).allDriven then advanceSequence s else setLeaf .halted (advanceSequence s) := by
    unfold reportBolt leavesTakeBolts; rw [hlu]
  rw [e, ← ha.allDriven, ← ha.only.lmc]
  refine ⟨fun hd => by rw [if_pos hd], fun hd => ?_⟩
  rw [if_neg (by simp [hd]), setLeaf_away (by rw [hlu]; decide) (by decide)]
  exact ⟨rfl, or_eight _⟩

theorem reportBolt_quiet (hk : s.lpu.seqKind = .none) (hu : s.lmc.leaf ≠ .unlocking) (hl : s.lmc.leaf ≠ .locking)
    (hs : s.lmc.leaf ≠ .seatedLocked) : reportBolt s = s := by
  unfold reportBolt
  rw [advanceSequence_none hk]
  exact leavesTakeBolts_waits (fun h => absurd h hu) (fun h => absurd h hl) hs

/-- A bolt at rest away from the commanded end, as the sequence commands it. -/
theorem commanded_withdraws {b : Fin 4} (hb : (s.bolt b).state = .driven ∨ (s.bolt b).state = .driving ∨ (s.bolt b).state = .jammed) :
    s.boltCommanded .withdraw b = (startBolt b .withdraw s).bolt b :=
  boltCommanded_starts (by rcases hb with h | h | h <;> rw [h] <;> exact ⟨nofun, nofun⟩)
theorem commanded_drives {b : Fin 4} (hb : (s.bolt b).state = .withdrawn ∨ (s.bolt b).state = .withdrawing ∨ (s.bolt b).state = .jammed) :
    s.boltCommanded .drive b = (startBolt b .drive s).bolt b :=
  boltCommanded_starts (by rcases hb with h | h | h <;> rw [h] <;> exact ⟨nofun, nofun⟩)

/-- Settles O32: a stroke's start, the switches, the timers, and the sequence and the LMC on a report. -/
theorem boltEvents : Obligations.BoltEvents := by
  refine ⟨startBolt_outcomes, fun b s h => ?_, fun b s h => ?_, fun s => ?_⟩
  · intro w d
    refine ⟨fun hs hd => ?_, fun hs hw ho => ?_, fun hs hw ho => ?_, fun hn => ⟨fun hd => ?_, fun hw => ?_⟩,
      fun hs hc => ⟨?_, ?_⟩, fun hs hd => ?_, fun hs hw => ?_, ?_, ?_⟩
    · exact exec_run rfl h ((withdrawnMade_completes (s := w) hd hs).trans (completeBolt_eq b _ w))
    · exact exec_run rfl h ((drivenMade_completes (s := d) hw hs ho).trans (completeBolt_eq b _ d))
    · exact exec_run rfl h (drivenMade_waits (s := d) hw hs ho)
    · exact exec_run rfl h ((withdrawnMade_conflict (s := w) hd).trans (conflictBolt_new hn))
    · exact exec_run rfl h ((drivenMade_conflict (s := d) hw).trans (conflictBolt_new hn))
    · exact exec_run rfl h (withdrawnMade_jammed (s := w) hs hc)
    · exact exec_run rfl h (drivenMade_jammed (s := d) hs hc)
    · exact exec_run rfl h (withdrawnMade_rests (s := w) hd hs)
    · exact exec_run rfl h (drivenMade_rests (s := d) hw hs)
    · exact exec_run rfl h (switchReleased_driven b _)
    · exact exec_run rfl h (switchReleased_withdrawn b _)
  · refine ⟨exec_run rfl h isNone_ite, fun hw hd => exec_run rfl h (timeOutBolt_rests hw hd),
      fun hw => exec_run rfl h (timeOutBolt_withdrawing hw), fun hd => exec_run rfl h (timeOutBolt_driving hd),
      fun hb hd ho hn hs ha => ?_, fun hn => exec_run rfl h (alignBolt_waits fun hc => ?_), ?_, ?_, boltDue_eq b h⟩
    · refine ⟨_, exec_run rfl h (alignBolt_aligned hb hd ho (aligned_iff.mpr ⟨hn, hs, ha⟩)), rfl, ?_⟩
      unfold State.boltDriveOutput
      rw [bolt_onBolt_self]
      simp only [hd, decide_true, Option.isSome_some, Bool.and_true]
      exact h
    · obtain ⟨hb, ⟨hd, ho⟩, ha⟩ := hc
      rcases hn with hn | hn | hn | hn
      · exact hn hb
      · exact hn hd
      · exact hn ho
      · rw [ha] at hn; cases hn
    · rw [tickTimers_bolt]
      exact if_congr bolt_moving_iff rfl rfl
    · rw [tickTimers_bolt]; rfl
  · intro t may
    refine ⟨reportBolt_quiet, fun hk hs h0 h1 hw hl => ?_, fun hk hs h2 h3 hd hl => ?_, fun he hl => ?_,
      reportBolt_unlocking, reportBolt_locking, reportBolt_seatedLocked⟩
    · obtain ⟨hkind, hstep, hb, hlmc⟩ := reportBolt_heel hk hs h0 h1 hw hl
      refine ⟨hkind, hstep, by rw [hb]; rfl, by rw [hb]; rfl, hlmc, fun b h2 => ⟨fun hst => ?_, fun hst => ?_⟩⟩
      · rw [hb, if_pos h2, boltCommanded_eq]
        rcases hst with hst | hst <;> rw [hst]
      · rw [hb, if_pos h2, commanded_withdraws hst]
        refine ⟨rfl, fun hm hc => ?_⟩
        obtain ⟨g1, g2, g3⟩ := boltStarted_free (way := .withdraw) hm.1 hm.2 hc
        exact ⟨g1, g2, g3.trans (if_neg nofun)⟩
    · obtain ⟨hkind, hstep, hb, hlmc⟩ := reportBolt_centre hk hs h2 h3 hd hl
      refine ⟨hkind, hstep, by rw [hb]; rfl, by rw [hb]; rfl, hlmc, fun b hlt => ⟨fun hst => ?_, fun hst => ?_⟩⟩
      · rw [hb, if_pos hlt, boltCommanded_eq]
        rcases hst with hst | hst <;> rw [hst]
      · rw [hb, if_pos hlt, commanded_drives hst]
        refine ⟨rfl, fun hm hc => ?_⟩
        obtain ⟨g1, g2, g3⟩ := boltStarted_free (way := .drive) hm.1 hm.2 hc
        exact ⟨g1, g2, g3.trans (if_pos ⟨hlt, rfl⟩)⟩
    · obtain ⟨hkind, hbolts⟩ := (advanceSequence_spec s).ended he
      obtain ⟨h1, h2⟩ := leavesTakeBolts_bolts (s := advanceSequence s) (by rw [(advanceSequence_spec s).only.lmc]; exact hl)
      exact ⟨h2.trans hkind, h1.trans hbolts⟩

/-! ### The standby timer's run condition (R94) -/

/-- The standby timer's run condition, in the spec's own terms. -/
def State.standbyRuns (s : State) : Prop := s.lmc.leaf = .seatedLocked ∧ (s.pump .north).state = .ready ∧
  (s.pump .south).state = .ready ∧ s.psc.batch.state ≠ .formed ∧ s.psc.batch.state ≠ .running

theorem standbyCondition_iff : s.standbyCondition = true ↔ s.standbyRuns := by
  simp [State.standbyCondition, State.standbyRuns, State.bothReady, and_assoc]

/-- The timer of `t` follows the run condition from `s` (R94). -/
def StandbyFollows (s t : State) : Prop :=
  (t.standbyRuns → ¬s.standbyRuns → t.lpu.standby = if s.par pStandby = 0 then none else some 0) ∧
  (t.standbyRuns → s.standbyRuns → t.lpu.standby = s.lpu.standby) ∧ (¬t.standbyRuns → t.lpu.standby = none)

/-- The test of the run condition makes the timer follow it. -/
theorem standbyEdge_follows (ha : u.apu = s.apu) (hs : u.lpu.standby = s.lpu.standby) : StandbyFollows s (standbyEdge s u) := by
  have hruns : (standbyEdge s u).standbyRuns ↔ u.standbyCondition = true := by
    obtain ⟨x, hx⟩ := standbyEdge_eq s u
    rw [hx]; exact standbyCondition_iff.symm
  have hold := standbyCondition_iff (s := s)
  unfold StandbyFollows
  rw [hruns, ← hold]
  unfold standbyEdge
  refine ⟨fun h hn => ?_, fun h hn => ?_, fun h => ?_⟩
  · rw [if_pos h, if_neg hn]
    show (if u.par pStandby = 0 then none else some 0) = _
    unfold State.par; rw [ha]
  · rw [if_pos h, if_pos hn]; exact hs
  · rw [if_neg h]; rfl

theorem setLeaf_follows (m : LeafState) (h : m ≠ s.lmc.leaf) : StandbyFollows s (setLeaf m s) := by
  have h1 : StandbyFollows s (standbyEdge s (s.onLmc fun r => { r with leaf := m })) := standbyEdge_follows rfl rfl
  unfold setLeaf
  rw [if_neg (Ne.symm h)]
  exact h1
theorem setBatchState_follows (b : BatchState) (s : State) : StandbyFollows s (setBatchState b s) :=
  standbyEdge_follows (s := s) (u := s.onBatch fun r => { r with state := b }) rfl rfl
theorem setPump_follows (g : Leaf) (f : Pump → Pump) (s : State) : StandbyFollows s (setPump g f s) :=
  standbyEdge_follows (s := s) (u := s.onPump g f) rfl rfl

/-! ### A group's record, event by event (R90, R91) -/

theorem setPump_pump (g : Leaf) (f : Pump → Pump) (s : State) : (setPump g f s).pump g = f (s.pump g) := by
  obtain ⟨x, hx⟩ := setPump_eq g f s
  rw [hx]; cases g <;> rfl

theorem onPump_congr {g : Leaf} {f h : Pump → Pump} (e : f (s.pump g) = h (s.pump g)) : s.onPump g f = s.onPump g h := by
  unfold State.onPump State.pump at *
  cases g <;> exact congrArg (fun r : Pump => s.onLpu fun l => { l with pumps := l.pumps.set _ r }) e

theorem faultPump_fault (g : Leaf) (s : State) :
    ((faultPump g s).pump g).state = .fault ∧ (faultPump g s).cl.latched = s.cl.latched ||| 0x20 := by
  obtain ⟨x, hx⟩ := setPump_eq g (fun p => { p with state := .fault, limitElapsed := 0, hold := none }) s
  unfold faultPump
  rw [hx]
  cases g <;> exact ⟨rfl, rfl⟩

/-- A group that is not READY lets no standby timer run (R94). -/
theorem setPump_stops {g : Leaf} {f : Pump → Pump} (h : (f (s.pump g)).state ≠ .ready) : (setPump g f s).lpu.standby = none := by
  refine (setPump_follows g f s).2.2 fun hr => ?_
  have hb : ((setPump g f s).pump g).state = .ready := by cases g; exacts [hr.2.1, hr.2.2.1]
  rw [setPump_pump] at hb
  exact h hb

theorem pressureLost_ready {g : Leaf} (h : (s.pump g).state = .ready) : pressureLost g s = reportPump (faultPump g s) := by
  unfold pressureLost; rw [h]
theorem pressureLost_starting {g : Leaf} (h : (s.pump g).state = .starting) :
    pressureLost g s = s.onPump g fun p => { p with hold := none } := by
  unfold pressureLost; rw [h]
theorem pressureLost_rests {g : Leaf} (h : (s.pump g).state = .stopped ∨ (s.pump g).state = .fault) : pressureLost g s = s := by
  unfold pressureLost; rcases h with h | h <;> rw [h]

theorem provePump_proves {g : Leaf} (h : (s.pump g).state = .starting) (hh : (s.pump g).hold ≠ none) : provePump g s =
    reportPump (setPump g (fun p => { p with state := .ready, limitElapsed := 0, hold := none }) s) :=
  if_pos ⟨h, isSome_iff_ne.mpr hh⟩
theorem provePump_rests {g : Leaf} (h : (s.pump g).state ≠ .starting ∨ (s.pump g).hold = none) : provePump g s = s :=
  if_neg fun hn => h.elim (fun h => h hn.1) (isSome_iff_ne.mp hn.2)

theorem expireStandby_eq (h : s.lpu.standby ≠ none) : expireStandby s =
    (stopAndTell (stopAndTell s .north) .south).onLpu fun l => { l with standby := none } := if_pos (isSome_iff_ne.mpr h)

theorem stopAndTell_pumps (g : Leaf) (s : State) : (stopAndTell s g).lpu.pumps =
    s.lpu.pumps.set g { s.pump g with state := .stopped, limitElapsed := 0, hold := none } := by
  unfold stopAndTell
  rw [reportPump_pumps, stopPump_eq]

/-- The standby's expiry stops both groups (R94). -/
theorem expireStandby_stops (h : s.lpu.standby ≠ none) : ((expireStandby s).pump .north).state = .stopped ∧
    ((expireStandby s).pump .south).state = .stopped ∧ (expireStandby s).lpu.standby = none := by
  have hp : (expireStandby s).lpu.pumps = (stopAndTell (stopAndTell s .north) .south).lpu.pumps := by
    rw [expireStandby_eq h]; rfl
  unfold State.pump
  rw [hp, stopAndTell_pumps, stopAndTell_pumps]
  exact ⟨rfl, rfl, by rw [expireStandby_eq h]; rfl⟩

theorem expireStandby_follows (h : s.lpu.standby ≠ none) : StandbyFollows s (expireStandby s) := by
  obtain ⟨hn, -, hs⟩ := expireStandby_stops h
  have hoff : ¬(expireStandby s).standbyRuns := fun hr => by rw [hr.2.1] at hn; cases hn
  exact ⟨fun hr => absurd hr hoff, fun hr => absurd hr hoff, fun _ => hs⟩

/-! ### What the LMC does on a seat's and a group's report (R101, R104, R105, R115) -/

theorem testUnlocked_lmc (hl : s.lmc.leaf = .unlocking) (hw : s.allWithdrawn = true) (hb : s.bothReady = true)
    (hr : s.apu.restart = false) : (testUnlocked s).lmc = { s.lmc with leaf :=
      (if s.msu.wind.known = true ∧ s.msu.wind.w < s.par pStopLimit then
        (if s.rcs.road = .secured then .raising else .halted) else .locking) } := by
  obtain ⟨hgo, hbar⟩ := testUnlocked_unlocks hl hw hb hr
  by_cases h : s.msu.wind.known = true ∧ s.msu.wind.w < s.par pStopLimit
  · rw [if_pos h, (hgo (windAllows_iff.mpr h)).1]
  · rw [if_neg h, (hbar (Bool.eq_false_iff.mpr fun hn => h (windAllows_iff.mp hn))).1]

theorem testLocked_lmc (hl : s.lmc.leaf = .locking) : (testLocked s).lmc = { s.lmc with leaf :=
    (if s.allDriven = true ∧ s.bothSeated = true then .seatedLocked else .locking) } := by
  by_cases h : s.allDriven = true ∧ s.bothSeated = true
  · obtain ⟨x, hx⟩ := setLeaf_eq .seatedLocked s
    rw [testLocked_locks hl h.1 h.2, hx, if_pos h]
  · have e : testLocked s = s := if_neg fun hn => h hn.2
    rw [e, if_neg h, ← hl]

theorem pumpFault_trips (hl : s.lmc.leaf = .raising ∨ s.lmc.leaf = .lowering) (hf : s.pumpFault = true) :
    (testTrip s).lmc.leaf = .tripped ∧ (testTrip s).lmc.motion.leaves.north.reference = 0 ∧
      (testTrip s).lmc.motion.leaves.south.reference = 0 := by
  have hm : s.lmc.leaf.moving = true := moving_iff.mpr hl
  have hc : ∃ c, s.tripNow = some c := by
    refine Option.ne_none_iff_exists'.mp fun hn => ?_
    unfold State.tripNow at hn
    rw [if_neg (by rintro (h | h) <;> rw [h] at hm <;> cases hm), hm, hf] at hn
    repeat' split at hn
    all_goals cases hn
    contradiction
  obtain ⟨c, hc⟩ := hc
  have e : testTrip s = trip c s := by unfold testTrip; rw [hc]
  rw [e, trip_motion, trip_leaf]
  exact ⟨rfl, rfl, rfl⟩

theorem reportPump_fault (hl : s.lmc.leaf = .raising ∨ s.lmc.leaf = .lowering) (hf : s.pumpFault = true) :
    reportPump s = testTrip s := by
  unfold reportPump
  rcases hl with hl | hl <;> rw [hl] <;> exact if_pos hf

theorem reportPump_lowering (hl : s.lmc.leaf = .lowering) (hf : s.pumpFault = false) : reportPump s =
    if s.lmc.motion.awaitingPumps = true ∧ s.bothReady = true then s.onMotion (fun m => { m with awaitingPumps := false }) else s := by
  unfold reportPump
  rw [hl]
  exact if_neg (by simp [hf])

/-- A lowering that does not wait loses nothing by the end of the wait. -/
theorem endWait_lmc (s : State) (hb : s.bothReady = true) :
    (if s.lmc.motion.awaitingPumps = true ∧ s.bothReady = true then s.onMotion (fun m => { m with awaitingPumps := false })
      else s).lmc =
      { s.lmc with motion := { s.lmc.motion with awaitingPumps := false } } := by
  by_cases h : s.lmc.motion.awaitingPumps = true
  · rw [if_pos ⟨h, hb⟩]; rfl
  · rw [if_neg fun hn => h hn.1, ← Bool.eq_false_iff.mpr h]

/-! ### What is due of the locks, the seats and the groups -/

/-- A step that sets no time base keeps the part in the run. -/
theorem Reach.running {A : List Part} (h : Reach A s t) (hA : ∀ p ∈ atomsOf A, p ∉ ([.trip, .fall, .lower, .turns, .time] : List Part)) (hs : s.running = true) : t.running = true := by
  rw [← hs]
  unfold State.running
  rw [h.tb_eq hA]

theorem seatDue_eq (l : Leaf) (h : s.running = true) : seatDue s l =
    s.happens ((s.lpu.seats.get l).filter.any (10 ≤ ·)) (.seatSwitchFilterExpiry l) := by
  rw [happens_run (f := takeSeat l) (fun _ => rfl) h]
  unfold seatDue
  rw [reachedTicks_eq]

theorem pumpDue_eq (l : Leaf) (h : s.running = true) : pumpDue s l =
    (let s := s.happens ((s.pump l).hold.any (100 ≤ ·)) (.pumpReady l)
     s.happens ((s.pump l).state = .starting && 100 * (s.pump l).limit ≤ (s.pump l).limitElapsed)
        (.pumpStartLimitExpiry l)) := by
  dsimp only
  rw [happens_run (f := expirePump l) (fun _ => rfl) (happens_running rfl h _), happens_run (f := provePump l) (fun _ => rfl) h]
  unfold pumpDue
  simp only [reachedTicks_eq]
  rfl

theorem standbyDue_eq (s : State) : s.standbyDue = s.lpu.standby.any (100 * s.par pStandby ≤ ·) := by
  unfold State.standbyDue
  cases s.lpu.standby <;> rfl

theorem lpuDue_eq (h : s.running = true) : lpuDue s =
    (let s := seatDue (seatDue (boltDue (boltDue (boltDue (boltDue s 0) 1) 2) 3) .north) .south
     let s := pumpDue (pumpDue s .north) .south
     s.happens (s.lpu.standby.any (100 * s.par pStandby ≤ ·)) .standbyExpiry) := by
  have hb := (reach_foldl boltDue_reach allBolts s).running (by decide) h
  have hs := (reach_foldl seatDue_reach [Leaf.north, Leaf.south] _).running (by decide) hb
  have hr := (reach_foldl pumpDue_reach [Leaf.north, Leaf.south] _).running (by decide) hs
  unfold lpuDue
  simp only [List.foldl_cons, List.foldl_nil, show allBolts = [0, 1, 2, 3] from rfl] at hr ⊢
  generalize pumpDue _ _ = v at hr ⊢
  rw [standbyDue_eq]
  exact (happens_run (f := expireStandby) (fun _ => rfl) hr _).symm

/-! ### The seats (R89) -/

theorem onSeat_congr {l : Leaf} {f g : Seat → Seat} (h : f (s.lpu.seats.get l) = g (s.lpu.seats.get l)) :
    s.onSeat l f = s.onSeat l g := by
  unfold State.onSeat
  cases l <;> exact congrArg (fun r : Seat => s.onLpu fun u => { u with seats := u.seats.set _ r }) h

theorem onSeat_seat (l : Leaf) (f : Seat → Seat) (s : State) : (s.onSeat l f).lpu.seats.get l = f (s.lpu.seats.get l) := by
  cases l <;> rfl

theorem reportSeat_seatedLocked (hl : s.lmc.leaf = .seatedLocked) : reportSeat s =
    if s.bothSeated then s else setLeaf .halted s := by
  unfold reportSeat; rw [hl]
theorem reportSeat_locking (hl : s.lmc.leaf = .locking) : reportSeat s = testLocked s := by
  unfold reportSeat; rw [hl]
theorem reportSeat_lowering (hl : s.lmc.leaf = .lowering) : reportSeat s = testSeating s := by
  unfold reportSeat; rw [hl]
theorem reportSeat_rests (hl : s.lmc.leaf = .unlocking ∨ s.lmc.leaf = .raising) : reportSeat s = s := by
  unfold reportSeat; rcases hl with h | h <;> rw [h]

theorem reportPump_unlocking (hl : s.lmc.leaf = .unlocking) : reportPump s = testUnlocked s := by
  unfold reportPump; rw [hl]
theorem reportPump_still (hl : s.lmc.leaf = .seatedLocked ∨ s.lmc.leaf = .locking) : reportPump s = s := by
  unfold reportPump; rcases hl with h | h <;> rw [h]
theorem reportPump_raising (hl : s.lmc.leaf = .raising) (hf : s.pumpFault = false) : reportPump s = s := by
  unfold reportPump; rw [hl]; exact if_neg (by simp [hf])

/-- What a lowering that has both leaves seated becomes (R104). -/
theorem testSeating_seats (hl : s.lmc.leaf = .lowering) (ha : s.lmc.motion.bothArrived = true) (hh : s.lmc.motion.halt = .none)
    (hw : s.lmc.motion.awaitingPumps = false) (hs : s.bothSeated = true) :
    (testSeating s).lmc.leaf = .locking ∨ (testSeating s).lmc.leaf = .seatedLocked := by
  have e : testSeating s = enterLocking s := if_pos ⟨hl, ha, hh, hw, hs⟩
  rw [e, (enterLocking_spec (by rw [hl]; decide)).leaves]
  dsimp only
  split
  · exact .inr rfl
  · exact .inl rfl
theorem testSeating_waits (h : s.lmc.motion.bothArrived = false ∨ s.lmc.motion.halt ≠ .none ∨ s.lmc.motion.awaitingPumps = true ∨
    s.bothSeated = false) : testSeating s = s :=
  if_neg fun ⟨_, ha, hh, hw, hs⟩ => by rcases h with h | h | h | h <;> simp_all

/-- Settles O33. -/
theorem seatsAndPumps : Obligations.SeatsAndPumps := by
  intro l level s h raw made gone
  have hstill (hl : s.lmc.leaf = .seatedLocked) : s.lmc.leaf.needsPumps = false := by rw [hl]; rfl
  have hfault {v : State} (g : Leaf) : (faultPump g v).lmc = v.lmc := by
    obtain ⟨x, hx⟩ := setPump_eq g (fun p => { p with state := .fault, limitElapsed := 0, hold := none }) v
    unfold faultPump; rw [hx]; rfl
  have hset {v : State} (g : Leaf) (f : Pump → Pump) : (setPump g f v).lmc = v.lmc ∧ (setPump g f v).cl = v.cl := by
    obtain ⟨x, hx⟩ := setPump_eq g f v
    rw [hx]; exact ⟨rfl, rfl⟩
  refine ⟨fun hl => exec_run rfl h (onSeat_congr (s := raw) ?_), fun hl hf => exec_run rfl h (onSeat_congr (s := raw) ?_),
    fun hl hf => ⟨_, exec_run rfl h rfl, ?_⟩, exec_run rfl h isNone_ite, fun hp hh => exec_run rfl h ?_,
    fun hp => exec_run rfl h (if_neg hp), fun hp => exec_run rfl h (pressureLost_starting (s := gone) hp), fun hp => ?_,
    fun hp => exec_run rfl h (pressureLost_rests (s := gone) hp), fun hp => exec_run rfl h (provePump_rests hp), fun hp hh => ?_,
    fun hp => exec_run rfl h (if_neg hp), fun hp => ?_, fun hn => exec_run rfl h (if_neg (by simp [hn])), fun hn => ?_,
    fun hl => ⟨reportPump_still (.inl hl), fun hs => ?_, fun hs => ?_⟩,
    fun hl => ⟨reportPump_still (.inr hl), by rw [reportSeat_locking hl, testLocked_lmc hl]⟩,
    fun hl => ⟨reportSeat_rests (.inl hl), fun hc => (reportPump_unlocking hl).trans (testUnlocked_waits hc), fun hw hb hr => ?_⟩,
    fun hl => ⟨fun hf => by rw [reportPump_fault hl hf]; exact pumpFault_trips hl hf,
      fun hf hl => ⟨reportPump_raising hl hf, reportSeat_rests (.inr hl)⟩⟩,
    fun hl => ⟨fun hf hb => by rw [reportPump_lowering hl hf]; exact endWait_lmc s hb, fun hf hb => ?_,
      fun ha hh hw hs => by rw [reportSeat_lowering hl]; exact testSeating_seats hl ha hh hw hs,
      fun hc => (reportSeat_lowering hl).trans (testSeating_waits hc)⟩, ?_, ?_, ?_, rfl, seatDue_eq l h, pumpDue_eq l h,
    ?_, ?_⟩
  · show ({ s.lpu.seats.get l with filter := if level = (s.lpu.seats.get l).made then none else _ } : Seat) = _
    rw [if_pos hl]
  · show ({ s.lpu.seats.get l with filter := if level = (s.lpu.seats.get l).made then none else _ } : Seat) = _
    rw [if_neg hl, hf]; rfl
  · have hk : ((s.lpu.seats.get l).filter <|> some 0) = (s.lpu.seats.get l).filter := by
      obtain ⟨n, hn⟩ := Option.ne_none_iff_exists'.mp hf
      rw [hn]; rfl
    refine (onSeat_seat l _ raw).trans ?_
    show ({ s.lpu.seats.get l with filter := if level = (s.lpu.seats.get l).made then none else _ } : Seat) = _
    rw [if_neg hl, hk]
  · refine (if_pos hp).trans (onPump_congr (s := made) ?_)
    show ({ s.pump l with hold := (s.pump l).hold <|> some 0 } : Pump) = _
    rw [hh]; rfl
  · obtain ⟨h1, h2⟩ := faultPump_fault l gone
    refine ⟨_, exec_run rfl h (pressureLost_ready (s := gone) hp), h1, ?_, h2⟩
    exact setPump_stops (s := gone) (g := l) (f := fun p => { p with state := .fault, limitElapsed := 0, hold := none }) nofun
  · refine ⟨_, exec_run rfl h (provePump_proves hp hh), ?_, (hset _ _).2⟩
    rw [setPump_pump]
  · obtain ⟨h1, h2⟩ := faultPump_fault l s
    exact ⟨_, exec_run rfl h (if_pos hp), h1, h2⟩
  · obtain ⟨h1, h2, h3⟩ := expireStandby_stops hn
    refine ⟨_, exec_run rfl h rfl, h1, h2, h3, fun hl => ?_⟩
    rw [expireStandby_eq hn, stopBoth_eq (hstill hl)]
    exact ⟨rfl, rfl⟩
  · rw [reportSeat_seatedLocked hl, if_pos hs]
  · rw [reportSeat_seatedLocked hl, if_neg (by simp [hs]), setLeaf_away (by rw [hl]; decide) (by decide)]
  · rw [reportPump_unlocking hl, testUnlocked_lmc hl hw hb hr]
  · rw [reportPump_lowering hl hf, if_neg fun hn => by rw [hb] at hn; cases hn.2]
  · cases l <;> rfl
  · cases l <;> rfl
  · cases l <;> rfl
  · rw [lpuDue_eq h]
  · refine ⟨fun m hm => setLeaf_follows m hm, fun b => setBatchState_follows b s, fun f => setPump_follows l f s,
      fun hl => ⟨fun hp hh => ?_, fun hp => ?_, fun hn => ?_⟩⟩
    · refine ⟨_, exec_run rfl h ((provePump_proves hp hh).trans (reportPump_rests ?_)), setPump_follows l _ s⟩
      rw [(hset _ _).1]; exact hstill hl
    · refine ⟨_, exec_run rfl h ((pressureLost_ready (s := gone) hp).trans (reportPump_rests ?_)), ?_⟩
      · rw [hfault]; exact hstill hl
      · exact setPump_follows l (fun p => { p with state := .fault, limitElapsed := 0, hold := none }) gone
    · exact ⟨_, exec_run rfl h rfl, expireStandby_follows hn⟩

end Sys2Proof.Machine
end

section
/-! PROOFS. Trips, ESTOP and the channel's closing (O38). -/

namespace Sys2Proof.Machine

variable {s t u : State} {a k : Fin 8}

/-! ### The signals and the batch as they close (R167 to R169, R177, R179, R180) -/

/-- The turn records as side `d`'s GO ends. -/
def State.goEnded (s : State) (d : Side) (c : EndCause) : PerSide SideTurn :=
  s.csu.sides.set d { s.csu.sides.get d with status := .done, cause := some c, goEnd := some s.tb.seconds }

/-- The signal unit as the batch closes (R180). -/
def State.signalsClosed (s : State) : Csu :=
  let closed : Csu := { s.csu with
    window := none, changeover := none, aspects := ⟨.stop, .stop⟩, phase := .ended, current := none }
  match s.csu.phase, s.csu.current with
  | .turn, some d => { closed with sides := s.goEnded d .closed, horn := 500, sealTimer := some 0, sealed := false }
  | _, _ => closed

/-- The end of a turn phase with both sides at STOP. -/
theorem closeSignals_csu (r : TurnsResult) (b : Bool) (s : State) :
    (latchIf b .batch (endPhase r (showStop (s.onCsu fun c => { c with window := none, changeover := none })))).csu =
      { s.csu with window := none, changeover := none, aspects := ⟨.stop, .stop⟩, phase := .ended, current := none
                   result := r } := by
  obtain ⟨p, hp⟩ := showStop_eq (s.onCsu fun c => { c with window := none, changeover := none })
  rw [latchIf_eq, hp]
  rfl

theorem signalsClosing_csu (s : State) : (signalsClosing s).csu = s.signalsClosed := by
  have hturn (d : Side) (b : Bool) : (latchIf b .batch (endPhase s.csu.result (showStop
      ((restartSeal (soundHorn 50 (endGo d .closed s))).onCsu fun c => { c with window := none, changeover := none })))).csu =
      { s.csu with window := none, changeover := none, aspects := ⟨.stop, .stop⟩, phase := .ended, current := none
                   sides := s.goEnded d .closed, horn := 500, sealTimer := some 0, sealed := false } := by
    obtain ⟨p, hh⟩ := soundHorn_eq 50 (endGo d .closed s)
    rw [closeSignals_csu, hh]
    rfl
  unfold signalsClosing State.signalsClosed
  cases hp : s.csu.phase <;> cases hc : s.csu.current <;> dsimp only
  case turn.some d => exact hturn d _
  all_goals rw [closeSignals_csu]

theorem signalsClosed_congr (hc : t.csu = s.csu) (hb : t.tb = s.tb) : t.signalsClosed = s.signalsClosed := by
  unfold State.signalsClosed State.goEnded; rw [hc, hb]

theorem signalsClosing_psc (s : State) : (signalsClosing s).psc = s.psc := by
  have h (b : Bool) (r : TurnsResult) (v : State) :
      (latchIf b .batch (endPhase r (showStop (v.onCsu fun c => { c with window := none, changeover := none })))).psc = v.psc := by
    obtain ⟨p, hp⟩ := showStop_eq (v.onCsu fun c => { c with window := none, changeover := none })
    rw [latchIf_eq, hp]
    rfl
  unfold signalsClosing
  dsimp only
  rw [h]
  split
  · next d hp hc =>
    obtain ⟨p, hh⟩ := soundHorn_eq 50 (endGo d .closed s)
    rw [hh]
    rfl
  · rfl

theorem signalsClosing_vt (s : State) : (signalsClosing s).vt = s.vt := (signalsClosing_reach s).vt_eq (by decide)

/-- What a batch that closes leaves (R168, R169). -/
structure ClosesBatch (s t : State) : Prop where
  only : ChannelOnly s t
  csu : t.csu = s.signalsClosed
  batch : t.psc.batch = { s.psc.batch with
    items := s.psc.batch.items.map (Item.returned s.psc.batch.items)
    remaining := (s.psc.batch.items.filter fun i => decide (i.outcome = .called)).length
    state := if s.signalsClosed.sealed then .closed else .closing
    closedAt := if s.signalsClosed.sealed then some s.tb.seconds else s.psc.batch.closedAt }
  vessel : ∀ k, t.vessel k =
    if holdsCalled s.psc.batch.items k then (s.vessel k).map (fun v => { v with state := .waiting }) else s.vessel k
  queue : ∀ q, t.queue q = (s.queue q).map (QueueEntry.returned s.psc.batch.items)
  psc : { t.psc with queues := s.psc.queues, batch := s.psc.batch } = s.psc
  latched : (t.cl.latched &&& 0x200) ≠ 0

theorem setBatchState_latched (b : BatchState) (s : State) : ((setBatchState b s).cl.latched &&& 0x200) ≠ 0 := by
  obtain ⟨x, hx⟩ := setBatchState_eq b s
  rw [hx]
  refine (mask_iff _ 9).mpr ⟨by decide, ?_⟩
  show ((s.cl.latched ||| 512 : Half)).getLsbD 9 = true
  rw [BitVec.getLsbD_or, show (512 : Half).getLsbD 9 = true from rfl, Bool.or_true]

theorem enterClosing_closes (s : State) : ClosesBatch s (enterClosing s) := by
  obtain ⟨r, hr, hre⟩ := returnItems_spec s
  have hrt : r.csu = s.csu ∧ r.tb = s.tb := by rw [hr.rest]; exact ⟨rfl, rfl⟩
  obtain ⟨x, hx⟩ := setBatchState_eq .closing (returnItems s)
  have hlat := setBatchState_latched .closing (returnItems s)
  have hv : ∃ v, v = setBatchState .closing (returnItems s) := ⟨_, rfl⟩
  obtain ⟨v, hv⟩ := hv
  have hcsu : v.csu = s.csu := by rw [hv, hx, hre]; exact hrt.1
  have htb : v.tb = s.tb := by rw [hv, hx, hre]; exact hrt.2
  have hvt : v.vt = r.vt := by rw [hv, hx, hre]
  have hpsc : v.psc = { r.psc with batch := { s.psc.batch with
      items := s.psc.batch.items.map (Item.returned s.psc.batch.items)
      remaining := (s.psc.batch.items.filter fun i => decide (i.outcome = .called)).length
      state := .closing } } := by rw [hv, hx, hre, hr.batch]
  have hor : ChannelOnly s v := by rw [hv]; exact (returnItems_only s).trans (setBatchState_only _ _)
  rw [← hv] at hlat
  have he : enterClosing s = if (signalsClosing v).csu.sealed then closeBatch (signalsClosing v) else signalsClosing v := by
    rw [hv]; rfl
  have hwc : (signalsClosing v).csu = s.signalsClosed := (signalsClosing_csu v).trans (signalsClosed_congr hcsu htb)
  have hwp := signalsClosing_psc v
  have hwv := signalsClosing_vt v
  have hwo : ChannelOnly s (signalsClosing v) := hor.trans (signalsClosing_only v)
  have hwl := (signalsClosing_only v).mask (i := 9) hlat
  rw [he]
  clear he hx hre hv
  generalize signalsClosing v = w at *
  have hpsc' : { r.psc with queues := s.psc.queues, batch := s.psc.batch } = s.psc := by rw [hr.rest]
  have hvessel (j : Fin 32) : w.vessel j = r.vessel j := by unfold State.vessel; rw [hwv, hvt]
  have hqueue (q : Fin 8) : w.queue q = r.queue q := by unfold State.queue; rw [hwp, hpsc]
  by_cases hs : s.signalsClosed.sealed = true
  · obtain ⟨y, hy⟩ := setBatchState_eq .closed w
    rw [if_pos (by rw [hwc]; exact hs)]
    refine ⟨hwo.trans (closeBatch_only w), ?_, ?_, fun j => ?_, fun q => ?_, ?_, ?_⟩
    · unfold closeBatch; rw [hy]; exact hwc
    · have ht : w.tb = s.tb := hwo.tb
      unfold closeBatch; rw [hy]
      rw [if_pos hs, if_pos hs, ← ht]
      show ({ w.psc.batch with state := .closed, closedAt := some w.tb.seconds } : Batch) = _
      rw [hwp, hpsc]
    · rw [← hr.vessel, ← hvessel]; unfold closeBatch; rw [hy]; rfl
    · rw [← hr.queue, ← hqueue]; unfold closeBatch; rw [hy]; rfl
    · unfold closeBatch; rw [hy]
      show ({ w.psc with queues := s.psc.queues, batch := s.psc.batch } : Psc) = _
      rw [hwp, hpsc]; exact hpsc'
    · exact setBatchState_latched .closed w
  · rw [if_neg (by rw [hwc]; exact hs)]
    refine ⟨hwo, hwc, ?_, fun j => ?_, fun q => ?_, ?_, hwl⟩
    · rw [if_neg hs, if_neg hs, hwp, hpsc]
    · rw [← hr.vessel, hvessel]
    · rw [← hr.queue, hqueue]
    · rw [hwp, hpsc]; exact hpsc'

/-- Where the turns have ended the closing changes no turn record and no seal. -/
theorem signalsClosed_ended (h : s.csu.phase = .ended) : s.signalsClosed =
    { s.csu with window := none, changeover := none, aspects := ⟨.stop, .stop⟩, current := none } := by
  unfold State.signalsClosed
  rw [h]
  dsimp only
  rw [← h]

theorem turnsOver_running (h : s.psc.batch.state = .running) : turnsOver s = enterClosing s := if_pos h
theorem turnsOver_rests (h : s.psc.batch.state ≠ .running) : turnsOver s = s := if_neg h

/-! ### What a trip leaves (R98, R115) -/

/-- Leaves that are TRIPPED stand with both references 0, a cause recorded and TRIP latched. -/
def TripTold (s : State) : Prop := s.lmc.leaf = .tripped →
  s.lmc.motion.leaves.north.reference = 0 ∧ s.lmc.motion.leaves.south.reference = 0 ∧ s.lmc.trip ≠ none ∧
    (s.cl.latched &&& 0x10) ≠ 0

theorem TripTold.untripped (h : s.lmc.leaf ≠ .tripped) : TripTold s := fun ht => absurd ht h
theorem TripTold.of_same (h : TripTold s) (hl : t.lmc = s.lmc) (hc : t.cl.latched = s.cl.latched) : TripTold t := by
  unfold TripTold; rw [hl, hc]; exact h

/-- A trip but for what the channel makes of it. -/
theorem tripped_told (c : TripCause) (s : State) : let t := latch .trip (setLeaf .tripped ((cancelSequence ((zeroReferences s).onMotion
    fun m => { m with halt := .none, awaitingPumps := false })).onLmc fun l => { l with trip := some c }))
    TripTold t ∧ t.csu = s.csu ∧ t.psc = s.psc ∧ t.tb = s.tb := by
  generalize hv : (cancelSequence ((zeroReferences s).onMotion
    fun m => { m with halt := .none, awaitingPumps := false })).onLmc (fun l => { l with trip := some c }) = v
  have hm : v.lmc.motion.leaves.north.reference = 0 ∧ v.lmc.motion.leaves.south.reference = 0 ∧ v.lmc.trip = some c ∧
      v.csu = s.csu ∧ v.psc = s.psc ∧ v.tb = s.tb := by rw [← hv]; exact ⟨rfl, rfl, rfl, rfl, rfl, rfl⟩
  obtain ⟨hn, hs, hc, hcsu, hpsc, htb⟩ := hm
  clear hv
  obtain ⟨x, hx⟩ := setLeaf_eq .tripped v
  rw [hx]
  refine ⟨fun _ => ⟨hn, hs, ?_, ?_⟩, hcsu, hpsc, htb⟩
  · show v.lmc.trip ≠ none
    rw [hc]; nofun
  · refine (mask_iff _ 4).mpr ⟨by decide, ?_⟩
    show (_ ||| Condition.trip.bit : Half).getLsbD 4 = true
    rw [BitVec.getLsbD_or, show Condition.trip.bit.getLsbD 4 = true from rfl, Bool.or_true]

theorem trip_told (c : TripCause) (s : State) : TripTold (trip c s) := by
  obtain ⟨h, -⟩ := tripped_told c s
  unfold trip
  dsimp only at h ⊢
  generalize latch .trip _ = v at h ⊢
  split
  · have ho := leavesLeftRaised_only v
    intro ht
    rw [ho.lmc] at ht ⊢
    obtain ⟨h1, h2, h3, h4⟩ := h ht
    exact ⟨h1, h2, h3, ho.mask (i := 4) h4⟩
  · exact h

/-! ### Which moves keep it -/

theorem Move.told {p : Part} (m : Move p s t) (hp : p ∉ ([.leaf, .leaves, .cleared] : List Part)) (h : TripTold s) : TripTold t := by
  have rest (hl : t.lmc = s.lmc) (hc : ∀ i, s.cl.latched.getLsbD i = true → t.cl.latched.getLsbD i = true) : TripTold t := by
    intro ht
    rw [hl] at ht ⊢
    obtain ⟨h1, h2, h3, h4⟩ := h ht
    exact ⟨h1, h2, h3, (mask_iff _ 4).mpr ⟨by decide, hc 4 ((mask_iff _ 4).mp h4).2⟩⟩
  by_cases ht : p = .turns
  · subst ht
    have k := m.turns_loose
    exact rest (k.lmc_eq (by decide)) fun i hi => k.latched_stays (by decide) hi
  by_cases hm : p = .trip ∨ p = .fall ∨ p = .lower ∨ p = .motion
  · cases m
    case trip => exact trip_told _ s
    case fall => exact trip_told _ s
    case lower h _ => exact .untripped (by rw [(beginLower_spec h).1.leaves]; nofun)
    case mark f hf =>
      intro ht
      obtain ⟨h1, h2, h3, h4⟩ := h ht
      refine ⟨?_, ?_, h3, h4⟩
      · show (f s.lmc.motion).leaves.north.reference = 0; rw [(hf _).1]; exact h1
      · show (f s.lmc.motion).leaves.south.reference = 0; rw [(hf _).1]; exact h2
    case begin =>
      intro ht
      obtain ⟨-, -, h3, h4⟩ := h ht
      exact ⟨rfl, rfl, h3, h4⟩
    case extend n =>
      unfold reportExtension
      split
      · next hl => exact .untripped (by show s.lmc.leaf ≠ _; rcases hl.1 with hl | hl | hl <;> rw [hl] <;> nofun)
      · exact h
    case period hmv => exact .untripped (by show s.lmc.leaf ≠ _; rcases moving_iff.mp hmv with hl | hl <;> rw [hl] <;> nofun)
    all_goals exact absurd hm (by simp)
  · simp only [not_or] at hm
    refine rest (m.lmc_eq ?_) fun i hi => m.latched_stays ?_ hi
    · revert ht hp hm; cases p <;> decide
    · revert ht hp hm; cases p <;> decide

theorem Reach.told {A : List Part} (h : Reach A s t) (hA : ∀ p ∈ A, p ∉ ([.leaf, .leaves, .cleared] : List Part))
    (hs : TripTold s) : TripTold t := h.keeps (fun p hp _ _ m => m.told (hA p hp)) hs

/-- Only a trip leaves the leaves TRIPPED. -/
theorem Reach.untripped {A : List Part} (h : Reach A s t) (hA : ∀ p ∈ A, p ∉ ([.trip, .fall, .leaves] : List Part))
    (hs : s.lmc.leaf ≠ .tripped) : t.lmc.leaf ≠ .tripped := by
  refine h.keeps (P := fun s => s.lmc.leaf ≠ .tripped) (fun p hp u v m hu => ?_) hs
  have hp := hA p hp
  by_cases ht : p = .turns
  · subst ht
    rw [(m.turns_loose).leaf_eq (by decide)]; exact hu
  by_cases hl : p = .leaf
  · subst hl
    cases m
    case leaf l h _ _ _ => exact h
    case untrip h => exact absurd h hu
  by_cases hw : p = .lower
  · subst hw
    cases m
    case lower h _ => rw [(beginLower_spec h).1.leaves]; nofun
  rw [m.leaf_eq (by revert ht hp hl hw; cases p <;> decide)]
  exact hu

/-- Leaves in RAISED leave it by a trip or an accepted LOWER alone. -/
theorem Reach.stays_raised {A : List Part} (h : Reach A s t) (hA : ∀ p ∈ A, p ∉ ([.trip, .lower, .leaves] : List Part))
    (hs : s.lmc.leaf = .raised) : t.lmc.leaf = .raised := by
  refine h.keeps (P := fun s => s.lmc.leaf = .raised) (fun p hp u v m hu => ?_) hs
  have hp := hA p hp
  by_cases ht : p = .turns
  · subst ht
    rw [(m.turns_loose).leaf_eq (by decide)]; exact hu
  by_cases hl : p = .leaf
  · subst hl
    cases m
    case leaf l _ h _ _ => exact absurd hu h
    case untrip h => rw [hu] at h; cases h
  by_cases hw : p = .fall
  · subst hw
    cases m
    case fall _ h => exact absurd hu h
  rw [m.leaf_eq (by revert ht hp hl hw; cases p <;> decide)]
  exact hu

/-! ### The operations after which the leaves may stand TRIPPED (R91, R101, R104, R115) -/

theorem testTrip_told (h : TripTold s) : TripTold (testTrip s) := by
  unfold testTrip
  split
  · exact trip_told _ s
  · exact h

theorem reportPump_told (h : TripTold s) : TripTold (reportPump s) := by
  unfold reportPump
  split
  · next hl => exact .untripped ((testUnlocked_reach s).untripped (by decide) (by rw [hl]; nofun))
  · split
    · exact testTrip_told h
    · exact h
  · split
    · exact testTrip_told h
    · split
      · exact (onMotion_reach _ s fun _ => ⟨rfl, rfl, rfl⟩).told (by decide) h
      · exact h
  all_goals exact h

theorem setPump_told (g : Leaf) (f : Pump → Pump) (h : TripTold s) : TripTold (setPump g f s) :=
  (setPump_reach g f s).told (by decide) h
theorem faultPump_told (g : Leaf) (h : TripTold s) : TripTold (faultPump g s) := (faultPump_reach g s).told (by decide) h
theorem stopAndTell_told (g : Leaf) (h : TripTold s) : TripTold (stopAndTell s g) :=
  reportPump_told ((stopPump_reach s g).told (by decide) h)

theorem expireStandby_told (h : TripTold s) : TripTold (expireStandby s) := by
  unfold expireStandby
  split
  · exact (onLpu_reach _ _ fun _ => ⟨rfl, rfl, rfl⟩).told (by decide) (stopAndTell_told _ (stopAndTell_told _ h))
  · exact h

theorem reviewStandby_told (h : TripTold s) : TripTold (reviewStandby s) := by
  unfold reviewStandby
  split
  · exact (onLpu_reach _ _ fun _ => ⟨rfl, rfl, rfl⟩).told (by decide) h
  · split
    · exact expireStandby_told h
    · exact h

theorem pressureLost_told (g : Leaf) (h : TripTold s) : TripTold (pressureLost g s) := by
  unfold pressureLost
  split
  · exact (onPump_reach _ _ _).told (by decide) h
  · exact reportPump_told (faultPump_told g h)
  all_goals exact h

theorem provePump_told (g : Leaf) (h : TripTold s) : TripTold (provePump g s) := by
  unfold provePump
  split
  · exact reportPump_told (setPump_told g _ h)
  · exact h

theorem expirePump_told (g : Leaf) (h : TripTold s) : TripTold (expirePump g s) := by
  unfold expirePump
  split
  · exact reportPump_told (faultPump_told g h)
  · exact h

theorem requestPump_told (g : Leaf) (h : TripTold s) : TripTold (requestPump s g) := by
  unfold requestPump startPump
  split
  · exact reportPump_told (setPump_told g _ h)
  · exact reportPump_told (setPump_told g _ h)
  · exact h
  · exact h

/-- A wind report is nothing to leaves that are TRIPPED already. -/
theorem windWritten_told (h : TripTold s) : TripTold (windWritten s) := by
  by_cases hl : s.lmc.leaf = .tripped
  · unfold windWritten recomputeWind judgeWind
    dsimp only
    split
    · unfold reportWind
      rw [show (latchIf _ Condition.wind (s.onMsu fun m => { m with wind := _ })).lmc.leaf = .tripped by rw [latchIf_eq]; exact hl]
      exact (latchIf_reach _ _ _).told (by decide) ((Move.wind _ _ _ s).reach.told (by decide) h)
    · exact (latchIf_reach _ _ _).told (by decide) ((Move.wind _ _ _ s).reach.told (by decide) h)
  · exact .untripped ((windWritten_reach s).untripped (by decide) hl)

theorem reach_told (i : Fin 64) (h : TripTold s) : TripTold (reach i s) := by
  unfold reach
  split
  · exact reviewStandby_told h
  · exact windWritten_told h
  · exact windWritten_told h
  · exact windWritten_told h
  · split
    · exact (changeoverExpires_reach s).told (by decide) h
    · exact h
  · split
    · exact (windowExpires_reach s).told (by decide) h
    · exact h
  · exact (reviewSeal_reach s).told (by decide) h
  · exact (reviewTide_reach s).told (by decide) h
  · exact (evaluateWorn_reach _ s).told (by decide) h
  · exact (evaluateWorn_reach _ s).told (by decide) h
  · exact (evaluateWorn_reach _ s).told (by decide) h
  · exact (evaluateWorn_reach _ s).told (by decide) h
  · exact (copyMask_reach s).told (by decide) h
  · exact h

theorem writeValues_told (i : Nat) (l : List Word) (s : State) (h : TripTold s) : TripTold (writeValues i l s).1 := by
  induction l generalizing i s with
  | nil => exact h
  | cons v l ih =>
    unfold writeValues
    split
    · split
      · exact ih _ _ (reach_told _ (h.of_same rfl rfl))
      · exact h
    · exact h

theorem paramWriteOp_told (start : Byte) (values : List Word) (h : TripTold s) : TripTold (paramWriteOp start values s).1 := by
  have k := writeValues_told start.toNat values s h
  unfold paramWriteOp
  split
  · next t e => rw [e] at k; exact k
  · next t i e => rw [e] at k; exact k

theorem foldl_told {α : Type} {f : State → α → State} (hf : ∀ v x, TripTold v → TripTold (f v x)) (l : List α) (h : TripTold s) :
    TripTold (l.foldl f s) := by
  induction l generalizing s with
  | nil => exact h
  | cons x l ih => exact ih (hf s x h)

theorem paramDefaultsOp_told (h : TripTold s) : TripTold (paramDefaultsOp s).1 := by
  have hl : TripTold (loadTable (defaultsKeeping s.apu.table) s) :=
    foldl_told (fun v i hv => reach_told i hv) _ (h.of_same rfl rfl)
  exact hl.of_same rfl rfl

theorem pumpsStartOp_told (h : TripTold s) : TripTold (pumpsStartOp s).1 := by
  unfold pumpsStartOp
  split
  · exact h
  · exact requestPump_told _ (requestPump_told _ h)
theorem pumpsStopOp_told (h : TripTold s) : TripTold (pumpsStopOp s).1 := by
  unfold pumpsStopOp
  split
  · exact h
  · exact stopAndTell_told _ (stopAndTell_told _ h)

/-- ESTOP's cuts and reports before the leaves trip. -/
def estopReported (s : State) : State :=
  let arms := allArms.filter fun a => (s.arm a).stopsOnEstop
  let bolts := allBolts.filter fun b => (s.bolt b).moving
  let groups := [Leaf.north, Leaf.south].filter fun g => (s.pump g).stopsOnEstop
  let t := groups.foldl stopPump (bolts.foldl (fun t b => jamBolt b .estop t) (arms.foldl estopArm s))
  let t := bolts.foldl (fun t _ => reportBolt t) (arms.foldl (fun t a => reportArm a t) t)
  groups.foldl (fun t _ => reportPump t) t

theorem takeEstop_eq (s : State) : takeEstop s = testTrip (estopReported s) := rfl

theorem estopReported_reach (s : State) :
    Reach [.latched, .arms, .strokes, .rcs, .bolts, .drives, .pumps, .locks, .leaf, .fall, .motion, .proving] s (estopReported s) :=
  (reach_foldl (fun t (_ : Leaf) => reportPump_reach t) _ _).comp (by decide) <|
    (reach_foldl (fun t (_ : Fin 4) => reportBolt_reach t) _ _).comp (by decide) <|
    (reach_foldl (fun t a => reportArm_reach a t) _ _).comp (by decide) <|
    (reach_foldl stopPump_reach _ _).comp (by decide) <|
    (reach_foldl (fun t b => jamBolt_reach b .estop t) _ _).comp (by decide) <|
    (reach_foldl estopArm_reach _ s).mono (by decide)

theorem takeEstop_told (hl : s.lmc.leaf ≠ .tripped) : TripTold (takeEstop s) := by
  rw [takeEstop_eq]
  refine testTrip_told (foldl_told (fun v _ hv => reportPump_told hv) _ (.untripped ?_))
  refine Reach.untripped (A := [.latched, .arms, .strokes, .rcs, .bolts, .drives, .pumps, .locks, .leaf, .motion, .proving]) ?_
    (by decide) hl
  exact (reach_foldl (fun t (_ : Fin 4) => reportBolt_reach t) _ _).comp (by decide) <|
    (reach_foldl (fun t a => reportArm_reach a t) _ _).comp (by decide) <|
    (reach_foldl stopPump_reach _ _).comp (by decide) <|
    (reach_foldl (fun t b => jamBolt_reach b .estop t) _ _).comp (by decide) <|
    (reach_foldl estopArm_reach _ s).mono (by decide)

theorem controlPeriod_told (hl : s.lmc.leaf ≠ .tripped) : TripTold (controlPeriod s) := by
  unfold controlPeriod
  split
  · exact trip_told _ s
  · split
    · next h => exact .untripped ((computePeriod_reach s h.1).untripped (by decide) hl)
    · exact .untripped hl

theorem serve_told {q : Request} {op : State → State × Verdict} (h : TripTold s) (hop : TripTold (op s).1) : TripTold (serve q op s) := by
  cases ht : s.taking
  · rw [serve_untaken ht]
    split
    · exact (latch_reach .link _).told (by decide) (h.of_same rfl rfl)
    · exact h
  · cases ha : admission q s with
    | none =>
      rw [serve_allows ⟨ht, ha⟩]
      exact hop.of_same rfl rfl
    | some r =>
      rw [serve_refuses ht ha]
      exact ((latchIf_reach (decide (r = .expired)) .authority s).told (by decide) h).of_same rfl rfl

theorem serveCommand_told (i : Instr) (hl : s.lmc.leaf ≠ .tripped) : TripTold (serveCommand i s) := by
  have h : TripTold s := .untripped hl
  cases hi : i.isRequest
  · rw [serveCommand_event hi]; exact h
  · have hreach := exec_reach (exec_request hi s) (by cases i <;> first | rfl | cases hi)
    cases i
    case paramWrite start values => exact serve_told h (paramWriteOp_told start values h)
    case paramDefaults => exact serve_told h (paramDefaultsOp_told h)
    case pumpsStart => exact serve_told h (pumpsStartOp_told h)
    case pumpsStop => exact serve_told h (pumpsStopOp_told h)
    all_goals first
      | cases hi; done
      | exact .untripped (hreach.untripped (by dsimp only [kinds]; decide) hl)

theorem dispatch_told (body : List Byte) (hl : s.lmc.leaf ≠ .tripped) : TripTold (dispatch body s) := by
  have h : TripTold s := .untripped hl
  unfold dispatch
  split
  · exact h.of_same rfl rfl
  · exact h.of_same rfl rfl
  · exact serveCommand_told _ hl
  · exact serve_told h (.untripped ((armServiceOp_reach _ _ s).untripped (by decide) hl))
  · exact serve_told h (.untripped ((zoneBypassOp_reach _ _ s).untripped (by decide) hl))
  · exact serve_told h h

/-! ### GO withdrawn as the leaves leave RAISED (R112, R179) -/

theorem latch_batch_mask (s : State) : ((latch .batch s).cl.latched &&& 0x200) ≠ 0 := by
  refine (mask_iff _ 9).mpr ⟨by decide, ?_⟩
  show ((s.cl.latched ||| Condition.batch.bit : Half)).getLsbD 9 = true
  rw [BitVec.getLsbD_or, show Condition.batch.bit.getLsbD 9 = true from rfl, Bool.or_true]

/-- The signal unit with side `d`'s GO withdrawn. -/
def State.signalsWithdrawn (s : State) (d : Side) : Csu := { s.csu with
  aspects := s.csu.aspects.set d .stop, sides := s.goEnded d .withdrawn, window := none, horn := 500
  sealTimer := some 0, sealed := false, phase := .ended, current := none, result := .goWithdrawn }

/-- The signal unit with the changeover given up. -/
def State.signalsGivenUp (s : State) : Csu := { s.csu with
  phase := .ended, current := none, result := .goWithdrawn, aspects := ⟨.stop, .stop⟩, changeover := none }

theorem withdrawGo_eq (d : Side) (s : State) : ∃ w, withdrawGo d s = turnsOver w ∧ w.csu = s.signalsWithdrawn d ∧
    w.psc = s.psc ∧ (w.cl.latched &&& 0x200) ≠ 0 := by
  obtain ⟨p, hp⟩ := setAspect_eq d .stop (endGo d .withdrawn s)
  obtain ⟨q, hq⟩ := soundHorn_eq 50 (setAspect d .stop (endGo d .withdrawn s))
  refine ⟨latch .batch (endPhase .goWithdrawn (restartSeal (soundHorn 50 (setAspect d .stop (endGo d .withdrawn s))))), rfl, ?_, ?_,
    latch_batch_mask _⟩
  · rw [hq, hp]; rfl
  · rw [hq, hp]; rfl

theorem giveUp_eq (s : State) : ∃ w,
    turnsOver (latch .batch (endPhase .goWithdrawn (showStop (s.onCsu fun c => { c with changeover := none })))) = turnsOver w ∧
      w.csu = s.signalsGivenUp ∧ w.psc = s.psc ∧ (w.cl.latched &&& 0x200) ≠ 0 := by
  obtain ⟨p, hp⟩ := showStop_eq (s.onCsu fun c => { c with changeover := none })
  refine ⟨_, rfl, ?_, ?_, latch_batch_mask _⟩
  · rw [hp]; rfl
  · rw [hp]; rfl

/-- The turns being over once they have ended: a RUNNING batch closes, and nothing else happens. -/
theorem turnsOver_ended (he : s.csu.phase = .ended) :
    ((turnsOver s).csu = s.csu ∨ (turnsOver s).csu =
      { s.csu with window := none, changeover := none, aspects := ⟨.stop, .stop⟩, current := none }) ∧
    (s.psc.batch.state = .running → (turnsOver s).csu.aspects = ⟨.stop, .stop⟩ ∧
      (turnsOver s).psc.batch.state = if s.csu.sealed then .closed else .closing) ∧
    (s.psc.batch.state ≠ .running → (turnsOver s).psc = s.psc ∧ (turnsOver s).csu = s.csu) ∧
    ((s.cl.latched &&& 0x200) ≠ 0 → ((turnsOver s).cl.latched &&& 0x200) ≠ 0) := by
  by_cases hr : s.psc.batch.state = .running
  · have h := enterClosing_closes s
    have hs := signalsClosed_ended he
    rw [turnsOver_running hr]
    refine ⟨.inr (h.csu.trans hs), fun _ => ⟨?_, ?_⟩, fun hn => absurd hr hn, fun _ => h.latched⟩
    · rw [h.csu, hs]
    · rw [h.batch, hs]
  · rw [turnsOver_rests hr]
    exact ⟨.inl rfl, fun hn => absurd hn hr, fun _ => ⟨rfl, rfl⟩, id⟩

/-- What follows for the channel when the leaves leave RAISED (R179). -/
structure LeavesRaised (s t : State) : Prop where
  turn : ∀ d : Side, s.csu.phase = .turn → s.csu.current = some d →
    t.csu.phase = .ended ∧ t.csu.current = none ∧ t.csu.result = .goWithdrawn ∧ t.aspect d = .stop ∧
    t.csu.sides = s.goEnded d .withdrawn ∧
    t.csu.window = none ∧ t.csu.horn = 500 ∧ t.csu.sealTimer = some 0 ∧ t.csu.sealed = false ∧
    (t.cl.latched &&& 0x200) ≠ 0 ∧
    (s.psc.batch.state = .running → t.psc.batch.state = .closing ∧ t.aspect d.other = .stop) ∧
    (s.psc.batch.state ≠ .running → t.psc = s.psc ∧ t.aspect d.other = s.aspect d.other)
  changeover : s.csu.phase = .changeover →
    t.csu = { s.csu with phase := .ended, current := none, result := .goWithdrawn, aspects := ⟨.stop, .stop⟩
                         changeover := none, window := t.csu.window } ∧
    (t.cl.latched &&& 0x200) ≠ 0 ∧
    (s.psc.batch.state = .running → t.psc.batch.state = (if s.csu.sealed then .closed else .closing)) ∧
    (s.psc.batch.state ≠ .running → t.psc = s.psc)
  rests : s.csu.phase = .idle ∨ s.csu.phase = .ended → t.csu = s.csu ∧ t.psc = s.psc

/-- What leaves the channel alone before and after changes nothing of this. -/
theorem LeavesRaised.of_same {s' t' : State} (h : LeavesRaised s t) (hc : s.csu = s'.csu) (hp : s.psc = s'.psc) (hb : s.tb = s'.tb)
    (kc : t.csu = t'.csu) (kp : t.psc = t'.psc) (kl : (t.cl.latched &&& 0x200) ≠ 0 → (t'.cl.latched &&& 0x200) ≠ 0) :
    LeavesRaised s' t' := by
  obtain ⟨h1, h2, h3⟩ := h
  unfold State.goEnded State.aspect at *
  rw [hc, hp, hb, kc, kp] at h1
  rw [hc, hp, kc, kp] at h2 h3
  refine ⟨fun d hd hcur => ?_, fun hd => ?_, h3⟩
  · obtain ⟨g1, g2, g3, g4, g5, g6, g7, g8, g9, g10, g11⟩ := h1 d hd hcur
    exact ⟨g1, g2, g3, g4, g5, g6, g7, g8, g9, kl g10, g11⟩
  · obtain ⟨g1, g2, g3⟩ := h2 hd
    exact ⟨g1, kl g2, g3⟩

theorem aspect_set_self (c : Csu) (d : Side) (x : Aspect) : (c.aspects.set d x).get d = x := by cases d <;> rfl
theorem aspect_set_other (c : Csu) (d : Side) (x : Aspect) : (c.aspects.set d x).get d.other = c.aspects.get d.other := by
  cases d <;> rfl
theorem aspect_stop (d : Side) : (⟨Aspect.stop, Aspect.stop⟩ : PerSide Aspect).get d = .stop := by cases d <;> rfl

theorem leavesLeftRaised_leaves (s : State) : LeavesRaised s (leavesLeftRaised s) := by
  refine ⟨fun d hp hc => ?_, fun hp => ?_, fun hp => ?_⟩
  · have e : leavesLeftRaised s = withdrawGo d s := by unfold leavesLeftRaised; rw [hp, hc]
    obtain ⟨w, hw, hcsu, hpsc, hlat⟩ := withdrawGo_eq d s
    rw [e, hw]
    obtain ⟨h1, h2, h3, h4⟩ := turnsOver_ended (s := w) (by rw [hcsu]; rfl)
    rw [hpsc, hcsu] at h2 h3
    generalize turnsOver w = v at *
    have hrest : v.csu.phase = .ended ∧ v.csu.current = none ∧ v.csu.result = .goWithdrawn ∧ v.aspect d = .stop ∧
        v.csu.sides = s.goEnded d .withdrawn ∧ v.csu.window = none ∧ v.csu.horn = 500 ∧ v.csu.sealTimer = some 0 ∧
        v.csu.sealed = false := by
      unfold State.aspect
      rcases h1 with h1 | h1 <;> rw [h1, hcsu]
      · exact ⟨rfl, rfl, rfl, aspect_set_self _ d _, rfl, rfl, rfl, rfl, rfl⟩
      · exact ⟨rfl, rfl, rfl, aspect_stop d, rfl, rfl, rfl, rfl, rfl⟩
    obtain ⟨g1, g2, g3, g4, g5, g6, g7, g8, g9⟩ := hrest
    refine ⟨g1, g2, g3, g4, g5, g6, g7, g8, g9, h4 hlat, fun hr => ?_, fun hr => ?_⟩
    · obtain ⟨k1, k2⟩ := h2 hr
      exact ⟨k2, by unfold State.aspect; rw [k1]; exact aspect_stop _⟩
    · obtain ⟨k1, k2⟩ := h3 hr
      exact ⟨k1, by unfold State.aspect; rw [k2]; exact aspect_set_other _ d _⟩
  · have e : leavesLeftRaised s =
        turnsOver (latch .batch (endPhase .goWithdrawn (showStop (s.onCsu fun c => { c with changeover := none })))) := by
      unfold leavesLeftRaised; rw [hp]
    obtain ⟨w, hw, hcsu, hpsc, hlat⟩ := giveUp_eq s
    rw [e, hw]
    obtain ⟨h1, h2, h3, h4⟩ := turnsOver_ended (s := w) (by rw [hcsu]; rfl)
    rw [hpsc, hcsu] at h2 h3
    refine ⟨?_, h4 hlat, fun hr => (h2 hr).2, fun hr => (h3 hr).1⟩
    rcases h1 with h1 | h1 <;> rw [h1, hcsu] <;> rfl
  · have e : leavesLeftRaised s = s := by
      unfold leavesLeftRaised
      rcases hp with hp | hp <;> rw [hp]
    rw [e]
    exact ⟨rfl, rfl⟩

theorem trip_leaves (c : TripCause) (h : s.lmc.leaf = .raised) : LeavesRaised s (trip c s) := by
  obtain ⟨-, hcsu, hpsc, htb⟩ := tripped_told c s
  unfold trip
  dsimp only at hcsu hpsc htb ⊢
  generalize latch .trip _ = v at hcsu hpsc htb ⊢
  rw [if_pos h]
  exact (leavesLeftRaised_leaves v).of_same hcsu hpsc htb rfl rfl id

theorem beginLower_leaves (h : s.lmc.leaf = .raised) : LeavesRaised s (beginLower s) := by
  have h1 := setLeaf_away (s := beginMotion .lower .seat 0 s) (l := .lowering) (by show s.lmc.leaf ≠ _; rw [h]; nofun) (by decide)
  have h2 := prepareLowering_eq (setLeaf .lowering (beginMotion .lower .seat 0 s)) (by rw [h1]; exact nofun) (by rw [h1])
  have hsame : (prepareLowering (setLeaf .lowering (beginMotion .lower .seat 0 s))).csu = s.csu ∧
      (prepareLowering (setLeaf .lowering (beginMotion .lower .seat 0 s))).psc = s.psc ∧
      (prepareLowering (setLeaf .lowering (beginMotion .lower .seat 0 s))).tb = s.tb := by
    rw [h2, h1]; exact ⟨rfl, rfl, rfl⟩
  obtain ⟨hcsu, hpsc, htb⟩ := hsame
  unfold beginLower
  generalize prepareLowering (setLeaf .lowering (beginMotion .lower .seat 0 s)) = v at *
  dsimp only
  rw [if_pos h]
  exact (leavesLeftRaised_leaves v).of_same hcsu hpsc htb rfl rfl id

/-! ### Trips and RAISED left, over all commands -/

/-- A reset command that finds and leaves the part in the run changes nothing, but for the soft reset. -/
theorem exec_reset_run {c : Instr} (hc : resets c = true) (hn : c ≠ .softResetEffect) (hs : s.running = true)
    (h : exec c s = .next t) (ht : t.running = true) : t = s := by
  have hrun : s.tb.phase = .run := running_iff.mp hs
  have hphase : t.tb.phase = .run := running_iff.mp ht
  cases c <;> first
    | (cases hc; done)
    | (obtain rfl := Host.Outcome.next.inj h)
  case powerOn => cases hphase
  case supplyLoss => cases hphase
  case hardResetAssert => rw [hrun] at hphase; cases hphase
  case hardResetRelease => exact if_neg (by rw [hrun]; nofun)
  case startupEnd => exact if_neg (by rw [hrun]; nofun)
  case softResetEffect => exact absurd rfl hn

/-- A byte moves the framer and its counters alone, or ends a good frame that is dispatched. -/
theorem receiveByte_cases (b : Byte) (s : State) :
    (∃ cl, receiveByte b s = { s with cl := cl }) ∨ ∃ body, receiveByte b s = dispatch body (setFramer .hunt s) := by
  unfold receiveByte
  split
  · split
    · split
      · exact .inl ⟨_, rfl⟩
      · exact .inl ⟨s.cl, rfl⟩
    · unfold takeLength
      split
      · exact .inl ⟨_, rfl⟩
      · exact .inl ⟨_, rfl⟩
    · unfold takeBody
      split
      · exact .inl ⟨_, rfl⟩
      · exact .inl ⟨_, rfl⟩
    · exact .inl ⟨_, rfl⟩
    · unfold frameDone
      dsimp only
      split
      · exact .inl ⟨_, rfl⟩
      · split
        · exact .inl ⟨_, rfl⟩
        · split
          · exact .inr ⟨_, rfl⟩
          · exact .inl ⟨_, rfl⟩
  · exact .inl ⟨s.cl, rfl⟩

/-- What holds of a state with another link record and of a dispatch holds of every byte's end. -/
theorem receiveByte_holds {P : State → Prop} (b : Byte) (hl : ∀ cl, P { s with cl := cl })
    (hd : ∀ body, P (dispatch body (setFramer .hunt s))) : P (receiveByte b s) := by
  rcases receiveByte_cases b s with ⟨cl, h⟩ | ⟨body, h⟩
  · rw [h]; exact hl cl
  · rw [h]; exact hd body

theorem inRun_told {f : State → State} (h : TripTold s) (hf : TripTold (f s)) : TripTold (inRun f s) := by
  unfold inRun; split
  · exact hf
  · exact h

theorem exec_told {c : Instr} (hs : s.running = true) (hl : s.lmc.leaf ≠ .tripped) (hc : c ≠ .softResetEffect)
    (h : exec c s = .next t) (ht : t.running = true) : TripTold t := by
  have hbyte (b : Byte) : TripTold (receiveByte b s) :=
    receiveByte_holds b (fun _ => .untripped hl) fun body => dispatch_told body hl
  cases hr : resets c
  · have hreach := exec_reach h hr
    have next {v : State} (k : TripTold v) (e : exec c s = .next v) : TripTold t := by
      obtain rfl := Host.Outcome.next.inj (e.symm.trans h); exact k
    cases hi : c.isRequest
    · have hpress (g : Leaf) : TripTold (setPressure g false s) := .untripped hl
      cases c
      case pressureOkReleased g => exact next (inRun_told (hpress g) (pressureLost_told g (hpress g))) rfl
      case pumpReady g => exact next (inRun_told (.untripped hl) (provePump_told g (.untripped hl))) rfl
      case pumpStartLimitExpiry g => exact next (inRun_told (.untripped hl) (expirePump_told g (.untripped hl))) rfl
      case standbyExpiry => exact next (inRun_told (.untripped hl) (expireStandby_told (.untripped hl))) rfl
      case controlPeriod => exact next (inRun_told (.untripped hl) (controlPeriod_told hl)) rfl
      case estopAsserted => exact next (inRun_told (s := setEstop true s) (.untripped hl) (takeEstop_told hl)) rfl
      case consoleByteReceived b => exact next (hbyte b) rfl
      case frameComplete b =>
        refine next (v := if s.awaitsLast then receiveByte b s else s) ?_ rfl
        split
        · exact hbyte b
        · exact .untripped hl
      case lengthByteError b =>
        refine next (v := if s.awaitsLength && (decide (b.toNat = 0) || decide (250 < b.toNat)) then receiveByte b s else s) ?_ rfl
        split
        · exact hbyte b
        · exact .untripped hl
      all_goals first
        | cases hi; done
        | cases hr; done
        | exact .untripped (hreach.untripped (by dsimp only [kinds]; decide) hl)
    · exact next (serveCommand_told c hl) (exec_request hi s)
  · rw [exec_reset_run hr hc hs h ht]
    exact .untripped hl

/-- What leaves RAISED does so as R179 says. -/
def RaisedLeft (s t : State) : Prop := t.lmc.leaf ≠ .raised → LeavesRaised s t

theorem serve_raisedLeft {q : Request} {op : State → State × Verdict} (h : s.lmc.leaf = .raised)
    (hop : RaisedLeft s (op s).1) : RaisedLeft s (serve q op s) := by
  cases ht : s.taking
  · rw [serve_untaken ht]
    split
    · exact fun hn => absurd h hn
    · exact fun hn => absurd h hn
  · cases ha : admission q s with
    | none =>
      rw [serve_allows ⟨ht, ha⟩]
      exact fun hn => (hop hn).of_same rfl rfl rfl rfl rfl id
    | some r =>
      rw [serve_refuses ht ha, latchIf_eq]
      exact fun hn => absurd h hn

theorem lowerOp_raisedLeft (h : s.lmc.leaf = .raised) : RaisedLeft s (lowerOp s).1 := by
  unfold lowerOp
  rw [h]
  dsimp only
  split
  · exact fun hn => absurd h hn
  · exact fun _ => beginLower_leaves h

theorem serveCommand_raisedLeft (i : Instr) (h : s.lmc.leaf = .raised) : RaisedLeft s (serveCommand i s) := by
  cases hi : i.isRequest
  · rw [serveCommand_event hi]; exact fun hn => absurd h hn
  · have hreach := exec_reach (exec_request hi s) (by cases i <;> first | rfl | cases hi)
    cases i
    case lower => exact serve_raisedLeft h (lowerOp_raisedLeft h)
    all_goals first
      | cases hi; done
      | exact fun hn => absurd (hreach.stays_raised (by dsimp only [kinds]; decide) h) hn

theorem dispatch_raisedLeft (body : List Byte) (h : s.lmc.leaf = .raised) : RaisedLeft s (dispatch body s) := by
  unfold dispatch
  split
  · exact fun hn => absurd h hn
  · exact fun hn => absurd h hn
  · exact serveCommand_raisedLeft _ h
  · exact serve_raisedLeft h fun hn => absurd ((armServiceOp_reach _ _ s).stays_raised (by decide) h) hn
  · exact serve_raisedLeft h fun hn => absurd ((zoneBypassOp_reach _ _ s).stays_raised (by decide) h) hn
  · exact serve_raisedLeft h fun hn => absurd h hn

theorem controlPeriod_raisedLeft (h : s.lmc.leaf = .raised) : RaisedLeft s (controlPeriod s) := by
  unfold controlPeriod
  split
  · exact fun _ => trip_leaves _ h
  · rw [if_neg (by rw [h]; exact fun hn => by cases hn.1)]
    exact fun hn => absurd h hn

theorem takeEstop_raisedLeft (h : s.lmc.leaf = .raised) : RaisedLeft s (takeEstop s) := by
  have hr := estopReported_reach s
  have hl := hr.stays_raised (by decide) h
  rw [takeEstop_eq]
  unfold testTrip
  split
  · exact fun _ => (trip_leaves _ hl).of_same (hr.csu_eq (by decide)) (hr.psc_eq (by decide)) (hr.tb_eq (by decide)) rfl rfl id
  · exact fun hn => absurd hl hn

theorem exec_raisedLeft {c : Instr} (hs : s.running = true) (hl : s.lmc.leaf = .raised) (hc : c ≠ .softResetEffect)
    (h : exec c s = .next t) (ht : t.running = true) : RaisedLeft s t := by
  have hbyte (b : Byte) : RaisedLeft s (receiveByte b s) :=
    receiveByte_holds (P := RaisedLeft s) b (fun _ hn => absurd hl hn) fun body hn =>
      (dispatch_raisedLeft (s := setFramer .hunt s) body hl hn).of_same rfl rfl rfl rfl rfl id
  cases hr : resets c
  · have hreach := exec_reach h hr
    have next {v : State} (k : RaisedLeft s v) (e : exec c s = .next v) : RaisedLeft s t := by
      obtain rfl := Host.Outcome.next.inj (e.symm.trans h); exact k
    cases hi : c.isRequest
    · cases c
      case controlPeriod =>
        refine next (v := controlPeriod s) (controlPeriod_raisedLeft hl) (exec_run rfl hs rfl)
      case estopAsserted =>
        refine next (v := takeEstop (setEstop true s)) (fun hn => ?_) (exec_run rfl (v := setEstop true s) hs rfl)
        exact (takeEstop_raisedLeft (s := setEstop true s) hl hn).of_same rfl rfl rfl rfl rfl id
      case consoleByteReceived b => exact next (hbyte b) rfl
      case frameComplete b =>
        refine next (v := if s.awaitsLast then receiveByte b s else s) ?_ rfl
        split
        · exact hbyte b
        · exact fun hn => absurd hl hn
      case lengthByteError b =>
        refine next (v := if s.awaitsLength && (decide (b.toNat = 0) || decide (250 < b.toNat)) then receiveByte b s else s) ?_ rfl
        split
        · exact hbyte b
        · exact fun hn => absurd hl hn
      all_goals first
        | cases hi; done
        | cases hr; done
        | exact fun hn => absurd (hreach.stays_raised (by dsimp only [kinds]; decide) hl) hn
    · exact next (serveCommand_raisedLeft c hl) (exec_request hi s)
  · rw [exec_reset_run hr hc hs h ht]
    exact fun hn => absurd hl hn

/-! ### Commands to the arms while ESTOP is asserted (R41, R51) -/

/-- An arm that ESTOP has stalled. -/
def EstopStalled (r : Arm) : Prop := r.state = .stalled ∧ r.cause = some .estop ∧ r.relowerPending = false

theorem EstopStalled.stops (h : EstopStalled (s.arm a)) : (s.arm a).stopsOnEstop = false := by
  simp [Arm.stopsOnEstop, Arm.moving, h.1]
theorem EstopStalled.strayed (h : EstopStalled (s.arm a)) : (s.arm a).strayed = true :=
  arm_strayed_iff.mpr ⟨by rw [h.1]; nofun, by rw [h.1]; exact fun hn => by cases hn.1⟩
theorem EstopStalled.unheld (h : EstopStalled (s.arm a)) : s.allHeld allArms = false :=
  allHeld_false.mpr ⟨a, mem_allArms a, h.strayed⟩

/-- No arm moves or is UP with a re-lowering pending. -/
def Quiet (s : State) : Prop := ∀ k, (s.arm k).stopsOnEstop = false

/-- What commands under ESTOP leave: an arm as it was or stalled by it, and LOCKPOWER as it was latched. -/
structure Quench (s t : State) : Prop where
  pins : t.pins = s.pins
  apu : t.apu = s.apu
  arm : ∀ k, t.arm k = s.arm k ∨ EstopStalled (t.arm k)
  lock : t.cl.latched.getLsbD 5 = s.cl.latched.getLsbD 5

theorem Quench.refl (s : State) : Quench s s := ⟨rfl, rfl, fun _ => .inl rfl, rfl⟩
theorem Quench.trans (h : Quench s t) (k : Quench t u) : Quench s u :=
  ⟨k.pins.trans h.pins, k.apu.trans h.apu, fun j => by
    rcases k.arm j with e | e
    · rw [e]; exact h.arm j
    · exact .inr e, k.lock.trans h.lock⟩
theorem Quench.of_arms (hp : t.pins = s.pins) (ha : t.apu = s.apu) (hb : t.bzu.arms = s.bzu.arms)
    (hl : t.cl.latched.getLsbD 5 = s.cl.latched.getLsbD 5) : Quench s t :=
  ⟨hp, ha, fun k => .inl (by unfold State.arm; rw [hb]), hl⟩
theorem Quench.quiet (h : Quench s t) (hq : Quiet s) : Quiet t := fun k => by
  rcases h.arm k with e | e
  · rw [e]; exact hq k
  · exact e.stops
theorem Quench.stalled (h : Quench s t) (hk : EstopStalled (s.arm k)) : EstopStalled (t.arm k) := by
  rcases h.arm k with e | e
  · rw [e]; exact hk
  · exact e

theorem stallArm_stalled (s : State) : EstopStalled ((stallArm a .estop s).arm a) := by
  rw [stallArm_arm]; exact ⟨rfl, rfl, rfl⟩

theorem stallArm_lock (c : ArmCause) (s : State) : (stallArm a c s).cl.latched.getLsbD 5 = s.cl.latched.getLsbD 5 := by
  rw [stallArm_eq]
  show ((s.cl.latched ||| 2 : Half)).getLsbD 5 = _
  rw [BitVec.getLsbD_or, show (2 : Half).getLsbD 5 = false from rfl, Bool.or_false]

theorem stallStroke_quench (way : ArmWay) (x : ArmStart) (s : State) : Quench s (stallArm a .estop (setupStroke a way x s)) := by
  refine ⟨rfl, rfl, fun k => ?_, stallArm_lock _ _⟩
  by_cases hk : k = a
  · subst hk; exact .inr (stallArm_stalled _)
  · exact .inl (by rw [stallArm_ne hk, setupStroke_ne hk])

theorem startLowering_quench (x : ArmStart) (he : s.pins.estop = true) : Quench s (startLowering a x s) := by
  cases hr : s.apu.restart
  · rw [startLowering_stopped x hr (c := .estop) (meetStart_estop he)]
    exact stallStroke_quench _ x s
  · have e : startLowering a x s = s := if_pos hr
    rw [e]; exact .refl s
theorem startRaising_quench (x : ArmStart) (he : s.pins.estop = true) : Quench s (startRaising a x s) := by
  unfold startRaising
  split
  · exact .refl s
  · rw [meetStart_estop (s := setupStroke a .raise x s) he]
    exact stallStroke_quench _ x s

theorem lowerSubject_quench (he : s.pins.estop = true) : Quench s (lowerSubject a s).1 := by
  unfold lowerSubject
  split
  · exact .refl s
  · split
    · exact .refl s
    · exact startLowering_quench _ he
theorem commandLower_quench (he : s.pins.estop = true) : Quench s (commandLower a s).1 := by
  unfold commandLower
  split
  · split
    · exact .refl s
    · exact lowerSubject_quench he
  · exact .refl s
  · split
    · exact lowerSubject_quench he
    · exact .refl s
  · exact lowerSubject_quench he
  · exact lowerSubject_quench he
  · exact .refl s

theorem commandLowers_quench (p : Arm → Bool) (l : List (Fin 8)) (he : s.pins.estop = true) : Quench s (commandLowers p l s).1 := by
  have h (r : State × Bool) (hr : Quench s r.1) : Quench s (l.foldl (fun (r : State × Bool) a =>
      if p (r.1.arm a) then ((commandLower a r.1).1, r.2 || (commandLower a r.1).2) else r) r).1 := by
    induction l generalizing r with
    | nil => exact hr
    | cons b l ih =>
      rw [List.foldl_cons]
      refine ih _ ?_
      split
      · exact hr.trans (commandLower_quench (by rw [hr.pins]; exact he))
      · exact hr
  exact h (s, false) (.refl s)

/-- A command that R43 would hold changes no exit arm. -/
theorem commandLower_deckHeld (hx : isExit a = true) (hd : s.deckCondition = false) : (commandLower a s).1 = s := by
  have e : (lowerSubject a s).1 = s := by
    unfold lowerSubject
    split
    · rfl
    · rw [if_pos ⟨hx, hd⟩]
  unfold commandLower
  split
  · split
    · rfl
    · exact e
  · rfl
  · split
    · exact e
    · rfl
  · exact e
  · exact e
  · rfl
theorem commandLowers_deckHeld (p : Arm → Bool) (hd : s.deckCondition = false) : (commandLowers p exitArms s).1 = s := by
  have h (l : List (Fin 8)) (hl : ∀ a ∈ l, isExit a = true) (r : State × Bool) (hr : r.1 = s) :
      (l.foldl (fun (r : State × Bool) a =>
        if p (r.1.arm a) then ((commandLower a r.1).1, r.2 || (commandLower a r.1).2) else r) r).1 = s := by
    induction l generalizing r with
    | nil => exact hr
    | cons b l ih =>
      rw [List.foldl_cons]
      refine ih (fun a ha => hl a (List.mem_cons_of_mem b ha)) _ ?_
      split
      · exact (commandLower_deckHeld (hl b List.mem_cons_self) (by rw [hr]; exact hd)).trans hr
      · exact hr
  exact h exitArms (fun a ha => exit_iff.mpr ha) (s, false) rfl

theorem setRoad_quench (st : RoadState) (s : State) : Quench s (setRoad st s) ∧ (setRoad st s).rcs.road = st ∧
    (setRoad st s).rcs.entryRaising = s.rcs.entryRaising := by
  obtain ⟨p, hp⟩ := setRoad_eq st s
  rw [hp]
  refine ⟨.of_arms rfl rfl rfl ?_, rfl, rfl⟩
  show ((s.cl.latched ||| 1 : Half)).getLsbD 5 = _
  rw [BitVec.getLsbD_or, show (1 : Half).getLsbD 5 = false from rfl, Bool.or_false]

/-- Where no arm moves, a held command that is taken as an occupation reverses none (R69). -/
theorem reverseSecuring_quiet (hq : Quiet s) : Quench s (reverseSecuring s) ∧ (reverseSecuring s).rcs.road = .clearing ∧
    ∀ k, (reverseSecuring s).arm k = s.arm k := by
  have h1 : Quench s (viewDeck (latch .deck s)) := by
    refine .of_arms rfl rfl rfl ?_
    show ((s.cl.latched ||| Condition.deck.bit : Half)).getLsbD 5 = _
    rw [BitVec.getLsbD_or, show Condition.deck.bit.getLsbD 5 = false from rfl, Bool.or_false]
  have h2 : commandRaises Arm.reverses exitArms (viewDeck (latch .deck s)) = viewDeck (latch .deck s) :=
    commandRaises_none fun k _ => by
      refine Bool.eq_false_iff.mpr fun hn => Bool.eq_false_iff.mp (hq k) ?_
      have : (s.arm k).reverses = true := hn
      rcases arm_reverses_iff.mp this with h | ⟨h, hp⟩
      · simp [Arm.stopsOnEstop, Arm.moving, h]
      · simp [Arm.stopsOnEstop, h, hp]
  unfold reverseSecuring
  dsimp only
  rw [h2]
  obtain ⟨h3, hr, -⟩ := setRoad_quench .clearing (viewDeck (latch .deck s))
  have harm (k : Fin 8) : (setRoad .clearing (viewDeck (latch .deck s))).arm k = s.arm k := by
    obtain ⟨p, hp⟩ := setRoad_eq .clearing (viewDeck (latch .deck s))
    rw [hp]; rfl
  generalize setRoad .clearing (viewDeck (latch .deck s)) = v at h3 hr harm ⊢
  exact ⟨(h1.trans h3).trans (.of_arms rfl rfl rfl rfl), hr, harm⟩

/-- SECURING entered under ESTOP with an arm stalled: it stays there, or the road is CLEARING with no arm changed. -/
theorem enterSecuring_quench (he : s.pins.estop = true) (hq : Quiet s) (ha : EstopStalled (s.arm a)) :
    Quench s (enterSecuring s) ∧ ((enterSecuring s).rcs.road = .securing ∨
      (enterSecuring s).rcs.road = .clearing ∧ ∀ k, (enterSecuring s).arm k = s.arm k) := by
  obtain ⟨h0, hroad, -⟩ := setRoad_quench .securing s
  have harm (k : Fin 8) : (setRoad .securing s).arm k = s.arm k := by
    obtain ⟨p, hp⟩ := setRoad_eq .securing s
    rw [hp]; rfl
  have hv : ∃ v, enterSecuring s = (if (commandLowers Arm.strayed exitArms v).2 then
      reverseSecuring (commandLowers Arm.strayed exitArms v).1 else testSecured (commandLowers Arm.strayed exitArms v).1) ∧
      Quench s v ∧ v.rcs.road = .securing ∧ ∀ k, v.arm k = s.arm k :=
    ⟨(setStep .none (setRoad .securing s)).onRcs fun r => { r with limitPassed := false }, rfl,
      h0.trans (.of_arms rfl rfl rfl rfl), hroad, harm⟩
  obtain ⟨v, hv, h1, hr, hk⟩ := hv
  have hev : v.pins.estop = true := by rw [h1.pins]; exact he
  rw [hv]
  by_cases hd : v.deckCondition = true
  · have h2 := commandLowers_quench Arm.strayed exitArms hev
    have hr2 : (commandLowers Arm.strayed exitArms v).1.rcs.road = .securing := by
      rw [(commandLowers_reach Arm.strayed exitArms v).rcs_eq (by decide)]; exact hr
    rw [commandLowers_unheld _ _ hd]
    generalize (commandLowers Arm.strayed exitArms v).1 = w at h2 hr2 ⊢
    rw [if_neg nofun, testSecured_waits ((h1.trans h2).stalled ha).unheld]
    exact ⟨h1.trans h2, .inl hr2⟩
  · rw [commandLowers_deckHeld _ (Bool.eq_false_iff.mpr hd)]
    split
    · obtain ⟨h3, hr3, hk3⟩ := reverseSecuring_quiet (h1.quiet hq)
      exact ⟨h1.trans h3, .inr ⟨hr3, fun k => (hk3 k).trans (hk k)⟩⟩
    · rw [testSecured_waits (h1.stalled ha).unheld]
      exact ⟨h1, .inl hr⟩

/-! ### An arm's report while ESTOP is asserted (R51, R66 to R76) -/

/-- An arm's report in REOPENING raises the entry arms (R74). -/
def State.raisesEntries (s : State) : Prop := s.rcs.road = .reopening ∧ s.rcs.entryRaising = false ∧ s.allUp exitArms = true

/-- How far the road goes while an arm is STALLED: from STOPPING to CLEARING to SECURING, and from SECURED to BREACHED. -/
def roadDepth : RoadState → Nat
  | .clearing => 1
  | .securing => 2
  | .breached => 1
  | .opened | .prewarn | .stopping | .secured | .reopening | .unknown => 0

/-- What the report of a stalled arm leaves under ESTOP. -/
structure EstopTold (s t : State) : Prop where
  pins : t.pins = s.pins
  apu : t.apu = s.apu
  quiet : Quiet t
  stalled : ∀ k, EstopStalled (s.arm k) → EstopStalled (t.arm k)
  unraised : ¬s.raisesEntries → ¬t.raisesEntries
  arm : ¬s.raisesEntries → ∀ k, t.arm k = s.arm k ∨ EstopStalled (t.arm k)
  road : ¬s.raisesEntries → (t.rcs.road = s.rcs.road ∧ ∀ k, t.arm k = s.arm k) ∨ roadDepth s.rcs.road < roadDepth t.rcs.road
  lock : t.cl.latched.getLsbD 5 = s.cl.latched.getLsbD 5
  bolts : t.lpu.bolts = s.lpu.bolts
  pumps : t.lpu.pumps = s.lpu.pumps
  kind : t.lpu.seqKind = s.lpu.seqKind ∨ t.lpu.seqKind = .none
  step : t.lpu.seqStep = s.lpu.seqStep
  leaf : s.lmc.leaf ≠ .seatedLocked → t.lmc.leaf ≠ .seatedLocked

theorem EstopTold.refl (hq : Quiet s) : EstopTold s s :=
  ⟨rfl, rfl, hq, fun _ h => h, id, fun _ _ => .inl rfl, fun _ => .inl ⟨rfl, fun _ => rfl⟩, rfl, rfl, rfl, .inl rfl, rfl, id⟩

theorem EstopTold.trans (h : EstopTold s t) (k : EstopTold t u) : EstopTold s u where
  pins := k.pins.trans h.pins
  apu := k.apu.trans h.apu
  quiet := k.quiet
  stalled j hj := k.stalled j (h.stalled j hj)
  unraised hn := k.unraised (h.unraised hn)
  arm hn j := by
    rcases k.arm (h.unraised hn) j with e | e
    · rw [e]; exact h.arm hn j
    · exact .inr e
  road hn := by
    rcases h.road hn with ⟨h1, h2⟩ | h1 <;> rcases k.road (h.unraised hn) with ⟨k1, k2⟩ | k1
    · exact .inl ⟨k1.trans h1, fun j => (k2 j).trans (h2 j)⟩
    · exact .inr (by rw [← h1]; exact k1)
    · exact .inr (by rw [k1]; exact h1)
    · exact .inr (h1.trans k1)
  lock := k.lock.trans h.lock
  bolts := k.bolts.trans h.bolts
  pumps := k.pumps.trans h.pumps
  kind := by
    rcases k.kind with e | e
    · rw [e]; exact h.kind
    · exact .inr e
  step := k.step.trans h.step
  leaf hn := k.leaf (h.leaf hn)

/-- Commands outside a reopening leave this. -/
theorem Quench.told (h : Quench s t) (hq : Quiet s) (hlpu : t.lpu = s.lpu) (hlmc : t.lmc = s.lmc) (hr : t.rcs.road ≠ .reopening)
    (hroad : (t.rcs.road = s.rcs.road ∧ ∀ k, t.arm k = s.arm k) ∨ roadDepth s.rcs.road < roadDepth t.rcs.road) : EstopTold s t where
  pins := h.pins
  apu := h.apu
  quiet := h.quiet hq
  stalled _ := h.stalled
  unraised _ hn := hr hn.1
  arm _ := h.arm
  road _ := hroad
  lock := h.lock
  bolts := by rw [hlpu]
  pumps := by rw [hlpu]
  kind := .inl (by rw [hlpu])
  step := by rw [hlpu]
  leaf hn := by rw [hlmc]; exact hn

theorem testSecuring_told (he : s.pins.estop = true) (hq : Quiet s) (ha : EstopStalled (s.arm a)) (hr : s.rcs.road = .clearing) :
    EstopTold s (testSecuring s) := by
  have hreach := testSecuring_reach s
  have hlpu : (testSecuring s).lpu = s.lpu := hreach.lpu_eq (by decide)
  have hlmc : (testSecuring s).lmc = s.lmc := hreach.lmc_eq (by decide)
  unfold testSecuring at hlpu hlmc ⊢
  split
  · next hc =>
    rw [if_pos hc] at hlpu hlmc
    obtain ⟨h1, h2⟩ := enterSecuring_quench he hq ha
    refine h1.told hq hlpu hlmc ?_ ?_
    · rcases h2 with h2 | ⟨h2, -⟩ <;> rw [h2] <;> nofun
    · rcases h2 with h2 | ⟨h2, h3⟩
      · right; rw [h2, hr]; decide
      · exact .inl ⟨h2.trans hr.symm, h3⟩
  · exact .refl hq

theorem testClearing_told (he : s.pins.estop = true) (hq : Quiet s) (ha : EstopStalled (s.arm a)) (hr : s.rcs.road = .stopping) :
    EstopTold s (testClearing s) := by
  unfold testClearing
  split
  · obtain ⟨p, hp⟩ := enterClearing_eq (s := s) (by rw [hr]; nofun)
    rw [hp]
    have h1 : Quench s { s with
        rcs := { s.rcs with road := .clearing, stepTimer := .clearanceLimit, stepElapsed := 0, entryLowering := false, limitPassed := false }
        cl := { s.cl with latched := s.cl.latched ||| 1 }, phu := { s.phu with proving := p } } := by
      refine .of_arms rfl rfl rfl ?_
      show ((s.cl.latched ||| 1 : Half)).getLsbD 5 = _
      rw [BitVec.getLsbD_or, show (1 : Half).getLsbD 5 = false from rfl, Bool.or_false]
    have h2 := h1.told hq rfl rfl nofun (.inr (by rw [hr]; exact (by decide : roadDepth .stopping < roadDepth .clearing)))
    exact h2.trans (testSecuring_told (a := a) he h2.quiet (h1.stalled ha) rfl)
  · exact .refl hq

/-- What the LMC makes of a breach, but for its leaf state and motion (R102, R113). -/
theorem reportBreach_locks (s : State) : (reportBreach s).lpu.bolts = s.lpu.bolts ∧ (reportBreach s).lpu.pumps = s.lpu.pumps ∧
    ((reportBreach s).lpu.seqKind = s.lpu.seqKind ∨ (reportBreach s).lpu.seqKind = .none) ∧
    (reportBreach s).lpu.seqStep = s.lpu.seqStep ∧ (s.lmc.leaf ≠ .seatedLocked → (reportBreach s).lmc.leaf ≠ .seatedLocked) ∧
    (reportBreach s).cl.latched.getLsbD 5 = s.cl.latched.getLsbD 5 := by
  have hleaf (v : State) : (latch .leaf v).cl.latched.getLsbD 5 = v.cl.latched.getLsbD 5 := by
    show ((v.cl.latched ||| Condition.leaf.bit : Half)).getLsbD 5 = _
    rw [BitVec.getLsbD_or, show Condition.leaf.bit.getLsbD 5 = false from rfl, Bool.or_false]
  by_cases hu : s.lmc.leaf = .unlocking
  · rw [reportBreach_unlocking hu, haltUnlocking_eq (by rw [hu]; nofun)]
    exact ⟨rfl, rfl, .inr rfl, rfl, fun _ => nofun, hleaf _⟩
  · cases hm : s.lmc.leaf.moving
    · rw [reportBreach_rests hu hm]
      exact ⟨rfl, rfl, .inl rfl, rfl, id, rfl⟩
    · rw [reportBreach_moving hm]
      cases hr : s.lmc.motion.atRest
      · rw [beginHalt_moving _ hm hr]
        exact ⟨rfl, rfl, .inl rfl, rfl, id, rfl⟩
      · rw [beginHalt_atRest .breach hm hr (.inl nofun)]
        exact ⟨rfl, rfl, .inl rfl, rfl, fun _ => nofun, hleaf _⟩

theorem enterBreached_told (he : s.pins.estop = true) (hq : Quiet s) (hr : s.rcs.road = .secured) : EstopTold s (enterBreached s) := by
  obtain ⟨h1, hroad, -⟩ := setRoad_quench .breached s
  have hset : (setRoad .breached s).lpu = s.lpu ∧ (setRoad .breached s).lmc = s.lmc := by
    obtain ⟨p, hp⟩ := setRoad_eq .breached s
    rw [hp]; exact ⟨rfl, rfl⟩
  unfold enterBreached
  generalize setRoad .breached s = v at *
  obtain ⟨hb, hp, hk, hs, hl, hlock⟩ := reportBreach_locks v
  have hreach := reportBreach_reach v
  have h2 : Quench v (reportBreach v) := .of_arms (hreach.pins_eq (by decide)) (hreach.apu_eq (by decide)) (hreach.arms_eq (by decide)) hlock
  have hroad2 : (reportBreach v).rcs.road = .breached := by rw [hreach.rcs_eq (by decide)]; exact hroad
  generalize reportBreach v = w at *
  have hew : w.pins.estop = true := by rw [h2.pins, h1.pins]; exact he
  have hreach3 := commandLowers_reach (fun r => r.strayed && decide (r.state ≠ .stalled)) allArms w
  have h3 := (h1.trans h2).trans (commandLowers_quench (fun r => r.strayed && decide (r.state ≠ .stalled)) allArms hew)
  have hroad3 := (congrArg Rcs.road (hreach3.rcs_eq (by decide))).trans hroad2
  have hlpu := hreach3.lpu_eq (by decide)
  have hlmc := hreach3.lmc_eq (by decide)
  generalize (commandLowers (fun r => r.strayed && decide (r.state ≠ .stalled)) allArms w).1 = x at *
  obtain ⟨hvl, hvm⟩ := hset
  have hdeep : roadDepth s.rcs.road < roadDepth x.rcs.road := by
    rw [hroad3, hr]; exact (by decide : roadDepth .secured < roadDepth .breached)
  exact ⟨h3.pins, h3.apu, h3.quiet hq, fun _ => h3.stalled, (fun _ hn => by rw [State.raisesEntries, hroad3] at hn; cases hn.1),
    fun _ => h3.arm, fun _ => .inr hdeep, h3.lock, (by rw [hlpu, hb, hvl]), (by rw [hlpu, hp, hvl]), (by rw [hlpu, ← hvl]; exact hk),
    (by rw [hlpu, hs, hvl]), fun hn => by rw [hlmc]; exact hl (by rw [hvm]; exact hn)⟩

/-! A reopening -/

/-- A raise command under ESTOP stalls an arm, or ends what waits of an arm that is UP. -/
theorem commandRaise_hush (he : s.pins.estop = true) (b : Fin 8) (hq : Quiet s) : Quiet (commandRaise s b) ∧
    (∀ k, EstopStalled (s.arm k) → EstopStalled ((commandRaise s b).arm k)) ∧ (commandRaise s b).pins = s.pins ∧
    (commandRaise s b).apu = s.apu ∧ (commandRaise s b).cl.latched.getLsbD 5 = s.cl.latched.getLsbD 5 := by
  by_cases hu : (s.arm b).state = .up
  · have e : commandRaise s b = s.onArm b fun r => { r with relowerPending := false, relowerWait := none } := by
      unfold commandRaise; rw [hu]
    rw [e]
    have harm (k : Fin 8) : ((s.onArm b fun r => { r with relowerPending := false, relowerWait := none }).arm k) =
        if k = b then { s.arm b with relowerPending := false, relowerWait := none } else s.arm k := arm_onArm _ _
    refine ⟨fun k => ?_, fun k hk => ?_, rfl, rfl, rfl⟩
    · rw [harm]
      split
      · simp [Arm.stopsOnEstop, Arm.moving, hu]
      · exact hq k
    · rw [harm]
      split
      · next e => subst e; rw [hk.1] at hu; cases hu
      · exact hk
  · have h : Quench s (commandRaise s b) := by
      unfold commandRaise
      split
      · next h => exact absurd h hu
      · exact startRaising_quench _ he
      · exact startRaising_quench _ he
      · exact startRaising_quench _ he
      · exact .refl s
      · exact .refl s
    exact ⟨h.quiet hq, fun _ => h.stalled, h.pins, h.apu, h.lock⟩

theorem commandRaises_hush (p : Arm → Bool) (l : List (Fin 8)) (he : s.pins.estop = true) (hq : Quiet s) :
    Quiet (commandRaises p l s) ∧ (∀ k, EstopStalled (s.arm k) → EstopStalled ((commandRaises p l s).arm k)) ∧
    (commandRaises p l s).pins = s.pins ∧ (commandRaises p l s).apu = s.apu ∧
    (commandRaises p l s).cl.latched.getLsbD 5 = s.cl.latched.getLsbD 5 := by
  unfold commandRaises
  induction l generalizing s with
  | nil => exact ⟨hq, fun _ h => h, rfl, rfl, rfl⟩
  | cons b l ih =>
    rw [List.foldl_cons]
    split
    · obtain ⟨h1, h2, h3, h4, h5⟩ := commandRaise_hush he b hq
      obtain ⟨k1, k2, k3, k4, k5⟩ := ih (s := commandRaise s b) (by rw [h3]; exact he) h1
      exact ⟨k1, fun j hj => k2 j (h2 j hj), k3.trans h3, k4.trans h4, k5.trans h5⟩
    · exact ih he hq

theorem testReopening_told (he : s.pins.estop = true) (hq : Quiet s) (hr : s.rcs.road = .reopening) : EstopTold s (testReopening s) := by
  have hreach := testReopening_reach s
  have hlpu := hreach.lpu_eq (by decide)
  have hlmc := hreach.lmc_eq (by decide)
  rw [testReopening_eq] at hlpu hlmc ⊢
  obtain ⟨x, n, hx, -, -⟩ := runOnStep_eq (entryStep s)
  have hraises : s.raisesEntries ↔ s.rcs.entryRaising = false ∧ s.allUp exitArms = true := and_iff_right hr
  have hstep : Quiet (entryStep s) ∧ (∀ k, EstopStalled (s.arm k) → EstopStalled ((entryStep s).arm k)) ∧
      (entryStep s).pins = s.pins ∧ (entryStep s).apu = s.apu ∧ (entryStep s).cl.latched.getLsbD 5 = s.cl.latched.getLsbD 5 := by
    unfold entryStep
    split
    · exact commandRaises_hush Arm.inService entryArms (s := s.onRcs fun r => { r with entryRaising := true }) he hq
    · exact ⟨hq, fun _ h => h, rfl, rfl, rfl⟩
  have hidle (hn : ¬s.raisesEntries) : entryStep s = s := by
    refine entryStep_idle ?_
    by_contra hc
    simp only [not_or, Bool.not_eq_false, Bool.not_eq_true] at hc
    exact hn (hraises.mpr ⟨hc.2, hc.1⟩)
  obtain ⟨h1, h2, h3, h4, h5⟩ := hstep
  have harm (k : Fin 8) : (runOnStep (entryStep s)).arm k = (entryStep s).arm k := by rw [hx]; rfl
  have hrest : (runOnStep (entryStep s)).pins = (entryStep s).pins ∧ (runOnStep (entryStep s)).apu = (entryStep s).apu ∧
      (runOnStep (entryStep s)).cl = (entryStep s).cl := by rw [hx]; exact ⟨rfl, rfl, rfl⟩
  obtain ⟨g1, g2, g3⟩ := hrest
  refine ⟨g1.trans h3, g2.trans h4, fun k => by rw [harm]; exact h1 k, fun k hk => by rw [harm]; exact h2 k hk, fun hn hr2 => hn ?_,
    fun hn k => .inl (by rw [harm, hidle hn]), fun hn => .inl ⟨?_, fun k => by rw [harm, hidle hn]⟩, by rw [g3]; exact h5,
    by rw [hlpu], by rw [hlpu], .inl (by rw [hlpu]), by rw [hlpu], fun hn => by rw [hlmc]; exact hn⟩
  · rw [hx, hidle hn] at hr2
    exact hr2
  · rw [hx, hidle hn]

/-- The report of an arm that ESTOP has stalled. -/
theorem reportArm_estop (he : s.pins.estop = true) (hq : Quiet s) (ha : EstopStalled (s.arm a)) : EstopTold s (reportArm a s) := by
  have hwants : (s.arm a).wantsLower = false := by simp [Arm.wantsLower, ha.1]
  have hdown : ¬(s.arm a).state = .down := by rw [ha.1]; nofun
  cases hr : s.rcs.road
  case opened => rw [reportArm_opened hr, if_neg hdown]; exact .refl hq
  case prewarn => unfold reportArm; rw [hr]; exact .refl hq
  case unknown => unfold reportArm; rw [hr]; exact .refl hq
  case stopping =>
    unfold reportArm
    rw [hr, hwants, Bool.and_false]
    dsimp only
    split
    · exact testClearing_told he hq ha hr
    · exact .refl hq
  case clearing =>
    rw [reportArm_clearing hr, hwants, Bool.and_false]
    exact testSecuring_told he hq ha hr
  case securing => rw [reportArm_securing_rests hr hwants, testSecured_waits ha.unheld]; exact .refl hq
  case secured => rw [reportArm_secured hr, ha.unheld]; exact enterBreached_told he hq hr
  case breached =>
    rw [reportArm_breached hr, if_neg (by simp [Arm.breachLower, ha.1]), testRestored_waits ha.unheld]
    exact .refl hq
  case reopening =>
    rw [reportArm_reopening hr, if_neg fun hn => hdown hn.1]
    exact testReopening_told he hq hr

theorem reportArms_estop (l : List (Fin 8)) (he : s.pins.estop = true) (hq : Quiet s) (ha : ∀ a ∈ l, EstopStalled (s.arm a)) :
    EstopTold s (l.foldl (fun t a => reportArm a t) s) := by
  induction l generalizing s with
  | nil => exact .refl hq
  | cons b l ih =>
    have h := reportArm_estop he hq (ha b List.mem_cons_self)
    rw [List.foldl_cons]
    exact h.trans (ih (by rw [h.pins]; exact he) h.quiet fun a hl => h.stalled a (ha a (List.mem_cons_of_mem b hl)))

/-! ### LOCKPOWER as the leaves trip (R115) -/

/-- LOCKPOWER stands latched or clear as before. -/
def LockKept (s t : State) : Prop := t.cl.latched.getLsbD 5 = s.cl.latched.getLsbD 5

theorem LockKept.trans (h : LockKept s t) (k : LockKept t u) : LockKept s u := Eq.trans k h
theorem LockKept.of_cl (h : t.cl = s.cl) : LockKept s t := by unfold LockKept; rw [h]
theorem LockKept.of_or {x : Half} (hx : x.getLsbD 5 = false) (h : t.cl.latched = s.cl.latched ||| x) : LockKept s t := by
  unfold LockKept; rw [h, BitVec.getLsbD_or, hx, Bool.or_false]

theorem latchIf_lock (b : Bool) {c : Condition} (hc : c.bit.getLsbD 5 = false) (s : State) : LockKept s (latchIf b c s) := by
  cases b
  · exact .of_cl rfl
  · exact .of_or hc rfl

theorem setBatchState_lock (b : BatchState) (s : State) : LockKept s (setBatchState b s) := by
  obtain ⟨x, hx⟩ := setBatchState_eq b s
  exact .of_or (x := 512) rfl (by rw [hx])

theorem signalsClosing_lock (s : State) : LockKept s (signalsClosing s) := by
  unfold signalsClosing
  dsimp only
  refine .trans ?_ (latchIf_lock _ rfl _)
  refine .of_cl ?_
  have h (v : State) : (endPhase s.csu.result (showStop (v.onCsu fun c => { c with window := none, changeover := none }))).cl = v.cl := by
    obtain ⟨p, hp⟩ := showStop_eq (v.onCsu fun c => { c with window := none, changeover := none })
    rw [hp]; rfl
  rw [h]
  split
  · next d _ _ =>
    obtain ⟨p, hh⟩ := soundHorn_eq 50 (endGo d .closed s)
    rw [hh]; rfl
  · rfl

theorem enterClosing_lock (s : State) : LockKept s (enterClosing s) := by
  have h : LockKept s (signalsClosing (setBatchState .closing (returnItems s))) :=
    (LockKept.trans (congrArg (BitVec.getLsbD · 5) ((returnItems_reach s).latched_eq (by decide))) <| (setBatchState_lock _ _).trans (signalsClosing_lock _))
  unfold enterClosing
  generalize signalsClosing _ = w at h ⊢
  dsimp only
  split
  · exact h.trans ((setBatchState_lock .closed w).trans (.of_cl rfl))
  · exact h

theorem turnsOver_lock (s : State) : LockKept s (turnsOver s) := by
  unfold turnsOver
  split
  · exact enterClosing_lock s
  · exact .of_cl rfl

theorem leavesLeftRaised_lock (s : State) : LockKept s (leavesLeftRaised s) := by
  unfold leavesLeftRaised
  split
  · next d _ _ =>
    obtain ⟨p, hp⟩ := setAspect_eq d .stop (endGo d .withdrawn s)
    obtain ⟨q, hq⟩ := soundHorn_eq 50 (setAspect d .stop (endGo d .withdrawn s))
    unfold withdrawGo
    refine .trans (.trans (.of_cl ?_) (latchIf_lock true (c := .batch) rfl _)) (turnsOver_lock _)
    rw [hq, hp]; rfl
  · obtain ⟨p, hp⟩ := showStop_eq (s.onCsu fun c => { c with changeover := none })
    refine .trans (.trans (.of_cl ?_) (latchIf_lock true (c := .batch) rfl _)) (turnsOver_lock _)
    rw [hp]; rfl
  · exact .of_cl rfl

theorem trip_lock (c : TripCause) (s : State) : LockKept s (trip c s) := by
  generalize hv : (cancelSequence ((zeroReferences s).onMotion
    fun m => { m with halt := .none, awaitingPumps := false })).onLmc (fun l => { l with trip := some c }) = v
  have hcl : v.cl = s.cl := by rw [← hv]; rfl
  have h : LockKept s (latch .trip (setLeaf .tripped v)) := by
    obtain ⟨x, hx⟩ := setLeaf_eq .tripped v
    refine (LockKept.of_cl hcl).trans (.trans (.of_or (x := if v.lmc.leaf = .tripped then 0 else 8) ?_ ?_) (latchIf_lock true (c := .trip) rfl _))
    · split <;> rfl
    · rw [hx]; dsimp only; split <;> simp
  unfold trip
  dsimp only
  rw [hv]
  generalize latch .trip (setLeaf .tripped v) = w at h ⊢
  split
  · exact h.trans (leavesLeftRaised_lock w)
  · exact h

theorem testTrip_lock (s : State) : LockKept s (testTrip s) := by
  unfold testTrip
  split
  · exact trip_lock _ s
  · exact .of_cl rfl

/-! ### What ESTOP cuts before any report is taken (R51, R85, R91; note 43) -/

/-- A bolt that ESTOP has jammed. -/
def EstopJammed (r : Bolt) : Prop := r.state = .jammed ∧ r.cause = some .estop

/-- ESTOP's cuts: the arms of `arms` stalled, the bolts of `bolts` jammed, the groups of `groups` stopped. -/
structure Cuts (arms : List (Fin 8)) (bolts : List (Fin 4)) (groups : List Leaf) (s t : State) : Prop where
  pins : t.pins = s.pins
  apu : t.apu = s.apu
  rcs : t.rcs = s.rcs
  lmc : t.lmc = s.lmc
  kind : t.lpu.seqKind = s.lpu.seqKind
  step : t.lpu.seqStep = s.lpu.seqStep
  bzu : arms = [] → t.bzu = s.bzu
  arm : ∀ k, if k ∈ arms then EstopStalled (t.arm k) ∧ (t.arm k).last = (if (s.arm k).state = .up then .lower else (s.arm k).last)
    else t.arm k = s.arm k
  armLatched : arms ≠ [] → t.cl.latched.getLsbD 1 = true
  bolt : ∀ b, if b ∈ bolts then EstopJammed (t.bolt b) ∧ (t.bolt b).last = (s.bolt b).last else t.bolt b = s.bolt b
  boltLatched : bolts ≠ [] → t.cl.latched.getLsbD 5 = true
  boltClear : bolts = [] → LockKept s t
  pump : ∀ g, if g ∈ groups then (t.pump g).state = .stopped ∧ (t.pump g).hold = none else t.pump g = s.pump g

theorem estopArm_arm (s : State) (a k : Fin 8) : if k = a then EstopStalled ((estopArm s a).arm k) ∧
      ((estopArm s a).arm k).last = (if (s.arm k).state = .up then .lower else (s.arm k).last)
    else (estopArm s a).arm k = s.arm k := by
  unfold estopArm
  split
  · next h =>
    subst h
    refine ⟨stallArm_stalled _, ?_⟩
    rw [stallArm_arm, arm_onArm, if_pos rfl]
  · next h => rw [stallArm_ne h, arm_onArm, if_neg h]

theorem estopArms_cuts (l : List (Fin 8)) (s : State) : Cuts l [] [] s (l.foldl estopArm s) := by
  induction l generalizing s with
  | nil => exact ⟨rfl, rfl, rfl, rfl, rfl, rfl, fun _ => rfl, fun k => by rw [if_neg List.not_mem_nil]; rfl, fun h => absurd rfl h,
      fun b => by rw [if_neg List.not_mem_nil]; rfl, fun h => absurd rfl h, fun _ => rfl, fun g => by rw [if_neg List.not_mem_nil]; rfl⟩
  | cons a l ih =>
    have h := ih (estopArm s a)
    have hreach := reach_foldl estopArm_reach l (estopArm s a)
    have hbit : (estopArm s a).cl.latched.getLsbD 1 = true := by
      unfold estopArm
      rw [stallArm_eq]
      show ((_ ||| 2 : Half)).getLsbD 1 = true
      rw [BitVec.getLsbD_or, show (2 : Half).getLsbD 1 = true from rfl, Bool.or_true]
    rw [List.foldl_cons]
    refine ⟨h.pins, h.apu, h.rcs, h.lmc, h.kind, h.step, fun hn => absurd hn (List.cons_ne_nil a l), fun k => ?_, fun _ => hreach.latched_stays (by decide) hbit,
      fun b => ?_, fun hn => absurd rfl hn, fun _ => ?_, fun g => ?_⟩
    · have hk := h.arm k
      have ha := estopArm_arm s a k
      by_cases e : k = a
      · rw [if_pos (by rw [e]; exact List.mem_cons_self)]
        rw [if_pos e] at ha
        split at hk
        · exact ⟨hk.1, hk.2.trans (by rw [ha.1.1, if_neg nofun]; exact ha.2)⟩
        · rw [hk]; exact ha
      · rw [if_neg e] at ha
        rw [ha] at hk
        simpa only [List.mem_cons, e, false_or] using hk
    · have hb := h.bolt b
      rw [if_neg List.not_mem_nil] at hb ⊢
      exact hb
    · exact (show LockKept s (estopArm s a) from stallArm_lock _ _).trans (h.boltClear rfl)
    · have hg := h.pump g
      rw [if_neg List.not_mem_nil] at hg ⊢
      exact hg

theorem Cuts.jam {arms : List (Fin 8)} (h : Cuts arms [] [] s t) (l : List (Fin 4)) :
    Cuts arms l [] s (l.foldl (fun t b => jamBolt b .estop t) t) := by
  suffices hs : ∀ (l m : List (Fin 4)) (t : State), Cuts arms m [] s t → Cuts arms (m ++ l) [] s (l.foldl (fun t b => jamBolt b .estop t) t) by
    exact hs l [] t h
  intro l
  induction l with
  | nil => intro m t h; rw [List.append_nil]; exact h
  | cons b l ih =>
    intro m t h
    rw [List.foldl_cons, List.append_cons]
    refine ih (m ++ [b]) (jamBolt b .estop t) ⟨h.pins, h.apu, h.rcs, h.lmc, h.kind, h.step, h.bzu, h.arm, fun ha => ?_, fun j => ?_, fun _ => ?_,
      fun hn => absurd hn (by simp), h.pump⟩
    · show ((t.cl.latched ||| Condition.lockPower.bit : Half)).getLsbD 1 = true
      rw [BitVec.getLsbD_or, h.armLatched ha, Bool.true_or]
    · have hj := h.bolt j
      have hb := jamBolt_bolt b j .estop t
      by_cases e : j = b
      · rw [if_pos (by simp [e]), hb, if_pos e]
        subst e
        refine ⟨⟨rfl, rfl⟩, ?_⟩
        split at hj
        · exact hj.2
        · show (t.bolt j).last = _; rw [hj]
      · rw [hb, if_neg e]
        simpa [e] using hj
    · show ((t.cl.latched ||| Condition.lockPower.bit : Half)).getLsbD 5 = true
      rw [BitVec.getLsbD_or, show Condition.lockPower.bit.getLsbD 5 = true from rfl, Bool.or_true]

theorem Cuts.stop {arms : List (Fin 8)} {bolts : List (Fin 4)} (h : Cuts arms bolts [] s t) (l : List Leaf) :
    Cuts arms bolts l s (l.foldl stopPump t) := by
  suffices hs : ∀ (l m : List Leaf) (t : State), Cuts arms bolts m s t → Cuts arms bolts (m ++ l) s (l.foldl stopPump t) by
    exact hs l [] t h
  intro l
  induction l with
  | nil => intro m t h; rw [List.append_nil]; exact h
  | cons g l ih =>
    intro m t h
    rw [List.foldl_cons, List.append_cons]
    refine ih (m ++ [g]) (stopPump t g) ?_
    rw [stopPump_eq]
    refine ⟨h.pins, h.apu, h.rcs, h.lmc, h.kind, h.step, h.bzu, h.arm, h.armLatched, h.bolt, h.boltLatched, h.boltClear, fun j => ?_⟩
    have hj := h.pump j
    have hset (p : Pump) : (t.lpu.pumps.set g p).get j = if j = g then p else t.pump j := by
      unfold State.pump; cases j <;> cases g <;> rfl
    by_cases e : j = g
    · rw [if_pos (by simp [e])]
      unfold State.pump
      rw [hset, if_pos e]
      exact ⟨rfl, rfl⟩
    · have hm : j ∈ m ++ [g] ↔ j ∈ m := by simp [e]
      simp only [hm]
      unfold State.pump at hj ⊢
      rw [hset, if_neg e]
      exact hj

/-- The arms that ESTOP stops. -/
def State.estopArms (s : State) : List (Fin 8) := allArms.filter fun a => (s.arm a).stopsOnEstop
/-- The bolts that ESTOP jams. -/
def State.estopBolts (s : State) : List (Fin 4) := allBolts.filter fun b => (s.bolt b).moving
/-- The pump groups that ESTOP stops. -/
def State.estopGroups (s : State) : List Leaf := [Leaf.north, Leaf.south].filter fun g => (s.pump g).stopsOnEstop

/-- ESTOP's cuts. -/
def estopCut (s : State) : State :=
  s.estopGroups.foldl stopPump (s.estopBolts.foldl (fun t b => jamBolt b .estop t) (s.estopArms.foldl estopArm s))

theorem estopCut_cuts (s : State) : Cuts s.estopArms s.estopBolts s.estopGroups s (estopCut s) :=
  ((estopArms_cuts s.estopArms s).jam s.estopBolts).stop s.estopGroups

/-- The reports that follow the cuts, in the order of note 43. -/
theorem estopReported_eq (s : State) : estopReported s = s.estopGroups.foldl (fun t _ => reportPump t)
    (s.estopBolts.foldl (fun t _ => reportBolt t) (s.estopArms.foldl (fun t a => reportArm a t) (estopCut s))) := rfl

theorem mem_estopArms : a ∈ s.estopArms ↔ (s.arm a).stopsOnEstop = true := by
  unfold State.estopArms
  rw [List.mem_filter]
  exact and_iff_right (mem_allArms a)
theorem mem_estopBolts {b : Fin 4} : b ∈ s.estopBolts ↔ (s.bolt b).moving = true := by
  unfold State.estopBolts
  rw [List.mem_filter]
  exact and_iff_right (by revert b; decide)
theorem mem_estopGroups {g : Leaf} : g ∈ s.estopGroups ↔ (s.pump g).stopsOnEstop = true := by
  unfold State.estopGroups
  rw [List.mem_filter]
  exact and_iff_right (by cases g <;> decide)

theorem stopsOnEstop_iff (r : Arm) :
    r.stopsOnEstop = true ↔ r.state = .lowering ∨ r.state = .raising ∨ (r.state = .up ∧ r.relowerPending = true) := by
  cases h : r.state <;> simp [Arm.stopsOnEstop, Arm.moving, h]

/-- No arm is left for ESTOP to stop. -/
theorem Cuts.quiet {bolts : List (Fin 4)} {groups : List Leaf} (h : Cuts s.estopArms bolts groups s t) : Quiet t := fun k => by
  have hk := h.arm k
  split at hk
  · exact hk.1.stops
  · next hn => rw [hk]; exact Bool.eq_false_iff.mpr fun e => hn (mem_estopArms.mpr e)

/-! ### A bolt's report while ESTOP is asserted (R85, R87, R105) -/

/-- A report takes the sequence's next step (R87). -/
def State.takesStep (s : State) : Prop := s.heelDue ∨ s.centreDue

/-- What a bolt's report leaves under ESTOP with a bolt jammed. -/
structure JamTold (s t : State) : Prop where
  pins : t.pins = s.pins
  apu : t.apu = s.apu
  bzu : t.bzu = s.bzu
  rcs : t.rcs = s.rcs
  pumps : t.lpu.pumps = s.lpu.pumps
  bolt : ∀ b, t.bolt b = s.bolt b ∨ EstopJammed (t.bolt b)
  waits : ¬s.takesStep → ¬t.takesStep
  stays : ¬s.takesStep → ∀ b, t.bolt b = s.bolt b
  leaf : s.lmc.leaf ≠ .seatedLocked → t.lmc.leaf ≠ .seatedLocked

theorem JamTold.refl (s : State) : JamTold s s := ⟨rfl, rfl, rfl, rfl, rfl, fun _ => .inl rfl, id, fun _ _ => rfl, id⟩
theorem JamTold.trans (h : JamTold s t) (k : JamTold t u) : JamTold s u where
  pins := k.pins.trans h.pins
  apu := k.apu.trans h.apu
  bzu := k.bzu.trans h.bzu
  rcs := k.rcs.trans h.rcs
  pumps := k.pumps.trans h.pumps
  bolt b := by
    rcases k.bolt b with e | e
    · rw [e]; exact h.bolt b
    · exact .inr e
  waits hn := k.waits (h.waits hn)
  stays hn b := (k.stays (h.waits hn) b).trans (h.stays hn b)
  leaf hn := k.leaf (h.leaf hn)

theorem EstopJammed.kept {b : Fin 4} (h : EstopJammed (s.bolt b)) (k : JamTold s t) : EstopJammed (t.bolt b) := by
  rcases k.bolt b with e | e
  · rw [e]; exact h
  · exact e

/-- A bolt commanded under ESTOP stays as it is or is jammed by it (R85). -/
theorem boltCommanded_estop (way : BoltWay) (b : Fin 4) (he : s.pins.estop = true) :
    s.boltCommanded way b = s.bolt b ∨ EstopJammed (s.boltCommanded way b) := by
  have h : s.boltStarted way b = s.bolt b ∨ EstopJammed (s.boltStarted way b) := by
    unfold State.boltStarted
    dsimp only
    split
    · exact .inl rfl
    · exact .inr ⟨rfl, rfl⟩
  rw [boltCommanded_eq]
  split
  all_goals first | exact .inl rfl | exact h

theorem advanceSequence_told (he : s.pins.estop = true) : JamTold s (advanceSequence s) := by
  have h := advanceSequence_spec s
  have hreach := advanceSequence_reach s
  have hkind : (advanceSequence s).lpu.seqKind = s.lpu.seqKind ∨ (advanceSequence s).lpu.seqKind = .none := by
    rw [h.kind]; split
    · exact .inr rfl
    · exact .inl rfl
  refine ⟨h.only.pins, h.only.apu, hreach.bzu_eq (by decide), h.only.rcs, h.only.pumps, fun b => ?_, fun hn hd => hn ?_,
    fun hn => (h.stays (fun e => hn (.inl e)) fun e => hn (.inr e)).1, fun hn => by rw [h.only.lmc]; exact hn⟩
  · by_cases hh : s.heelDue
    · rw [(h.heel hh).1 b]
      split
      · exact boltCommanded_estop _ b he
      · exact .inl rfl
    · by_cases hc : s.centreDue
      · rw [(h.centre hc).1 b]
        split
        · exact boltCommanded_estop _ b he
        · exact .inl rfl
      · exact .inl ((h.stays hh hc).1 b)
  · obtain ⟨hb, hst⟩ := h.stays (fun e => hn (.inl e)) fun e => hn (.inr e)
    unfold State.takesStep State.heelDue State.centreDue at *
    rw [hb, hb, hb, hb, hst] at hd
    rcases hkind with hk | hk
    · rw [hk] at hd; exact hd
    · rw [hk] at hd; rcases hd with ⟨hd, -⟩ | ⟨hd, -⟩ <;> cases hd

theorem EstopJammed.unwithdrawn {b : Fin 4} (h : EstopJammed (s.bolt b)) : s.allWithdrawn = false :=
  Bool.eq_false_iff.mpr fun e => by have := allWithdrawn_iff.mp e b; rw [h.1] at this; cases this
theorem EstopJammed.undriven {b : Fin 4} (h : EstopJammed (s.bolt b)) : s.allDriven = false :=
  Bool.eq_false_iff.mpr fun e => by have := allDriven_iff.mp e b; rw [h.1] at this; cases this

theorem reportBolt_told {b : Fin 4} (he : s.pins.estop = true) (hj : EstopJammed (s.bolt b)) : JamTold s (reportBolt s) := by
  have h := advanceSequence_told he
  have hj' := hj.kept h
  unfold reportBolt
  generalize advanceSequence s = v at h hj' ⊢
  refine h.trans ?_
  by_cases hs : v.lmc.leaf = .seatedLocked
  · have e : leavesTakeBolts v = setLeaf .halted v := by
      unfold leavesTakeBolts; rw [hs]; dsimp only; rw [if_neg (by rw [hj'.undriven]; nofun)]
    rw [e, setLeaf_away (l := .halted) (by rw [hs]; decide) (by decide)]
    exact ⟨rfl, rfl, rfl, rfl, rfl, fun _ => .inl rfl, id, fun _ _ => rfl, fun _ => nofun⟩
  · rw [leavesTakeBolts_waits (fun _ => hj'.unwithdrawn) (fun _ => hj'.undriven) hs]
    exact .refl v

theorem reportBolts_told (l : List (Fin 4)) (he : s.pins.estop = true) (hj : ∀ b ∈ l, EstopJammed (s.bolt b)) :
    JamTold s (l.foldl (fun t _ => reportBolt t) s) := by
  induction l generalizing s with
  | nil => exact .refl s
  | cons b l ih =>
    have h := reportBolt_told he (hj b List.mem_cons_self)
    rw [List.foldl_cons]
    exact h.trans (ih (by rw [h.pins]; exact he) fun c hc => (hj c (List.mem_cons_of_mem b hc)).kept h)

/-! ### A stopped group's report and the trip -/

/-- What the report of a stopped group and the trip leave. -/
structure TripKept (s t : State) : Prop where
  pins : t.pins = s.pins
  bzu : t.bzu = s.bzu
  rcs : t.rcs = s.rcs
  bolts : t.lpu.bolts = s.lpu.bolts
  pumps : t.lpu.pumps = s.lpu.pumps
  lock : LockKept s t
  latched : ∀ i, s.cl.latched.getLsbD i = true → t.cl.latched.getLsbD i = true
  leaf : s.lmc.leaf ≠ .seatedLocked → t.lmc.leaf ≠ .seatedLocked

theorem TripKept.refl (s : State) : TripKept s s := ⟨rfl, rfl, rfl, rfl, rfl, rfl, fun _ => id, id⟩
theorem TripKept.trans (h : TripKept s t) (k : TripKept t u) : TripKept s u :=
  ⟨k.pins.trans h.pins, k.bzu.trans h.bzu, k.rcs.trans h.rcs, k.bolts.trans h.bolts, k.pumps.trans h.pumps, h.lock.trans k.lock,
    fun i hi => k.latched i (h.latched i hi), fun hn => k.leaf (h.leaf hn)⟩

theorem trip_pumps (c : TripCause) (s : State) : (trip c s).lpu.pumps = s.lpu.pumps := by
  generalize hv : (cancelSequence ((zeroReferences s).onMotion
    fun m => { m with halt := .none, awaitingPumps := false })).onLmc (fun l => { l with trip := some c }) = v
  have h : (latch .trip (setLeaf .tripped v)).lpu.pumps = s.lpu.pumps := by
    obtain ⟨x, hx⟩ := setLeaf_eq .tripped v
    rw [hx, ← hv]; rfl
  unfold trip
  dsimp only
  rw [hv]
  generalize latch .trip (setLeaf .tripped v) = w at h ⊢
  split
  · exact (leavesLeftRaised_only w).pumps.trans h
  · exact h
theorem testTrip_pumps (s : State) : (testTrip s).lpu.pumps = s.lpu.pumps := by
  unfold testTrip
  split
  · exact trip_pumps _ s
  · rfl

theorem testTrip_kept (s : State) : TripKept s (testTrip s) where
  pins := (testTrip_reach s).pins_eq (by decide)
  bzu := (testTrip_reach s).bzu_eq (by decide)
  rcs := (testTrip_reach s).rcs_eq (by decide)
  bolts := (testTrip_reach s).bolts_eq (by decide)
  pumps := testTrip_pumps s
  lock := testTrip_lock s
  latched i hi := (testTrip_reach s).latched_stays (by decide) hi
  leaf hn := by
    unfold testTrip
    split
    · rw [trip_leaf]; nofun
    · exact hn

theorem reportPump_kept (h : s.bothReady = false) : TripKept s (reportPump s) := by
  unfold reportPump
  split
  · rw [testUnlocked_waits (.inr (.inl h))]; exact .refl s
  · split
    · exact testTrip_kept s
    · exact .refl s
  · split
    · exact testTrip_kept s
    · rw [if_neg (by rw [h]; exact fun hn => by cases hn.2)]; exact .refl s
  all_goals exact .refl s

theorem unready_of_stopped {g : Leaf} (h : (s.pump g).state = .stopped) : s.bothReady = false :=
  Bool.eq_false_iff.mpr fun e => by
    have := bothReady_iff.mp e
    cases g
    · rw [this.1] at h; cases h
    · rw [this.2] at h; cases h

theorem reportPumps_kept (l : List Leaf) (h : ∀ g ∈ l, (s.pump g).state = .stopped) :
    TripKept s (l.foldl (fun t _ => reportPump t) s) := by
  induction l generalizing s with
  | nil => exact .refl s
  | cons g l ih =>
    have hk := reportPump_kept (unready_of_stopped (h g List.mem_cons_self))
    rw [List.foldl_cons]
    exact hk.trans (ih fun c hc => by unfold State.pump; rw [hk.pumps]; exact h c (List.mem_cons_of_mem g hc))

/-- ESTOP trips the leaves outside SEATED_LOCKED (R115). -/
theorem testTrip_estop (he : s.pins.estop = true) (hl : s.lmc.leaf ≠ .seatedLocked) : (testTrip s).lmc.leaf = .tripped := by
  unfold testTrip
  by_cases ht : s.lmc.leaf = .tripped
  · have e : s.tripNow = none := by unfold State.tripNow; rw [if_pos (.inr ht)]
    rw [e]; exact ht
  · have e : s.tripNow = some .estop := by unfold State.tripNow; rw [if_neg (by simp [hl, ht]), if_pos he]
    rw [e]; exact trip_leaf _ _

/-! ### ESTOP as a whole -/

/-- ESTOP taken: its cuts to `c`, the arms' reports to `d`, the bolts' reports to `e`, then the groups' reports and the trip. -/
structure EstopTaken (s c d e t : State) : Prop where
  cuts : Cuts s.estopArms s.estopBolts s.estopGroups s c
  arms : EstopTold c d
  armsIdle : s.estopArms = [] → d = c
  bolts : JamTold d e
  boltsIdle : s.estopBolts = [] → e = d
  trip : TripKept e t
  latched : ∀ i, c.cl.latched.getLsbD i = true → t.cl.latched.getLsbD i = true
  leaf : s.lmc.leaf ≠ .seatedLocked → t.lmc.leaf = .tripped

theorem takeEstop_taken (he : s.pins.estop = true) : ∃ c d e, EstopTaken s c d e (takeEstop s) := by
  have hc := estopCut_cuts s
  rw [takeEstop_eq, estopReported_eq]
  generalize estopCut s = c at hc ⊢
  have hd := reportArms_estop s.estopArms (hc.pins ▸ he) hc.quiet fun a ha => by have := hc.arm a; rw [if_pos ha] at this; exact this.1
  have hdi (h : s.estopArms = []) : s.estopArms.foldl (fun t a => reportArm a t) c = c := by rw [h]; rfl
  have hdr := (reach_foldl (fun t a => reportArm_reach a t) s.estopArms c)
  generalize s.estopArms.foldl (fun t a => reportArm a t) c = d at hd hdi hdr ⊢
  have hb := reportBolts_told s.estopBolts (s := d) (by rw [hd.pins, hc.pins]; exact he) fun b h => by
    have := hc.bolt b; rw [if_pos h] at this; unfold State.bolt; rw [hd.bolts]; exact this.1
  have hbi (h : s.estopBolts = []) : s.estopBolts.foldl (fun t _ => reportBolt t) d = d := by rw [h]; rfl
  have hbr := reach_foldl (fun t (_ : Fin 4) => reportBolt_reach t) s.estopBolts d
  generalize s.estopBolts.foldl (fun t _ => reportBolt t) d = e at hb hbi hbr ⊢
  have hp := reportPumps_kept s.estopGroups (s := e) fun g h => by
    have := hc.pump g; rw [if_pos h] at this; unfold State.pump; rw [hb.pumps, hd.pumps]; exact this.1
  have ht := hp.trans (testTrip_kept _)
  exact ⟨c, d, e, hc, hd, hdi, hb, hbi, ht,
    fun i hi => ht.latched i (hbr.latched_stays (by decide) (hdr.latched_stays (by decide) hi)),
    fun hl => testTrip_estop (by rw [hp.pins, hb.pins, hd.pins, hc.pins]; exact he) (hp.leaf (hb.leaf (hd.leaf (hc.lmc ▸ hl))))⟩

section
variable {c d e : State}

theorem EstopTaken.arm (h : EstopTaken s c d e t) (k : Fin 8) : t.arm k = d.arm k := by
  unfold State.arm; rw [h.trip.bzu, h.bolts.bzu]
theorem EstopTaken.bolt (h : EstopTaken s c d e t) (b : Fin 4) : t.bolt b = e.bolt b := by
  unfold State.bolt; rw [h.trip.bolts]
theorem EstopTaken.pump (h : EstopTaken s c d e t) (g : Leaf) : t.pump g = c.pump g := by
  unfold State.pump; rw [h.trip.pumps, h.bolts.pumps, h.arms.pumps]
theorem EstopTaken.rcs (h : EstopTaken s c d e t) : t.rcs = d.rcs := h.trip.rcs.trans h.bolts.rcs

theorem EstopTaken.raises (h : EstopTaken s c d e t) (hn : ¬s.raisesEntries) : ¬c.raisesEntries := by
  rintro ⟨h1, h2, h3⟩
  rw [h.cuts.rcs] at h1 h2
  refine hn ⟨h1, h2, allUp_iff.mpr fun k hk => ?_⟩
  have hup := allUp_iff.mp h3 k hk
  have hcut := h.cuts.arm k
  split at hcut
  · rw [hcut.1.1] at hup; simp_all
  · rw [← hcut]; exact hup

theorem EstopTaken.arm_stalled (h : EstopTaken s c d e t) (ha : (s.arm a).stopsOnEstop = true) : EstopStalled (t.arm a) ∧
    (¬s.raisesEntries → t.rcs.road = s.rcs.road →
      (t.arm a).last = (if (s.arm a).state = .up then .lower else (s.arm a).last)) := by
  have hcut := h.cuts.arm a
  rw [if_pos (mem_estopArms.mpr ha)] at hcut
  rw [h.arm]
  refine ⟨h.arms.stalled a hcut.1, fun hn hr => ?_⟩
  rcases h.arms.road (h.raises hn) with ⟨-, hk⟩ | hk
  · rw [hk]; exact hcut.2
  · rw [h.cuts.rcs, ← h.rcs, hr] at hk
    exact absurd hk (Nat.lt_irrefl _)

theorem EstopTaken.arm_rests (h : EstopTaken s c d e t) (hn : ¬s.raisesEntries) (ha : ¬(s.arm a).stopsOnEstop = true) :
    t.arm a = s.arm a ∨ EstopStalled (t.arm a) := by
  have hcut := h.cuts.arm a
  rw [if_neg fun hm => ha (mem_estopArms.mp hm)] at hcut
  rw [h.arm, ← hcut]
  exact h.arms.arm (h.raises hn) a

theorem EstopTaken.arms_rest (h : EstopTaken s c d e t) (hn : ∀ a, ¬(s.arm a).stopsOnEstop = true) : t.bzu = s.bzu ∧ t.rcs = s.rcs := by
  have hl : s.estopArms = [] := List.eq_nil_iff_forall_not_mem.mpr fun a ha => hn a (mem_estopArms.mp ha)
  exact ⟨by rw [h.trip.bzu, h.bolts.bzu, h.armsIdle hl, h.cuts.bzu hl], by rw [h.rcs, h.armsIdle hl, h.cuts.rcs]⟩

theorem EstopTaken.bolt_cut (h : EstopTaken s c d e t) (b : Fin 4) : d.bolt b = c.bolt b := by
  unfold State.bolt; rw [h.arms.bolts]

theorem EstopTaken.waits (h : EstopTaken s c d e t) (hn : ¬s.takesStep) : ¬d.takesStep := by
  have hb (b : Fin 4) (x : BoltState) (hx : x ≠ .jammed) (hd : (d.bolt b).state = x) : (s.bolt b).state = x := by
    have hcut := h.cuts.bolt b
    rw [h.bolt_cut] at hd
    split at hcut
    · exact absurd (hd.symm.trans hcut.1.1) hx
    · rw [← hcut]; exact hd
  have hkind (x : SeqKind) (hx : x ≠ .none) (hd : d.lpu.seqKind = x) : s.lpu.seqKind = x := by
    rw [← h.cuts.kind]
    rcases h.arms.kind with hk | hk
    · rw [← hk]; exact hd
    · exact absurd (hd.symm.trans hk) hx
  have hstep : d.lpu.seqStep = s.lpu.seqStep := h.arms.step.trans h.cuts.step
  rintro (⟨h1, h2, h3, h4⟩ | ⟨h1, h2, h3, h4⟩)
  · exact hn (.inl ⟨hkind .withdraw (by decide) h1, hstep ▸ h2, hb 0 .withdrawn (by decide) h3, hb 1 .withdrawn (by decide) h4⟩)
  · exact hn (.inr ⟨hkind .drive (by decide) h1, hstep ▸ h2, hb 2 .driven (by decide) h3, hb 3 .driven (by decide) h4⟩)

theorem EstopTaken.bolt_jammed (h : EstopTaken s c d e t) {b : Fin 4} (hb : (s.bolt b).moving = true) : EstopJammed (t.bolt b) ∧
    (¬s.takesStep → (t.bolt b).last = (s.bolt b).last) := by
  have hcut := h.cuts.bolt b
  rw [if_pos (mem_estopBolts.mpr hb), ← h.bolt_cut] at hcut
  rw [h.bolt]
  exact ⟨hcut.1.kept h.bolts, fun hn => by rw [h.bolts.stays (h.waits hn)]; exact hcut.2⟩

theorem EstopTaken.bolt_rests (h : EstopTaken s c d e t) {b : Fin 4} (hn : ¬s.takesStep) (hb : ¬(s.bolt b).moving = true) :
    t.bolt b = s.bolt b := by
  have hcut := h.cuts.bolt b
  rw [if_neg fun hm => hb (mem_estopBolts.mp hm), ← h.bolt_cut] at hcut
  rw [h.bolt, h.bolts.stays (h.waits hn), hcut]

theorem EstopTaken.bolt_still (h : EstopTaken s c d e t) (b : Fin 4) : (t.bolt b).moving = false := by
  have jam {r : Bolt} (hr : EstopJammed r) : r.moving = false := by simp [Bolt.moving, hr.1]
  have hcut := h.cuts.bolt b
  rw [← h.bolt_cut] at hcut
  rw [h.bolt]
  rcases h.bolts.bolt b with hk | hk
  · rw [hk]
    split at hcut
    · exact jam hcut.1
    · next hm => rw [hcut]; exact Bool.eq_false_iff.mpr fun hn => hm (mem_estopBolts.mpr hn)
  · exact jam hk

theorem EstopTaken.boltLatched (h : EstopTaken s c d e t) {b : Fin 4} (hb : (s.bolt b).moving = true) : (t.cl.latched &&& 0x20) ≠ 0 :=
  (mask_iff _ 5).mpr ⟨by decide, h.latched 5 (h.cuts.boltLatched (List.ne_nil_of_mem (mem_estopBolts.mpr hb)))⟩

theorem EstopTaken.boltClear (h : EstopTaken s c d e t) (hn : ∀ b, ¬(s.bolt b).moving = true) :
    t.cl.latched &&& 0x20 = s.cl.latched &&& 0x20 := by
  have hl : s.estopBolts = [] := List.eq_nil_iff_forall_not_mem.mpr fun b hb => hn b (mem_estopBolts.mp hb)
  have h1 : t.cl.latched.getLsbD 5 = s.cl.latched.getLsbD 5 := by
    rw [h.trip.lock, h.boltsIdle hl, h.arms.lock]
    exact h.cuts.boltClear hl
  refine BitVec.eq_of_getLsbD_eq fun i hi => ?_
  rw [BitVec.getLsbD_and, BitVec.getLsbD_and]
  by_cases e : i = 5
  · rw [e, h1]
  · have hz : (0x20 : Half).getLsbD i = false := by revert e; revert i; decide
    rw [hz, Bool.and_false, Bool.and_false]

theorem EstopTaken.pump_stopped (h : EstopTaken s c d e t) {g : Leaf} (hg : (s.pump g).stopsOnEstop = true) :
    (t.pump g).state = .stopped ∧ (t.pump g).hold = none := by
  have hcut := h.cuts.pump g
  rw [if_pos (mem_estopGroups.mpr hg)] at hcut
  rw [h.pump]; exact hcut
theorem EstopTaken.pump_rests (h : EstopTaken s c d e t) {g : Leaf} (hg : ¬(s.pump g).stopsOnEstop = true) : t.pump g = s.pump g := by
  have hcut := h.cuts.pump g
  rw [if_neg fun hm => hg (mem_estopGroups.mp hm)] at hcut
  rw [h.pump]; exact hcut

end

theorem pump_stopsOnEstop_iff (p : Pump) : p.stopsOnEstop = true ↔ p.state = .starting ∨ p.state = .ready := by
  simp [Pump.stopsOnEstop]

/-- Settles O38: the trips and GO's withdrawal by the moves of the state, ESTOP by its cuts and the reports that follow. -/
theorem tripsStopTheLeaves : Obligations.TripsStopTheLeaves := by
  refine ⟨fun c s t hs hl hc h ht hlt => exec_told hs hl hc h ht hlt, fun c s t hs hl hc h ht hlt => ?_, fun s hs => ?_, fun _ => rfl⟩
  · obtain ⟨h1, h2, h3⟩ := exec_raisedLeft hs hl hc h ht hlt
    exact ⟨h1, h2, h3⟩
  · obtain ⟨c, d, e, h⟩ := takeEstop_taken (s := setEstop true s) rfl
    have hpins : (takeEstop (setEstop true s)).pins = { s.pins with estop := true } := by
      rw [h.trip.pins, h.bolts.pins, h.arms.pins, h.cuts.pins]; rfl
    refine ⟨takeEstop (setEstop true s), exec_run rfl (v := setEstop true s) hs rfl, hpins, h.leaf, fun g => ?_, fun b => ?_, fun a => ?_,
      ⟨fun a ha => ?_, fun a hn ha => ?_, fun hn => ?_, fun ⟨a, ha⟩ => ?_⟩, ⟨fun b hb => ?_, fun b hn hb => ?_, fun ⟨b, hb⟩ => ?_, fun hn => ?_⟩,
      fun g => ⟨fun hg => ?_, fun hg => ?_⟩⟩
    all_goals generalize takeEstop (setEstop true s) = t at h hpins ⊢
    · by_cases hg : (s.pump g).stopsOnEstop = true
      · rw [(h.pump_stopped hg).1]; exact ⟨nofun, nofun⟩
      · rw [h.pump_rests hg]
        rw [pump_stopsOnEstop_iff] at hg
        exact not_or.mp hg
    · have := h.bolt_still b
      rw [Bool.eq_false_iff, Ne, bolt_moving_iff] at this
      exact not_or.mp this
    · have := h.arms.quiet a
      rw [← h.arm, Bool.eq_false_iff, Ne, stopsOnEstop_iff] at this
      exact ⟨fun e => this (.inl e), fun e => this (.inr (.inl e))⟩
    · obtain ⟨⟨h1, h2, h3⟩, h4⟩ := h.arm_stalled (a := a) ((stopsOnEstop_iff _).mpr ha)
      exact ⟨h1, h2, h3, h4⟩
    · exact (h.arm_rests (a := a) hn (mt (stopsOnEstop_iff _).mp ha)).imp_right fun k => ⟨k.1, k.2.1⟩
    · exact h.arms_rest fun a => mt (stopsOnEstop_iff _).mp (hn a)
    · exact (mask_iff _ 1).mpr ⟨by decide, h.latched 1 (h.cuts.armLatched
        (List.ne_nil_of_mem (mem_estopArms.mpr ((stopsOnEstop_iff _).mpr ha))))⟩
    · obtain ⟨⟨h1, h2⟩, h3⟩ := h.bolt_jammed (b := b) (bolt_moving_iff.mpr hb)
      exact ⟨h1, h2, h3⟩
    · exact h.bolt_rests hn (mt bolt_moving_iff.mp hb)
    · exact h.boltLatched (b := b) (bolt_moving_iff.mpr hb)
    · exact h.boltClear fun b => mt bolt_moving_iff.mp (hn b)
    · exact h.pump_stopped ((pump_stopsOnEstop_iff _).mpr hg)
    · exact h.pump_rests (mt (pump_stopsOnEstop_iff _).mp (by rcases hg with hg | hg <;> rw [show (setEstop true s).pump g = s.pump g from rfl, hg] <;> simp))

end Sys2Proof.Machine
end

section
/-! PROOFS. The channel's timers and turns (O50), the control period (O39). -/

namespace Sys2Proof.Machine

variable {s t u : State} {a k : Fin 8}

/-! ### Turns as they end, start and are skipped (R176 to R178) -/

theorem other_other (d : Side) : d.other.other = d := by cases d <;> rfl
theorem perSide_get_self {α : Type} (p : PerSide α) (d : Side) (x : α) : (p.set d x).get d = x := by cases d <;> rfl
theorem perSide_get_other {α : Type} (p : PerSide α) (d : Side) (x : α) : (p.set d x).get d.other = p.get d.other := by cases d <;> rfl
theorem perSide_other_self {α : Type} (p : PerSide α) (d : Side) (x : α) : (p.set d.other x).get d = p.get d := by cases d <;> rfl

/-- A turn that ends as the changeover begins (R177, R178). -/
theorem endTurn_eq (d : Side) (c : EndCause) (s : State) : ∃ p, endTurn d c s = { s with
    csu := { s.csu with
      sides := s.goEnded d c, window := none, phase := .changeover, changeover := some 0, sealTimer := some 0, sealed := false
      aspects := (s.csu.aspects.set d .stop).set d.other (s.changeoverAspect d.other) }
    phu := { s.phu with proving := p }
    cl := { s.cl with latched := s.cl.latched ||| 0x200 } } := by
  obtain ⟨p, hp⟩ := setAspect_eq d .stop (endGo d c s)
  have hv : restartSeal ((setAspect d .stop (endGo d c s)).onCsu fun c => { c with phase := .changeover, changeover := some 0 }) =
      { s with
        csu := { s.csu with
          sides := s.goEnded d c, window := none, phase := .changeover, changeover := some 0, sealTimer := some 0, sealed := false
          aspects := s.csu.aspects.set d .stop }
        phu := { s.phu with proving := p } } := by
    rw [hp]; rfl
  unfold endTurn
  dsimp only
  generalize restartSeal _ = v at hv ⊢
  have ha : v.changeoverAspect d.other = s.changeoverAspect d.other := by
    unfold State.changeoverAspect State.calledLeft
    rw [hv]
    dsimp only
    unfold State.goEnded
    rw [perSide_get_other]
  obtain ⟨q, hq⟩ := setAspect_eq d.other (s.changeoverAspect d.other) v
  rw [ha, hq, hv]
  exact ⟨q, rfl⟩

/-- A turn that starts (R176, R166). -/
theorem startTurn_eq (d : Side) (s : State) : ∃ p, startTurn d s = { s with
    csu := { s.csu with
      aspects := (s.csu.aspects.set d.other .stop).set d .go
      sides := s.csu.sides.set d { s.csu.sides.get d with status := .go, goStart := some s.tb.seconds }
      phase := .turn, current := some d, window := some 0, sealTimer := none, sealed := false, horn := 200 }
    psc := { s.psc with batch := { s.psc.batch with firstGoAt := some (s.psc.batch.firstGoAt.getD s.tb.seconds) } }
    phu := { s.phu with proving := p }
    cl := { s.cl with latched := s.cl.latched ||| 0x200 } } := by
  obtain ⟨p, hp⟩ := setAspect_eq d.other .stop s
  obtain ⟨q, hq⟩ := setAspect_eq d .go (setAspect d.other .stop s)
  obtain ⟨r, hr⟩ := soundHorn_eq 20 (((setAspect d .go (setAspect d.other .stop s)).onTurn d fun t =>
    { t with status := .go, goStart := some s.tb.seconds }).onCsu fun c =>
    { c with phase := .turn, current := some d, window := some 0, sealTimer := none, sealed := false })
  have hfirst : (s.psc.batch.firstGoAt <|> some s.tb.seconds) = some (s.psc.batch.firstGoAt.getD s.tb.seconds) := by
    cases s.psc.batch.firstGoAt <;> rfl
  have htb : (setAspect d .go (setAspect d.other .stop s)).tb = s.tb := by rw [hq, hp]
  have e : startTurn d s = turnBegun (latch .batch (soundHorn 20 (((setAspect d .go (setAspect d.other .stop s)).onTurn d fun t =>
      { t with status := .go, goStart := some s.tb.seconds }).onCsu fun c =>
      { c with phase := .turn, current := some d, window := some 0, sealTimer := none, sealed := false }))) := by
    unfold startTurn; dsimp only; rw [htb]
  rw [e, hr, hq, hp, ← hfirst]
  exact ⟨r, rfl⟩

/-- A turn skipped for its greens (R176). -/
theorem skipTurn_eq (d : Side) (s : State) : ∃ p, skipTurn d s = { s with
    csu := { s.csu with
      aspects := s.csu.aspects.set d .stop
      sides := s.csu.sides.set d { s.csu.sides.get d with status := .skipped, cause := some .greens } }
    phu := { s.phu with proving := p }
    cl := { s.cl with latched := s.cl.latched ||| 0x200 } } := by
  obtain ⟨p, hp⟩ := setAspect_eq d .stop (s.onTurn d fun t => { t with status := .skipped, cause := some .greens })
  unfold skipTurn
  rw [hp]
  exact ⟨p, rfl⟩

/-! ### A turn's offer, step by step (R176) -/

theorem calledLeft_iff : s.calledLeft d = true ↔ ∃ i ∈ s.psc.batch.items, i.side = d ∧ i.outcome = .called := by
  simp [State.calledLeft]

theorem canOffer_iff : s.canOffer d = true ↔ (s.csu.sides.get d).status = .notYet ∧ s.calledLeft d = true := by
  simp [State.canOffer]

theorem canOffer_skipped_self (d : Side) (s : State) : (skipTurn d s).canOffer d = false := by
  obtain ⟨p, hp⟩ := skipTurn_eq d s
  refine Bool.eq_false_iff.mpr fun h => ?_
  have h1 := (canOffer_iff.mp h).1
  rw [hp] at h1
  dsimp only at h1
  rw [perSide_get_self] at h1
  cases h1
theorem canOffer_skipped_other (d : Side) (s : State) : (skipTurn d s).canOffer d.other = s.canOffer d.other := by
  obtain ⟨p, hp⟩ := skipTurn_eq d s
  rw [hp]
  unfold State.canOffer
  dsimp only
  rw [perSide_get_other]
  rfl

theorem offerTurn_passes (n : Nat) (h : s.canOffer d = false) (ho : s.canOffer d.other = true) :
    offerTurn (n + 1) d s = offerTurn n d.other s := by
  conv_lhs => unfold offerTurn
  rw [if_pos (by rw [h]; rfl), if_pos ho]
theorem offerTurn_ends (n : Nat) (h : s.canOffer d = false) (ho : s.canOffer d.other = false) :
    offerTurn (n + 1) d s = finishTurns .turnsEnded s := by
  unfold offerTurn
  rw [if_pos (by rw [h]; rfl), if_neg (by rw [ho]; nofun)]
theorem offerTurn_left (n : Nat) (h : s.canOffer d = true) (hl : s.lmc.leaf ≠ .raised) :
    offerTurn (n + 1) d s = finishTurns .goWithdrawn s := by
  unfold offerTurn
  rw [if_neg (by rw [h]; nofun), if_pos hl]
theorem offerTurn_defect (n : Nat) (h : s.canOffer d = true) (hl : s.lmc.leaf = .raised) (hr : s.redsFailed d.other = true) :
    offerTurn (n + 1) d s = latch .batch (finishTurns .signalDefect s) := by
  unfold offerTurn
  rw [if_neg (by rw [h]; nofun), if_neg fun hn => hn hl, if_pos hr]
theorem offerTurn_skips (n : Nat) (h : s.canOffer d = true) (hl : s.lmc.leaf = .raised) (hr : s.redsFailed d.other = false)
    (hg : s.greensFailed d = true) : offerTurn (n + 1) d s = offerTurn n d.other (skipTurn d s) := by
  conv_lhs => unfold offerTurn
  rw [if_neg (by rw [h]; nofun), if_neg fun hn => hn hl, if_neg (by rw [hr]; nofun), if_pos hg]
theorem offerTurn_starts (n : Nat) (h : s.canOffer d = true) (hl : s.lmc.leaf = .raised) (hr : s.redsFailed d.other = false)
    (hg : s.greensFailed d = false) : offerTurn (n + 1) d s = startTurn d s := by
  unfold offerTurn
  rw [if_neg (by rw [h]; nofun), if_neg fun hn => hn hl, if_neg (by rw [hr]; nofun), if_neg (by rw [hg]; nofun)]

/-- Where the other side cannot be offered a turn, two steps settle the offer. -/
theorem offerTurn_settles (n : Nat) (h : s.canOffer d.other = false) : offerTurn (n + 2) d s = offerTurn 2 d s := by
  by_cases hd : s.canOffer d = true
  · by_cases hl : s.lmc.leaf = .raised
    · cases hr : s.redsFailed d.other
      · cases hg : s.greensFailed d
        · rw [offerTurn_starts _ hd hl hr hg, offerTurn_starts _ hd hl hr hg]
        · have ho : (skipTurn d s).canOffer d.other = false := (canOffer_skipped_other d s).trans h
          have hs : (skipTurn d s).canOffer d.other.other = false := by rw [other_other]; exact canOffer_skipped_self d s
          rw [offerTurn_skips _ hd hl hr hg, offerTurn_skips _ hd hl hr hg, offerTurn_ends _ ho hs, offerTurn_ends _ ho hs]
      · rw [offerTurn_defect _ hd hl hr, offerTurn_defect _ hd hl hr]
    · rw [offerTurn_left _ hd hl, offerTurn_left _ hd hl]
  · rw [offerTurn_ends _ (Bool.eq_false_iff.mpr hd) h, offerTurn_ends _ (Bool.eq_false_iff.mpr hd) h]

/-- The turns' end as the CSU takes it (R176, R167). -/
theorem finishTurns_spec (r : TurnsResult) (s : State) :
    (finishTurns r s).aspect .seaward = .stop ∧ (finishTurns r s).aspect .landward = .stop ∧
    (finishTurns r s).csu.phase = .ended ∧ (finishTurns r s).csu.current = none ∧ (finishTurns r s).csu.result = r ∧
    (finishTurns r s).csu.sides = s.csu.sides ∧ (finishTurns r s).csu.horn = s.csu.horn ∧
    (s.psc.batch.state = .running → (finishTurns r s).psc.batch.state = (if s.csu.sealed then .closed else .closing) ∧
      ((finishTurns r s).cl.latched &&& 0x200) ≠ 0) ∧
    (s.psc.batch.state ≠ .running → (finishTurns r s).psc = s.psc) := by
  obtain ⟨p, hp⟩ := showStop_eq s
  have hcsu : (endPhase r (showStop s)).csu = { s.csu with aspects := ⟨.stop, .stop⟩, phase := .ended, current := none, result := r } := by
    rw [hp]; rfl
  have hpsc : (endPhase r (showStop s)).psc = s.psc := by rw [hp]; rfl
  unfold finishTurns
  generalize endPhase r (showStop s) = v at *
  obtain ⟨h1, h2, h3, -⟩ := turnsOver_ended (s := v) (by rw [hcsu])
  rw [hpsc, hcsu] at h2 h3
  have hl (hr : s.psc.batch.state = .running) : ((turnsOver v).cl.latched &&& 0x200) ≠ 0 := by
    rw [turnsOver_running (by rw [hpsc]; exact hr)]; exact (enterClosing_closes v).latched
  generalize turnsOver v = w at *
  have hrest : w.csu.aspects = ⟨.stop, .stop⟩ ∧ w.csu.phase = .ended ∧ w.csu.current = none ∧ w.csu.result = r ∧
      w.csu.sides = s.csu.sides ∧ w.csu.horn = s.csu.horn := by
    rcases h1 with h1 | h1 <;> rw [h1, hcsu] <;> exact ⟨rfl, rfl, rfl, rfl, rfl, rfl⟩
  obtain ⟨g1, g2, g3, g4, g5, g6⟩ := hrest
  exact ⟨by unfold State.aspect; rw [g1]; rfl, by unfold State.aspect; rw [g1]; rfl, g2, g3, g4, g5, g6,
    fun hr => ⟨(h2 hr).2, hl hr⟩, fun hr => (h3 hr).1⟩

/-! ### The timers of the channel (R177, R178, R181, R182) -/

theorem sealDue_eq (s : State) : s.sealDue = s.csu.sealTimer.any (100 * s.par pSealTime ≤ ·) := by
  unfold State.sealDue
  cases s.csu.sealTimer <;> rfl
theorem windowDue_eq (s : State) : s.windowDue = s.csu.window.any (100 * s.par pWindow ≤ ·) := by
  unfold State.windowDue
  cases s.csu.window <;> rfl
theorem changeoverDue_eq (s : State) : s.changeoverDue = s.csu.changeover.any (100 * s.par pChangeover ≤ ·) := by
  unfold State.changeoverDue
  cases s.csu.changeover <;> rfl

/-- A seal timer that is due has the effect of CHANNEL_SEALED. -/
theorem sealReached_due (h : s.sealDue = true) : sealReached s = reviewSeal s := by
  obtain ⟨n, hn, hle⟩ : ∃ n, s.csu.sealTimer = some n ∧ sec (s.par pSealTime) ≤ n := by
    unfold State.sealDue at h
    cases hs : s.csu.sealTimer with
    | none => rw [hs] at h; cases h
    | some n => rw [hs] at h; exact ⟨n, rfl, of_decide_eq_true h⟩
  have e : (s.onCsu fun c => { c with sealTimer := c.sealTimer.map (max (sec (s.par pSealTime))) }) = s := by
    unfold State.onCsu
    dsimp only
    rw [hn, Option.map_some, max_eq_right hle, ← hn]
  unfold sealReached
  rw [if_pos (by rw [hn]; rfl), e]

theorem becomeSealed_spec (s : State) : (becomeSealed s).csu.sealed = true ∧
    (s.psc.batch.state = .closing → (becomeSealed s).psc.batch.state = .closed ∧
      (becomeSealed s).psc.batch.closedAt = some s.tb.seconds) ∧
    (s.psc.batch.state ≠ .closing → (becomeSealed s).psc = s.psc) := by
  unfold becomeSealed
  dsimp only
  by_cases h : s.psc.batch.state = .closing
  · obtain ⟨x, hx⟩ := setBatchState_eq .closed (s.onCsu fun c => { c with sealed := true })
    unfold closeBatch
    rw [if_pos (show (s.onCsu fun c => { c with sealed := true }).psc.batch.state = .closing from h), hx]
    exact ⟨rfl, fun _ => ⟨rfl, rfl⟩, fun hn => absurd h hn⟩
  · rw [if_neg (show ¬(s.onCsu fun c => { c with sealed := true }).psc.batch.state = .closing from h)]
    exact ⟨rfl, fun hn => absurd hn h, fun _ => rfl⟩

/-- CHANNEL_SEALED with the timer running (R182, R169). -/
theorem sealReached_spec (h : s.csu.sealTimer ≠ none) : (sealReached s).csu.sealed = true ∧
    (s.csu.sealed = false → s.psc.batch.state = .closing →
      (sealReached s).psc.batch.state = .closed ∧ (sealReached s).psc.batch.closedAt = some s.tb.seconds) ∧
    (s.psc.batch.state ≠ .closing → (sealReached s).psc = s.psc) := by
  obtain ⟨n, hn⟩ := Option.ne_none_iff_exists'.mp h
  have hv : ∃ v, sealReached s = reviewSeal v ∧ v.sealDue = true ∧ v.csu.sealed = s.csu.sealed ∧ v.psc = s.psc ∧ v.tb = s.tb := by
    refine ⟨s.onCsu fun c => { c with sealTimer := c.sealTimer.map (max (sec (s.par pSealTime))) }, ?_, ?_, rfl, rfl, rfl⟩
    · exact if_pos (by rw [hn]; rfl)
    · rw [sealDue_eq]
      show (s.csu.sealTimer.map (max (sec (s.par pSealTime)))).any (fun x => decide (100 * s.par pSealTime ≤ x)) = true
      rw [hn]
      exact decide_eq_true (le_max_left _ _)
  obtain ⟨v, hv, hdue, hsealed, hpsc, htb⟩ := hv
  have e : sealReached s = if v.csu.sealed then v else becomeSealed v := hv.trans (if_pos hdue)
  rw [e]
  cases hs : s.csu.sealed
  · obtain ⟨h1, h2, h3⟩ := becomeSealed_spec v
    rw [if_neg (by rw [hsealed, hs]; nofun)]
    rw [hpsc, htb] at h2
    rw [hpsc] at h3
    exact ⟨h1, fun _ => h2, h3⟩
  · rw [if_pos (by rw [hsealed, hs])]
    exact ⟨hsealed.trans hs, nofun, fun _ => hpsc⟩

theorem hornExpires_csu (s : State) : (hornExpires s).csu = { s.csu with horn := 0 } := by
  obtain ⟨p, hp⟩ := driveCsu_eq (fun c => { c with horn := 0 }) s
  unfold hornExpires
  rw [hp]

theorem channelDue_eq (h : s.running = true) : channelDue s =
    (let s := s.happens (s.csu.window.any (100 * s.par pWindow ≤ ·)) .passageWindowExpiry
     let s := s.happens (s.csu.changeover.any (100 * s.par pChangeover ≤ ·)) .changeoverExpiry
     s.happens (s.csu.sealTimer.any (100 * s.par pSealTime ≤ ·) && !s.csu.sealed) .channelSealed) := by
  dsimp only
  rw [happens_run (f := sealReached) (fun _ => rfl) (happens_running rfl (happens_running rfl h _) _),
    happens_run (f := changeoverExpires) (fun _ => rfl) (happens_running rfl h _),
    happens_run (f := windowExpires) (fun _ => rfl) h]
  unfold channelDue
  dsimp only
  rw [windowDue_eq]
  generalize when _ windowExpires s = v
  rw [changeoverDue_eq]
  generalize when _ changeoverExpires v = w
  rw [← sealDue_eq]
  cases hd : w.sealDue
  · rfl
  · cases hs : w.csu.sealed
    · exact (sealReached_due hd).symm
    · rfl

theorem windowExpires_ends (hp : s.csu.phase = .turn) (hc : s.csu.current = some d) (hw : s.csu.window ≠ none) :
    windowExpires s = endTurn d .window s := by
  obtain ⟨n, hn⟩ := Option.ne_none_iff_exists'.mp hw
  unfold windowExpires
  rw [hp, hc, hn]
theorem windowExpires_idle (h : s.csu.phase ≠ .turn ∨ s.csu.window = none) : windowExpires s = s := by
  unfold windowExpires
  split
  · next h1 _ h2 => rcases h with h | h
                    · exact absurd h1 h
                    · rw [h] at h2; cases h2
  · rfl
theorem changeoverExpires_offers (hp : s.csu.phase = .changeover) (hc : s.csu.current = some d) (hw : s.csu.changeover ≠ none) :
    changeoverExpires s = offerTurn 4 d.other { s with csu := { s.csu with changeover := none } } := by
  obtain ⟨n, hn⟩ := Option.ne_none_iff_exists'.mp hw
  unfold changeoverExpires
  rw [hp, hc, hn]
  rfl
theorem changeoverExpires_idle (h : s.csu.phase ≠ .changeover ∨ s.csu.changeover = none) : changeoverExpires s = s := by
  unfold changeoverExpires
  split
  · next h1 _ h2 => rcases h with h | h
                    · exact absurd h1 h
                    · rw [h] at h2; cases h2
  · rfl

/-- Settles O50: the timers by their rows, the offer of a turn step by step. -/
theorem channelTimersAndTurns : Obligations.ChannelTimersAndTurns := by
  unfold Obligations.ChannelTimersAndTurns
  intro closes
  have hcloses (r : TurnsResult) (s : State) : closes s (finishTurns r s) := by
    obtain ⟨-, -, -, -, -, -, -, h1, h2⟩ := finishTurns_spec r s
    exact ⟨h1, h2⟩
  refine ⟨fun s hrun => ⟨fun d hp hc hw => ?_, fun h => ?_, fun d hp hc hw => ?_, fun h => ?_, fun h => ?_, fun h => ?_, ?_, rfl, ?_,
    channelDue_eq hrun⟩, fun d s => ?_, fun d s hd => ⟨fun ho => ?_, fun ho => ?_⟩,
    fun d s hd => ⟨fun hl hr hg => ?_, fun hl hr hg => ?_, fun hl => ?_, fun hl hr => ?_⟩⟩
  · obtain ⟨p, hp'⟩ := endTurn_eq d .window s
    refine ⟨_, exec_run rfl hrun ((windowExpires_ends hp hc hw).trans hp'), rfl, rfl, rfl, rfl, rfl, ?_, ?_, ?_, ?_, rfl, ?_, rfl⟩
    · exact (perSide_other_self _ d _).trans (perSide_get_self _ d _)
    · exact congrArg SideTurn.status (perSide_get_self _ d _)
    · exact congrArg SideTurn.cause (perSide_get_self _ d _)
    · exact congrArg SideTurn.goEnd (perSide_get_self _ d _)
    · exact perSide_get_self _ d.other _
  · exact exec_run rfl hrun (windowExpires_idle h)
  · exact exec_run rfl hrun (changeoverExpires_offers hp hc hw)
  · exact exec_run rfl hrun (changeoverExpires_idle h)
  · exact exec_run rfl hrun (if_neg (by rw [h]; nofun))
  · exact ⟨_, exec_run rfl hrun rfl, sealReached_spec h⟩
  · exact ⟨_, exec_run rfl hrun rfl, hornExpires_csu s, by unfold State.hornOn; rw [hornExpires_csu]; exact Bool.and_false _⟩
  · rw [after_run (f := hornExpires) (fun _ => rfl) hrun]; rfl
  · rw [Bool.eq_iff_iff, canOffer_iff, calledLeft_iff, decide_eq_true_iff]
  · have hs : s.canOffer d.other.other = false := by rw [other_other]; exact hd
    rw [offerTurn_passes 3 hd ho]
    exact (offerTurn_settles 1 hs).trans (offerTurn_settles 2 hs).symm
  · have h := finishTurns_spec .turnsEnded s
    obtain ⟨h1, h2, h3, h4, h5, h6, -⟩ := h
    rw [offerTurn_ends 3 hd ho]
    exact ⟨h1, h2, h3, h4, h5, h6, hcloses _ s⟩
  · obtain ⟨p, hp⟩ := skipTurn_eq d s
    refine ⟨skipTurn d s, ?_, by rw [hp], by rw [hp], by rw [hp], by rw [hp], by rw [hp], by rw [hp]⟩
    have hs : (skipTurn d s).canOffer d.other.other = false := by rw [other_other]; exact canOffer_skipped_self d s
    rw [offerTurn_skips 3 hd hl hr hg]
    exact (offerTurn_settles 1 hs).trans (offerTurn_settles 2 hs).symm
  · obtain ⟨p, hp⟩ := startTurn_eq d s
    rw [offerTurn_starts 3 hd hl hr hg, hp]
    refine ⟨perSide_get_self _ d _, ?_, rfl, rfl, ?_, ?_, ?_, perSide_get_other _ d _, rfl, rfl, rfl, rfl, rfl, rfl⟩
    · exact (perSide_get_other _ d _).trans (perSide_get_self _ d.other _)
    · exact congrArg SideTurn.status (perSide_get_self _ d _)
    · exact congrArg SideTurn.goStart (perSide_get_self _ d _)
    · dsimp only; rw [perSide_get_self]
  · obtain ⟨h1, h2, h3, h4, h5, h6, h7, -⟩ := finishTurns_spec .goWithdrawn s
    have hb := (finishTurns_only .goWithdrawn s).tb
    rw [offerTurn_left 3 hd hl]
    exact ⟨h1, h2, h3, h4, h5, h6, by unfold State.hornOn State.running; rw [h7, hb], hcloses _ s⟩
  · obtain ⟨h1, h2, h3, h4, h5, h6, -⟩ := finishTurns_spec .signalDefect s
    have hc := hcloses .signalDefect s
    rw [offerTurn_defect 3 hd hl hr]
    exact ⟨h1, h2, h3, h4, h5, h6, latch_batch_mask _, fun h => ⟨(hc.1 h).1, latch_batch_mask _⟩, hc.2⟩

/-! ### The control period (R106, R111 to R115, R118) -/

/-- The conditions of R115 in their order; past the test of the positions neither leaf is LOST. -/
theorem tripNow_eq (s : State) : s.tripNow =
    (if s.lmc.leaf = .seatedLocked ∨ s.lmc.leaf = .tripped then none
    else if s.pins.estop = true then some .estop
    else if s.leafZoneOccupied = true then some .deck
    else if (s.lmc.leaf = .raising ∨ s.lmc.leaf = .lowering) ∧ s.msu.angles.north.source ≠ .lost ∧
        s.msu.angles.south.source ≠ .lost ∧
        s.lmc.motion.sTrip ≤ (s.msu.angles.north.angle - s.msu.angles.south.angle).natAbs then some .skew
    else if s.msu.angles.north.source = .lost ∨ s.msu.angles.south.source = .lost then some .position
    else if (s.lmc.leaf = .raising ∨ s.lmc.leaf = .lowering) ∧ s.pumpFault = true then some .pressure
    else if s.lmc.leaf = .raised ∧
        (s.msu.angles.north.angle + s.lmc.motion.driftLimit < s.lmc.motion.target ∨
          s.msu.angles.south.angle + s.lmc.motion.driftLimit < s.lmc.motion.target) then some .drift
    else none) := by
  have hskew : s.skewTrip = true ↔ (s.lmc.leaf = .raising ∨ s.lmc.leaf = .lowering) ∧ s.msu.angles.north.source ≠ .lost ∧
      s.msu.angles.south.source ≠ .lost ∧
      s.lmc.motion.sTrip ≤ (s.msu.angles.north.angle - s.msu.angles.south.angle).natAbs := by
    unfold State.skewTrip
    rw [Bool.and_eq_true, Bool.and_eq_true, moving_iff, decide_eq_true_iff, and_assoc]
    simp only [State.positionLost, Bool.not_eq_true', Bool.or_eq_false_iff, decide_eq_false_iff_not, and_assoc]
    rfl
  have hlost : s.positionLost = true ↔ s.msu.angles.north.source = .lost ∨ s.msu.angles.south.source = .lost := by
    simp [State.positionLost]
  have hpump : (s.lmc.leaf.moving && s.pumpFault) = true ↔
      (s.lmc.leaf = .raising ∨ s.lmc.leaf = .lowering) ∧ s.pumpFault = true := by
    rw [Bool.and_eq_true, moving_iff]
  have hdrift (hn : ¬(s.msu.angles.north.source = .lost ∨ s.msu.angles.south.source = .lost)) : s.driftTrip = true ↔
      s.lmc.leaf = .raised ∧ (s.msu.angles.north.angle + s.lmc.motion.driftLimit < s.lmc.motion.target ∨
        s.msu.angles.south.angle + s.lmc.motion.driftLimit < s.lmc.motion.target) := by
    obtain ⟨h1, h2⟩ := not_or.mp hn
    have g1 : s.lost .north = false := decide_eq_false h1
    have g2 : s.lost .south = false := decide_eq_false h2
    simp only [State.driftTrip, State.drifted, g1, g2, Bool.not_false, Bool.true_and, Bool.and_eq_true, Bool.or_eq_true,
      decide_eq_true_iff]
    rfl
  unfold State.tripNow
  refine if_congr Iff.rfl rfl (if_congr Iff.rfl rfl (if_congr Iff.rfl rfl (if_congr hskew rfl ?_)))
  by_cases hn : s.msu.angles.north.source = .lost ∨ s.msu.angles.south.source = .lost
  · rw [if_pos hn, if_pos (hlost.mpr hn)]
  · rw [if_neg hn, if_neg fun e => hn (hlost.mp e)]
    exact if_congr hpump rfl (if_congr (hdrift hn) rfl rfl)

/-- In the run a tick's control period is the row's, with the tests of alignment (notes 1 and 4). -/
theorem controlDue_eq (h : s.running = true) : controlDue s = if s.tb.subTick % 2 = 0 then
    ((s.after .controlPeriod).after (.centreBoltAligned 0)).after (.centreBoltAligned 1) else s := by
  unfold controlDue
  rw [when_eq]
  by_cases hd : s.tb.subTick % 2 = 0
  · rw [if_pos hd, if_pos (decide_eq_true hd)]
    have h1 : (controlPeriod s).running = true := by
      have := happens_running (c := .controlPeriod) rfl h true
      rwa [happens_run (f := controlPeriod) (fun _ => rfl) h] at this
    have h2 : (alignBolt 0 (controlPeriod s)).running = true := by
      have := happens_running (c := .centreBoltAligned 0) rfl h1 true
      rwa [happens_run (f := alignBolt 0) (fun _ => rfl) h1] at this
    rw [after_run (c := .controlPeriod) (f := controlPeriod) (fun _ => rfl) h,
      after_run (c := .centreBoltAligned 0) (f := alignBolt 0) (fun _ => rfl) h1,
      after_run (c := .centreBoltAligned 1) (f := alignBolt 1) (fun _ => rfl) h2]
  · rw [if_neg hd, if_neg (by simp [hd])]

/-- The state with the references of its period issued (R106 to R110). -/
def State.periodIssued (s : State) : State := s.onMotion fun m => m.period (s.angle .north) (s.angle .south) s.pctInUse

theorem controlPeriod_trips {c : TripCause} (h : s.tripNow = some c) : controlPeriod s = trip c s := by
  unfold controlPeriod; rw [h]
theorem controlPeriod_rests (h : s.tripNow = none)
    (hr : (s.lmc.leaf ≠ .raising ∧ s.lmc.leaf ≠ .lowering) ∨ s.lmc.motion.awaitingPumps = true) : controlPeriod s = s := by
  unfold controlPeriod
  rw [h]
  refine if_neg fun hn => ?_
  rcases hr with hr | hr
  · rw [moving_false_iff.mpr hr] at hn; cases hn.1
  · rw [hr] at hn; cases hn.2
theorem controlPeriod_moves (h : s.tripNow = none) (hl : s.lmc.leaf = .raising ∨ s.lmc.leaf = .lowering)
    (hw : s.lmc.motion.awaitingPumps = false) : controlPeriod s = settleMotion s.periodIssued := by
  unfold controlPeriod
  rw [h]
  exact if_pos ⟨moving_iff.mpr hl, hw⟩

/-! How a motion ends -/

theorem settleMotion_goes (hh : s.lmc.motion.halt = .none) (hb : s.lmc.motion.bothArrived = false) : settleMotion s = s := by
  unfold settleMotion
  dsimp only
  rw [if_neg fun hn => hn hh, if_neg (by rw [hb]; nofun)]
theorem settleMotion_raised (hh : s.lmc.motion.halt = .none) (hb : s.lmc.motion.bothArrived = true)
    (hd : s.lmc.motion.direction = .raise) : settleMotion s = batchRaised (setLeaf .raised s) := by
  unfold settleMotion
  dsimp only
  rw [if_neg fun hn => hn hh, if_pos hb, hd]
theorem settleMotion_lowered (hh : s.lmc.motion.halt = .none) (hb : s.lmc.motion.bothArrived = true)
    (hd : s.lmc.motion.direction = .lower) : settleMotion s = testSeating s := by
  unfold settleMotion
  dsimp only
  rw [if_neg fun hn => hn hh, if_pos hb, hd]
theorem settleMotion_halting (hh : s.lmc.motion.halt ≠ .none) (hb : s.lmc.motion.bothArrived = false)
    (hr : s.lmc.motion.atRest = false) : settleMotion s = s := by
  unfold settleMotion
  dsimp only
  rw [if_pos hh, if_neg (by rw [hb, hr]; nofun)]
theorem settleMotion_halted (hh : s.lmc.motion.halt ≠ .none) (hr : s.lmc.motion.bothArrived = true ∨ s.lmc.motion.atRest = true) :
    settleMotion s = endHalt s := by
  unfold settleMotion
  dsimp only
  rw [if_pos hh, if_pos (Bool.or_eq_true_iff.mpr hr)]

theorem testSeating_unseated (h : s.bothSeated = false) : testSeating s = s :=
  if_neg fun ⟨_, _, _, _, hs⟩ => by rw [h] at hs; cases hs

theorem testLocked_lmc_motion (s : State) : (testLocked s).lmc.motion = s.lmc.motion := (testLocked_reach s).motion_eq (by decide)

theorem endHalt_halted (h : s.lmc.motion.halt ≠ .wind ∨ s.apu.restart = true) :
    (endHalt s).lmc = { s.lmc with
      leaf := .halted, motion := { s.lmc.motion with halt := .none, awaitingPumps := false } } := by
  obtain ⟨x, hx⟩ := setLeaf_eq .halted (s.onMotion fun m => { m with halt := .none, awaitingPumps := false })
  have e : endHalt s = setLeaf .halted (s.onMotion fun m => { m with halt := .none, awaitingPumps := false }) :=
    if_neg fun hn => by
      rcases h with h | h
      · exact h hn.1
      · rw [hn.2] at h; cases h
  rw [e, hx]
  rfl

/-- What the lowering of a wind reversal leaves (R118, R104). -/
structure ReversesWind (s t : State) : Prop where
  leaves : t.lmc = { s.lmc with
    leaf := .lowering
    motion := { s.motionRecord .lower .reversal 0 with derateFixed := true, awaitingPumps := !s.bothReady } }
  pump : ∀ g : Leaf, t.pump g = s.pumpOrdered g
  latched : s.lmc.leaf ≠ .lowering → (t.cl.latched &&& 8) ≠ 0

theorem endHalt_reverses (hh : s.lmc.motion.halt = .wind) (hr : s.apu.restart = false) : ReversesWind s (endHalt s) := by
  have e : endHalt s = prepareLowering (setLeaf .lowering
      ((beginMotion .lower .reversal 0 s).onMotion fun m => { m with derateFixed := true })) := if_pos ⟨hh, hr⟩
  obtain ⟨x, hx⟩ := setLeaf_eq .lowering ((beginMotion .lower .reversal 0 s).onMotion fun m => { m with derateFixed := true })
  rw [e]
  have hv : ∃ v, v = setLeaf .lowering ((beginMotion .lower .reversal 0 s).onMotion fun m => { m with derateFixed := true }) := ⟨_, rfl⟩
  obtain ⟨v, hv⟩ := hv
  have hord (g : Leaf) : v.pumpOrdered g = s.pumpOrdered g := by rw [hv, hx]; rfl
  have hleaf : v.lmc = { s.lmc with leaf := .lowering, motion := { s.motionRecord .lower .reversal 0 with derateFixed := true } } := by
    rw [hv, hx]; rfl
  have hlat (hl : s.lmc.leaf ≠ .lowering) : (v.cl.latched &&& 8) ≠ 0 := by
    rw [hv, hx]
    dsimp only
    rw [if_neg (show ¬((beginMotion .lower .reversal 0 s).onMotion fun m => { m with derateFixed := true }).lmc.leaf = .lowering from hl)]
    exact or_eight _
  rw [← hv]
  clear hv hx e
  obtain ⟨y, hy, -⟩ := orderPumps_eq v
  have hready : (orderPumps v).bothReady = s.bothReady :=
    bothReady_ordered fun g => by rw [← hord, hy]; cases g <;> rfl
  refine ⟨?_, fun g => ?_, fun hl => ?_⟩
  · rw [prepareLowering_lmc, hleaf, hready]
  · unfold prepareLowering
    rw [hy, ← hord]
    cases g <;> rfl
  · unfold prepareLowering
    rw [hy]
    exact hlat hl

/-- What RAISED leaves, with the batch it runs (R111, R166). -/
structure BatchRuns (s t : State) : Prop where
  leaf : t.lmc = { s.lmc with leaf := .raised }
  latched : (t.cl.latched &&& 8) ≠ 0
  unformed : s.psc.batch.state ≠ .formed → t.psc = s.psc ∧ t.csu = s.csu
  formed : s.psc.batch.state = .formed → (t.cl.latched &&& 0x200) ≠ 0 ∧
    ∃ v : State, v.lmc = t.lmc ∧ v.csu = s.csu ∧ v.tb = s.tb ∧ v.phu.circuits = s.phu.circuits ∧
      v.psc = { s.psc with batch := { s.psc.batch with state := .running, raisedAt := some s.tb.seconds } } ∧
      (∀ d, s.csu.phase = .idle → s.psc.batch.leading = some d → t = offerTurn 4 d v ∧
        ((s.csu.sides.get d).status = .notYet → s.calledLeft d = true → s.redsFailed d.other = false →
          s.greensFailed d = false → t.aspect d = .go ∧ t.csu.phase = .turn ∧ t.csu.current = some d ∧
          t.psc.batch.state = .running)) ∧
      (s.csu.phase ≠ .idle ∨ s.psc.batch.leading = none → t = v)

theorem signalsRunning_offers (hp : s.csu.phase = .idle) (hd : s.psc.batch.leading = some d) : signalsRunning s = offerTurn 4 d s := by
  unfold signalsRunning; rw [hp, hd]
theorem signalsRunning_rests (h : s.csu.phase ≠ .idle ∨ s.psc.batch.leading = none) : signalsRunning s = s := by
  unfold signalsRunning
  split
  · next h1 h2 => rcases h with h | h
                  · exact absurd h1 h
                  · rw [h] at h2; cases h2
  · rfl

theorem lampsFailed_congr (h : t.phu.circuits = s.phu.circuits) (d : Side) : t.redsFailed d = s.redsFailed d ∧
    t.greensFailed d = s.greensFailed d := by
  unfold State.redsFailed State.greensFailed State.lampFailed
  cases d <;> (rw [h]; exact ⟨rfl, rfl⟩)

theorem raised_runs (h : s.lmc.leaf ≠ .raised) : BatchRuns s (batchRaised (setLeaf .raised s)) := by
  have hu := setLeaf_away h (by decide)
  generalize setLeaf .raised s = u at hu ⊢
  have ho := batchRaised_only u
  have hpsc : u.psc = s.psc := by rw [hu]
  have hrest : u.lmc = { s.lmc with leaf := .raised } ∧ u.csu = s.csu ∧ u.tb = s.tb ∧ u.phu = s.phu ∧ (u.cl.latched &&& 8) ≠ 0 := by
    rw [hu]; exact ⟨rfl, rfl, rfl, rfl, or_eight _⟩
  obtain ⟨hlmc, hcsu, htb, hphu, hlat⟩ := hrest
  refine ⟨ho.lmc.trans hlmc, ho.mask (i := 3) hlat, fun hn => ?_, fun hf => ?_⟩
  · have e : batchRaised u = u := if_neg (by rw [hpsc]; exact hn)
    rw [e]
    exact ⟨hpsc, hcsu⟩
  · have e : batchRaised u = signalsRunning ((setBatchState .running u).onBatch fun b => { b with raisedAt := some u.tb.seconds }) :=
      if_pos (by rw [hpsc]; exact hf)
    obtain ⟨x, hx⟩ := setBatchState_eq .running u
    have hlat2 := setBatchState_latched .running u
    have hv : ∃ v, v = (setBatchState .running u).onBatch fun b => { b with raisedAt := some u.tb.seconds } := ⟨_, rfl⟩
    obtain ⟨v, hv⟩ := hv
    have hvb : (v.cl.latched &&& 0x200) ≠ 0 := by rw [hv]; exact hlat2
    have hvrest : v.lmc = u.lmc ∧ v.csu = u.csu ∧ v.tb = u.tb ∧ v.phu = u.phu ∧
        v.psc = { u.psc with batch := { u.psc.batch with state := .running, raisedAt := some u.tb.seconds } } := by
      rw [hv, hx]; exact ⟨rfl, rfl, rfl, rfl, rfl⟩
    rw [← hv] at e
    rw [e] at ho ⊢
    clear hv hx hlat2 e
    obtain ⟨g1, g2, g3, g4, g5⟩ := hvrest
    rw [hpsc, htb] at g5
    have hlead : v.psc.batch.leading = s.psc.batch.leading := by rw [g5]
    have hcsu' := g2.trans hcsu
    have honly : ChannelOnly v (signalsRunning v) := by
      unfold signalsRunning
      split
      · exact offerTurn_only _ _ v
      · exact .refl v
    refine ⟨honly.mask (i := 9) hvb, v, honly.lmc.symm, hcsu', g3.trans htb, by rw [g4, hphu], g5, fun d hp hd => ?_, fun hn => ?_⟩
    · rw [signalsRunning_offers (d := d) (by rw [hcsu']; exact hp) (by rw [hlead]; exact hd)]
      refine ⟨rfl, fun h1 h2 h3 h4 => ?_⟩
      have hoffer : v.canOffer d = true := canOffer_iff.mpr
        ⟨by rw [hcsu']; exact h1, by unfold State.calledLeft; rw [g5]; exact h2⟩
      have hcirc : v.phu.circuits = s.phu.circuits := by rw [g4, hphu]
      obtain ⟨p, hp⟩ := startTurn_eq d v
      rw [offerTurn_starts 3 hoffer (by rw [g1, hlmc]) (by rw [(lampsFailed_congr hcirc _).1]; exact h3)
        (by rw [(lampsFailed_congr hcirc _).2]; exact h4), hp]
      exact ⟨perSide_get_self _ d _, rfl, rfl, by dsimp only; rw [g5]⟩
    · exact signalsRunning_rests (by rw [hcsu', hlead]; exact hn)

/-- Settles O39: the trips in their order, the period's references, and the end of a motion case by case. -/
theorem controlPeriodOutcomes : Obligations.ControlPeriodOutcomes := by
  unfold Obligations.ControlPeriodOutcomes
  intro s hrun m v
  refine ⟨tripNow_eq s, controlDue_eq hrun, fun c hc => exec_run rfl hrun (controlPeriod_trips hc),
    fun hn hr => exec_run rfl hrun (controlPeriod_rests hn hr), fun hn hl hw => ?_⟩
  have hcp : controlPeriod s = settleMotion v := controlPeriod_moves hn hl hw
  have hvm : v.lmc.motion = m := rfl
  have hvl : v.lmc.leaf = s.lmc.leaf := rfl
  have hvw : v.lmc.motion.awaitingPumps = false := hw
  have hvr : v.apu.restart = s.apu.restart := rfl
  refine ⟨fun hh hb => ?_, fun hh hb hd => ?_, fun hh hb hd hs => ?_, fun hh hb hd hs hlow => ?_, fun hh hb hr => ?_, fun hh hw hr => ?_,
    fun hh hr hb => ?_⟩
  · exact exec_run rfl hrun (hcp.trans (settleMotion_goes hh hb))
  · have h := raised_runs (s := v) (by rw [hvl]; rcases hl with hl | hl <;> rw [hl] <;> decide)
    have e : controlPeriod s = batchRaised (setLeaf .raised v) := hcp.trans (settleMotion_raised hh hb hd)
    exact ⟨_, exec_run rfl hrun e, by rw [h.leaf], by rw [h.leaf], h.latched, h.unformed, h.formed⟩
  · exact exec_run rfl hrun (hcp.trans ((settleMotion_lowered (s := v) hh hb hd).trans (testSeating_unseated hs)))
  · have hmot : (testSeating v).lmc.motion = m := (testSeating_reach v).motion_eq (by decide)
    exact ⟨_, exec_run rfl hrun (hcp.trans (settleMotion_lowered (s := v) hh hb hd)), hmot, testSeating_seats hlow hb hh hvw hs⟩
  · exact exec_run rfl hrun (hcp.trans (settleMotion_halting hh hb hr))
  · exact ⟨_, exec_run rfl hrun (hcp.trans (settleMotion_halted hh hr)), by rw [endHalt_halted (s := v) hw],
      by rw [endHalt_halted (s := v) hw]⟩
  · obtain ⟨h1, h3, h4⟩ := endHalt_reverses (s := v) hh hr
    have h2 := congrArg Lmc.motion h1
    refine ⟨_, exec_run rfl hrun (hcp.trans (settleMotion_halted (by rw [hvm, hh]; decide) hb)), congrArg Lmc.leaf h1, congrArg Motion.source h2,
      congrArg Motion.target h2, congrArg Motion.derateFixed h2, congrArg Motion.direction h2, h2, h3, fun hr => h4 (by rw [hvl, hr]; decide)⟩

end Sys2Proof.Machine
end

section
/-! PROOFS. The encoders and the wind (O41, O42). -/

namespace Sys2Proof.Machine

variable {s t u : State} {a k : Fin 8}

/-! ### What the leaves do on a wind report (R102, R117, R118) -/

/-- The leaves once the LMC has heard of a barring wind. -/
def State.windTaken (s : State) : Lmc :=
  if s.lmc.leaf = .unlocking then
    { s.lmc with leaf := if s.allDriven && s.bothSeated then .seatedLocked else .locking }
  else if s.lmc.leaf = .raising ∧ s.lmc.motion.halt = .none ∧ s.lmc.motion.derateFixed = false then
    if s.pastCommit then { s.lmc with motion := { s.lmc.motion with derateFixed := true } }
    else if s.lmc.motion.atRest then
      if s.apu.restart then
        { s.lmc with leaf := .halted, motion := { s.lmc.motion with halt := .none, awaitingPumps := false } }
      else { s.lmc with
        leaf := .lowering
        motion := { s.motionRecord .lower .reversal 0 with derateFixed := true, awaitingPumps := !s.bothReady } }
    else { s.lmc with motion := { s.lmc.motion with halt := .wind } }
  else s.lmc

theorem beginHalt_ends (h : Halt) (hm : s.lmc.leaf.moving = true) (hr : s.lmc.motion.atRest = true) :
    beginHalt h s = endHalt (s.onMotion fun m => { m with halt := h }) := by
  unfold beginHalt
  rw [if_pos hm]
  exact if_pos hr

theorem beginHalt_windReverses (hm : s.lmc.leaf.moving = true) (hr : s.lmc.motion.atRest = true) (hw : s.apu.restart = false) :
    (beginHalt .wind s).lmc = { s.lmc with
      leaf := .lowering
      motion := { s.motionRecord .lower .reversal 0 with derateFixed := true, awaitingPumps := !s.bothReady } } := by
  rw [beginHalt_ends .wind hm hr]
  exact (endHalt_reverses (s := s.onMotion fun m => { m with halt := .wind }) rfl hw).leaves

theorem reportWind_raising (hl : s.lmc.leaf = .raising) (hh : s.lmc.motion.halt = .none) (hd : s.lmc.motion.derateFixed = false) :
    reportWind s = if s.pastCommit then (latch .wind (latch .leaf s)).onMotion fun m => { m with derateFixed := true }
      else beginHalt .wind (latch .wind (latch .leaf s)) := by
  unfold reportWind
  rw [hl]
  exact if_pos ⟨hh, hd⟩
theorem reportWind_unlocking (hl : s.lmc.leaf = .unlocking) : reportWind s = latch .wind (enterLocking s) := by
  unfold reportWind; rw [hl]
theorem reportWind_idle (h : s.lmc.leaf ≠ .unlocking)
    (hr : s.lmc.leaf = .raising → s.lmc.motion.halt ≠ .none ∨ s.lmc.motion.derateFixed = true) : reportWind s = s := by
  unfold reportWind
  split
  · next hl => exact absurd hl h
  · next hl =>
    refine if_neg fun hn => ?_
    rcases hr hl with hr | hr
    · exact hr hn.1
    · rw [hn.2] at hr; cases hr
  all_goals rfl

theorem reportWind_lmc (s : State) : (reportWind s).lmc = s.windTaken := by
  unfold State.windTaken
  by_cases hu : s.lmc.leaf = .unlocking
  · rw [if_pos hu, reportWind_unlocking hu]
    have hk := (enterLocking_spec (s := s) (by rw [hu]; decide)).leaves
    generalize enterLocking s = v at hk ⊢
    exact hk
  · rw [if_neg hu]
    by_cases hr : s.lmc.leaf = .raising ∧ s.lmc.motion.halt = .none ∧ s.lmc.motion.derateFixed = false
    · rw [if_pos hr, reportWind_raising hr.1 hr.2.1 hr.2.2]
      have hv : ∃ v, v = latch .wind (latch .leaf s) := ⟨_, rfl⟩
      obtain ⟨v, hv⟩ := hv
      have hmv : v.lmc.leaf.moving = true := by
        have : v.lmc.leaf = .raising := by rw [hv]; exact hr.1
        rw [this]; rfl
      have hrest : v.lmc = s.lmc ∧ v.apu = s.apu ∧ v.motionRecord .lower .reversal 0 = s.motionRecord .lower .reversal 0 ∧
          v.bothReady = s.bothReady := by rw [hv]; exact ⟨rfl, rfl, rfl, rfl⟩
      obtain ⟨h1, h2, h3, h4⟩ := hrest
      rw [← hv]
      clear hv
      by_cases hp : s.pastCommit = true
      · rw [if_pos hp, if_pos hp]
        show ({ v.lmc with motion := { v.lmc.motion with derateFixed := true } } : Lmc) = _
        rw [h1]
      · rw [if_neg hp, if_neg hp]
        cases hrs : s.lmc.motion.atRest
        · rw [beginHalt_moving .wind hmv (by rw [h1]; exact hrs), if_neg nofun]
          show ({ v.lmc with motion := { v.lmc.motion with halt := .wind } } : Lmc) = _
          rw [h1]
        · rw [if_pos rfl]
          cases hap : s.apu.restart
          · rw [beginHalt_windReverses hmv (by rw [h1]; exact hrs) (by rw [h2]; exact hap), h1, h3, h4, if_neg nofun]
          · rw [beginHalt_atRest .wind hmv (by rw [h1]; exact hrs) (.inr (by rw [h2]; exact hap)), if_pos rfl]
            show ({ v.lmc with leaf := .halted, motion := { v.lmc.motion with halt := .none, awaitingPumps := false } } : Lmc) = _
            rw [h1]
    · rw [if_neg hr, reportWind_idle hu fun hl => by
        by_contra hn
        obtain ⟨h1, h2⟩ := not_or.mp hn
        exact hr ⟨hl, not_not.mp h1, Bool.eq_false_iff.mpr h2⟩]

/-- The wind and the leaf state are latched by a report that the LMC acts on. -/
theorem reportWind_latched (h : s.lmc.leaf = .unlocking ∨
    (s.lmc.leaf = .raising ∧ s.lmc.motion.halt = .none ∧ s.lmc.motion.derateFixed = false)) :
    ((reportWind s).cl.latched &&& 0x48) = 0x48 := by
  rcases h with hu | ⟨hl, hh, hd⟩
  · rw [reportWind_unlocking hu]
    exact or_wind (enterLocking_spec (by rw [hu]; decide)).latched
  · have hv : ((latch .wind (latch .leaf s)).cl.latched &&& 0x48) = 0x48 := or_wind (or_eight _)
    rw [reportWind_raising hl hh hd]
    generalize latch .wind (latch .leaf s) = v at hv ⊢
    split
    · exact hv
    · have hr := beginHalt_reach .wind v
      have hbit (i : Nat) (hi : (0x48 : Half).getLsbD i = true) : v.cl.latched.getLsbD i = true := by
        have := congrArg (BitVec.getLsbD · i) hv
        rw [BitVec.getLsbD_and, hi, Bool.and_true] at this
        exact this
      refine BitVec.eq_of_getLsbD_eq fun i _ => ?_
      rw [BitVec.getLsbD_and]
      cases hb : (0x48 : Half).getLsbD i
      · exact Bool.and_false _
      · rw [hr.latched_stays (by decide) (hbit i hb)]; rfl

/-! ### The wind as it is judged (R130 to R134) -/

theorem judge_barring (w : Wind) (wd ws : Nat) :
    (w.judge wd ws).barring = (!(w.judge wd ws).known || decide ((w.judge wd ws).band = some .stop)) := rfl

/-- The state in which a newly judged wind is told. -/
def windJudged (w : Wind) (s : State) : State :=
  let new := w.judge (s.par pDerateLimit) (s.par pStopLimit)
  latchIf (decide (s.msu.wind.band ≠ new.band) || (s.msu.wind.known != new.known)) .wind (s.onMsu fun m => { m with wind := new })

theorem judgeWind_eq (w : Wind) (s : State) : judgeWind w s =
    if (w.judge (s.par pDerateLimit) (s.par pStopLimit)).barring && !s.msu.wind.barring && s.running
    then reportWind (windJudged w s) else windJudged w s := rfl

theorem windJudged_eq (w : Wind) (s : State) : ∃ x, windJudged w s = { s with
    cl := { s.cl with latched := x }, msu := { s.msu with wind := w.judge (s.par pDerateLimit) (s.par pStopLimit) } } := by
  unfold windJudged
  dsimp only
  rw [latchIf_eq]
  exact ⟨_, rfl⟩

/-- What a judgement of the wind leaves (R132, R134). -/
structure JudgesWind (w : Wind) (s t : State) : Prop where
  msu : t.msu = { s.msu with wind := w.judge (s.par pDerateLimit) (s.par pStopLimit) }
  still : (w.judge (s.par pDerateLimit) (s.par pStopLimit)).known = s.msu.wind.known →
    (w.judge (s.par pDerateLimit) (s.par pStopLimit)).band = s.msu.wind.band → t.cl = s.cl
  latched : (w.judge (s.par pDerateLimit) (s.par pStopLimit)).known ≠ s.msu.wind.known ∨
    (w.judge (s.par pDerateLimit) (s.par pStopLimit)).band ≠ s.msu.wind.band → (t.cl.latched &&& 0x40) ≠ 0
  untold : ((w.judge (s.par pDerateLimit) (s.par pStopLimit)).barring && !s.msu.wind.barring && s.running) = false → t.lmc = s.lmc
  told : ((w.judge (s.par pDerateLimit) (s.par pStopLimit)).barring && !s.msu.wind.barring && s.running) = true →
    t.lmc = (reportWind { s with msu := t.msu }).lmc

theorem judgeWind_judges (w : Wind) (s : State) : JudgesWind w s (judgeWind w s) := by
  rw [judgeWind_eq]
  obtain ⟨x, hx⟩ := windJudged_eq w s
  have hlat (h : (w.judge (s.par pDerateLimit) (s.par pStopLimit)).known ≠ s.msu.wind.known ∨
      (w.judge (s.par pDerateLimit) (s.par pStopLimit)).band ≠ s.msu.wind.band) : (windJudged w s).cl.latched.getLsbD 6 = true := by
    unfold windJudged
    dsimp only
    rw [show (decide (s.msu.wind.band ≠ (w.judge (s.par pDerateLimit) (s.par pStopLimit)).band) ||
      (s.msu.wind.known != (w.judge (s.par pDerateLimit) (s.par pStopLimit)).known)) = true by
        rcases h with h | h
        · simp [Ne.symm h]
        · simp [Ne.symm h]]
    show ((s.cl.latched ||| Condition.wind.bit : Half)).getLsbD 6 = true
    rw [BitVec.getLsbD_or, show Condition.wind.bit.getLsbD 6 = true from rfl, Bool.or_true]
  have hquiet (h1 : (w.judge (s.par pDerateLimit) (s.par pStopLimit)).known = s.msu.wind.known)
      (h2 : (w.judge (s.par pDerateLimit) (s.par pStopLimit)).band = s.msu.wind.band) : (windJudged w s).cl = s.cl := by
    unfold windJudged
    dsimp only
    rw [h1, h2]
    simp only [ne_eq, not_true_eq_false, decide_false, bne_self_eq_false, Bool.or_self]
    rfl
  have hlmc (v : State) (hv : v = windJudged w s) : (reportWind v).lmc = (reportWind { s with msu := v.msu }).lmc := by
    rw [reportWind_lmc, reportWind_lmc, hv, hx]
    rfl
  have hmsu : (windJudged w s).msu = { s.msu with wind := w.judge (s.par pDerateLimit) (s.par pStopLimit) } := by rw [hx]
  have hsame : (windJudged w s).lmc = s.lmc := by rw [hx]
  have hr := reportWind_reach (windJudged w s)
  have hrm := hr.msu_eq (by decide)
  cases hb : ((w.judge (s.par pDerateLimit) (s.par pStopLimit)).barring && !s.msu.wind.barring && s.running)
  · rw [if_neg nofun]
    exact ⟨hmsu, hquiet, fun h => (mask_iff _ 6).mpr ⟨by decide, hlat h⟩, fun _ => hsame, by rw [hb]; nofun⟩
  · rw [if_pos rfl]
    refine ⟨hrm.trans hmsu, fun h1 h2 => ?_, fun h => (mask_iff _ 6).mpr ⟨by decide, hr.latched_stays (by decide) (hlat h)⟩,
      by rw [hb]; nofun, fun _ => by rw [hrm]; exact hlmc _ rfl⟩
    rw [show (w.judge (s.par pDerateLimit) (s.par pStopLimit)).barring = s.msu.wind.barring by
      rw [judge_barring, h1, h2]; rfl] at hb
    cases hs : s.msu.wind.barring <;> rw [hs] at hb <;> cases hb

/-! ### The derate percentage and the gust window (R130, R133) -/

theorem pctOf_mid {w wd ws : Nat} (h1 : wd < w) (h2 : w < ws) : pctOf w wd ws = 100 - 60 * (w - wd) / (ws - wd) ∧
    60 * (w - wd) / (ws - wd) ≤ 59 := by
  refine ⟨by unfold pctOf; rw [if_neg (by omega), if_pos h2], ?_⟩
  exact Nat.lt_succ_iff.mp ((Nat.div_lt_iff_lt_mul (by omega)).mpr (Nat.mul_lt_mul_of_pos_left (by omega) (by decide)))

theorem pctOf_stop {w wd ws : Nat} (h1 : wd < w) (h2 : ws ≤ w) : pctOf w wd ws = 40 := by
  unfold pctOf; rw [if_neg (by omega), if_neg (by omega)]

theorem pctOf_antitone {wd ws v u : Nat} (hw : wd < ws) (h : v ≤ u) : pctOf u wd ws ≤ pctOf v wd ws := by
  by_cases hv : v ≤ wd
  · rw [show pctOf v wd ws = 100 from if_pos hv]; exact pctOf_le u wd ws
  · by_cases hu : u < ws
    · rw [(pctOf_mid (by omega) hu).1, (pctOf_mid (w := v) (wd := wd) (ws := ws) (by omega) (by omega)).1]
      exact Nat.sub_le_sub_left (Nat.div_le_div_right (Nat.mul_le_mul_left 60 (by omega))) 100
    · rw [pctOf_stop (w := u) (by omega) (by omega)]
      by_cases hvs : v < ws
      · obtain ⟨h1, h2⟩ := pctOf_mid (w := v) (wd := wd) (by omega) hvs
        rw [h1]
        generalize 60 * (v - wd) / (ws - wd) = q at h2 ⊢
        omega
      · rw [pctOf_stop (w := v) (by omega) (by omega)]

theorem appendCount_short {l : List Nat} (n : Nat) (h : l.length < 3) : appendCount l n = l ++ [n] := by
  unfold appendCount
  dsimp only
  rw [List.length_append, List.length_singleton, show l.length + 1 - 3 = 0 by omega]
  exact List.drop_zero

/-- The wind record at the end of an interval, before it is judged (R130). -/
def State.windCounted (s : State) : Wind :=
  let w := { s.msu.wind with window := appendCount s.msu.wind.window s.msu.wind.interval, interval := 0 }
  { w with w := w.value (s.par pAnemoFactor) }

theorem anemoInterval_counts (hrun : s.running = true) (h : s.msu.wind.discard = false) :
    anemoInterval s = judgeWind s.windCounted s := by
  unfold anemoInterval
  rw [if_pos (by unfold State.measuring; rw [hrun]; rfl), if_neg (by rw [h]; nofun)]
  rfl

/-- Settles O42: the gust window and the wind's judgement, what the leaves make of it, and the derate percentage. -/
theorem windAndDerate : Obligations.WindAndDerate := by
  refine ⟨fun s hrun => ⟨fun hp => ?_, fun p hp h14 => ?_, fun hd => ?_, fun hd => ?_, ?_⟩, fun s => ?_, fun w wd ws hw => ?_⟩
  · have hm : s.measuring = true := by unfold State.measuring; rw [hrun]; rfl
    refine congrArg Host.Outcome.next ?_
    unfold countPulse
    cases hq : s.phu.proving with
    | none => rw [hm]; rfl
    | some p => dsimp only; rw [hm, decide_eq_false (hp p hq)]; rfl
  · refine congrArg Host.Outcome.next ?_
    unfold countPulse
    rw [hp]
    dsimp only
    rw [decide_eq_true h14, Bool.not_true, Bool.and_false]
    rfl
  · refine congrArg Host.Outcome.next ?_
    unfold anemoInterval
    rw [if_pos (by unfold State.measuring; rw [hrun]; rfl)]
    exact if_pos hd
  · obtain ⟨hmsu, hstill, hlat, huntold, htold⟩ := judgeWind_judges s.windCounted s
    have e : exec .anemoIntervalEnd s = .next (judgeWind s.windCounted s) := congrArg Host.Outcome.next (anemoInterval_counts hrun hd)
    refine ⟨_, e, ?_⟩
    generalize judgeWind s.windCounted s = t at *
    have hwind : t.msu.wind = s.windCounted.judge (s.par pDerateLimit) (s.par pStopLimit) := by rw [hmsu]
    have henc : t.msu.encoders = s.msu.encoders ∧ t.msu.angles = s.msu.angles := by rw [hmsu]; exact ⟨rfl, rfl⟩
    rw [← hwind] at hstill hlat huntold htold
    have hknown : t.msu.wind.known = s.windCounted.isKnown := by rw [hwind]; rfl
    have hband : t.msu.wind.band = if s.windCounted.isKnown then some (bandOf s.windCounted.w (s.par pDerateLimit) (s.par pStopLimit)) else none := by
      rw [hwind]; rfl
    have hpct : t.msu.wind.pct = if s.windCounted.isKnown then pctOf s.windCounted.w (s.par pDerateLimit) (s.par pStopLimit) else 40 := by
      rw [hwind]; rfl
    have hw : t.msu.wind.w = s.windCounted.w := by rw [hwind]; rfl
    have hwindow : t.msu.wind.window = appendCount s.msu.wind.window s.msu.wind.interval := by rw [hwind]; rfl
    have hint : t.msu.wind.interval = 0 := by rw [hwind]; rfl
    have hvalue : s.windCounted.w = if (appendCount s.msu.wind.window s.msu.wind.interval).length = 3 then
        min 999 ((appendCount s.msu.wind.window s.msu.wind.interval).sum * s.par pAnemoFactor / 30) else s.msu.wind.w := rfl
    have hkn : s.windCounted.isKnown = (decide ((appendCount s.msu.wind.window s.msu.wind.interval).length = 3) && !s.msu.wind.failed) := rfl
    have hsum (a b c : Nat) : ([a, b, c] : List Nat).sum = a + b + c := by
      simp only [List.sum_cons, List.sum_nil]; omega
    refine ⟨hint, fun a b c habc => ?_, fun a b hab => ?_, ⟨fun hk => ?_, fun hk hl => ?_, fun hk h1 h2 => ?_, fun hk h1 h2 => ?_⟩,
      hstill, fun hl => ?_, fun hl => ?_, hlat, henc.1, henc.2, fun ht => ?_, fun ht => ?_⟩
    · have hl : appendCount s.msu.wind.window s.msu.wind.interval = [b, c, s.msu.wind.interval] := by rw [habc]; rfl
      rw [hwindow, hw, hvalue, hknown, hkn, hl, hsum]
      exact ⟨rfl, if_pos rfl, rfl⟩
    · have hl : appendCount s.msu.wind.window s.msu.wind.interval = [a, b, s.msu.wind.interval] := by rw [hab]; rfl
      rw [hw, hvalue, hknown, hkn, hl, hsum]
      exact ⟨if_pos rfl, rfl⟩
    · rw [hknown] at hk
      rw [hband, hpct, hk]
      exact ⟨rfl, rfl⟩
    · rw [hknown] at hk
      rw [hw] at hl
      rw [hband, hk, if_pos rfl, bandOf, if_pos hl]
    · rw [hknown] at hk
      rw [hw] at h1 h2
      rw [hband, hk, if_pos rfl, bandOf, if_neg (by omega), if_pos h2]
    · rw [hknown] at hk
      rw [hw] at h2
      rw [hband, hk, if_pos rfl, bandOf, if_neg (by omega), if_neg (by omega)]
    · rw [hwindow, appendCount_short _ hl]
    · have hlen : (appendCount s.msu.wind.window s.msu.wind.interval).length ≠ 3 := by
        rw [appendCount_short _ (by omega), List.length_append, List.length_singleton]; omega
      rw [hw, hvalue, if_neg hlen, hknown, hkn, decide_eq_false hlen]
      exact ⟨rfl, rfl⟩
    · exact huntold (by rw [hrun, Bool.and_true]; exact ht)
    · exact htold (by rw [hrun, Bool.and_true]; exact ht)
  · have h1 : s.after .anemoIntervalEnd = anemoInterval s := after_eq rfl
    have hr1 : (anemoInterval s).running = true := (anemoInterval_reach s).running (by decide) hrun
    have hr2 := happens_running (c := .epochEnd) rfl hr1 (decide (s.tb.seconds ≠ 0) && decide (s.tb.seconds.toNat % 16 = 0))
    rw [h1, after_run (c := .tideStale) (f := reviewTide) (fun _ => rfl) (by simpa using hr2)]
    rw [happens_run (f := endEpoch) (fun _ => rfl) hr1] at *
    unfold secondDue
    simp
  · have hpast : s.pastCommit = true ↔ s.msu.angles.north.source ≠ .lost ∧ s.msu.angles.south.source ≠ .lost ∧
        ((s.lmc.motion.target * s.lmc.motion.commitFraction / 100 : Nat) : Int) ≤
          min s.msu.angles.north.angle s.msu.angles.south.angle := by
      unfold State.pastCommit State.positionLost
      rw [Bool.and_eq_true, Bool.not_eq_true', Bool.or_eq_false_iff, decide_eq_false_iff_not, decide_eq_false_iff_not,
        decide_eq_true_iff, and_assoc]
      rfl
    refine ⟨fun h1 h2 => reportWind_idle h1 fun h => absurd h h2, fun hl => ?_, fun hl h => reportWind_idle (by rw [hl]; decide) fun _ => h,
      fun hl hh hd => ?_⟩
    · refine ⟨?_, ?_, reportWind_latched (.inl hl)⟩
      · rw [reportWind_lmc, State.windTaken, if_pos hl]
        dsimp only
        split
        · exact .inr rfl
        · exact .inl rfl
      · rw [reportWind_lmc, State.windTaken, if_pos hl]
    · have htaken : (reportWind s).lmc = if s.pastCommit then { s.lmc with motion := { s.lmc.motion with derateFixed := true } }
          else if s.lmc.motion.atRest then
            if s.apu.restart then
              { s.lmc with leaf := .halted, motion := { s.lmc.motion with halt := .none, awaitingPumps := false } }
            else { s.lmc with
              leaf := .lowering
              motion := { s.motionRecord .lower .reversal 0 with derateFixed := true, awaitingPumps := !s.bothReady } }
          else { s.lmc with motion := { s.lmc.motion with halt := .wind } } := by
        rw [reportWind_lmc, State.windTaken, if_neg (by rw [hl]; decide), if_pos ⟨hl, hh, hd⟩]
      refine ⟨reportWind_latched (.inr ⟨hl, hh, hd⟩), fun hp => ?_, fun hp hs => ?_, fun hp hs hr => ?_, fun hp hs hr => ?_⟩
      · rw [htaken, if_pos (hpast.mpr hp)]
      · rw [htaken, if_neg (mt hpast.mp hp), if_neg (mt atRest_iff.mp hs)]
      · rw [htaken, if_neg (mt hpast.mp hp), if_pos (atRest_iff.mpr hs), if_neg (by rw [hr]; nofun)]
        exact ⟨rfl, rfl, rfl, rfl⟩
      · rw [htaken, if_neg (mt hpast.mp hp), if_pos (atRest_iff.mpr hs), if_pos hr]
  · have hkn : (w.judge wd ws).known = w.isKnown := rfl
    have hband : (w.judge wd ws).band = if w.isKnown then some (bandOf w.w wd ws) else none := rfl
    have hpct : (w.judge wd ws).pct = if w.isKnown then pctOf w.w wd ws else 40 := rfl
    refine ⟨rfl, hkn, fun hk => by rw [hband, hk]; rfl, fun hk => by rw [hband, hk]; rfl, fun hk hl => ?_, fun hk h1 h2 => ?_, fun h => ?_,
      fun v h1 h2 => ?_, fun v u h => pctOf_antitone hw h⟩
    · rw [hpct, hk, if_pos rfl]; exact if_pos hl
    · rw [hpct, hk, if_pos rfl]; exact (pctOf_mid h1 h2).1
    · rw [hpct]
      cases hk : w.isKnown
      · rfl
      · rw [if_pos rfl]
        rcases h with h | h
        · rw [hk] at h; cases h
        · exact pctOf_stop (by omega) h
    · obtain ⟨h3, h4⟩ := pctOf_mid h1 h2
      rw [h3]
      generalize 60 * (v - wd) / (ws - wd) = q at h4 ⊢
      omega

/-! ### An encoder's record and a leaf's at the end of a period (R123 to R128, R136) -/

/-- An encoder's record after a period, which may be the last of the listen (R136). -/
def Encoder.ended (e : Encoder) (listening ending : Bool) (r : EncoderReply) : Encoder :=
  if ending then (e.take listening r).endListen else e.take listening r

section
variable {e : Encoder} {listening ending : Bool} {r : EncoderReply}

theorem Encoder.ended_state : (e.ended listening ending r).state = stateOfRun (nextRun e.run (classify r)) := by
  unfold Encoder.ended; split <;> rfl
theorem Encoder.ended_run : (e.ended listening ending r).run = nextRun e.run (classify r) := by
  unfold Encoder.ended; split <;> rfl
theorem Encoder.ended_cause : (e.ended listening ending r).cause = if classify r = .none then e.cause else classify r := by
  unfold Encoder.ended; split <;> rfl
theorem Encoder.ended_last : (e.ended listening ending r).last = readingOf r e.last := by
  unfold Encoder.ended; split <;> rfl
theorem Encoder.ended_errors : (e.ended listening ending r).frameErrors =
    if classify r = .silent ∨ classify r = .check then bump e.frameErrors else e.frameErrors := by
  unfold Encoder.ended; split <;> rfl

/-- The invalid run is 0 after a valid period alone (R124). -/
theorem nextRun_zero {run : Nat} {c : EncoderCause} : nextRun run c = 0 ↔ c = .none := by
  unfold nextRun
  split
  · next h => simp [h]
  · next h => simp only [h, iff_false]; omega

theorem Encoder.ended_valid : (e.ended listening true r).validSinceRead = true ↔
    listenOn listening e.listen (decide (classify r = .none)) = some true :=
  decide_eq_true_iff
theorem Encoder.ended_notValid (h : classify r ≠ .none) : (e.ended listening ending r).validSinceRead = false ∨ listening = false := by
  cases listening
  · exact .inr rfl
  · refine .inl (Bool.eq_false_iff.mpr fun hv => ?_)
    cases ending
    · have : (e.validSinceRead && decide (classify r = .none)) = true := hv
      rw [decide_eq_false h, Bool.and_false] at this
      cases this
    · have := Encoder.ended_valid.mp hv
      rw [decide_eq_false h] at this
      cases hl : e.listen <;> simp [listenOn, hl] at this

end

theorem classify_reading {v : Half} : classify (.reading v) = if -100 ≤ v.toInt ∧ v.toInt ≤ 9000 then .none else .range := rfl

/-- A reply that is no reading in range is invalid (R123). -/
theorem classify_invalid {r : EncoderReply} (h : ∀ v : Half, r = .reading v → ¬(-100 ≤ v.toInt ∧ v.toInt ≤ 9000)) :
    classify r ≠ .none := by
  cases r with
  | silent => nofun
  | corrupt => nofun
  | reading v => rw [classify_reading, if_neg (h v rfl)]; nofun

/-- After an invalid period the run has grown by one up to 255, and the state follows it (R124). -/
theorem stateOfRun_invalid {run : Nat} {c : EncoderCause} (h : c ≠ .none) : nextRun run c = min 255 (run + 1) ∧
    stateOfRun (nextRun run c) = if run + 1 ≤ 2 then .suspect else .lost := by
  have e : nextRun run c = min 255 (run + 1) := if_neg h
  refine ⟨e, ?_⟩
  rw [e, stateOfRun, if_neg (by omega)]
  exact if_congr (by omega) rfl rfl

/-! The measurement records after a period -/

section
variable (m : Msu) (starting : Bool) (tol : Nat) (r : Vector EncoderReply 4)

theorem measure_encoder (listening : Bool) (i : Fin 4) :
    (m.measure listening tol r).encoders[i] = (m.encoders[i]).take listening r[i] := by
  unfold Msu.measure
  simp

theorem period_encoder (i : Fin 4) : (m.period starting tol r).encoders[i] =
    (m.encoders[i]).ended (starting && decide (m.listen.periods < 5)) (starting && decide (m.listen.periods = 4)) r[i] := by
  unfold Msu.period Encoder.ended
  cases starting
  · exact measure_encoder m tol r false i
  · by_cases h5 : m.listen.periods < 5
    · rw [decide_eq_true h5]
      rw [show (true && true) = true from rfl, if_pos rfl]
      unfold Msu.countListen
      rw [show (m.measure true tol r).listen = m.listen from rfl]
      by_cases h4 : m.listen.periods < 4
      · rw [if_pos h4, decide_eq_false (by omega), if_neg nofun]
        exact measure_encoder m tol r true i
      · rw [if_neg h4, decide_eq_true (by omega), if_pos (show (true && true) = true from rfl), ← measure_encoder m tol r true i]
        simp [Msu.endListen]
    · rw [decide_eq_false h5, decide_eq_false (by omega)]
      exact measure_encoder m tol r false i

/-- A leaf's angle follows its encoders' states and readings, which the end of the listen leaves. -/
theorem period_angles : (m.period starting tol r).angles =
    ⟨m.angles.north.take tol (m.period starting tol r).encoders[(0 : Fin 4)] (m.period starting tol r).encoders[(1 : Fin 4)],
      m.angles.south.take tol (m.period starting tol r).encoders[(2 : Fin 4)] (m.period starting tol r).encoders[(3 : Fin 4)]⟩ := by
  have hangles (b : Bool) : (m.measure b tol r).angles =
      ⟨m.angles.north.take tol (m.measure b tol r).encoders[(0 : Fin 4)] (m.measure b tol r).encoders[(1 : Fin 4)],
        m.angles.south.take tol (m.measure b tol r).encoders[(2 : Fin 4)] (m.measure b tol r).encoders[(3 : Fin 4)]⟩ := rfl
  have hmap (n : Msu) (i : Fin 4) : (n.endListen.encoders)[i] = (n.encoders[i]).endListen := by simp [Msu.endListen]
  unfold Msu.period Msu.countListen
  split
  · split
    · exact hangles true
    · show (m.measure true tol r).angles = _
      rw [hmap, hmap, hmap, hmap, hangles]
      rfl
  · exact hangles false

theorem period_wind : (m.period starting tol r).wind = m.wind := by
  unfold Msu.period Msu.countListen
  repeat' split
  all_goals rfl

/-- The listen outside its five periods (R136). -/
theorem period_listen_over (h : (starting && decide (m.listen.periods < 5)) = false) : (m.period starting tol r).listen = m.listen := by
  unfold Msu.period
  rw [if_neg (by rw [h]; nofun)]
  rfl
theorem period_listen_on (h : (starting && decide (m.listen.periods < 5)) = true) (h4 : (starting && decide (m.listen.periods = 4)) = false) :
    (m.period starting tol r).listen = { m.listen with periods := m.listen.periods + 1 } := by
  rw [Bool.and_eq_true, decide_eq_true_iff] at h
  rw [h.1, Bool.true_and, decide_eq_false_iff_not] at h4
  unfold Msu.period Msu.countListen
  rw [if_pos (by rw [h.1, decide_eq_true h.2]; rfl), show (m.measure true tol r).listen = m.listen from rfl, if_pos (by omega)]
theorem period_listen_ends (h4 : (starting && decide (m.listen.periods = 4)) = true) :
    (m.period starting tol r).listen = { periods := 5, answered := (m.period starting tol r).answered, lost := (m.period starting tol r).lost } := by
  rw [Bool.and_eq_true, decide_eq_true_iff] at h4
  have hmap (n : Msu) (i : Fin 4) : (n.endListen.encoders)[i] = (n.encoders[i]).endListen := by simp [Msu.endListen]
  unfold Msu.period Msu.countListen
  rw [if_pos (by rw [h4.1, decide_eq_true (show m.listen.periods < 5 by omega)]; rfl),
    show (m.measure true tol r).listen = m.listen from rfl, if_neg (by omega)]
  unfold Msu.answered
  rw [hmap, hmap, hmap, hmap]
  rfl

end

/-! ### What a new disagreement does to the leaves (R102, R113, R128) -/

/-- The leaves once the LMC has heard that a leaf's encoders disagree. -/
def State.disagreeTaken (s : State) : Lmc :=
  if s.lmc.leaf = .unlocking then { s.lmc with leaf := .halted }
  else if s.lmc.leaf.moving then
    if s.lmc.motion.atRest then
      { s.lmc with leaf := .halted, motion := { s.lmc.motion with halt := .none, awaitingPumps := false } }
    else { s.lmc with motion := { s.lmc.motion with halt := .disagree } }
  else s.lmc

theorem reportDisagree_unlocking (h : s.lmc.leaf = .unlocking) : reportDisagree s = haltUnlocking s := by
  unfold reportDisagree; rw [h]
theorem reportDisagree_moving (h : s.lmc.leaf.moving = true) : reportDisagree s = beginHalt .disagree s := by
  unfold reportDisagree
  rcases moving_iff.mp h with hl | hl <;> rw [hl]
theorem reportDisagree_rests (h : s.lmc.leaf ≠ .unlocking) (hm : s.lmc.leaf.moving = false) : reportDisagree s = s := by
  obtain ⟨h1, h2⟩ := moving_false_iff.mp hm
  unfold reportDisagree
  split
  · next hl => exact absurd hl h
  · next hl => exact absurd hl h1
  · next hl => exact absurd hl h2
  all_goals rfl

theorem reportDisagree_lmc (s : State) : (reportDisagree s).lmc = s.disagreeTaken := by
  unfold State.disagreeTaken
  by_cases hu : s.lmc.leaf = .unlocking
  · rw [if_pos hu, reportDisagree_unlocking hu, haltUnlocking_eq (by rw [hu]; decide)]
    rfl
  · rw [if_neg hu]
    cases hm : s.lmc.leaf.moving
    · rw [reportDisagree_rests hu hm, if_neg nofun]
    · rw [reportDisagree_moving hm, if_pos rfl]
      cases hr : s.lmc.motion.atRest
      · rw [beginHalt_moving .disagree hm hr, if_neg nofun]
        rfl
      · rw [beginHalt_atRest .disagree hm hr (.inl (by decide)), if_pos rfl]
        rfl

/-- The report does no more when it is repeated. -/
theorem reportDisagree_again (s : State) : (reportDisagree (reportDisagree s)).lmc = s.disagreeTaken := by
  by_cases hu : s.lmc.leaf = .unlocking
  · have hl : (reportDisagree s).lmc.leaf = .halted := by
      rw [reportDisagree_lmc, State.disagreeTaken, if_pos hu]
    rw [reportDisagree_rests (s := reportDisagree s) (by rw [hl]; decide) (by rw [hl]; rfl), reportDisagree_lmc]
  · cases hm : s.lmc.leaf.moving
    · rw [reportDisagree_rests hu hm, reportDisagree_lmc]
    · cases hr : s.lmc.motion.atRest
      · have e : (reportDisagree s) = s.onMotion fun m => { m with halt := .disagree } := by
          rw [reportDisagree_moving hm, beginHalt_moving .disagree hm hr]
        rw [reportDisagree_moving (s := reportDisagree s) (by rw [e]; exact hm), e, beginHalt_moving .disagree (by exact hm) (by exact hr),
          State.disagreeTaken, if_neg hu, if_pos hm, if_neg (by rw [hr]; nofun)]
        rfl
      · have hl : (reportDisagree s).lmc.leaf = .halted := by
          rw [reportDisagree_lmc, State.disagreeTaken, if_neg hu, if_pos hm, if_pos hr]
        rw [reportDisagree_rests (s := reportDisagree s) (by rw [hl]; decide) (by rw [hl]; rfl), reportDisagree_lmc]

theorem disagreeTaken_again (s : State) : (reportDisagree s).disagreeTaken = s.disagreeTaken :=
  (reportDisagree_lmc _).symm.trans (reportDisagree_again s)

theorem reportDisagree_running (s : State) : (reportDisagree s).running = s.running := by
  unfold State.running; rw [(reportDisagree_reach s).tb_eq (by decide)]

/-- The two leaves' disagreements told, the north's first. -/
theorem tellDisagrees_lmc (n n' o o' : LeafAngle) (s : State) :
    (tellDisagree o o' (tellDisagree n n' s)).lmc =
      if s.running && ((n'.disagree && !n.disagree) || (o'.disagree && !o.disagree)) then s.disagreeTaken else s.lmc := by
  cases hr : s.running
  · rw [tellDisagree_quiet hr, tellDisagree_quiet hr]; rfl
  · have hr' := (reportDisagree_running s).trans hr
    unfold tellDisagree
    cases hn : (n'.disagree && !n.disagree) <;> cases ho : (o'.disagree && !o.disagree)
    all_goals simp [hr, hr', reportDisagree_lmc, disagreeTaken_again]

theorem tellDisagrees_unlocking (n n' o o' : LeafAngle) (hu : s.lmc.leaf = .unlocking)
    (ht : (s.running && ((n'.disagree && !n.disagree) || (o'.disagree && !o.disagree))) = true) :
    (tellDisagree o o' (tellDisagree n n' s)).lpu.seqKind = .none := by
  have hk : (reportDisagree s).lpu.seqKind = .none := by
    rw [reportDisagree_unlocking hu, haltUnlocking_eq (by rw [hu]; decide)]; rfl
  have hl : (reportDisagree s).lmc.leaf = .halted := by rw [reportDisagree_lmc, State.disagreeTaken, if_pos hu]
  have hagain : reportDisagree (reportDisagree s) = reportDisagree s :=
    reportDisagree_rests (by rw [hl]; decide) (by rw [hl]; rfl)
  obtain ⟨hr, hold⟩ := (Bool.and_eq_true _ _).mp ht
  have hr' := (reportDisagree_running s).trans hr
  unfold tellDisagree
  cases hn : (n'.disagree && !n.disagree) <;> cases ho : (o'.disagree && !o.disagree)
  · rw [hn, ho] at hold; cases hold
  all_goals simp [hr, hr', hk, hagain]

/-! ### An encoder period as a whole (R123 to R128; note 42) -/

/-- What the end of an encoder period leaves, `n` being its measurement records. -/
structure PeriodEnds (n : Msu) (s t : State) : Prop where
  msu : t.msu = n
  latched : s.msu.positionEvent n = true → (t.cl.latched &&& 0x80) ≠ 0
  leaves : t.lmc = if s.running && ((n.angles.north.disagree && !s.msu.angles.north.disagree) ||
    (n.angles.south.disagree && !s.msu.angles.south.disagree)) then s.disagreeTaken else s.lmc
  sequence : s.lmc.leaf = .unlocking → (s.running && ((n.angles.north.disagree && !s.msu.angles.north.disagree) ||
    (n.angles.south.disagree && !s.msu.angles.south.disagree))) = true → t.lpu.seqKind = .none

theorem encoderPeriod_ends (r : Vector EncoderReply 4) (h : s.measuring = true) :
    PeriodEnds (s.msu.period (decide (s.tb.phase = .startup)) (s.par pEncoderTolerance) r) s (encoderPeriod r s) := by
  unfold encoderPeriod
  rw [if_pos h]
  generalize s.msu.period (decide (s.tb.phase = .startup)) (s.par pEncoderTolerance) r = n
  dsimp only
  have hv : ∃ v, v = latchIf (s.msu.positionEvent n) .position (s.onMsu fun _ => n) := ⟨_, rfl⟩
  obtain ⟨v, hv⟩ := hv
  have hbit (hp : s.msu.positionEvent n = true) : v.cl.latched.getLsbD 7 = true := by
    rw [hv, hp]
    show ((s.cl.latched ||| Condition.position.bit : Half)).getLsbD 7 = true
    rw [BitVec.getLsbD_or, show Condition.position.bit.getLsbD 7 = true from rfl, Bool.or_true]
  have hrest : v.msu = n ∧ v.running = s.running ∧ v.lmc = s.lmc ∧ v.disagreeTaken = s.disagreeTaken := by
    rw [hv, latchIf_eq]; exact ⟨rfl, rfl, rfl, rfl⟩
  obtain ⟨hm, hr, hl, hd⟩ := hrest
  rw [← hv]
  clear hv
  have hreach := (tellDisagree_reach s.msu.angles.south n.angles.south _).comp (by decide)
    (tellDisagree_reach s.msu.angles.north n.angles.north v)
  have hlmc := tellDisagrees_lmc s.msu.angles.north n.angles.north s.msu.angles.south n.angles.south v
  rw [hr, hl, hd] at hlmc
  refine ⟨(hreach.msu_eq (by decide)).trans hm, fun hp => (mask_iff _ 7).mpr ⟨by decide, hreach.latched_stays (by decide) (hbit hp)⟩,
    hlmc, fun hu ht => tellDisagrees_unlocking _ _ _ _ (by rw [hl]; exact hu) (by rw [hr]; exact ht)⟩

theorem positionEvent_state {m n : Msu} {i : Fin 4} (h : n.encoders[i].state ≠ m.encoders[i].state) : m.positionEvent n = true := by
  unfold Msu.positionEvent
  rw [Bool.or_eq_true, Bool.or_eq_true]
  refine .inl (.inl (List.any_eq_true.mpr ⟨i, by clear h; revert i; decide, ?_⟩))
  exact decide_eq_true h.symm
theorem positionEvent_leaf {m n : Msu} (l : Leaf) (h : (m.angles.get l).changed (n.angles.get l) = true) : m.positionEvent n = true := by
  unfold Msu.positionEvent
  rw [Bool.or_eq_true, Bool.or_eq_true]
  cases l
  · exact .inl (.inr h)
  · exact .inr h

/-! A leaf's record (R126, R128) -/

section
variable {x : LeafAngle} {tol : Nat} {p c : Encoder}

theorem towardChange_invalid (h : p.state ≠ .valid ∨ c.state ≠ .valid) : towardChange x.disagree tol p c = false ∧ bothValid p c = false := by
  have hb : bothValid p c = false := by
    unfold bothValid
    rcases h with h | h <;> simp [h]
  exact ⟨by unfold towardChange; rw [hb]; rfl, hb⟩
theorem towardChange_valid (hp : p.state = .valid) (hc : c.state = .valid) :
    towardChange x.disagree tol p c = (x.disagree != decide (tol < (p.value - c.value).natAbs)) ∧ bothValid p c = true := by
  have hb : bothValid p c = true := by simp [bothValid, hp, hc]
  exact ⟨by unfold towardChange; rw [hb]; rfl, hb⟩

theorem take_primary (hp : p.state = .valid) : (x.take tol p c).source = .primary ∧ (x.take tol p c).angle = p.value := by
  have e : selectSource x.source p.state c.state = .primary := if_pos hp
  unfold LeafAngle.take
  dsimp only
  rw [e]
  exact ⟨rfl, rfl⟩
theorem take_check (hp : p.state ≠ .valid) (hc : c.state = .valid) : (x.take tol p c).source = .check ∧ (x.take tol p c).angle = c.value := by
  have e : selectSource x.source p.state c.state = .check := by unfold selectSource; rw [if_neg hp, if_pos hc]
  unfold LeafAngle.take
  dsimp only
  rw [e]
  exact ⟨rfl, rfl⟩
theorem take_held (hp : p.state ≠ .valid) (hc : c.state ≠ .valid) (hs : p.state = .suspect ∨ c.state = .suspect) :
    (x.take tol p c).source = (if x.source = .lost then .lost else .held) ∧ (x.take tol p c).angle = x.angle := by
  have e : selectSource x.source p.state c.state = if x.source = .lost then .lost else .held := by
    unfold selectSource
    rw [if_neg hp, if_neg hc, if_neg fun hn => by rcases hs with hs | hs <;> simp [hs] at hn]
  unfold LeafAngle.take
  dsimp only
  rw [e]
  refine ⟨rfl, ?_⟩
  split <;> rfl
theorem take_lost (hp : p.state = .lost) (hc : c.state = .lost) : (x.take tol p c).source = .lost ∧ (x.take tol p c).angle = x.angle := by
  have e : selectSource x.source p.state c.state = .lost := by
    unfold selectSource
    rw [if_neg (by rw [hp]; decide), if_neg (by rw [hc]; decide), if_pos ⟨hp, hc⟩]
  unfold LeafAngle.take
  dsimp only
  rw [e]
  exact ⟨rfl, rfl⟩

theorem take_unpaired (h : p.state ≠ .valid ∨ c.state ≠ .valid) : (x.take tol p c).disagree = x.disagree ∧ (x.take tol p c).run = 0 ∧
    (x.take tol p c).difference = x.difference := by
  obtain ⟨h1, h2⟩ := towardChange_invalid (x := x) (tol := tol) h
  unfold LeafAngle.take
  dsimp only
  rw [h1, h2]
  exact ⟨rfl, rfl, rfl⟩
theorem take_paired (hp : p.state = .valid) (hc : c.state = .valid) : (x.take tol p c).difference = p.value - c.value ∧
    (x.disagree = decide (tol < (p.value - c.value).natAbs) → (x.take tol p c).disagree = x.disagree ∧ (x.take tol p c).run = 0) ∧
    (x.disagree ≠ decide (tol < (p.value - c.value).natAbs) →
      (x.run ≠ 4 → (x.take tol p c).disagree = x.disagree ∧ (x.take tol p c).run = x.run + 1) ∧
      (x.run = 4 → (x.take tol p c).disagree = !x.disagree ∧ (x.take tol p c).run = 0)) := by
  obtain ⟨h1, h2⟩ := towardChange_valid (x := x) (tol := tol) hp hc
  unfold LeafAngle.take
  dsimp only
  rw [h1, h2]
  refine ⟨rfl, fun h => ?_, fun h => ⟨fun hr => ?_, fun hr => ?_⟩⟩
  · rw [show (x.disagree != decide (tol < (p.value - c.value).natAbs)) = false by rw [← h, bne_self_eq_false]]
    exact ⟨rfl, rfl⟩
  · rw [show (x.disagree != decide (tol < (p.value - c.value).natAbs)) = true from bne_iff_ne.mpr h]
    have h5 : ¬x.run + 1 = 5 := by omega
    simp [h5]
  · rw [show (x.disagree != decide (tol < (p.value - c.value).natAbs)) = true from bne_iff_ne.mpr h]
    simp [hr]

end

theorem encoderDue_odd (h : s.tb.subTick % 2 = 1) : encoderDue s = endDuePeriod s := by
  unfold encoderDue; rw [when_eq, if_pos (decide_eq_true h)]

theorem lines_get (r : Fin 4 → EncoderReply) (i : Fin 4) : (#v[r 0, r 1, r 2, r 3] : Vector EncoderReply 4)[i] = r i := by
  match i with
  | 0 => rfl
  | 1 => rfl
  | 2 => rfl
  | 3 => rfl

/-- The records of an encoder period in the run or during start-up, `i`'s own line deciding `i`'s record (R123 to R125). -/
structure LineTaken (e x : Encoder) (listening ending : Bool) (r : EncoderReply) (latched : Prop) : Prop where
  valid : ∀ v : Half, r = .reading v → (-100 ≤ v.toInt ∧ v.toInt ≤ 9000) →
    x.state = .valid ∧ x.run = 0 ∧ x.last = some v ∧ x.cause = e.cause ∧
    (ending = false → x.validSinceRead = e.validSinceRead) ∧ x.frameErrors = e.frameErrors
  range : ∀ v : Half, r = .reading v → ¬(-100 ≤ v.toInt ∧ v.toInt ≤ 9000) →
    x.cause = .range ∧ x.last = some v ∧ x.frameErrors = e.frameErrors
  lost : r = .silent ∨ r = .corrupt → x.cause = (if r = .silent then .silent else .check) ∧ x.last = e.last ∧
    x.frameErrors = bump e.frameErrors
  invalid : (∀ v : Half, r = .reading v → ¬(-100 ≤ v.toInt ∧ v.toInt ≤ 9000)) →
    x.run = min 255 (e.run + 1) ∧ x.validSinceRead = false ∧ x.state = (if e.run + 1 ≤ 2 then .suspect else .lost)
  latched : x.state ≠ e.state → latched

theorem ended_lineTaken {e : Encoder} {listening ending : Bool} {r : EncoderReply} {latched : Prop} (hend : ending = true → listening = true)
    (hl : (e.ended listening ending r).state ≠ e.state → latched) : LineTaken e (e.ended listening ending r) listening ending r latched where
  valid v hr hv := by
    have hc : classify r = .none := by rw [hr, classify_reading, if_pos hv]
    rw [Encoder.ended_state, Encoder.ended_run, Encoder.ended_last, Encoder.ended_cause, Encoder.ended_errors, hc]
    refine ⟨rfl, rfl, by rw [hr]; rfl, rfl, fun he => ?_, rfl⟩
    rw [Encoder.ended, he]
    show (e.validSinceRead && decide (classify r = .none)) = _
    rw [hc]
    exact Bool.and_true _
  range v hr hv := by
    have hc : classify r = .range := by rw [hr, classify_reading, if_neg hv]
    rw [Encoder.ended_last, Encoder.ended_cause, Encoder.ended_errors, hc]
    exact ⟨rfl, by rw [hr]; rfl, rfl⟩
  lost hr := by
    rw [Encoder.ended_last, Encoder.ended_cause, Encoder.ended_errors]
    rcases hr with hr | hr <;> rw [hr] <;> exact ⟨rfl, rfl, rfl⟩
  invalid hr := by
    have hc := classify_invalid hr
    obtain ⟨h1, h2⟩ := stateOfRun_invalid (run := e.run) hc
    rw [Encoder.ended_state, Encoder.ended_run]
    refine ⟨h1, ?_, h2⟩
    rcases Encoder.ended_notValid (e := e) (listening := listening) (ending := ending) hc with hn | hn
    · exact hn
    · rw [Encoder.ended, if_neg fun he => by rw [hend he] at hn; cases hn]
      show (e.validSinceRead && decide (classify r = .none)) = _
      rw [decide_eq_false hc, Bool.and_false]
  latched := hl

/-- A leaf's record follows its own two encoders (R126, R128). -/
structure LeafTaken (tol : Nat) (p c : Encoder) (old new : LeafAngle) (latched : Prop) : Prop where
  primary : p.state = .valid → new.source = .primary ∧ new.angle = (p.last.getD 0).toInt
  check : p.state ≠ .valid → c.state = .valid → new.source = .check ∧ new.angle = (c.last.getD 0).toInt
  held : p.state ≠ .valid → c.state ≠ .valid → p.state = .suspect ∨ c.state = .suspect →
    new.source = (if old.source = .lost then .lost else .held) ∧ new.angle = old.angle
  lost : p.state = .lost → c.state = .lost → new.source = .lost ∧ new.angle = old.angle
  source : new.source ≠ old.source → latched
  unpaired : p.state ≠ .valid ∨ c.state ≠ .valid → new.disagree = old.disagree ∧ new.run = 0 ∧ new.difference = old.difference
  paired : p.state = .valid → c.state = .valid → new.difference = (p.last.getD 0).toInt - (c.last.getD 0).toInt ∧
    (old.disagree = decide (tol < ((p.last.getD 0).toInt - (c.last.getD 0).toInt).natAbs) → new.disagree = old.disagree ∧ new.run = 0) ∧
    (old.disagree ≠ decide (tol < ((p.last.getD 0).toInt - (c.last.getD 0).toInt).natAbs) →
      (old.run ≠ 4 → new.disagree = old.disagree ∧ new.run = old.run + 1) ∧
      (old.run = 4 → new.disagree = !old.disagree ∧ new.run = 0 ∧ latched))

theorem take_leafTaken {tol : Nat} {p c : Encoder} {x : LeafAngle} {latched : Prop} (h : x.changed (x.take tol p c) = true → latched) :
    LeafTaken tol p c x (x.take tol p c) latched where
  primary := take_primary
  check := take_check
  held := take_held
  lost := take_lost
  source hs := h (by unfold LeafAngle.changed; rw [decide_eq_true (Ne.symm hs)]; rfl)
  unpaired := take_unpaired
  paired hp hc := by
    obtain ⟨h1, h2, h3⟩ := take_paired (x := x) (tol := tol) hp hc
    refine ⟨h1, h2, fun hd => ⟨(h3 hd).1, fun hr => ?_⟩⟩
    obtain ⟨k1, k2⟩ := (h3 hd).2 hr
    refine ⟨k1, k2, h ?_⟩
    unfold LeafAngle.changed
    rw [k1]
    cases x.disagree <;> exact Bool.or_true _

/-- An encoder's mark of the listen while it goes on (R136). -/
theorem ended_listen_on {e : Encoder} {r : EncoderReply} : (e.ended true false r).listen =
    listenOn true e.listen (decide ((e.ended true false r).run = 0)) := by
  rw [Encoder.ended_run, show decide (nextRun e.run (classify r) = 0) = decide (classify r = .none) from decide_eq_decide.mpr nextRun_zero]
  rfl
/-- An encoder's mark and flag as the listen ends (R136). -/
theorem ended_listen_ends {e : Encoder} {r : EncoderReply} : ((e.ended true true r).validSinceRead = true ↔
    (e.ended true true r).run = 0 ∧ e.listen ≠ some false) ∧ (e.ended true true r).listen = none := by
  refine ⟨?_, rfl⟩
  rw [Encoder.ended_run, nextRun_zero, Encoder.ended_valid]
  cases hl : e.listen with
  | none => by_cases hc : classify r = .none <;> simp [listenOn, hc]
  | some b => cases b <;> by_cases hc : classify r = .none <;> simp [listenOn, hc]

/-- Settles O41: the tick's period, and a period's records, selection, disagreement, report and listen. -/
theorem encoderPeriods : Obligations.EncoderPeriods := by
  refine ⟨fun s => ⟨fun h => ?_, fun h hh => ?_, fun h hh => ?_⟩, fun r s => ⟨fun hm => ?_, fun hm => ?_⟩⟩
  · unfold encoderDue; rw [when_eq, if_neg (by simp [h])]
  · rw [encoderDue_odd h, endDuePeriod, if_pos hh]; rfl
  · rw [encoderDue_odd h, endDuePeriod, if_neg (by rw [hh]; nofun)]
    have ha : s.after (.encoderPeriodEnd .silent .silent .silent .silent) = hearPeriod silentLines s := rfl
    rw [ha, hearPeriod]
    cases hm : s.measuring
    · rw [if_neg nofun, encoderPeriod, if_neg (by rw [hm]; nofun)]
      dsimp only
      rw [← hh]
    · have hheard : (encoderPeriod silentLines s).msu.heard = false := by
        rw [(encoderPeriod_ends silentLines hm).msu, Msu.period_heard, hh]
      rw [if_pos rfl]
      generalize encoderPeriod silentLines s = v at hheard ⊢
      unfold State.setHeard State.onMsu
      dsimp only
      rw [← hheard]
  · exact congrArg Host.Outcome.next (if_neg (by rw [hm]; nofun))
  · intro listening ending
    have hend : ending = true → listening = true := fun he => by
      obtain ⟨h1, h2⟩ := (Bool.and_eq_true _ _).mp he
      exact (Bool.and_eq_true _ _).mpr ⟨h1, decide_eq_true (by have := of_decide_eq_true h2; omega)⟩
    have h := encoderPeriod_ends #v[r 0, r 1, r 2, r 3] hm
    have he : exec (.encoderPeriodEnd (r 0) (r 1) (r 2) (r 3)) s = .next ((encoderPeriod #v[r 0, r 1, r 2, r 3] s).setHeard true) :=
      congrArg Host.Outcome.next (if_pos hm)
    have henc (i : Fin 4) := (period_encoder s.msu (decide (s.tb.phase = .startup)) (s.par pEncoderTolerance) #v[r 0, r 1, r 2, r 3] i).trans
      (congrArg (Encoder.ended s.msu.encoders[i] listening ending) (lines_get r i))
    have hang := period_angles s.msu (decide (s.tb.phase = .startup)) (s.par pEncoderTolerance) #v[r 0, r 1, r 2, r 3]
    have hwind := period_wind s.msu (decide (s.tb.phase = .startup)) (s.par pEncoderTolerance) #v[r 0, r 1, r 2, r 3]
    have hover := period_listen_over s.msu (decide (s.tb.phase = .startup)) (s.par pEncoderTolerance) #v[r 0, r 1, r 2, r 3]
    have hon := period_listen_on s.msu (decide (s.tb.phase = .startup)) (s.par pEncoderTolerance) #v[r 0, r 1, r 2, r 3]
    have hends := period_listen_ends s.msu (decide (s.tb.phase = .startup)) (s.par pEncoderTolerance) #v[r 0, r 1, r 2, r 3]
    generalize s.msu.period (decide (s.tb.phase = .startup)) (s.par pEncoderTolerance) #v[r 0, r 1, r 2, r 3] = n at h henc hang hwind hover hon hends
    generalize encoderPeriod #v[r 0, r 1, r 2, r 3] s = v at h he
    obtain ⟨rfl, hlat, hlmc, hseq⟩ := h
    refine ⟨v.setHeard true, he, rfl, fun hl => ⟨hover hl, fun i => ?_⟩, fun hl => ?_, fun hl hn => ⟨hon hl hn, fun i => ?_⟩,
      fun hn => ⟨congrArg Listen.answered (hends hn), congrArg Listen.lost (hends hn), fun i => ?_⟩, fun i => ?_, hwind, fun l => ?_, ?_⟩
    · have hne : ending = false := Bool.eq_false_iff.mpr fun e => by rw [hend e] at hl; cases hl
      show (v.msu.encoders[i]).listen = _
      rw [henc, hl, hne]
      rfl
    · show v.msu.listen.periods = _
      cases hn : ending
      · rw [hon hl hn]
      · rw [hends hn, of_decide_eq_true ((Bool.and_eq_true _ _).mp hn).2]
    · show (v.msu.encoders[i]).listen = _
      rw [show (v.setHeard true).msu.encoders[i] = v.msu.encoders[i] from rfl, henc, hl, hn, ended_listen_on]
      unfold listenOn
      rw [if_pos rfl]
      cases s.msu.encoders[i].listen with
      | none => simp only [decide_eq_true_iff]
      | some clean => rfl
    · show (v.msu.encoders[i].validSinceRead = true ↔ v.msu.encoders[i].run = 0 ∧ _) ∧ v.msu.encoders[i].listen = none
      rw [henc, hend hn, hn]
      exact ended_listen_ends
    · have hline := ended_lineTaken (e := s.msu.encoders[i]) (listening := listening) (ending := ending) (r := r i)
        (latched := (v.cl.latched &&& 0x80) ≠ 0) hend fun hs => hlat (positionEvent_state (i := i) (by rw [henc]; exact hs))
      rw [← henc] at hline
      exact ⟨hline.valid, hline.range, hline.lost, hline.invalid, hline.latched⟩
    · have hleaf (p c : Encoder) (hp : v.msu.angles.get l = (s.msu.angles.get l).take (s.par pEncoderTolerance) p c) :
          LeafTaken (s.par pEncoderTolerance) p c (s.msu.angles.get l) (v.msu.angles.get l) ((v.cl.latched &&& 0x80) ≠ 0) := by
        rw [hp]
        exact take_leafTaken fun hc => hlat (positionEvent_leaf l (by rw [hp]; exact hc))
      cases l
      · obtain ⟨h1, h2, h3, h4, h5, h6, h7⟩ := hleaf v.msu.encoders[(0 : Fin 4)] v.msu.encoders[(1 : Fin 4)] (by rw [hang]; rfl)
        exact ⟨h1, h2, h3, h4, h5, h6, h7⟩
      · obtain ⟨h1, h2, h3, h4, h5, h6, h7⟩ := hleaf v.msu.encoders[(2 : Fin 4)] v.msu.encoders[(3 : Fin 4)] (by rw [hang]; rfl)
        exact ⟨h1, h2, h3, h4, h5, h6, h7⟩
    · have hrests (h : (s.running && ((v.msu.angles.north.disagree && !s.msu.angles.north.disagree) ||
          (v.msu.angles.south.disagree && !s.msu.angles.south.disagree))) = false ∨
          (s.lmc.leaf ≠ .unlocking ∧ ¬(s.lmc.leaf = .raising ∨ s.lmc.leaf = .lowering))) : v.lmc = s.lmc := by
        rw [hlmc]
        rcases h with h | ⟨h1, h2⟩
        · rw [h]; exact if_neg nofun
        · have : s.disagreeTaken = s.lmc := by rw [State.disagreeTaken, if_neg h1, if_neg (mt moving_iff.mp h2)]
          rw [this, ite_self]
      have htold (h : (s.running && ((v.msu.angles.north.disagree && !s.msu.angles.north.disagree) ||
          (v.msu.angles.south.disagree && !s.msu.angles.south.disagree))) = true) : v.lmc = s.disagreeTaken := by
        rw [hlmc, h]; exact if_pos rfl
      have hmoves (hv : s.lmc.leaf = .raising ∨ s.lmc.leaf = .lowering) : s.lmc.leaf ≠ .unlocking := by
        rcases hv with hv | hv <;> rw [hv] <;> decide
      refine ⟨hrests, fun ht hu => ⟨?_, hseq hu ht⟩, fun ht hv hs => ?_, fun ht hv hs => ?_⟩
      · exact (htold ht).trans (by rw [State.disagreeTaken, if_pos hu])
      · exact (htold ht).trans (by
          rw [State.disagreeTaken, if_neg (hmoves hv), if_pos (moving_iff.mpr hv), if_neg (mt atRest_iff.mp hs)])
      · exact (htold ht).trans (by
          rw [State.disagreeTaken, if_neg (hmoves hv), if_pos (moving_iff.mpr hv), if_pos (atRest_iff.mpr hs)])

end Sys2Proof.Machine
end

section
/-! PROOFS. The tide and the clearance table (O47), WITHDRAW and VESSEL-PASSED (O45, O49). -/

namespace Sys2Proof.Machine

variable {s t u : State} {a k : Fin 8}

/-! ### The clearance table (R163, R164) -/

/-- One breakpoint may follow another: a higher gain and no lower angle (R164). -/
def Rises (p q : Nat × Nat) : Prop := p.1 < q.1 ∧ p.2 ≤ q.2

theorem risingFrom_iff (l : List (Nat × Nat)) : risingFrom l = true ↔ l.IsChain Rises := by
  induction l with
  | nil => simp [risingFrom]
  | cons p l ih =>
    cases l with
    | nil => simp [risingFrom]
    | cons q l =>
      rw [risingFrom, Bool.and_eq_true, Bool.and_eq_true, ih, List.isChain_cons_cons, decide_eq_true_iff, decide_eq_true_iff]
      rfl

theorem rising_getElem {l : List (Nat × Nat)} (h : l.IsChain Rises) {i j : Nat} (hij : i < j) (hj : j < l.length) :
    (l[i]).1 < (l[j]).1 := by
  have ht : l.IsChain fun p q => p.1 < q.1 := h.imp fun _ _ h => h.1
  have : IsTrans (Nat × Nat) fun p q => p.1 < q.1 := ⟨fun _ _ _ h k => Nat.lt_trans h k⟩
  exact List.pairwise_iff_getElem.mp (List.isChain_iff_pairwise.mp ht) i j _ hj hij

/-! Rounding up -/

theorem ceilDiv_mono {m n : Nat} (w : Nat) (h : m ≤ n) : ceilDiv m w ≤ ceilDiv n w := Nat.div_le_div_right (by omega)

/-- Within a segment the rounded-up share stays within the whole rise. -/
theorem ceilDiv_within {x w r : Nat} (h : x ≤ w) : ceilDiv (x * r) w ≤ r := by
  rcases Nat.eq_zero_or_pos w with hw | hw
  · subst hw; unfold ceilDiv; rw [Nat.div_zero]; exact Nat.zero_le r
  · unfold ceilDiv
    refine Nat.lt_succ_iff.mp ((Nat.div_lt_iff_lt_mul hw).mpr ?_)
    have h1 : x * r ≤ r * w := by rw [Nat.mul_comm r w]; exact Nat.mul_le_mul_right r h
    have h2 : r.succ * w = r * w + w := Nat.succ_mul r w
    omega

/-! The interpolation along a rising table -/

/-- A gain is met within the first segment of a table. -/
def InFirst (g : Nat) (q : Nat × Nat) (rest : List (Nat × Nat)) : Prop := g < q.1 ∨ (g = q.1 ∧ rest ≠ [])

theorem interpolate_first {tf g : Nat} {p q : Nat × Nat} {rest : List (Nat × Nat)} (h : InFirst g q rest) :
    interpolate tf g (p :: q :: rest) = p.2 + ceilDiv ((g - p.1) * (q.2 - p.2)) (q.1 - p.1) := if_pos h
theorem interpolate_next {tf g : Nat} {p q : Nat × Nat} {rest : List (Nat × Nat)} (h : ¬InFirst g q rest) :
    interpolate tf g (p :: q :: rest) = interpolate tf g (q :: rest) := if_neg h

/-- From the last breakpoint on the interpolation gives Tf. -/
theorem interpolate_past {tf g : Nat} {l : List (Nat × Nat)} (hl : ∀ p ∈ l, p.1 ≤ g) (hr : l.IsChain Rises) : interpolate tf g l = tf := by
  induction l with
  | nil => rfl
  | cons p l ih =>
    cases l with
    | nil => rfl
    | cons q rest =>
      rw [interpolate_next, ih (fun x hx => hl x (List.mem_cons_of_mem p hx)) hr.tail]
      rintro (h | ⟨h, hne⟩)
      · exact absurd h (Nat.not_lt.mpr (hl q (by simp)))
      · cases rest with
        | nil => exact hne rfl
        | cons x rest =>
          have h1 := hl x (by simp)
          have h2 : q.1 < x.1 := (List.isChain_cons_cons.mp hr.tail).1.1
          omega

/-- Between two breakpoints the interpolation rises with the gain, rounded up (R163). -/
theorem interpolate_between {tf g : Nat} {l : List (Nat × Nat)} (hr : l.IsChain Rises) (i : Nat) (hi : i + 1 < l.length)
    (h1 : (l[i]).1 < g) (h2 : g ≤ (l[i + 1]).1) (h3 : i + 2 < l.length ∨ g < (l[i + 1]).1) :
    interpolate tf g l = (l[i]).2 + ceilDiv ((g - (l[i]).1) * ((l[i + 1]).2 - (l[i]).2)) ((l[i + 1]).1 - (l[i]).1) := by
  induction i generalizing l with
  | zero =>
    match l, hi, h3 with
    | p :: q :: rest, _, h3 =>
      refine interpolate_first ?_
      rcases h3 with h3 | h3
      · rcases Nat.lt_or_eq_of_le h2 with h | h
        · exact .inl h
        · exact .inr ⟨h, by rintro rfl; simp at h3⟩
      · exact .inl h3
  | succ i ih =>
    match l, hi, h3 with
    | p :: q :: rest, hi, h3 =>
      have hq : q.1 ≤ ((q :: rest)[i]'(by simp at hi ⊢; omega)).1 := by
        rcases Nat.eq_zero_or_pos i with h | h
        · subst h; exact Nat.le_refl _
        · exact Nat.le_of_lt (rising_getElem hr.tail (i := 0) h _)
      rw [interpolate_next]
      · exact ih hr.tail (by simpa using hi) h1 h2 (by simpa using h3)
      · rintro (h | ⟨h, -⟩)
        · simp only [List.getElem_cons_succ] at h1; omega
        · simp only [List.getElem_cons_succ] at h1; omega

theorem interpolate_from {tf g : Nat} {p : Nat × Nat} {l : List (Nat × Nat)} (hr : (p :: l).IsChain Rises) :
    min tf p.2 ≤ min tf (interpolate tf g (p :: l)) := by
  induction l generalizing p with
  | nil => rw [interpolate]; omega
  | cons q l ih =>
    obtain ⟨h, ht⟩ := List.isChain_cons_cons.mp hr
    by_cases hg : InFirst g q l
    · rw [interpolate_first hg]; omega
    · rw [interpolate_next hg]
      have := ih ht
      have := h.2
      omega

/-- A greater gain never needs less (R163). -/
theorem interpolate_mono {tf g g' : Nat} (hg : g ≤ g') {l : List (Nat × Nat)} (hr : l.IsChain Rises) :
    min tf (interpolate tf g l) ≤ min tf (interpolate tf g' l) := by
  induction l with
  | nil => exact Nat.le_refl _
  | cons p l ih =>
    cases l with
    | nil => exact Nat.le_refl _
    | cons q l =>
      obtain ⟨h, ht⟩ := List.isChain_cons_cons.mp hr
      by_cases h1 : InFirst g q l
      · rw [interpolate_first h1]
        by_cases h2 : InFirst g' q l
        · rw [interpolate_first h2]
          have := ceilDiv_mono (q.1 - p.1) (Nat.mul_le_mul_right (q.2 - p.2) (Nat.sub_le_sub_right hg p.1))
          omega
        · rw [interpolate_next h2]
          have hw : g - p.1 ≤ q.1 - p.1 := by rcases h1 with h1 | ⟨h1, -⟩ <;> omega
          have hc := ceilDiv_within (r := q.2 - p.2) hw
          have hf := interpolate_from (tf := tf) (g := g') ht
          have := h.2
          omega
      · have h2 : ¬InFirst g' q l := by
          rintro (h2 | ⟨h2, hne⟩)
          · exact h1 (.inl (by omega))
          · rcases Nat.lt_or_eq_of_le hg with h3 | h3
            · exact h1 (.inl (by omega))
            · exact h1 (.inr ⟨by omega, hne⟩)
        rw [interpolate_next h1, interpolate_next h2]
        exact ih ht

/-! The eight breakpoints of the table -/

/-- The gain of breakpoint `k`. -/
def State.gainAt (s : State) (k : Fin 8) : Nat := if k = 0 then 0 else s.par (Fin.ofNat 64 (34 + 2 * k.val))
/-- The angle of breakpoint `k`. -/
def State.angleAt (s : State) (k : Fin 8) : Nat := if k = 0 then 0 else s.par (Fin.ofNat 64 (35 + 2 * k.val))

theorem breakpoints_length (s : State) : s.breakpoints.length = 8 := by simp [State.breakpoints]

theorem breakpoints_get (s : State) (i : Nat) (hi : i < 8) :
    s.breakpoints[i]'(by rw [breakpoints_length]; exact hi) = (s.gainAt ⟨i, hi⟩, s.angleAt ⟨i, hi⟩) := by
  cases i with
  | zero => rfl
  | succ i =>
    have h1 : pGain ⟨i, by omega⟩ = Fin.ofNat 64 (34 + 2 * (i + 1)) := Fin.ext (by simp [pGain, Fin.ofNat]; omega)
    have h2 : pAngle ⟨i, by omega⟩ = Fin.ofNat 64 (35 + 2 * (i + 1)) := Fin.ext (by simp [pAngle, Fin.ofNat]; omega)
    unfold State.gainAt State.angleAt
    rw [if_neg (by simp [Fin.ext_iff]), if_neg (by simp [Fin.ext_iff]), ← h1, ← h2]
    simp [State.breakpoints]

theorem clearanceValid_chain : s.clearanceValid = true ↔ s.breakpoints.IsChain Rises := risingFrom_iff _

theorem clearanceValid_iff : s.clearanceValid = true ↔
    ∀ k : Fin 7, s.gainAt k.castSucc < s.gainAt k.succ ∧ s.angleAt k.castSucc ≤ s.angleAt k.succ := by
  rw [clearanceValid_chain, List.isChain_iff_getElem]
  refine ⟨fun h k => ?_, fun h i hi => ?_⟩
  · have := h k.val (by rw [breakpoints_length]; omega)
    rw [breakpoints_get, breakpoints_get] at this
    exact this
  · rw [breakpoints_length] at hi
    rw [breakpoints_get _ _ (by omega), breakpoints_get _ _ (by omega)]
    exact h ⟨i, by omega⟩

/-! ### A vessel's contribution (R163) -/

/-- The gain that an air draught needs (R163). -/
def State.gainNeeded (s : State) (a : Nat) : Int := a + s.par pMargin - (s.par pSoffit - s.psc.tide.level)

theorem contribution_unknown (tf : Nat) (air : Option Nat) (h : s.tideStaleNow = true ∨ s.clearanceValid = false) :
    s.contribution tf air = tf := by
  unfold State.contribution
  cases air with
  | none => rfl
  | some a => exact if_pos (by rcases h with h | h <;> simp [h])
theorem contribution_known (tf a : Nat) (h1 : s.tideStaleNow = false) (h2 : s.clearanceValid = true) :
    s.contribution tf (some a) = if s.gainNeeded a ≤ 0 then 0 else min tf (interpolate tf (s.gainNeeded a).toNat s.breakpoints) := by
  unfold State.contribution
  exact if_neg (by simp [h1, h2])

theorem contribution_le (tf : Nat) (air : Option Nat) : s.contribution tf air ≤ tf := by
  by_cases h : s.tideStaleNow = true ∨ s.clearanceValid = false
  · rw [contribution_unknown tf air h]
  · simp only [not_or, Bool.not_eq_true, Bool.not_eq_false] at h
    cases air with
    | none => exact Nat.le_refl tf
    | some a =>
      rw [contribution_known tf a h.1 h.2]
      split
      · exact Nat.zero_le tf
      · exact Nat.min_le_left _ _

theorem contribution_mono (tf : Nat) {a b : Nat} (hab : a ≤ b) : s.contribution tf (some a) ≤ s.contribution tf (some b) := by
  by_cases h : s.tideStaleNow = true ∨ s.clearanceValid = false
  · rw [contribution_unknown tf _ h, contribution_unknown tf _ h]
  · simp only [not_or, Bool.not_eq_true, Bool.not_eq_false] at h
    rw [contribution_known tf a h.1 h.2, contribution_known tf b h.1 h.2]
    have hg : s.gainNeeded a ≤ s.gainNeeded b := by unfold State.gainNeeded; omega
    by_cases ha : s.gainNeeded a ≤ 0
    · rw [if_pos ha]; exact Nat.zero_le _
    · rw [if_neg ha, if_neg (by omega)]
      exact interpolate_mono (by omega) (clearanceValid_chain.mp h.2)

/-- The contribution between two breakpoints (R163). -/
theorem contribution_between (tf a : Nat) (h1 : s.tideStaleNow = false) (h2 : s.clearanceValid = true) (k : Fin 7)
    (hg1 : (s.gainAt k.castSucc : Int) < s.gainNeeded a) (hg2 : s.gainNeeded a ≤ s.gainAt k.succ) (hg3 : s.gainNeeded a < s.gainAt 7) :
    s.contribution tf (some a) = min tf (s.angleAt k.castSucc +
      (((s.gainNeeded a).toNat - s.gainAt k.castSucc) * (s.angleAt k.succ - s.angleAt k.castSucc) +
        (s.gainAt k.succ - s.gainAt k.castSucc) - 1) / (s.gainAt k.succ - s.gainAt k.castSucc)) := by
  rw [contribution_known tf a h1 h2, if_neg (by omega)]
  have hlast : k.val + 2 < 8 ∨ (s.gainNeeded a).toNat < s.gainAt k.succ := by
    by_cases hk : k.val + 2 < 8
    · exact .inl hk
    · have : k.succ = 7 := Fin.ext (by simp; omega)
      rw [this]; right; omega
  have hlo := breakpoints_get s k.val (by omega)
  have hhi := breakpoints_get s (k.val + 1) (by omega)
  have := interpolate_between (tf := tf) (g := (s.gainNeeded a).toNat) (clearanceValid_chain.mp h2) k.val
    (by rw [breakpoints_length]; omega)
    (by rw [hlo]; show s.gainAt k.castSucc < _; omega) (by rw [hhi]; show _ ≤ s.gainAt k.succ; omega)
    (by rw [hhi, breakpoints_length]; exact hlast)
  rw [this, hlo, hhi]
  rfl

/-- From the last breakpoint on the contribution is Tf (R163). -/
theorem contribution_past (tf a : Nat) (h1 : s.tideStaleNow = false) (h2 : s.clearanceValid = true)
    (hg : (s.gainAt 7 : Int) ≤ s.gainNeeded a) : s.contribution tf (some a) = tf := by
  have hchain := clearanceValid_chain.mp h2
  have hlast (p : Nat × Nat) (hp : p ∈ s.breakpoints) : p.1 ≤ s.gainAt 7 := by
    obtain ⟨i, hi, rfl⟩ := List.getElem_of_mem hp
    rw [breakpoints_length] at hi
    have h7 := breakpoints_get s 7 (by omega)
    rcases Nat.lt_or_eq_of_le (show i ≤ 7 by omega) with h | h
    · have := rising_getElem hchain h (by rw [breakpoints_length]; omega)
      rw [h7] at this
      exact Nat.le_of_lt this
    · subst h; rw [h7]; exact Nat.le_refl _
  have hpos : 0 < s.gainAt 7 := by
    have := (clearanceValid_iff.mp h2 6).1
    exact Nat.lt_of_le_of_lt (Nat.zero_le _) this
  rw [contribution_known tf a h1 h2, if_neg (by omega),
    interpolate_past (fun p hp => (hlast p hp).trans (by omega)) hchain, Nat.min_self]

theorem bm_ne {p : Prop} [Decidable p] : bm (decide ¬p) = [if p then 0 else 1] := by
  by_cases h : p <;> simp [bm, b1, h]

/-- TIDE stores the level as clamped and as fresh (R159). -/
theorem tideOp_eq (level : Half) (s : State) : tideOp level s =
    ({ s with psc := { s.psc with
        tide := { level := max (-99) (min 199 level.toInt), time := s.tb.seconds, present := true, stale := false } } },
      .done (be16 (BitVec.ofInt 16 (max (-99) (min 199 level.toInt))) ++
        [if max (-99) (min 199 level.toInt) = level.toInt then 0 else 1] ++ be32 s.tb.seconds)) := by
  have hv : ∃ v, v = s.onPsc fun p =>
      { p with tide := { p.tide with level := clampLevel level.toInt, time := s.tb.seconds, present := true } } := ⟨_, rfl⟩
  obtain ⟨v, hv⟩ := hv
  have hfresh : v.tideStaleNow = false := by
    rw [hv]
    show (!true || decide (s.par pTideValidity < (s.tb.seconds - s.tb.seconds).toNat)) = false
    simp
  have hr : reviewTide v = v.onPsc fun p => { p with tide := { p.tide with stale := false } } := by
    unfold reviewTide; rw [hfresh]; rfl
  unfold tideOp
  dsimp only
  rw [← hv, hr, hv, ← bm_ne]
  rfl

/-- Settles O47: the tide as it is stored and judged, the clearance table and the contribution. -/
theorem tideAndContribution : Obligations.TideAndContribution := by
  refine ⟨fun level s => ⟨fun ha => ⟨_, (exec_tide ha).trans (by rw [tideOp_eq]), rfl⟩, fun hrun => exec_run rfl hrun rfl⟩, fun s tf =>
    ⟨contribution_le tf, rfl, fun air => contribution_unknown tf air, fun _ _ => contribution_mono tf, rfl, clearanceValid_iff,
      fun h1 h2 a => ⟨fun hg => (contribution_known tf a h1 h2).trans (if_pos hg), contribution_between tf a h1 h2,
        contribution_past tf a h1 h2⟩⟩⟩

/-! ### The signals judged again at a change of an item (R175, R177, R178) -/

/-- The signal unit with side `d`'s turn ended and the changeover begun (R177, R178). -/
def State.turnEnded (s : State) (d : Side) (c : EndCause) : Csu := { s.csu with
  sides := s.goEnded d c, window := none, phase := .changeover, changeover := some 0, sealTimer := some 0, sealed := false
  aspects := (s.csu.aspects.set d .stop).set d.other (s.changeoverAspect d.other) }

/-- The signal unit as it is judged again. -/
def State.itemsReviewed (s : State) : Csu :=
  match s.csu.phase, s.csu.current with
  | .idle, _ => if s.psc.batch.state = .formed
      then { s.csu with aspects := ⟨s.waitingAspect .seaward, s.waitingAspect .landward⟩ } else s.csu
  | .turn, some d => if s.calledLeft d then s.csu else s.turnEnded d .noCalled
  | .changeover, some d => { s.csu with aspects := s.csu.aspects.set d.other (s.changeoverAspect d.other) }
  | _, _ => s.csu

theorem waitingAspects_eq (s : State) : ∃ p,
    setAspect .landward (s.waitingAspect .landward) (setAspect .seaward (s.waitingAspect .seaward) s) = { s with
      csu := { s.csu with aspects := ⟨s.waitingAspect .seaward, s.waitingAspect .landward⟩ }, phu := { s.phu with proving := p } } := by
  obtain ⟨p, hp⟩ := setAspect_eq .seaward (s.waitingAspect .seaward) s
  obtain ⟨q, hq⟩ := setAspect_eq .landward (s.waitingAspect .landward) (setAspect .seaward (s.waitingAspect .seaward) s)
  rw [hq, hp]
  exact ⟨q, rfl⟩

theorem reviewItems_turnEnds (hp : s.csu.phase = .turn) (hc : s.csu.current = some d) (hl : s.calledLeft d = false) :
    reviewItems s = endTurn d .noCalled s := by
  unfold reviewItems
  rw [hp, hc]
  exact if_neg (by rw [hl]; nofun)

theorem reviewItems_eq (s : State) : ∃ p x, reviewItems s = { s with
    csu := s.itemsReviewed, phu := { s.phu with proving := p }, cl := { s.cl with latched := x } } := by
  have same (h : reviewItems s = s) (hc : s.itemsReviewed = s.csu) : ∃ p x, reviewItems s = { s with
      csu := s.itemsReviewed, phu := { s.phu with proving := p }, cl := { s.cl with latched := x } } :=
    ⟨s.phu.proving, s.cl.latched, by rw [h, hc]⟩
  cases hp : s.csu.phase
  case idle =>
    by_cases hf : s.psc.batch.state = .formed
    · obtain ⟨p, hq⟩ := waitingAspects_eq s
      refine ⟨p, s.cl.latched, ?_⟩
      unfold reviewItems State.itemsReviewed
      rw [hp]
      dsimp only
      rw [if_pos hf, if_pos hf, hq]
    · exact same (by unfold reviewItems; rw [hp]; exact if_neg hf) (by unfold State.itemsReviewed; rw [hp]; exact if_neg hf)
  case turn =>
    cases hc : s.csu.current with
    | none => exact same (by unfold reviewItems; rw [hp, hc]) (by unfold State.itemsReviewed; rw [hp, hc])
    | some d =>
      cases hl : s.calledLeft d
      · obtain ⟨p, hq⟩ := endTurn_eq d .noCalled s
        have e : s.itemsReviewed = s.turnEnded d .noCalled := by
          unfold State.itemsReviewed; rw [hp, hc]; exact if_neg (by rw [hl]; nofun)
        refine ⟨p, s.cl.latched ||| 0x200, ?_⟩
        rw [reviewItems_turnEnds hp hc hl, e, hq]
        rfl
      · exact same (by unfold reviewItems; rw [hp, hc]; exact if_pos hl) (by unfold State.itemsReviewed; rw [hp, hc]; exact if_pos hl)
  case changeover =>
    cases hc : s.csu.current with
    | none => exact same (by unfold reviewItems; rw [hp, hc]) (by unfold State.itemsReviewed; rw [hp, hc])
    | some d =>
      obtain ⟨p, hq⟩ := setAspect_eq d.other (s.changeoverAspect d.other) s
      have e : reviewItems s = setAspect d.other (s.changeoverAspect d.other) s := by unfold reviewItems; rw [hp, hc]
      refine ⟨p, s.cl.latched, ?_⟩
      rw [e, hq]
      unfold State.itemsReviewed
      rw [hp, hc]
  case ended => exact same (by unfold reviewItems; rw [hp]) (by unfold State.itemsReviewed; rw [hp])

theorem reviewItems_csu (s : State) : (reviewItems s).csu = s.itemsReviewed := by
  obtain ⟨p, x, h⟩ := reviewItems_eq s; rw [h]
theorem reviewItems_psc (s : State) : (reviewItems s).psc = s.psc := by
  obtain ⟨p, x, h⟩ := reviewItems_eq s; rw [h]
theorem reviewItems_vt (s : State) : (reviewItems s).vt = s.vt := by
  obtain ⟨p, x, h⟩ := reviewItems_eq s; rw [h]

theorem itemsReviewed_idle (hp : s.csu.phase = .idle) (hf : s.psc.batch.state = .formed) : s.itemsReviewed =
    { s.csu with aspects := ⟨s.waitingAspect .seaward, s.waitingAspect .landward⟩ } := by
  unfold State.itemsReviewed; rw [hp]; exact if_pos hf
theorem itemsReviewed_turn (hp : s.csu.phase = .turn) (hc : s.csu.current = some d) :
    s.itemsReviewed = if s.calledLeft d then s.csu else s.turnEnded d .noCalled := by
  unfold State.itemsReviewed; rw [hp, hc]
theorem itemsReviewed_changeover (hp : s.csu.phase = .changeover) (hc : s.csu.current = some d) : s.itemsReviewed =
    { s.csu with aspects := s.csu.aspects.set d.other (s.changeoverAspect d.other) } := by
  unfold State.itemsReviewed; rw [hp, hc]

/-- The passages of a turn and the violations stay. -/
theorem itemsReviewed_counts (s : State) : (∀ x, (s.itemsReviewed.sides.get x).passed = (s.csu.sides.get x).passed) ∧
    s.itemsReviewed.violations = s.csu.violations := by
  unfold State.itemsReviewed
  split
  · split <;> exact ⟨fun _ => rfl, rfl⟩
  · next d _ _ =>
    split
    · exact ⟨fun _ => rfl, rfl⟩
    · exact ⟨fun x => by cases d <;> cases x <;> rfl, rfl⟩
  · exact ⟨fun _ => rfl, rfl⟩
  · exact ⟨fun _ => rfl, rfl⟩
theorem signalsClosed_counts (s : State) : (∀ x, (s.signalsClosed.sides.get x).passed = (s.csu.sides.get x).passed) ∧
    s.signalsClosed.violations = s.csu.violations := by
  unfold State.signalsClosed
  dsimp only
  split
  · next d _ _ => exact ⟨fun x => by cases d <;> cases x <;> rfl, rfl⟩
  · exact ⟨fun _ => rfl, rfl⟩

/-! ### What follows an item that is PASSED or WITHDRAWN (R156, R167, R175 to R178) -/

/-- The call list and the signals before the end of the batch is tested. -/
structure Settling (s w : State) (items : List Item) : Prop where
  batch : w.psc.batch = { s.psc.batch with items := items, remaining := s.psc.batch.remaining - 1 }
  time : w.tb = s.tb
  turnEnds : ∀ d : Side, s.csu.phase = .turn → s.csu.current = some d → itemsLeft items d = false →
    (w.csu.sides.get d).status = .done ∧ (w.csu.sides.get d).cause = some .noCalled ∧
    (w.csu.sides.get d).goEnd = some s.tb.seconds ∧ w.csu.window = none ∧ w.csu.sealTimer = some 0 ∧
    w.csu.sealed = false ∧ w.aspect d = .stop ∧ (w.cl.latched &&& 0x200) ≠ 0 ∧ w.csu.phase = .changeover ∧
    w.csu.current = some d ∧ w.csu.changeover = some 0 ∧
    w.aspect d.other = if (s.csu.sides.get d.other).status = .notYet ∧ itemsLeft items d.other = true then .standby else .stop
  turnStays : ∀ d : Side, s.csu.phase = .turn → s.csu.current = some d → itemsLeft items d = true →
    w.csu.phase = .turn ∧ w.csu.current = some d ∧ w.csu.aspects = s.csu.aspects ∧ w.csu.window = s.csu.window
  standby : s.csu.phase = .idle → s.psc.batch.state = .formed →
    ∀ d : Side, w.aspect d = if itemsLeft items d then .standby else .stop
  changeover : ∀ d : Side, s.csu.phase = .changeover → s.csu.current = some d →
    w.csu.phase = .changeover ∧ w.csu.changeover = s.csu.changeover ∧
    w.aspect d.other = if (s.csu.sides.get d.other).status = .notYet ∧ itemsLeft items d.other = true then .standby else .stop

/-- No item is CALLED in a list that ends the batch. -/
theorem finishes_uncalled {items : List Item} (h : s.finishes items = true) : ∀ i ∈ items, i.outcome ≠ .called := by
  intro i hi hc
  have := List.all_eq_true.mp ((Bool.and_eq_true _ _).mp h).2 i hi
  rw [hc] at this
  cases this
theorem finishes_holds {items : List Item} (h : s.finishes items = true) (j : Fin 32) : holdsCalled items j = false := by
  refine Bool.eq_false_iff.mpr fun hn => ?_
  obtain ⟨i, hi, hc⟩ := List.any_eq_true.mp hn
  exact finishes_uncalled h i hi (of_decide_eq_true ((Bool.and_eq_true _ _).mp hc).2)
theorem finishes_left {items : List Item} (h : s.finishes items = true) (d : Side) : itemsLeft items d = false := by
  refine Bool.eq_false_iff.mpr fun hn => ?_
  obtain ⟨i, hi, hc⟩ := List.any_eq_true.mp hn
  exact finishes_uncalled h i hi (of_decide_eq_true ((Bool.and_eq_true _ _).mp hc).2)
theorem finishes_items {items : List Item} (h : s.finishes items = true) : items.map (Item.returned items) = items ∧
    (items.filter fun i => decide (i.outcome = .called)).length = 0 := by
  have hu := finishes_uncalled h
  refine ⟨?_, ?_⟩
  · conv_rhs => rw [← List.map_id items]
    refine List.map_congr_left fun i hi => ?_
    exact if_neg fun hn => hu i hi hn.1
  · rw [List.filter_eq_nil_iff.mpr fun i hi => by simp [hu i hi]]
    rfl

theorem Settling.batchEnd {items : List Item} (h : Settling s w items) :
    testBatchEnd w = if s.finishes items then enterClosing w else w := by
  have hl : w.batchLive = (decide (s.psc.batch.state = .formed) || decide (s.psc.batch.state = .running)) := by
    unfold State.batchLive; rw [h.batch]
  unfold testBatchEnd State.finishes
  rw [hl, h.batch]
  exact if_congr (Bool.and_eq_true _ _).symm.to_iff rfl rfl

theorem Settling.settles {items : List Item} (h : Settling s w items) : (testBatchEnd w).settles s items := by
  rw [h.batchEnd]
  cases hf : s.finishes items
  · rw [if_neg nofun]
    refine ⟨fun _ => h.batch, fun hn => (by rw [hf] at hn; cases hn), fun d hp hc hl => ?_, h.turnStays, fun hp hs _ => h.standby hp hs,
      fun d hp hc _ => h.changeover d hp hc⟩
    obtain ⟨h1, h2, h3, h4, h5, h6, h7, h8, h9, h10, h11, h12⟩ := h.turnEnds d hp hc hl
    exact ⟨h1, h2, h3, h4, h5, h6, h7, h8, fun _ => ⟨h9, h10, h11, h12⟩⟩
  · rw [if_pos rfl]
    have hc := enterClosing_closes w
    obtain ⟨hmap, hcount⟩ := finishes_items hf
    have hb := hc.batch
    rw [h.batch] at hb
    dsimp only at hb
    rw [hmap, hcount, h.time] at hb
    have hcsu := hc.csu
    have hrest : w.signalsClosed.phase = .ended ∧ w.signalsClosed.current = none ∧ w.signalsClosed.window = none ∧
        w.signalsClosed.changeover = none ∧ w.signalsClosed.aspects = ⟨.stop, .stop⟩ := by
      unfold State.signalsClosed
      dsimp only
      split <;> exact ⟨rfl, rfl, rfl, rfl, rfl⟩
    obtain ⟨g1, g2, g3, g4, g5⟩ := hrest
    generalize enterClosing w = x at hc hb hcsu ⊢
    have hasp (d : Side) : x.aspect d = .stop := by unfold State.aspect; rw [hcsu, g5]; exact aspect_stop d
    have hno {p : Prop} (hn : s.finishes items = false) : p := by rw [hf] at hn; cases hn
    refine ⟨hno, fun _ => ⟨by rw [hb], by rw [hb], by rw [hb, hcsu], fun hs => ?_, by rw [hcsu, g1],
      by rw [hcsu, g2], by rw [hcsu, g3], by rw [hcsu, g4], hasp .seaward, hasp .landward, hc.latched⟩, fun d hp hcur hl => ?_,
      fun d hp hcur hl => ?_, fun _ _ hn => hno hn, fun _ _ _ hn => hno hn⟩
    · rw [hcsu] at hs
      rw [hb]
      exact if_pos hs
    · obtain ⟨h1, h2, h3, -, h5, h6, -, -, h9, -⟩ := h.turnEnds d hp hcur hl
      have hclosed : x.csu = { w.csu with
          window := none, changeover := none, aspects := ⟨.stop, .stop⟩, phase := .ended, current := none } := by
        rw [hcsu]; unfold State.signalsClosed; rw [h9]
      refine ⟨by rw [hclosed]; exact h1, by rw [hclosed]; exact h2, by rw [hclosed]; exact h3, by rw [hclosed], by rw [hclosed]; exact h5,
        by rw [hclosed]; exact h6, hasp d, hc.latched, hno⟩
    · rw [finishes_left hf d] at hl; cases hl

/-- The end of the batch's test leaves the vessels and queues of a list without a CALLED item. -/
theorem Settling.vessel {items : List Item} (h : Settling s w items) (j : Fin 32) : (testBatchEnd w).vessel j = w.vessel j := by
  rw [h.batchEnd]
  cases hf : s.finishes items
  · rfl
  · rw [if_pos rfl, (enterClosing_closes w).vessel, h.batch, finishes_holds hf j]; rfl
theorem Settling.queue {items : List Item} (h : Settling s w items) (q : Fin 8) : (testBatchEnd w).queue q = w.queue q := by
  rw [h.batchEnd]
  cases hf : s.finishes items
  · rfl
  · rw [if_pos rfl, (enterClosing_closes w).queue, h.batch]
    conv_rhs => rw [← List.map_id (w.queue q)]
    refine List.map_congr_left fun e _ => ?_
    exact if_neg (by rw [finishes_holds hf]; nofun)
theorem Settling.items {items : List Item} (h : Settling s w items) : (testBatchEnd w).psc.batch.items = items := by
  cases hf : s.finishes items
  · rw [h.settles.goesOn hf]
  · exact (h.settles.ends hf).1
theorem Settling.counts {items : List Item} (h : Settling s w items) :
    (∀ x, ((testBatchEnd w).csu.sides.get x).passed = (w.csu.sides.get x).passed) ∧
      (testBatchEnd w).csu.violations = w.csu.violations := by
  rw [h.batchEnd]
  cases hf : s.finishes items
  · exact ⟨fun _ => rfl, rfl⟩
  · rw [if_pos rfl, (enterClosing_closes w).csu]; exact signalsClosed_counts w

/-- The items changed to `items` and the signals judged again, with the remaining count one less. -/
theorem Settling.of_review {items : List Item} (hi : v.psc.batch.items = items) (hs : v.psc.batch.state = s.psc.batch.state) (ht : v.tb = s.tb)
    (hp : v.csu.phase = s.csu.phase) (hc : v.csu.current = s.csu.current) (ha : v.csu.aspects = s.csu.aspects)
    (hw : v.csu.window = s.csu.window) (hg : v.csu.changeover = s.csu.changeover)
    (hst : ∀ x, (v.csu.sides.get x).status = (s.csu.sides.get x).status)
    (wb : w.psc.batch = { s.psc.batch with items := items, remaining := s.psc.batch.remaining - 1 }) (wt : w.tb = s.tb)
    (wc : w.csu = v.itemsReviewed) (wl : ((reviewItems v).cl.latched &&& 0x200) ≠ 0 → (w.cl.latched &&& 0x200) ≠ 0) :
    Settling s w items := by
  have hleft (d : Side) : v.calledLeft d = itemsLeft items d := by unfold State.calledLeft; rw [hi]; rfl
  have hgap (d : Side) : v.changeoverAspect d = if (s.csu.sides.get d).status = .notYet ∧ itemsLeft items d = true then .standby else .stop := by
    unfold State.changeoverAspect; rw [hst, hleft]
  refine ⟨wb, wt, fun d h1 h2 h3 => ?_, fun d h1 h2 h3 => ?_, fun h1 h2 d => ?_, fun d h1 h2 => ?_⟩
  · have hp' := hp.trans h1
    have hc' := hc.trans h2
    have hl' : v.calledLeft d = false := (hleft d).trans h3
    have e : w.csu = v.turnEnded d .noCalled := by rw [wc, itemsReviewed_turn hp' hc', if_neg (by rw [hl']; nofun)]
    have hlat : (w.cl.latched &&& 0x200) ≠ 0 := wl (by
      obtain ⟨p, hq⟩ := endTurn_eq d .noCalled v
      rw [reviewItems_turnEnds hp' hc' hl', hq]
      exact latch_batch_mask v)
    have hsides : w.csu.sides.get d = { v.csu.sides.get d with status := .done, cause := some .noCalled, goEnd := some v.tb.seconds } := by
      rw [e]; exact perSide_get_self _ d _
    refine ⟨by rw [hsides], by rw [hsides], by rw [hsides, ht], by rw [e]; rfl, by rw [e]; rfl, by rw [e]; rfl, ?_, hlat, by rw [e]; rfl,
      by rw [e]; exact hc', by rw [e]; rfl, ?_⟩
    · unfold State.aspect
      rw [e]
      exact (perSide_other_self _ d _).trans (perSide_get_self _ d _)
    · unfold State.aspect
      rw [e, ← hgap]
      exact perSide_get_self _ d.other _
  · have hp' := hp.trans h1
    have hc' := hc.trans h2
    rw [wc, itemsReviewed_turn hp' hc', if_pos ((hleft d).trans h3)]
    exact ⟨hp', hc', ha, hw⟩
  · unfold State.aspect
    rw [wc, itemsReviewed_idle (hp.trans h1) (hs.trans h2), ← hleft]
    cases d <;> rfl
  · unfold State.aspect
    rw [wc, itemsReviewed_changeover (hp.trans h1) (hc.trans h2), ← hgap]
    exact ⟨hp.trans h1, hg, perSide_get_self _ d.other _⟩

/-! ### WITHDRAW (R152, R156) -/

/-- A call list with the CALLED item of slot `j` given an outcome. -/
def outcomeGiven (j : Fin 32) (o : ItemOutcome) (items : List Item) : List Item :=
  items.map fun i => if i.slot = j ∧ i.outcome = .called then { i with outcome := o } else i

theorem outcomeGiven_uncalled {j : Fin 32} {o : ItemOutcome} (ho : o ≠ .called) {items : List Item} :
    ∀ i ∈ outcomeGiven j o items, i.slot = j → i.outcome ≠ .called := by
  intro i hi hs hc
  obtain ⟨x, -, rfl⟩ := List.mem_map.mp hi
  split at hs <;> split at hc
  · exact ho hc
  · next h1 h2 => exact absurd h1 h2
  · next h1 h2 => exact absurd h2 h1
  · next h1 _ => exact h1 ⟨hs, hc⟩

/-- A vessel leaves its queue and takes another state; nothing else changes. -/
theorem leavesQueue_eq (j : Fin 32) (st : VesselState) (s : State) : setVesselState j st (leaveQueue j s) = { s with
    vt := { s.vt with slots := (setVesselState j st (leaveQueue j s)).vt.slots }
    psc := { s.psc with queues := (leaveQueue j s).psc.queues } } := by
  conv_lhs => rw [setVesselState_eq]
  rfl

section
variable {identity : Word} {j : Fin 32} {x : Vessel}

theorem withdrawOp_idle (h0 : identity ≠ 0) (hf : s.findVessel identity = some j) (hv : s.vessel j = some x)
    (hs : x.state = .sighted ∨ x.state = .passed) : withdrawOp identity s = (s, .refused .state 0) := by
  unfold withdrawOp
  rw [if_neg h0]
  rcases hs with hs | hs <;> simp [hf, hv, hs, Verdict.state]
theorem withdrawOp_waiting (h0 : identity ≠ 0) (hf : s.findVessel identity = some j) (hv : s.vessel j = some x) (hs : x.state = .waiting) :
    withdrawOp identity s = (setVesselState j .sighted (leaveQueue j s),
      .done ([1, 0] ++ (setVesselState j .sighted (leaveQueue j s)).vesselRecord j)) := by
  unfold withdrawOp
  rw [if_neg h0]
  simp [hf, hv, hs, b1, bm, VesselState.code]
theorem withdrawOp_called (h0 : identity ≠ 0) (hf : s.findVessel identity = some j) (hv : s.vessel j = some x) (hs : x.state = .called) :
    withdrawOp identity s = (withdrawCalled j s, .done ([2, 1] ++ (withdrawCalled j s).vesselRecord j)) := by
  unfold withdrawOp
  rw [if_neg h0]
  simp [hf, hv, hs, b1, bm, VesselState.code]

end

/-- The withdrawal of a CALLED vessel before the batch's end is tested. -/
def withdrawnReviewed (j : Fin 32) (s : State) : State :=
  reviewItems ((setVesselState j .sighted (setOutcome j .withdrawn (leaveQueue j s))).onBatch fun b => { b with remaining := b.remaining - 1 })

theorem withdrawCalled_eq (j : Fin 32) (s : State) : withdrawCalled j s = testBatchEnd (withdrawnReviewed j s) := rfl

theorem withdrawn_settling (j : Fin 32) (s : State) :
    Settling s (withdrawnReviewed j s) (outcomeGiven j .withdrawn s.psc.batch.items) := by
  have hv : ∃ v, v = (setVesselState j .sighted (setOutcome j .withdrawn (leaveQueue j s))).onBatch
      fun b => { b with remaining := b.remaining - 1 } := ⟨_, rfl⟩
  obtain ⟨v, hv⟩ := hv
  have hrest : v.psc.batch = { s.psc.batch with
      items := outcomeGiven j .withdrawn s.psc.batch.items, remaining := s.psc.batch.remaining - 1 } ∧ v.csu = s.csu ∧ v.tb = s.tb := by
    rw [hv, setVesselState_eq]; exact ⟨rfl, rfl, rfl⟩
  obtain ⟨hb, hc, ht⟩ := hrest
  unfold withdrawnReviewed
  rw [← hv]
  exact .of_review (v := v) (by rw [hb]) (by rw [hb]) ht (by rw [hc]) (by rw [hc]) (by rw [hc]) (by rw [hc]) (by rw [hc])
    (fun x => by rw [hc]) (by rw [reviewItems_psc, hb]) ((reviewItems_only v).tb.trans ht) (reviewItems_csu v) id

theorem withdrawn_vessel (i j : Fin 32) (s : State) : (withdrawnReviewed j s).vessel i =
    if i = j then (s.vessel i).map (fun v => { v with state := .sighted }) else s.vessel i := by
  unfold State.vessel withdrawnReviewed
  rw [reviewItems_vt]
  exact vessel_setVesselState j i .sighted (setOutcome j .withdrawn (leaveQueue j s))
theorem withdrawn_queue (j : Fin 32) (q : Fin 8) (s : State) : (withdrawnReviewed j s).queue q =
    (s.queue q).filter fun e => decide (e.slot ≠ j) := by
  unfold State.queue withdrawnReviewed
  rw [reviewItems_psc]
  show (setVesselState j .sighted (setOutcome j .withdrawn (leaveQueue j s))).psc.queues[q] = _
  rw [setVesselState_psc]
  exact queue_leaveQueue j s q

theorem filtered_slot {j : Fin 32} {l : List QueueEntry} : ∀ e ∈ l.filter fun e => decide (e.slot ≠ j), e.slot ≠ j :=
  fun _ he => of_decide_eq_true (List.mem_filter.mp he).2

/-- Settles O45: WITHDRAW by the vessel's state, and what follows for the batch and the signals. -/
theorem withdrawOutcomes : Obligations.WithdrawOutcomes := by
  intro identity s ha h0
  refine ⟨fun hf => ?_, fun j x hf hx => ⟨fun hst => ?_, fun hst => ?_, fun hst => ?_⟩⟩
  · have e : withdrawOp identity s = (s, .refused .notFound 0) := by unfold withdrawOp; rw [if_neg h0, hf]
    rw [exec_withdraw ha, e]
  · rw [exec_withdraw ha, withdrawOp_idle h0 hf hx hst]
  · have e := withdrawOp_waiting h0 hf hx hst
    refine ⟨_, _, by rw [exec_withdraw ha, e], ?_, fun i hi => ?_, fun q => ?_, rfl, ?_, ?_, ?_, ?_, ?_⟩
    · rw [vessel_setVesselState, if_pos rfl]
      show (s.vessel j).map _ = _
      rw [hx]; rfl
    · rw [vessel_setVesselState, if_neg hi]; rfl
    · unfold State.queue; rw [setVesselState_psc]; exact queue_leaveQueue j s q
    all_goals rw [leavesQueue_eq]
  · have e := withdrawOp_called h0 hf hx hst
    have h := withdrawn_settling j s
    have hvessel (i : Fin 32) := (h.vessel i).trans (withdrawn_vessel i j s)
    have hqueue (q : Fin 8) := (h.queue q).trans (withdrawn_queue j q s)
    have honly : ChannelOnly (withdrawnReviewed j s) (withdrawCalled j s) := testBatchEnd_only _
    have hlmc : (withdrawnReviewed j s).lmc = s.lmc := by
      unfold withdrawnReviewed
      rw [(reviewItems_only _).lmc, setVesselState_eq]
      rfl
    rw [withdrawCalled_eq] at e honly
    refine ⟨_, _, by rw [exec_withdraw ha, e], rfl, ?_, fun q y hy => ?_, fun i hi => ?_, hqueue, ?_, honly.lmc.trans hlmc, h.settles⟩
    · rw [hvessel, if_pos rfl, hx]; rfl
    · rw [hqueue] at hy; exact filtered_slot y hy
    · rw [hvessel, if_neg hi]
    · rw [h.items]; exact outcomeGiven_uncalled (by decide)

/-! ### VESSEL-PASSED (R183, R184) -/

theorem countViolation_shown (h : s.aspect d = .go) : countViolation d s = s := if_pos h
theorem countViolation_against (h : s.aspect d ≠ .go) :
    countViolation d s = latch .violation (s.onCsu fun c => { c with violations := bump c.violations }) := if_neg h

/-- A violation counted changes that counter and the latched conditions alone. -/
theorem countViolation_eq (d : Side) (s : State) : ∃ x, countViolation d s = { s with
    cl := { s.cl with latched := x }
    csu := { s.csu with violations := if s.aspect d = .go then s.csu.violations else bump s.csu.violations } } := by
  by_cases h : s.aspect d = .go
  · exact ⟨s.cl.latched, by rw [countViolation_shown h, if_pos h]⟩
  · refine ⟨s.cl.latched ||| Condition.violation.bit, ?_⟩
    rw [countViolation_against h, if_neg h]
    rfl

/-- The passage counted and the item PASSED, before the signals are judged again. -/
def passCounted (i : Item) (s : State) : State :=
  setOutcome i.slot .passed ((countViolation i.side s).onTurn i.side fun r => { r with passed := r.passed + 1 })

/-- The vessel out of its queue, before the batch's end is tested. -/
def passReviewed (i : Item) (s : State) : State :=
  ((leaveQueue i.slot (reviewItems (passCounted i s))).onBatch fun b => { b with remaining := b.remaining - 1 }).onVessel i.slot
    fun v => { v with state := .passed, life := s.lifetime }

theorem passItem_eq (i : Item) (s : State) : passItem i s = testBatchEnd (passReviewed i s) := rfl

/-- What counting a passage leaves. -/
structure PassCounted (i : Item) (s v : State) : Prop where
  batch : v.psc.batch = { s.psc.batch with items := outcomeGiven i.slot .passed s.psc.batch.items }
  queues : v.psc.queues = s.psc.queues
  vt : v.vt = s.vt
  tb : v.tb = s.tb
  lmc : v.lmc = s.lmc
  csu : v.csu = { s.csu with
    sides := s.csu.sides.set i.side { s.csu.sides.get i.side with passed := (s.csu.sides.get i.side).passed + 1 }
    violations := if s.aspect i.side = .go then s.csu.violations else bump s.csu.violations }
  latched : s.aspect i.side ≠ .go → (v.cl.latched &&& 0x400) ≠ 0

theorem passCounted_spec (i : Item) (s : State) : PassCounted i s (passCounted i s) := by
  obtain ⟨x, hx⟩ := countViolation_eq i.side s
  have hl (h : s.aspect i.side ≠ .go) : ((countViolation i.side s).cl.latched &&& 0x400) ≠ 0 := by
    rw [countViolation_against h]
    refine (mask_iff _ 10).mpr ⟨by decide, ?_⟩
    show ((s.cl.latched ||| Condition.violation.bit : Half)).getLsbD 10 = true
    rw [BitVec.getLsbD_or, show Condition.violation.bit.getLsbD 10 = true from rfl, Bool.or_true]
  refine ⟨?_, ?_, ?_, ?_, ?_, ?_, hl⟩ <;> (unfold passCounted; rw [hx]; rfl)

theorem passReviewed_eq (i : Item) (s : State) : passReviewed i s = { reviewItems (passCounted i s) with
    psc := (passReviewed i s).psc, vt := (passReviewed i s).vt } := by
  conv_lhs => unfold passReviewed; rw [onVessel_eq]
  rw [show (passReviewed i s).psc = ((leaveQueue i.slot (reviewItems (passCounted i s))).onBatch
    fun b => { b with remaining := b.remaining - 1 }).psc by unfold passReviewed; rw [onVessel_eq]]
  rw [show (passReviewed i s).vt = _ by unfold passReviewed; rw [onVessel_eq]]
  rfl

theorem passed_settling (i : Item) (s : State) : Settling s (passReviewed i s) (outcomeGiven i.slot .passed s.psc.batch.items) := by
  have h := passCounted_spec i s
  have hp : (passReviewed i s).psc.batch = { (passCounted i s).psc.batch with remaining := (passCounted i s).psc.batch.remaining - 1 } := by
    unfold passReviewed
    rw [onVessel_eq]
    show ({ (reviewItems (passCounted i s)).psc.batch with remaining := (reviewItems (passCounted i s)).psc.batch.remaining - 1 } : Batch) = _
    rw [reviewItems_psc]
  have heq := passReviewed_eq i s
  have htb : (passReviewed i s).tb = s.tb := by
    rw [heq]; exact (reviewItems_only _).tb.trans h.tb
  have hcsu : (passReviewed i s).csu = (passCounted i s).itemsReviewed := by rw [heq]; exact reviewItems_csu _
  have hcl : (passReviewed i s).cl = (reviewItems (passCounted i s)).cl := by rw [heq]
  have hc := h.csu
  refine .of_review (v := passCounted i s) (by rw [h.batch]) (by rw [h.batch]) h.tb (by rw [hc]) (by rw [hc]) (by rw [hc]) (by rw [hc])
    (by rw [hc]) (fun x => ?_) (by rw [hp, h.batch]) htb hcsu (by rw [hcl]; exact id)
  rw [hc]
  generalize i.side = e
  cases e <;> cases x <;> rfl

theorem passed_vessel (i : Item) (j : Fin 32) (s : State) : (passReviewed i s).vessel j =
    if j = i.slot then (s.vessel j).map (fun v => { v with state := .passed, life := s.lifetime }) else s.vessel j := by
  have hv : ((leaveQueue i.slot (reviewItems (passCounted i s))).onBatch fun b => { b with remaining := b.remaining - 1 }).vessel j =
      s.vessel j := by
    show (reviewItems (passCounted i s)).vessel j = _
    unfold State.vessel
    rw [reviewItems_vt, (passCounted_spec i s).vt]
  unfold passReviewed
  rw [vessel_onVessel, hv]
theorem passed_queue (i : Item) (q : Fin 8) (s : State) : (passReviewed i s).queue q =
    (s.queue q).filter fun e => decide (e.slot ≠ i.slot) := by
  have hq : (reviewItems (passCounted i s)).queue q = s.queue q := by
    unfold State.queue; rw [reviewItems_psc, (passCounted_spec i s).queues]
  unfold passReviewed
  rw [onVessel_eq, ← hq]
  exact queue_leaveQueue i.slot (reviewItems (passCounted i s)) q

/-! The reply (R184) -/

/-- The entry found for a slot is one of its queue. -/
theorem findEntry_some {j : Fin 32} {q : Fin 8} {i : Nat} {e : QueueEntry} (h : s.findEntry j = some (q, i, e)) :
    e ∈ s.queue q ∧ e.slot = j ∧ (s.queue q)[i]? = some e := by
  obtain ⟨r, -, hr⟩ := List.exists_of_findSome?_eq_some h
  split at hr
  · next n hn =>
    obtain ⟨y, hy, he⟩ := Option.map_eq_some_iff.mp hr
    obtain ⟨rfl, rfl, rfl⟩ := he
    obtain ⟨hlt, hp, -⟩ := List.findIdx?_eq_some_iff_getElem.mp hn
    rw [List.getElem?_eq_getElem hlt] at hy
    cases hy
    exact ⟨List.getElem_mem hlt, of_decide_eq_true hp, List.getElem?_eq_getElem hlt⟩
  · cases hr

theorem findEntry_isSome {j : Fin 32} {q : Fin 8} {e : QueueEntry} (he : e ∈ s.queue q) (hs : e.slot = j) : ∃ p, s.findEntry j = some p := by
  refine Option.isSome_iff_exists.mp (List.findSome?_isSome_iff.mpr ⟨q, by clear he hs; revert q; decide, ?_⟩)
  cases hn : (s.queue q).findIdx? fun e => decide (e.slot = j) with
  | none => exact absurd (decide_eq_true hs) (by simpa using List.findIdx?_eq_none_iff.mp hn e he)
  | some n =>
    obtain ⟨hlt, -, -⟩ := List.findIdx?_eq_some_iff_getElem.mp hn
    simp [List.getElem?_eq_getElem hlt]

theorem vesselPassedOp_called {identity : Word} {i : Item} (h0 : identity ≠ 0) (h : s.calledItem identity = some i) :
    vesselPassedOp identity s = (passItem i s, .done
      (gapField ((s.findEntry i.slot).map fun p => p.2.2.time) (s.csu.sides.get i.side).goStart ++
        gapField (s.csu.sides.get i.side).goStart (some s.tb.seconds) ++
        bm (decide (s.aspect i.side ≠ .go)) ++ bm (s.endsTurn i) ++ b1 (passItem i s).psc.batch.state.code ++
        (passItem i s).vesselRecord i.slot)) := by
  unfold vesselPassedOp
  rw [if_neg h0, h]

theorem bm_iff {p : Prop} [Decidable p] {b : Bool} (h : b = true ↔ p) : bm b = [if p then 1 else 0] := by
  by_cases hp : p
  · rw [h.mpr hp, if_pos hp]; rfl
  · rw [Bool.eq_false_iff.mpr (mt h.mp hp), if_neg hp]; rfl

/-- Settles O49: VESSEL-PASSED, the violation, what follows for the batch and the signals, and the reply. -/
theorem vesselPassedOutcomes : Obligations.VesselPassedOutcomes := by
  intro identity s ha h0
  refine ⟨fun hc => ?_, fun i x hi hx => ?_⟩
  · have e : vesselPassedOp identity s = (s, .refused .notCalled 0) := by unfold vesselPassedOp; rw [if_neg h0, hc]
    rw [exec_vesselPassed ha, e]
  · have e := vesselPassedOp_called h0 hi
    have h := passed_settling i s
    have hcount := passCounted_spec i s
    have hvessel (j : Fin 32) := (h.vessel j).trans (passed_vessel i j s)
    have hqueue (q : Fin 8) := (h.queue q).trans (passed_queue i q s)
    have honly : ChannelOnly (passReviewed i s) (passItem i s) := testBatchEnd_only _
    have hsame : (passReviewed i s).lmc = s.lmc ∧ (passReviewed i s).cl = (reviewItems (passCounted i s)).cl ∧
        (passReviewed i s).csu = (passCounted i s).itemsReviewed := by
      rw [passReviewed_eq]
      exact ⟨(reviewItems_only _).lmc.trans hcount.lmc, rfl, reviewItems_csu _⟩
    obtain ⟨hlmc, hcl, hcsu⟩ := hsame
    have hcounts := h.counts
    rw [hcsu] at hcounts
    obtain ⟨hpassed, hviol⟩ := hcounts
    obtain ⟨hp2, hv2⟩ := itemsReviewed_counts (passCounted i s)
    have hv : (testBatchEnd (passReviewed i s)).csu.violations = if s.aspect i.side = .go then s.csu.violations else bump s.csu.violations := by
      rw [hviol, hv2, hcount.csu]
    rw [passItem_eq] at e honly
    refine ⟨_, _, by rw [exec_vesselPassed ha, e], ?_, fun q y hy => ?_, ?_, fun hg => ⟨?_, ?_⟩, fun hg => ?_, honly.lmc.trans hlmc,
      fun j hj => ?_, hqueue, ?_, h.settles, fun q y hy hs hone => ?_⟩
    · rw [hvessel, if_pos rfl, hx]; rfl
    · rw [hqueue] at hy; exact filtered_slot y hy
    · rw [h.items]; exact outcomeGiven_uncalled (by decide)
    · rw [hv, if_neg hg]
    · exact honly.mask (i := 10) (by rw [hcl]; exact (reviewItems_only _).mask (i := 10) (hcount.latched hg))
    · rw [hv, if_pos hg]
    · rw [hvessel, if_neg hj]
    · rw [hpassed, hp2, hcount.csu]
      dsimp only
      rw [perSide_get_self]
    · obtain ⟨⟨r, n, z⟩, hz⟩ := findEntry_isSome hy hs
      obtain ⟨hz1, hz2, -⟩ := findEntry_some hz
      have hyz : z = y := hone r z hz1 hz2
      have hends : s.endsTurn i = true ↔ s.csu.phase = .turn ∧ s.csu.current = some i.side ∧
          itemsLeft (outcomeGiven i.slot .passed s.psc.batch.items) i.side = false := by
        unfold State.endsTurn
        rw [Bool.and_eq_true, Bool.and_eq_true, decide_eq_true_iff, decide_eq_true_iff, Bool.not_eq_true', and_assoc]
        rfl
      have hagainst : bm (decide (s.aspect i.side ≠ .go)) = [if s.aspect i.side = .go then 0 else 1] := bm_ne
      rw [hz, hagainst, bm_iff hends, hyz]
      cases (s.csu.sides.get i.side).goStart <;> rfl

end Sys2Proof.Machine
end

section
/-! PROOFS. FORM-BATCH and ABANDON-BATCH (O48). -/

namespace Sys2Proof.Machine

variable {s t u : State} {a k : Fin 8}

/-! ### The leading side (R161) -/

/-- The oldest entry of one list is older than every entry of another. -/
def OlderThan (l m : List (Fin 4 × QueueEntry)) : Prop := ∃ p ∈ l, ∀ q ∈ m, p.2.seq.toNat < q.2.seq.toNat

theorem lowestSeq_le {l : List (Fin 4 × QueueEntry)} {p : Fin 4 × QueueEntry} (h : p ∈ l) :
    ∃ n, lowestSeq l = some n ∧ n ≤ p.2.seq.toNat ∧ ∃ q ∈ l, q.2.seq.toNat = n := by
  have hm : p.2.seq.toNat ∈ l.map fun p => p.2.seq.toNat := List.mem_map_of_mem h
  cases hn : lowestSeq l with
  | none =>
    have := List.min?_eq_none_iff.mp hn
    rw [this] at hm
    cases hm
  | some n =>
    obtain ⟨h1, h2⟩ := List.min?_eq_some_iff.mp hn
    exact ⟨n, rfl, h2 _ hm, List.mem_map.mp h1⟩

theorem seawardOldest_of_older {sea land : List (Fin 4 × QueueEntry)} (h : OlderThan sea land) : seawardOldest sea land = true := by
  obtain ⟨p, hp, hq⟩ := h
  obtain ⟨n, hn, hle, -⟩ := lowestSeq_le hp
  unfold seawardOldest
  rw [hn]
  cases land with
  | nil => rfl
  | cons q l =>
    obtain ⟨m, hm, -, r, hr, rfl⟩ := lowestSeq_le (List.mem_cons_self (a := q) (l := l))
    rw [hm]
    exact decide_eq_true (by have := hq r hr; omega)
theorem seawardOldest_of_younger {sea land : List (Fin 4 × QueueEntry)} (h : OlderThan land sea) : seawardOldest sea land = false := by
  obtain ⟨p, hp, hq⟩ := h
  obtain ⟨n, hn, hle, -⟩ := lowestSeq_le hp
  unfold seawardOldest
  cases sea with
  | nil => rfl
  | cons q l =>
    obtain ⟨m, hm, -, r, hr, rfl⟩ := lowestSeq_le (List.mem_cons_self (a := q) (l := l))
    rw [hm, hn]
    exact decide_eq_false (by have := hq r hr; omega)

theorem mem_priorityOf {l : List (Fin 4 × QueueEntry)} {p : Fin 4 × QueueEntry} : p ∈ priorityOf l ↔ p ∈ l ∧ p.1 = 0 := by
  simp [priorityOf]

/-- The side of the oldest entry of class 0 leads. -/
theorem leadingSide_priority {sea land : List (Fin 4 × QueueEntry)} (h : priorityOf sea ≠ [] ∨ priorityOf land ≠ []) :
    leadingSide sea land = if seawardOldest (priorityOf sea) (priorityOf land) then .seaward else .landward := if_pos h
theorem leadingSide_plain {sea land : List (Fin 4 × QueueEntry)} (h1 : priorityOf sea = []) (h2 : priorityOf land = []) :
    leadingSide sea land = if land.length < sea.length then .seaward else if sea.length < land.length then .landward
      else if seawardOldest sea land then .seaward else .landward := if_neg (by simp [h1, h2])

/-- The leading side's conditions, told from one side. -/
structure Leads (mine theirs : List (Fin 4 × QueueEntry)) (lead d : Side) : Prop where
  priority : (∃ p ∈ mine, p.1 = 0 ∧ ∀ q ∈ theirs, q.1 = 0 → p.2.seq.toNat < q.2.seq.toNat) → lead = d
  plain : (∀ p ∈ mine ++ theirs, p.1 ≠ 0) → (theirs.length < mine.length → lead = d) ∧
    (theirs.length = mine.length → (∃ p ∈ mine, ∀ q ∈ theirs, p.2.seq.toNat < q.2.seq.toNat) → lead = d)

theorem priorityOf_older {l m : List (Fin 4 × QueueEntry)}
    (h : ∃ p ∈ l, p.1 = 0 ∧ ∀ q ∈ m, q.1 = 0 → p.2.seq.toNat < q.2.seq.toNat) :
    priorityOf l ≠ [] ∧ OlderThan (priorityOf l) (priorityOf m) := by
  obtain ⟨p, hp, h0, hq⟩ := h
  have hm := mem_priorityOf.mpr ⟨hp, h0⟩
  exact ⟨List.ne_nil_of_mem hm, p, hm, fun q hqm => hq q (mem_priorityOf.mp hqm).1 (mem_priorityOf.mp hqm).2⟩
theorem priorityOf_nil {l : List (Fin 4 × QueueEntry)} (h : ∀ p ∈ l, p.1 ≠ 0) : priorityOf l = [] :=
  List.eq_nil_iff_forall_not_mem.mpr fun p hp => h p (mem_priorityOf.mp hp).1 (mem_priorityOf.mp hp).2

theorem leadingSide_seaward (sea land : List (Fin 4 × QueueEntry)) : Leads sea land (leadingSide sea land) .seaward where
  priority h := by
    obtain ⟨h1, h2⟩ := priorityOf_older h
    rw [leadingSide_priority (.inl h1), seawardOldest_of_older h2]; rfl
  plain h := by
    have e := leadingSide_plain (sea := sea) (land := land) (priorityOf_nil fun p hp => h p (List.mem_append_left _ hp))
      (priorityOf_nil fun p hp => h p (List.mem_append_right _ hp))
    refine ⟨fun hl => by rw [e, if_pos hl], fun hl ho => ?_⟩
    rw [e, if_neg (by omega), if_neg (by omega), seawardOldest_of_older ho]
    rfl
theorem leadingSide_landward (sea land : List (Fin 4 × QueueEntry)) : Leads land sea (leadingSide sea land) .landward where
  priority h := by
    obtain ⟨h1, h2⟩ := priorityOf_older h
    rw [leadingSide_priority (.inr h1), seawardOldest_of_younger h2]; rfl
  plain h := by
    have e := leadingSide_plain (sea := sea) (land := land) (priorityOf_nil fun p hp => h p (List.mem_append_right _ hp))
      (priorityOf_nil fun p hp => h p (List.mem_append_left _ hp))
    refine ⟨fun hl => by rw [e, if_neg (by omega), if_pos hl], fun hl ho => ?_⟩
    rw [e, if_neg (by omega), if_neg (by omega), seawardOldest_of_younger ho]
    rfl

theorem leadingSide_leads (d : Side) (s : State) :
    Leads (s.eligible d) (s.eligible d.other) (leadingSide (s.eligible .seaward) (s.eligible .landward)) d := by
  cases d
  · exact leadingSide_seaward _ _
  · exact leadingSide_landward _ _

/-! ### The call list (R161, R162) -/

/-- A queue's entries with those of a call list's slots marked CALLED. -/
def entryCalled (items : List Item) (e : QueueEntry) : QueueEntry :=
  if items.any fun i => decide (i.slot = e.slot) then { e with called := true } else e

/-- What calling a list of items leaves: their vessels and entries are CALLED. -/
structure CallsItems (items : List Item) (s t : State) : Prop where
  vessel : ∀ j, t.vessel j = if items.any fun i => decide (i.slot = j) then (s.vessel j).map (fun v => { v with state := .called })
    else s.vessel j
  queue : ∀ q, t.queue q = (s.queue q).map (entryCalled items)
  rest : t = { s with vt := { s.vt with slots := t.vt.slots }, psc := { s.psc with queues := t.psc.queues } }

theorem callItem_vessel (i : Item) (s : State) (j : Fin 32) : (callItem s i).vessel j =
    if j = i.slot then (s.vessel j).map (fun v => { v with state := .called }) else s.vessel j := by
  unfold callItem
  rw [vessel_setVesselState]
  rfl
theorem callItem_queue (i : Item) (s : State) (q : Fin 8) : (callItem s i).queue q =
    (s.queue q).map fun e => if e.slot = i.slot then { e with called := true } else e := by
  unfold callItem State.queue
  rw [setVesselState_psc]
  exact queue_markCalled i.slot true s q
theorem callItem_rest (i : Item) (s : State) : callItem s i = { s with
    vt := { s.vt with slots := (callItem s i).vt.slots }, psc := { s.psc with queues := (callItem s i).psc.queues } } := by
  unfold callItem
  conv_lhs => rw [setVesselState_eq]
  rw [setVesselState_psc]
  rfl

theorem callItems_calls (items : List Item) (s : State) : CallsItems items s (items.foldl callItem s) := by
  induction items generalizing s with
  | nil =>
    refine ⟨fun _ => rfl, fun q => ?_, rfl⟩
    exact (List.map_id (s.queue q)).symm
  | cons i l ih =>
    obtain ⟨h1, h2, h3⟩ := ih (callItem s i)
    rw [List.foldl_cons]
    refine ⟨fun j => ?_, fun q => ?_, ?_⟩
    · rw [h1, callItem_vessel, List.any_cons]
      by_cases hj : j = i.slot
      · rw [if_pos hj, decide_eq_true hj.symm, Bool.true_or, if_pos rfl]
        split
        · rw [Option.map_map]; rfl
        · rfl
      · rw [if_neg hj, decide_eq_false (Ne.symm hj), Bool.false_or]
    · rw [h2, callItem_queue, List.map_map]
      refine List.map_congr_left fun e _ => ?_
      unfold entryCalled
      rw [Function.comp_apply, List.any_cons]
      by_cases he : e.slot = i.slot
      · rw [if_pos he, decide_eq_true he.symm, Bool.true_or, if_pos rfl]
        split <;> rfl
      · rw [if_neg he, decide_eq_false (Ne.symm he), Bool.false_or]
    · have hr := callItem_rest i s
      generalize l.foldl callItem (callItem s i) = x at h3 ⊢
      generalize callItem s i = y at h3 hr
      exact h3.trans (by rw [hr])

/-! ### FORM-BATCH and ABANDON-BATCH (R161 to R163, R169, R175) -/

/-- The record of a batch as it is formed. -/
def State.formedBatch (s : State) (lead : Side) : Batch := { s.formedRecord lead with state := .formed }

/-- What a formation leaves (R162, R93, R175). -/
structure FormsBatch (lead : Side) (s t : State) : Prop where
  batch : t.psc.batch = s.formedBatch lead
  vessel : ∀ j, t.vessel j = if (s.callList lead).any fun i => decide (i.slot = j)
    then (s.vessel j).map (fun v => { v with state := .called }) else s.vessel j
  queue : ∀ q, t.queue q = (s.queue q).map (entryCalled (s.callList lead))
  csu : t.csu = { s.csu with
    batchNumber := nextBatch s.psc.batch.number, phase := .idle, current := none, sides := ⟨SideTurn.reset, SideTurn.reset⟩
    result := .none, window := none, changeover := none, sealTimer := some 0, sealed := false
    aspects := ⟨if itemsLeft (s.callList lead) .seaward then .standby else .stop,
      if itemsLeft (s.callList lead) .landward then .standby else .stop⟩ }
  pump : ∀ g, t.pump g = s.pumpOrdered g
  lmc : t.lmc = s.lmc
  rcs : t.rcs = s.rcs
  tb : t.tb = s.tb
  apu : t.apu = s.apu
  latched : (t.cl.latched &&& 0x200) ≠ 0
  parameter : s.clearanceValid = false → (t.cl.latched &&& 0x4000) ≠ 0

/-- The formation up to the signals. -/
def batchCalled (lead : Side) (s : State) : State :=
  setBatchState .formed (((s.callList lead).foldl callItem (latchIf (!s.clearanceValid) .parameter s)).onBatch fun _ => s.formedRecord lead)

theorem formBatch_eq (lead : Side) (hl : s.lmc.leaf = .seatedLocked) :
    formBatch lead s = signalsFormed (orderPumps (batchCalled lead s)) := by
  have hleaf : (orderPumps (batchCalled lead s)).lmc.leaf = .seatedLocked := by
    rw [(orderPumps_reach _).lmc_eq (by decide)]
    unfold batchCalled
    obtain ⟨x, hx⟩ := setBatchState_eq .formed (((s.callList lead).foldl callItem (latchIf (!s.clearanceValid) .parameter s)).onBatch
      fun _ => s.formedRecord lead)
    rw [hx, (callItems_calls _ _).rest, latchIf_eq]
    exact hl
  show signalsFormed (reportPump (orderPumps (batchCalled lead s))) = _
  rw [reportPump_rests (by rw [hleaf]; rfl)]

theorem signalsFormed_eq (hf : s.psc.batch.state = .formed) : ∃ p x, signalsFormed s = { s with
    csu := { s.csu with
      batchNumber := s.psc.batch.number, phase := .idle, current := none, sides := ⟨SideTurn.reset, SideTurn.reset⟩
      result := .none, window := none, changeover := none, sealTimer := some 0, sealed := false
      aspects := ⟨if itemsLeft s.psc.batch.items .seaward then .standby else .stop,
        if itemsLeft s.psc.batch.items .landward then .standby else .stop⟩ }
    phu := { s.phu with proving := p }
    cl := { s.cl with latched := x } } := by
  have hv : ∃ v, v = restartSeal (s.onCsu fun c =>
    { c with batchNumber := s.psc.batch.number, phase := .idle, current := none
             sides := ⟨SideTurn.reset, SideTurn.reset⟩, result := .none, window := none, changeover := none }) := ⟨_, rfl⟩
  obtain ⟨v, hv⟩ := hv
  obtain ⟨p, x, hr⟩ := reviewItems_eq v
  have hc : v.itemsReviewed = { v.csu with aspects := ⟨v.waitingAspect .seaward, v.waitingAspect .landward⟩ } :=
    itemsReviewed_idle (by rw [hv]; rfl) (by rw [hv]; exact hf)
  refine ⟨p, x, ?_⟩
  unfold signalsFormed
  rw [← hv, hr, hc, hv]
  rfl

theorem batchCalled_eq (lead : Side) (s : State) : ∃ x y, batchCalled lead s = { s with
    vt := { s.vt with slots := (batchCalled lead s).vt.slots }
    psc := { s.psc with queues := (batchCalled lead s).psc.queues, batch := s.formedBatch lead }
    lpu := { s.lpu with standby := x }
    cl := { s.cl with latched := y } } ∧ (y &&& 0x200) ≠ 0 ∧ (s.clearanceValid = false → (y &&& 0x4000) ≠ 0) := by
  have hc := callItems_calls (s.callList lead) (latchIf (!s.clearanceValid) .parameter s)
  obtain ⟨x, hx⟩ := setBatchState_eq .formed (((s.callList lead).foldl callItem (latchIf (!s.clearanceValid) .parameter s)).onBatch
    fun _ => s.formedRecord lead)
  have hl1 := setBatchState_latched .formed (((s.callList lead).foldl callItem (latchIf (!s.clearanceValid) .parameter s)).onBatch
    fun _ => s.formedRecord lead)
  have hl2 (h : s.clearanceValid = false) : ((latchIf (!s.clearanceValid) .parameter s).cl.latched ||| 512).getLsbD 14 = true := by
    rw [h]
    show ((s.cl.latched ||| Condition.parameter.bit : Half) ||| 512).getLsbD 14 = true
    rw [BitVec.getLsbD_or, BitVec.getLsbD_or, show Condition.parameter.bit.getLsbD 14 = true from rfl, Bool.or_true, Bool.true_or]
  unfold batchCalled
  generalize (s.callList lead).foldl callItem (latchIf (!s.clearanceValid) .parameter s) = v at hc hx hl1 ⊢
  refine ⟨x, v.cl.latched ||| 512, ?_, ?_, fun h => (mask_iff _ 14).mpr ⟨by decide, ?_⟩⟩
  · rw [hx, hc.rest, latchIf_eq]
    rfl
  · rw [hx] at hl1; exact hl1
  · rw [hc.rest]; exact hl2 h

theorem formBatch_forms (lead : Side) (hl : s.lmc.leaf = .seatedLocked) : FormsBatch lead s (formBatch lead s) := by
  rw [formBatch_eq lead hl]
  have hc := callItems_calls (s.callList lead) (latchIf (!s.clearanceValid) .parameter s)
  obtain ⟨z, hz⟩ := setBatchState_eq .formed (((s.callList lead).foldl callItem (latchIf (!s.clearanceValid) .parameter s)).onBatch
    fun _ => s.formedRecord lead)
  have hvessel (j : Fin 32) : (batchCalled lead s).vessel j = if (s.callList lead).any fun i => decide (i.slot = j)
      then (s.vessel j).map (fun v => { v with state := .called }) else s.vessel j := by
    have := hc.vessel j
    rw [latchIf_eq] at this
    unfold batchCalled
    rw [hz, latchIf_eq]
    exact this
  have hqueue (q : Fin 8) : (batchCalled lead s).queue q = (s.queue q).map (entryCalled (s.callList lead)) := by
    have := hc.queue q
    rw [latchIf_eq] at this
    unfold batchCalled
    rw [hz, latchIf_eq]
    exact this
  obtain ⟨x, y, he, hlat, hpar⟩ := batchCalled_eq lead s
  generalize batchCalled lead s = v at hvessel hqueue he ⊢
  obtain ⟨b, ho, -⟩ := orderPumps_eq v
  have hord (g : Leaf) : v.pumpOrdered g = s.pumpOrdered g := by rw [he]; rfl
  have hsame : (orderPumps v).vt = v.vt ∧ (orderPumps v).psc = v.psc ∧ (orderPumps v).csu = s.csu ∧ (orderPumps v).lmc = s.lmc ∧
      (orderPumps v).rcs = s.rcs ∧ (orderPumps v).tb = s.tb ∧ (orderPumps v).apu = s.apu ∧ (orderPumps v).cl = v.cl := by
    rw [ho, he]; exact ⟨rfl, rfl, rfl, rfl, rfl, rfl, rfl, rfl⟩
  have hpump (g : Leaf) : (orderPumps v).pump g = s.pumpOrdered g := by
    rw [← hord, ho]; cases g <;> rfl
  generalize orderPumps v = w at hsame hpump ⊢
  obtain ⟨g1, g2, g3, g4, g5, g6, g7, g8⟩ := hsame
  have hb : w.psc.batch = s.formedBatch lead := by rw [g2, he]
  obtain ⟨p, n, hs⟩ := signalsFormed_eq (s := w) (by rw [hb]; rfl)
  have hlat2 (i : Nat) (hi : w.cl.latched.getLsbD i = true) : (signalsFormed w).cl.latched.getLsbD i = true := by
    unfold signalsFormed
    exact (reviewItems_only _).latched i hi
  have hwl : w.cl.latched = y := by rw [g8, he]
  refine ⟨?_, fun j => ?_, fun q => ?_, ?_, fun g => ?_, ?_, ?_, ?_, ?_, ?_, fun h => ?_⟩
  · rw [hs]; exact hb
  · rw [← hvessel, hs]; unfold State.vessel; dsimp only; rw [g1]
  · rw [← hqueue, hs]; unfold State.queue; dsimp only; rw [g2]
  · rw [hs, hb, g3]; rfl
  · rw [← hpump, hs]; rfl
  · rw [hs]; exact g4
  · rw [hs]; exact g5
  · rw [hs]; exact g6
  · rw [hs]; exact g7
  · rw [← hwl] at hlat
    exact (mask_iff _ 9).mpr ⟨by decide, hlat2 9 ((mask_iff _ 9).mp hlat).2⟩
  · rw [← hwl] at hpar
    exact (mask_iff _ 14).mpr ⟨by decide, hlat2 14 ((mask_iff _ 14).mp (hpar h)).2⟩

/-! ### The call list item by item (R161, R163) -/

theorem callList_keys (lead : Side) (s : State) : (s.callList lead).map (fun i => (i.cls, i.slot)) =
    ((s.eligible lead ++ s.eligible lead.other).take (s.par pBatchSize)).map (fun p => (p.1, p.2.slot)) := by
  unfold State.callList
  rw [List.map_take, List.map_take, List.map_append, List.map_append, List.map_map, List.map_map]
  rfl
theorem callList_sides (lead : Side) (s : State) : (s.callList lead).map (·.side) =
    ((s.eligible lead).map (fun _ => lead) ++ (s.eligible lead.other).map fun _ => lead.other).take (s.par pBatchSize) := by
  unfold State.callList
  rw [List.map_take, List.map_append, List.map_map, List.map_map]
  rfl
theorem callList_length (lead : Side) (s : State) : (s.callList lead).length =
    min (s.par pBatchSize) ((s.eligible lead).length + (s.eligible lead.other).length) := by
  unfold State.callList
  rw [List.length_take, List.length_append, List.length_map, List.length_map]

theorem mem_callList {i : Item} (h : i ∈ s.callList lead) : ∃ x p, p ∈ s.eligible x ∧ i = s.itemOf (s.par pTf) x p := by
  rcases List.mem_append.mp (List.mem_of_mem_take h) with h | h
  · obtain ⟨p, hp, rfl⟩ := List.mem_map.mp h
    exact ⟨lead, p, hp, rfl⟩
  · obtain ⟨p, hp, rfl⟩ := List.mem_map.mp h
    exact ⟨lead.other, p, hp, rfl⟩

theorem callList_called {i : Item} (h : i ∈ s.callList lead) : i.outcome = .called ∧ i.cls.val ≤ s.psc.floor := by
  obtain ⟨x, p, hp, rfl⟩ := mem_callList h
  exact ⟨rfl, (mem_eligible.mp hp).1⟩
theorem callList_vessel {i : Item} (h : i ∈ s.callList lead) : ∃ v, s.vessel i.slot = some v ∧ i.identity = v.identity ∧
    i.contribution = s.contribution (s.par pTf) v.air := by
  obtain ⟨x, p, hp, rfl⟩ := mem_callList h
  obtain ⟨-, -, v, hv, -⟩ := mem_eligible.mp hp
  refine ⟨v, hv, ?_, ?_⟩
  · show s.identityAt p.2.slot = v.identity
    unfold State.identityAt; rw [hv]
  · unfold State.itemOf; dsimp only; rw [hv]

theorem itemsLeft_called {items : List Item} (h : ∀ i ∈ items, i.outcome = .called) (d : Side) :
    itemsLeft items d = items.any fun i => decide (i.side = d) := by
  unfold itemsLeft
  rw [Bool.eq_iff_iff, List.any_eq_true, List.any_eq_true]
  refine exists_congr fun i => and_congr_right fun hi => ?_
  rw [h i hi]
  simp

theorem openingAngle_bounds {tf tmin : Nat} (items : List Item) (h : tmin ≤ tf) :
    tmin ≤ openingAngle tf tmin items ∧ openingAngle tf tmin items ≤ tf := by
  unfold openingAngle; omega
theorem openingAngle_eq (tf tmin : Nat) (items : List Item) :
    openingAngle tf tmin items = min tf (max tmin ((items.map (·.contribution)).foldl max 0)) := by
  unfold openingAngle; rw [List.foldl_map]

theorem FormsBatch.intervalRemaining (h : FormsBatch lead s t) : t.intervalRemaining = s.intervalRemaining := by
  unfold State.intervalRemaining State.since State.par
  rw [h.rcs, h.tb, h.apu]

theorem FormsBatch.reply (h : FormsBatch lead s t) : t.formReply =
    be16 (BitVec.ofNat 16 t.psc.batch.number) ++
      [BitVec.ofNat 8 (sideCode lead), BitVec.ofNat 8 (s.callList lead).length,
        BitVec.ofNat 8 ((s.callList lead).filter fun i => i.side = .seaward).length,
        BitVec.ofNat 8 ((s.callList lead).filter fun i => i.side = .landward).length] ++
      be16 (BitVec.ofNat 16 (openingAngle (s.par pTf) (s.par pTmin) (s.callList lead))) ++
      [(if s.tideStaleNow then 1 else 0) + (if s.clearanceValid then 0 else 2)] ++
      be16 (BitVec.ofNat 16 s.intervalRemaining) ++ [if (s.callList lead).any fun i => i.cls = 0 then 1 else 0] := by
  have hb := h.batch
  have hw : t.intervalWaived = (s.callList lead).any fun i => decide (i.cls = 0) := by unfold State.intervalWaived; rw [hb]; rfl
  have hbasis : b1 t.psc.batch.basis = [(if s.tideStaleNow then 1 else 0) + (if s.clearanceValid then 0 else 2)] := by
    rw [hb]
    show b1 (s.tideStaleNow.toNat + 2 * (!s.clearanceValid).toNat) = _
    cases s.tideStaleNow <;> cases s.clearanceValid <;> rfl
  have hwaived : bm t.intervalWaived = [if (s.callList lead).any fun i => decide (i.cls = 0) then 1 else 0] := by
    rw [hw]; cases (s.callList lead).any fun i => decide (i.cls = 0) <;> rfl
  have hlead : sideByte t.psc.batch.leading = [BitVec.ofNat 8 (sideCode lead)] := by rw [hb]; rfl
  unfold State.formReply
  dsimp only
  rw [hbasis, hwaived, hlead, h.intervalRemaining, hb]
  simp only [List.append_assoc]
  rfl

theorem abandonBatchOp_live (h : s.psc.batch.state = .formed ∨ s.psc.batch.state = .running) : abandonBatchOp s =
    (enterClosing s, .done [BitVec.ofNat 8 (enterClosing s).psc.batch.remaining, BitVec.ofNat 8 (enterClosing s).psc.batch.state.code]) :=
  if_pos (by simpa [State.batchLive] using h)
theorem abandonBatchOp_idle (h1 : s.psc.batch.state ≠ .formed) (h2 : s.psc.batch.state ≠ .running) : abandonBatchOp s = (s, .refused .state 0) :=
  if_neg (by simp [State.batchLive, h1, h2])

/-- Settles O48: FORM-BATCH, refused and accepted, and ABANDON-BATCH. -/
theorem batchFormationAndAbandon : Obligations.BatchFormationAndAbandon := by
  refine fun s => ⟨fun ha => ⟨fun h => ?_, fun h hl => ⟨fun h1 h2 => ?_, fun he hf => ?_⟩⟩, fun ha => ⟨fun h1 h2 => ?_, fun h => ?_⟩⟩
  · have e : formBatchOp s = (s, .refused .state 0) := by
      unfold formBatchOp
      rcases h with h | h | h | h
      · rw [if_pos (by rw [h]; rfl)]; rfl
      · rw [if_pos (by rw [h]; rfl)]; rfl
      · rw [if_pos (by rw [h]; rfl)]; rfl
      · rw [if_pos h]; exact ite_self _
    rw [exec_formBatch ha, e]
  · have e : formBatchOp s = (s, .refused .noEligible 0) := by
      unfold formBatchOp
      rw [if_neg (by rcases h with h | h <;> rw [h] <;> decide), if_neg (by rw [hl]; decide), if_pos ⟨h1, h2⟩]
    rw [exec_formBatch ha, e]
  · generalize hlead : leadingSide (s.eligible .seaward) (s.eligible .landward) = lead
    have e : formBatchOp s = (formBatch lead s, .done (formBatch lead s).formReply) := by
      unfold formBatchOp
      rw [if_neg (by rcases h with h | h <;> rw [h] <;> decide), if_neg (by rw [hl]; decide),
        if_neg fun hn => by rcases he with he | he; exacts [he hn.1, he hn.2], hlead]
    have hforms := formBatch_forms (s := s) lead hl
    have hexec := (exec_formBatch ha).trans (congrArg Host.Outcome.next (congrArg (answer 0x54) e))
    generalize formBatch lead s = t at hforms hexec
    have hb := hforms.batch
    have hitems : t.psc.batch.items = s.callList lead := by rw [hb]; rfl
    have hangle : t.psc.batch.angle = openingAngle (s.par pTf) (s.par pTmin) (s.callList lead) := by rw [hb]; rfl
    obtain ⟨hlo, hhi⟩ := openingAngle_bounds (s.callList lead) hf
    have hcsu := hforms.csu
    refine ⟨t, t.formReply, lead, hexec, by rw [hforms.reply]; rfl, by rw [hb]; rfl, by rw [hb]; rfl, fun d => ?_, ?_, ?_, fun i hi => ?_,
      by rw [hangle]; exact hlo, by rw [hangle]; exact hhi, by rw [hb]; rfl, by rw [hb]; rfl, by rw [hb]; rfl, by rw [hcsu], by rw [hcsu],
      by rw [hcsu], ?_, fun i hi => ?_, fun j hj => ?_, fun q => ?_, ?_, by rw [hcsu, hb]; rfl, by rw [hcsu], by rw [hcsu], by rw [hcsu],
      by rw [hcsu], fun x => ?_, hforms.pump, hforms.lmc, hforms.latched, hforms.parameter, ?_⟩
    · have hd := leadingSide_leads d s
      rw [hlead] at hd
      exact ⟨hd.priority, hd.plain⟩
    · rw [hitems]; exact callList_keys lead s
    · rw [hitems]; exact callList_length lead s
    · rw [hitems] at hi; exact callList_called hi
    · rw [hitems]; exact callList_sides lead s
    · rw [hitems] at hi
      obtain ⟨v, hv, h1, h2⟩ := callList_vessel hi
      refine ⟨v, hv, h1, h2, ?_⟩
      rw [hforms.vessel, if_pos (List.any_eq_true.mpr ⟨i, hi, decide_eq_true rfl⟩), hv]
      rfl
    · rw [hitems] at hj
      rw [hforms.vessel, if_neg fun hn => ?_]
      obtain ⟨i, hi, hs⟩ := List.any_eq_true.mp hn
      exact hj i hi (of_decide_eq_true hs)
    · rw [hforms.queue, hitems]; rfl
    · rw [hitems, ← openingAngle_eq, hb]; rfl
    · have hall : ∀ i ∈ s.callList lead, i.outcome = .called := fun i hi => (callList_called hi).1
      rw [hitems]
      unfold State.aspect
      rw [hcsu, itemsLeft_called hall, itemsLeft_called hall]
      cases x
      · exact ⟨rfl, rfl, rfl, rfl, rfl, rfl⟩
      · exact ⟨rfl, rfl, rfl, rfl, rfl, rfl⟩
    · rw [hforms.reply, hitems, openingAngle_eq]
      cases lead <;> rfl
  · rw [exec_abandonBatch ha, abandonBatchOp_idle h1 h2]
  · have hc := enterClosing_closes s
    have hexec := (exec_abandonBatch ha).trans (congrArg Host.Outcome.next (congrArg (answer 0x55) (abandonBatchOp_live h)))
    have hcsu : s.signalsClosed.phase = .ended ∧ s.signalsClosed.aspects = ⟨.stop, .stop⟩ := by
      unfold State.signalsClosed
      dsimp only
      split <;> exact ⟨rfl, rfl⟩
    generalize enterClosing s = t at hc hexec
    have hb := hc.batch
    have hown (i : Item) (hi : i ∈ s.psc.batch.items) : i.returned s.psc.batch.items = if i.outcome = .called then { i with outcome := .returned } else i := by
      unfold Item.returned
      by_cases ho : i.outcome = .called
      · rw [if_pos ho, if_pos ⟨ho, List.any_eq_true.mpr ⟨i, hi, by simp [ho]⟩⟩]
      · rw [if_neg ho, if_neg fun hn => ho hn.1]
    have hitems : t.psc.batch.items = s.psc.batch.items.map fun i => if i.outcome = .called then { i with outcome := .returned } else i := by
      rw [hb]; exact List.map_congr_left hown
    have hasp (d : Side) : t.aspect d = .stop := by unfold State.aspect; rw [hc.csu, hcsu.2]; exact aspect_stop d
    refine ⟨t, hexec, ?_, fun i hi => ?_, by rw [hc.csu]; exact hcsu.1, hitems, by rw [hb], fun i hi ho => ⟨fun v hv => ?_, fun q y hy hs => ?_⟩,
      fun q => ?_, ?_, hasp .seaward, hasp .landward, hc.only.lmc⟩
    · rw [hb]
      dsimp only
      split
      · exact .inr rfl
      · exact .inl rfl
    · rw [hitems] at hi
      obtain ⟨x, -, rfl⟩ := List.mem_map.mp hi
      split
      · nofun
      · next hx => exact hx
    · have hx : holdsCalled s.psc.batch.items i.slot = true := List.any_eq_true.mpr ⟨i, hi, by simp [ho]⟩
      rw [hc.vessel, if_pos hx, hv]
      rfl
    · rw [hc.queue] at hy
      obtain ⟨x, -, rfl⟩ := List.mem_map.mp hy
      have hx : holdsCalled s.psc.batch.items x.slot = true := by
        refine List.any_eq_true.mpr ⟨i, hi, ?_⟩
        have : x.slot = i.slot := by
          rw [← hs]; unfold QueueEntry.returned; split <;> rfl
        simp [this, ho]
      unfold QueueEntry.returned
      rw [if_pos hx]
    · rw [hc.queue, List.map_map]
      refine List.map_congr_left fun e _ => ?_
      unfold QueueEntry.returned
      rw [Function.comp_apply]
      split <;> rfl
    · rw [hb, hc.csu]
      dsimp only
      split
      · next hs => exact ⟨fun _ => hs, fun _ => rfl⟩
      · next hs => exact ⟨nofun, fun hn => absurd hn hs⟩

end Sys2Proof.Machine
end

section
/-! PROOFS. PARAM-WRITE, PARAM-DEFAULTS and PARAM-COMMIT (O16). -/

namespace Sys2Proof.Machine

variable {s t u v w : State} {d : Side}

/-! ### A value written reaches its block (R27, R29) -/

theorem reach_apu (i : Fin 64) (s : State) : (reach i s).apu = s.apu := (reach_reach i s).apu_eq (by decide)
theorem reach_par (i j : Fin 64) (s : State) : (reach i s).par j = s.par j := by
  unfold State.par; rw [reach_apu]

/-- The state with a value written, before it reaches its block. -/
def State.written (s : State) (i : Fin 64) (v : Nat) : State :=
  { s with apu := { s.apu with table := s.apu.table.set i v, modified := true } }

theorem writeParam_eq (i : Fin 64) (v : Nat) (s : State) : writeParam i v s = reach i (s.written i v) := rfl
theorem written_par (i : Fin 64) (v : Nat) (s : State) : (s.written i v).par i = v := by
  simp [State.par, State.written]

theorem writeValues_refuses {i : Nat} (v : Word) (vs : List Word) (h : ∀ hi : i < 64, acceptable s.apu.table ⟨i, hi⟩ v.toNat = false) :
    writeValues i (v :: vs) s = (s, some i) := by
  unfold writeValues
  split
  · next hi => rw [h hi]; rfl
  · rfl
theorem writeValues_writes {i : Nat} (hi : i < 64) {v : Word} (vs : List Word) (h : acceptable s.apu.table ⟨i, hi⟩ v.toNat = true) :
    writeValues i (v :: vs) s = writeValues (i + 1) vs (writeParam ⟨i, hi⟩ v.toNat s) := by
  rw [writeValues, dif_pos hi, if_pos h]

theorem exec_paramWrite_refused {start : Byte} {v : Word} {vs : List Word} (ha : s.allows (tableRequest 0x14))
    (h : ∀ hi : start.toNat < 64, acceptable s.apu.table ⟨start.toNat, hi⟩ v.toNat = false) :
    exec (.paramWrite start (v :: vs)) s = .next (answer 0x14 (s, .refused .range start.toNat)) := by
  rw [exec_paramWrite ha]
  unfold paramWriteOp
  rw [writeValues_refuses v vs h]
  rfl
theorem exec_paramWrite_one {start : Byte} {v : Word} (ha : s.allows (tableRequest 0x14)) (hi : start.toNat < 64)
    (h : acceptable s.apu.table ⟨start.toNat, hi⟩ v.toNat = true) :
    exec (.paramWrite start [v]) s = .next (answer 0x14 (reach ⟨start.toNat, hi⟩ (s.written ⟨start.toNat, hi⟩ v.toNat), .done [1])) := by
  rw [exec_paramWrite ha]
  unfold paramWriteOp
  rw [writeValues_writes hi [] h]
  rfl

/-! ### What each index does as it is written (R27) -/

/-- The indices whose values reach their blocks at once, in their order (R27). -/
def reachingIndices : List (Fin 64) := [10, 25, 26, 27, 30, 31, 32, 35, 57, 58, 59, 60, 61]

theorem reaching_iff {i : Fin 64} : i ∈ reachingIndices ↔ i.val ∈ [10, 25, 26, 27, 30, 31, 32, 35, 57, 58, 59, 60, 61] := by
  revert i; decide

theorem reach_quiet {i : Fin 64} (h : i ∉ reachingIndices) (s : State) : reach i s = s := by
  rw [reaching_iff] at h
  unfold reach
  split
  case h_14 => rfl
  all_goals
    next hi => rw [hi] at h; exact absurd (by decide) h

theorem reach_wind {i : Fin 64} (h : i.val = 25 ∨ i.val = 26 ∨ i.val = 27) (s : State) : reach i s = windWritten s := by
  rcases h with h | h | h
  · rw [show i = 25 from Fin.ext h]; rfl
  · rw [show i = 26 from Fin.ext h]; rfl
  · rw [show i = 27 from Fin.ext h]; rfl
theorem reach_armMarks {i : Fin 64} (h : i.val = 57 ∨ i.val = 59) (s : State) : reach i s = evaluateWorn armActuators s := by
  rcases h with h | h
  · rw [show i = 57 from Fin.ext h]; rfl
  · rw [show i = 59 from Fin.ext h]; rfl
theorem reach_boltMarks {i : Fin 64} (h : i.val = 58 ∨ i.val = 60) (s : State) : reach i s = evaluateWorn boltActuators s := by
  rcases h with h | h
  · rw [show i = 58 from Fin.ext h]; rfl
  · rw [show i = 60 from Fin.ext h]; rfl

theorem mem_armActuators {n : Fin 12} : n ∈ armActuators ↔ n.val < 8 := by revert n; decide
theorem mem_boltActuators {n : Fin 12} : n ∈ boltActuators ↔ 8 ≤ n.val := by revert n; decide

/-- The standby period as it is written (R94). -/
theorem reviewStandby_eq (s : State) : reviewStandby s = if s.par pStandby = 0 then { s with lpu := { s.lpu with standby := none } }
    else when (s.lpu.standby.any (100 * s.par pStandby ≤ ·)) expireStandby s := by
  rw [← standbyDue_eq]; rfl

/-- The seal time as it is written (R182). -/
theorem reviewSeal_eq (s : State) : reviewSeal s = if s.csu.sealTimer.any (100 * s.par pSealTime ≤ ·) then
      when (!s.csu.sealed) sealReached s
    else { s with csu := { s.csu with sealed := false } } := by
  rw [← sealDue_eq]
  cases h : s.sealDue
  · unfold reviewSeal; rw [h]; rfl
  · rw [if_pos rfl]
    cases hs : s.csu.sealed
    · exact (sealReached_due h).symm
    · unfold reviewSeal; rw [h, hs]; rfl

theorem reviewTide_exact (s : State) : reviewTide s = latchIf (s.tideStaleNow && !s.psc.tide.stale) .parameter
    { s with psc := { s.psc with tide := { s.psc.tide with stale := s.tideStaleNow } } } := rfl

/-- The wind as it is judged by a written factor or limit, and the LMC told (R134, R132). -/
theorem windWritten_eq (s : State) : windWritten s =
    if s.rejudged.barring && !s.msu.wind.barring && s.running then
      reportWind (latchIf (decide (s.rejudged.band ≠ s.msu.wind.band ∨ s.rejudged.known ≠ s.msu.wind.known)) .wind
        { s with msu := { s.msu with wind := s.rejudged } })
    else latchIf (decide (s.rejudged.band ≠ s.msu.wind.band ∨ s.rejudged.known ≠ s.msu.wind.known)) .wind
      { s with msu := { s.msu with wind := s.rejudged } } := by
  have hb : (decide (s.msu.wind.band ≠ s.rejudged.band) || (s.msu.wind.known != s.rejudged.known)) =
      decide (s.rejudged.band ≠ s.msu.wind.band ∨ s.rejudged.known ≠ s.msu.wind.known) := by
    rw [Bool.eq_iff_iff]
    simp only [Bool.or_eq_true, decide_eq_true_eq, bne_iff_ne]
    exact or_congr ne_comm ne_comm
  rw [← hb]
  rfl

theorem barring_iff (w : Wind) : w.barring = true ↔ w.known = false ∨ w.band = some .stop := by
  simp [Wind.barring]

/-- A judgement of the wind by a written value leaves the record judged (R130, R134). -/
theorem windWritten_msu (s : State) : (windWritten s).msu = { s.msu with wind := s.rejudged } :=
  (judgeWind_judges { s.msu.wind with w := s.msu.wind.value (s.par pAnemoFactor) } s).msu

/-- A record judged once is not changed by a second judgement with the same values. -/
theorem judge_again (w : Wind) (f wd ws : Nat) :
    ({ ({ w with w := w.value f } : Wind).judge wd ws with w := (({ w with w := w.value f } : Wind).judge wd ws).value f } : Wind).judge wd ws =
      ({ w with w := w.value f } : Wind).judge wd ws := by
  have hv : (({ w with w := w.value f } : Wind).judge wd ws).value f = w.value f := by
    show (if w.window.length = 3 then _ else w.value f) = w.value f
    split
    · next h => exact (if_pos h).symm
    · rfl
  rw [hv]
  rfl
theorem rejudged_again (hm : t.msu = { s.msu with wind := s.rejudged }) (ha : t.apu = s.apu) : t.rejudged = s.rejudged := by
  unfold State.rejudged State.par
  rw [hm, ha]
  exact judge_again _ _ _ _

/-! ### The defaults reach their blocks (R30) -/

/-- One index of a table that is loaded in place of `old`: it reaches its block where its value changes or its load is
itself the event (R27, R198). -/
def loadStep (old new : Vector Nat 64) (s : State) (i : Fin 64) : State :=
  if decide (old[i] ≠ new[i]) || (decide (57 ≤ i.val) && decide (i.val ≤ 61)) then reach i s else s

theorem loadStep_quiet {i : Fin 64} (h : i ∉ reachingIndices) (old new : Vector Nat 64) (s : State) : loadStep old new s i = s := by
  unfold loadStep
  rw [reach_quiet h]
  exact ite_self _

theorem foldl_filter_of_quiet {α β : Type} {f : β → α → β} {p : α → Bool} (h : ∀ x, p x = false → ∀ b, f b x = b) (l : List α) (b : β) :
    l.foldl f b = (l.filter p).foldl f b := by
  induction l generalizing b with
  | nil => rfl
  | cons x l ih =>
    rw [List.foldl_cons, List.filter_cons]
    cases hx : p x
    · rw [h x hx, ih]; rfl
    · rw [ih]; rfl

/-- A table loaded is its values reaching their blocks one after another. -/
theorem loadTable_eq (t : Vector Nat 64) (s : State) : loadTable t s =
    reachingIndices.foldl (loadStep s.apu.table t) { s with apu := { s.apu with table := t } } := by
  have hl : (List.finRange 64).filter (fun i => decide (i ∈ reachingIndices)) = reachingIndices := by decide
  have hq : ∀ i : Fin 64, decide (i ∈ reachingIndices) = false → ∀ v, loadStep s.apu.table t v i = v :=
    fun i hi v => loadStep_quiet (of_decide_eq_false hi) _ _ v
  unfold loadTable reached
  rw [List.foldl_filter]
  calc _ = (List.finRange 64).foldl (loadStep s.apu.table t) { s with apu := { s.apu with table := t } } := rfl
    _ = _ := by rw [foldl_filter_of_quiet hq, hl]

theorem loadStep_keeps {P : State → Prop} {old new : Vector Nat 64} {i : Fin 64} (h : P v → P (reach i v)) (hv : P v) :
    P (loadStep old new v i) := by
  unfold loadStep
  split
  · exact h hv
  · exact hv
theorem loadStep_apu (old new : Vector Nat 64) (v : State) (i : Fin 64) : (loadStep old new v i).apu = v.apu :=
  loadStep_keeps (P := fun w => w.apu = v.apu) (fun h => (reach_apu i v).trans h) rfl

theorem loadSteps_keeps {P : State → Prop} {old new : Vector Nat 64} {l : List (Fin 64)}
    (h : ∀ i ∈ l, ∀ v, v.apu = u.apu → P v → P (reach i v)) (hu : P u) :
    P (l.foldl (loadStep old new) u) ∧ (l.foldl (loadStep old new) u).apu = u.apu := by
  suffices hs : ∀ (l : List (Fin 64)) (v : State), (∀ i ∈ l, ∀ v, v.apu = u.apu → P v → P (reach i v)) → P v → v.apu = u.apu →
      P (l.foldl (loadStep old new) v) ∧ (l.foldl (loadStep old new) v).apu = u.apu from
    hs l u h hu rfl
  intro l
  induction l with
  | nil => exact fun v _ hv ha => ⟨hv, ha⟩
  | cons i l ih =>
    intro v h hv ha
    exact ih _ (fun j hj => h j (List.mem_cons_of_mem i hj)) (loadStep_keeps (h i List.mem_cons_self v ha) hv)
      ((loadStep_apu old new v i).trans ha)

/-- What index `i` brings about holds at the end of a load: `P` holds as it is reached, its block makes it `Q`, and the
later indices keep it. -/
theorem loaded_at {P Q : State → Prop} {old new : Vector Nat 64} {l r : List (Fin 64)} {i : Fin 64}
    (hl : ∀ j ∈ l, ∀ v, v.apu = u.apu → P v → P (reach j v)) (hu : P u)
    (hi : old[i] ≠ new[i] ∨ (57 ≤ i.val ∧ i.val ≤ 61)) (hq : ∀ v, v.apu = u.apu → P v → Q (reach i v))
    (hr : ∀ j ∈ r, ∀ v, v.apu = u.apu → Q v → Q (reach j v)) :
    Q ((l ++ i :: r).foldl (loadStep old new) u) := by
  rw [List.foldl_append, List.foldl_cons]
  obtain ⟨hp, ha⟩ := loadSteps_keeps (old := old) (new := new) hl hu
  generalize l.foldl (loadStep old new) u = v at hp ha
  have hreach : loadStep old new v i = reach i v := if_pos (by
    rw [Bool.or_eq_true, Bool.and_eq_true]
    exact hi.imp decide_eq_true fun h => ⟨decide_eq_true h.1, decide_eq_true h.2⟩)
  have hv := hq v ha hp
  have ha' := (loadStep_apu old new v i).trans ha
  rw [hreach] at ha' ⊢
  exact (loadSteps_keeps (fun j hj x hx => hr j hj x (hx.trans ha')) hv).1

/-! ### The standby timer stays off while a group is not READY (R94) -/

/-- Group north is not READY and the standby timer is off. -/
def StandbyOff (s : State) : Prop := (s.pump .north).state ≠ .ready ∧ s.lpu.standby = none

theorem StandbyOff.of_lpu (h : StandbyOff s) (e : t.lpu = s.lpu) : StandbyOff t := by
  unfold StandbyOff State.pump; rw [e]; exact h
theorem StandbyOff.of_follows (h : StandbyOff s) (hp : t.lpu.pumps = s.lpu.pumps) (hf : StandbyFollows s t) : StandbyOff t := by
  have hn : (t.pump .north).state ≠ .ready := by unfold State.pump; rw [hp]; exact h.1
  exact ⟨hn, hf.2.2 fun hr => hn hr.2.1⟩
theorem StandbyOff.of_sequence (h : StandbyOff s) (e : SequenceOnly s t) : StandbyOff t := by
  unfold StandbyOff State.pump; rw [e]; exact h

theorem latch_off (c : Condition) (h : StandbyOff s) : StandbyOff (latch c s) := h.of_lpu rfl
theorem latchIf_off (p : Bool) (c : Condition) (h : StandbyOff s) : StandbyOff (latchIf p c s) := h.of_lpu (by rw [latchIf_eq])
theorem setLeaf_off (m : LeafState) (h : StandbyOff s) : StandbyOff (setLeaf m s) := by
  by_cases hl : m = s.lmc.leaf
  · unfold setLeaf; rw [if_pos hl.symm]; exact h
  · refine h.of_follows ?_ (setLeaf_follows m hl)
    obtain ⟨x, hx⟩ := setLeaf_eq m s
    rw [hx]
theorem setBatchState_off (b : BatchState) (h : StandbyOff s) : StandbyOff (setBatchState b s) := by
  refine h.of_follows ?_ (setBatchState_follows b s)
  obtain ⟨x, hx⟩ := setBatchState_eq b s
  rw [hx]
theorem orderPumps_off (h : StandbyOff s) (hl : s.lmc.leaf ≠ .seatedLocked) : StandbyOff (orderPumps s) := by
  obtain ⟨x, hx, hs⟩ := orderPumps_eq s
  rw [hx]
  exact ⟨fun hr => h.1 ((pumpOrdered_ready s .north).mp hr), hs hl h.2⟩

theorem enterLocking_off (h : StandbyOff s) : StandbyOff (enterLocking s) := by
  have hv : StandbyOff (callDrive (setLeaf .locking s)) := (setLeaf_off .locking h).of_sequence (callDrive_spec _).only
  unfold enterLocking testLocked
  generalize callDrive (setLeaf .locking s) = v at hv ⊢
  split
  · exact setLeaf_off .seatedLocked hv
  · exact hv

theorem endHalt_off (h : StandbyOff s) : StandbyOff (endHalt s) := by
  unfold endHalt
  split
  · have hv := setLeaf_off (s := (beginMotion .lower .reversal 0 s).onMotion fun m => { m with derateFixed := true }) .lowering (h.of_lpu rfl)
    have hl : (setLeaf .lowering ((beginMotion .lower .reversal 0 s).onMotion fun m => { m with derateFixed := true })).lmc.leaf = .lowering := by
      obtain ⟨x, hx⟩ := setLeaf_eq .lowering ((beginMotion .lower .reversal 0 s).onMotion fun m => { m with derateFixed := true })
      rw [hx]
    generalize setLeaf _ _ = v at hv hl ⊢
    exact (orderPumps_off hv (by rw [hl]; decide)).of_lpu rfl
  · exact setLeaf_off .halted (h.of_lpu rfl)

theorem beginHalt_off (c : Halt) (h : StandbyOff s) : StandbyOff (beginHalt c s) := by
  unfold beginHalt
  dsimp only
  split
  · split
    · exact endHalt_off (h.of_lpu rfl)
    · exact h.of_lpu rfl
  · exact h

theorem reportWind_off (h : StandbyOff s) : StandbyOff (reportWind s) := by
  unfold reportWind
  split
  · exact latch_off .wind (enterLocking_off h)
  · split
    · dsimp only
      split
      · exact (latch_off .wind (latch_off .leaf h)).of_lpu rfl
      · exact beginHalt_off .wind (latch_off .wind (latch_off .leaf h))
    · exact h
  all_goals exact h

theorem windWritten_off (h : StandbyOff s) : StandbyOff (windWritten s) := by
  rw [windWritten_eq]
  split
  · exact reportWind_off (latchIf_off _ _ (h.of_lpu rfl))
  · exact latchIf_off _ _ (h.of_lpu rfl)

theorem closeBatch_off (h : StandbyOff s) : StandbyOff (closeBatch s) := (setBatchState_off .closed h).of_lpu rfl

theorem enterClosing_off (h : StandbyOff s) : StandbyOff (enterClosing s) := by
  have hv : StandbyOff (signalsClosing (setBatchState .closing (returnItems s))) :=
    (setBatchState_off .closing (h.of_lpu ((returnItems_reach s).lpu_eq (by decide)))).of_lpu
      ((signalsClosing_reach _).lpu_eq (by decide))
  unfold enterClosing
  generalize signalsClosing _ = v at hv ⊢
  dsimp only
  split
  · exact closeBatch_off hv
  · exact hv

theorem finishTurns_off (r : TurnsResult) (h : StandbyOff s) : StandbyOff (finishTurns r s) := by
  have hv : StandbyOff (endPhase r (showStop s)) := h.of_lpu ((Move.finish r s).reach.lpu_eq (by decide))
  unfold finishTurns turnsOver
  split
  · exact enterClosing_off hv
  · exact hv

theorem offerTurn_off (n : Nat) (d : Side) (h : StandbyOff s) : StandbyOff (offerTurn n d s) := by
  induction n generalizing d s with
  | zero => exact h
  | succ n ih =>
    unfold offerTurn
    split
    · split
      · exact ih _ h
      · exact finishTurns_off _ h
    · split
      · exact finishTurns_off _ h
      · split
        · exact latch_off .batch (finishTurns_off _ h)
        · split
          · exact ih _ (h.of_lpu ((Move.skip d s).reach.lpu_eq (by decide)))
          · next hl _ _ => exact h.of_lpu ((Move.start d s (not_not.mp hl)).reach.lpu_eq (by decide))

theorem changeoverExpires_off (h : StandbyOff s) : StandbyOff (changeoverExpires s) := by
  unfold changeoverExpires
  split
  · exact offerTurn_off _ _ (h.of_lpu rfl)
  · exact h

theorem reviewSeal_off (h : StandbyOff s) : StandbyOff (reviewSeal s) := by
  unfold reviewSeal becomeSealed
  dsimp only
  split
  · split
    · exact h
    · split
      · exact closeBatch_off (h.of_lpu rfl)
      · exact h.of_lpu rfl
  · exact h.of_lpu rfl

/-- Once the standby's expiry has stopped the groups no later value written starts the timer. -/
theorem reach_off {i : Fin 64} (hi : i.val ≠ 10) (h : StandbyOff s) : StandbyOff (reach i s) := by
  unfold reach
  split
  case h_1 he => exact absurd he hi
  case h_2 | h_3 | h_4 => exact windWritten_off h
  case h_5 =>
    split
    · exact changeoverExpires_off h
    · exact h
  case h_6 =>
    split
    · exact h.of_lpu ((windowExpires_reach s).lpu_eq (by decide))
    · exact h
  case h_7 => exact reviewSeal_off h
  case h_8 => exact h.of_lpu ((reviewTide_reach s).lpu_eq (by decide))
  case h_9 | h_10 | h_11 | h_12 => exact h.of_lpu ((evaluateWorn_reach _ s).lpu_eq (by decide))
  case h_13 => exact h.of_lpu rfl
  case h_14 => exact h

/-! ### The channel's timers as their periods are written (R27, R177, R178, R182) -/

/-- The changeover has ended, and no window has run since. -/
def GapOver (s : State) : Prop := s.csu.changeover = none ∧ (s.csu.window = none ∨ s.csu.window = some 0)

theorem GapOver.of_csu (h : GapOver s) (e : t.csu = s.csu) : GapOver t := by unfold GapOver; rw [e]; exact h

theorem enterClosing_gap (s : State) : GapOver (enterClosing s) := by
  have hv : GapOver (signalsClosing (setBatchState .closing (returnItems s))) := by
    unfold GapOver
    rw [signalsClosing_csu]
    unfold State.signalsClosed
    dsimp only
    split <;> exact ⟨rfl, .inl rfl⟩
  unfold enterClosing
  generalize signalsClosing _ = v at hv ⊢
  dsimp only
  split
  · obtain ⟨x, hx⟩ := setBatchState_eq .closed v
    exact hv.of_csu (by unfold closeBatch; rw [hx]; rfl)
  · exact hv

theorem finishTurns_gap (r : TurnsResult) (h : GapOver s) : GapOver (finishTurns r s) := by
  unfold finishTurns turnsOver
  split
  · exact enterClosing_gap _
  · obtain ⟨p, hp⟩ := showStop_eq s
    rw [hp]
    exact h

theorem offerTurn_gap (n : Nat) (d : Side) (h : GapOver s) : GapOver (offerTurn n d s) := by
  induction n generalizing d s with
  | zero => exact h
  | succ n ih =>
    have hskip : GapOver (skipTurn d s) := by
      unfold skipTurn
      obtain ⟨p, hp⟩ := setAspect_eq d .stop (s.onTurn d fun t => { t with status := .skipped, cause := some .greens })
      rw [hp]
      exact h
    have hstart : GapOver (startTurn d s) := by
      obtain ⟨p, hp⟩ := startTurn_eq d s
      rw [hp]
      exact ⟨h.1, .inr rfl⟩
    unfold offerTurn
    split
    · split
      · exact ih _ h
      · exact finishTurns_gap _ h
    · split
      · exact finishTurns_gap _ h
      · split
        · exact (finishTurns_gap _ h).of_csu rfl
        · split
          · exact ih _ hskip
          · exact hstart

/-- A judgement of the seal changes of the signal unit the sealed mark alone (R182). -/
theorem reviewSeal_csu (s : State) : (reviewSeal s).csu = { s.csu with sealed := s.csu.sealTimer.any (100 * s.par pSealTime ≤ ·) } := by
  unfold reviewSeal
  rw [← sealDue_eq]
  cases hd : s.sealDue
  · rfl
  · rw [if_pos rfl]
    split
    · next h => rw [← h]
    · unfold becomeSealed
      dsimp only
      split
      · obtain ⟨x, hx⟩ := setBatchState_eq .closed (s.onCsu fun c => { c with sealed := true })
        unfold closeBatch
        rw [hx]
        rfl
      · rfl

/-- The indices after those of the channel's timers leave the signal unit as it is. -/
theorem reach_csu {i : Fin 64} (h : i ∈ ([10, 25, 26, 27, 35, 57, 58, 59, 60, 61] : List (Fin 64))) (s : State) :
    (reach i s).csu = s.csu := by
  have hwind : (windWritten s).csu = s.csu := (windWritten_reach s).csu_eq (by decide)
  have hworn (l : List (Fin 12)) : (evaluateWorn l s).csu = s.csu := (evaluateWorn_reach l s).csu_eq (by decide)
  simp only [List.mem_cons, List.not_mem_nil, or_false] at h
  rcases h with rfl | rfl | rfl | rfl | rfl | rfl | rfl | rfl | rfl | rfl
  · exact (reviewStandby_reach s).csu_eq (by decide)
  · exact hwind
  · exact hwind
  · exact hwind
  · exact (reviewTide_reach s).csu_eq (by decide)
  · exact hworn _
  · exact hworn _
  · exact hworn _
  · exact hworn _
  · rfl

/-- The indices after those of the wind leave the measurements as they are. -/
theorem reach_msu {i : Fin 64} (h : i.val ≠ 25 ∧ i.val ≠ 26 ∧ i.val ≠ 27) (s : State) : (reach i s).msu = s.msu := by
  unfold reach
  split
  case h_1 => exact (reviewStandby_reach s).msu_eq (by decide)
  case h_2 he => exact absurd he h.1
  case h_3 he => exact absurd he h.2.1
  case h_4 he => exact absurd he h.2.2
  case h_5 =>
    split
    · exact (changeoverExpires_reach s).msu_eq (by decide)
    · rfl
  case h_6 =>
    split
    · exact (windowExpires_reach s).msu_eq (by decide)
    · rfl
  case h_7 => exact (reviewSeal_reach s).msu_eq (by decide)
  case h_8 => exact (reviewTide_reach s).msu_eq (by decide)
  case h_9 | h_10 | h_11 | h_12 => exact (evaluateWorn_reach _ s).msu_eq (by decide)
  case h_13 => rfl
  case h_14 => rfl

/-! ### What the load of the defaults leaves, block by block (R30) -/

theorem defaultsKeeping_eq (t : Vector Nat 64) : defaultsKeeping t =
    Vector.ofFn fun i : Fin 64 => if i.val < 62 then defaultTable[i] else t[i] := by
  ext i hi
  unfold defaultsKeeping
  rw [Vector.getElem_set, Vector.getElem_set, Vector.getElem_ofFn]
  dsimp only
  split
  · next h => subst h; rfl
  · split
    · next h => subst h; rfl
    · next h1 h2 => exact (if_pos (by change ¬63 = i at h1; change ¬62 = i at h2; omega)).symm

/-- The state as the defaults are loaded, before they reach their blocks. -/
def State.defaulted (s : State) : State := { s with apu := { s.apu with table := defaultsKeeping s.apu.table } }

theorem defaulted_par {i : Fin 64} (h : i.val < 62) (ha : v.apu = s.defaulted.apu) : v.par i = defaultTable[i] := by
  unfold State.par
  rw [ha]
  show (defaultsKeeping s.apu.table)[i] = _
  rw [defaultsKeeping_eq]
  exact (Vector.getElem_ofFn _).trans (if_pos h)

/-- The state as the defaults have reached their blocks. -/
def State.defaultsReached (s : State) : State :=
  reachingIndices.foldl (loadStep s.apu.table (defaultsKeeping s.apu.table)) s.defaulted

theorem paramDefaultsOp_eq (s : State) : paramDefaultsOp s =
    ({ s.defaultsReached with apu := { s.defaultsReached.apu with modified := true } }, .done []) := by
  unfold paramDefaultsOp
  rw [loadTable_eq]
  rfl

theorem changed_of_par {i : Fin 64} (h : i.val < 62) (hc : s.par i ≠ defaultTable[i]) :
    s.apu.table[i] ≠ (defaultsKeeping s.apu.table)[i] := fun e =>
  hc (e.trans (defaulted_par (v := s.defaulted) h rfl))

theorem defaultsReached_apu (s : State) : s.defaultsReached.apu = s.defaulted.apu :=
  (loadSteps_keeps (P := fun _ => True) (u := s.defaulted) (l := reachingIndices) (old := s.apu.table)
    (new := defaultsKeeping s.apu.table) (fun _ _ _ _ _ => trivial) trivial).2

theorem defaultsReached_mask (s : State) : s.defaultsReached.cl.mask = 65535 :=
  loaded_at (P := fun _ => True) (Q := fun v => v.cl.mask = 65535) (l := [10, 25, 26, 27, 30, 31, 32, 35, 57, 58, 59, 60]) (i := 61) (r := [])
    (fun _ _ _ _ _ => trivial) trivial (.inr ⟨by decide, by decide⟩)
    (fun v ha _ => by
      show BitVec.ofNat 16 (v.par 61) = 65535
      rw [defaulted_par (by decide) ha]; rfl) (fun _ h => nomatch h)

/-- The mark of an actuator stands as its condition (R198). -/
def MarkJudged (n : Fin 12) (s : State) : Prop := s.phu.health[n].worn = s.wornCondition n

theorem evaluateWorn_marks {l : List (Fin 12)} {n : Fin 12} (h : n ∈ l ∨ MarkJudged n s) : MarkJudged n (evaluateWorn l s) := by
  unfold MarkJudged
  rw [evaluateWorn_wornCondition, evaluateWorn_health]
  split
  · rfl
  · next hn => exact h.resolve_left hn

theorem reach_marks {i : Fin 64} {n : Fin 12} (h : i ∈ ([58, 59, 60, 61] : List (Fin 64))) (hm : MarkJudged n s) : MarkJudged n (reach i s) := by
  simp only [List.mem_cons, List.not_mem_nil, or_false] at h
  rcases h with rfl | rfl | rfl | rfl
  · exact evaluateWorn_marks (.inr hm)
  · exact evaluateWorn_marks (.inr hm)
  · exact evaluateWorn_marks (.inr hm)
  · exact hm

theorem defaultsReached_marks (n : Fin 12) (s : State) : MarkJudged n s.defaultsReached := by
  by_cases h : n.val < 8
  · exact loaded_at (P := fun _ => True) (Q := MarkJudged n) (l := [10, 25, 26, 27, 30, 31, 32, 35]) (i := 57) (r := [58, 59, 60, 61])
      (fun _ _ _ _ _ => trivial) trivial (.inr ⟨by decide, by decide⟩) (fun v _ _ => evaluateWorn_marks (.inl (mem_armActuators.mpr h)))
      (fun j hj v _ hv => reach_marks hj hv)
  · exact loaded_at (P := fun _ => True) (Q := MarkJudged n) (l := [10, 25, 26, 27, 30, 31, 32, 35, 57]) (i := 58) (r := [59, 60, 61])
      (fun _ _ _ _ _ => trivial) trivial (.inr ⟨by decide, by decide⟩)
      (fun v _ _ => evaluateWorn_marks (.inl (mem_boltActuators.mpr (Nat.le_of_not_lt h))))
      (fun j hj v _ hv => reach_marks (List.mem_cons_of_mem _ hj) hv)

theorem defaultsReached_tide (h : s.par pTideValidity ≠ 1800) : s.defaultsReached.psc.tide.stale = s.defaultsReached.tideStaleNow := by
  refine loaded_at (P := fun _ => True) (Q := fun v => v.psc.tide.stale = v.tideStaleNow) (l := [10, 25, 26, 27, 30, 31, 32]) (i := 35)
    (r := [57, 58, 59, 60, 61]) (fun _ _ _ _ _ => trivial) trivial (.inl (changed_of_par (by decide) h)) (fun v _ _ => ?_) (fun j hj v _ hv => ?_)
  · obtain ⟨x, hx⟩ := reviewTide_eq v
    show (reviewTide v).psc.tide.stale = (reviewTide v).tideStaleNow
    rw [hx]; rfl
  · have hworn (l : List (Fin 12)) : (evaluateWorn l v).psc.tide.stale = (evaluateWorn l v).tideStaleNow := by
      rw [evaluateWorn_rest]; exact hv
    simp only [List.mem_cons, List.not_mem_nil, or_false] at hj
    rcases hj with rfl | rfl | rfl | rfl | rfl
    · exact hworn _
    · exact hworn _
    · exact hworn _
    · exact hworn _
    · exact hv

theorem defaultsReached_standby (h : s.par 10 ≠ 600) (hs : s.lpu.standby.any (60000 ≤ ·) = true) : s.defaultsReached.lpu.standby = none := by
  refine (loaded_at (P := fun v => v = s.defaulted) (Q := StandbyOff) (l := []) (i := 10) (r := [25, 26, 27, 30, 31, 32, 35, 57, 58, 59, 60, 61])
    (fun _ hj => nomatch hj) rfl (.inl (changed_of_par (by decide) h)) (fun v ha hv => ?_) (fun j hj v _ hv => reach_off ?_ hv)).2
  · subst hv
    have hp : s.defaulted.par pStandby = 600 := (defaulted_par (by decide) rfl).trans rfl
    show StandbyOff (reviewStandby s.defaulted)
    rw [reviewStandby_eq, hp, if_neg (by decide), show s.defaulted.lpu.standby = s.lpu.standby from rfl,
      show s.lpu.standby.any (fun x => decide (100 * 600 ≤ x)) = true from hs]
    have hn : s.defaulted.lpu.standby ≠ none := fun hn => by
      rw [show s.lpu.standby = none from hn] at hs; cases hs
    obtain ⟨h1, -, h3⟩ := expireStandby_stops hn
    exact ⟨by show ((expireStandby s.defaulted).pump .north).state ≠ .ready; rw [h1]; decide, h3⟩
  · revert hj; revert j; decide

theorem reach_changeover_waits (h : s.csu.changeover = none) : reach 30 s = s := by
  show (if s.changeoverDue then changeoverExpires s else s) = s
  rw [changeoverDue_eq, h]; rfl

theorem defaultsReached_window (h : s.par 31 ≠ 900) (hp : s.csu.phase = .turn) (hc : s.csu.current ≠ none)
    (hw : s.csu.window.any (90000 ≤ ·) = true) (hg : s.csu.changeover = none) : s.defaultsReached.csu.window = none := by
  refine loaded_at (P := fun v => v.csu = s.csu) (Q := fun v => v.csu.window = none) (l := [10, 25, 26, 27, 30]) (i := 31)
    (r := [32, 35, 57, 58, 59, 60, 61]) (fun j hj v _ hv => ?_) rfl (.inl (changed_of_par (by decide) h)) (fun v ha hv => ?_)
    (fun j hj v _ hv => ?_)
  · by_cases h30 : j = 30
    · rw [h30, reach_changeover_waits (by rw [hv, hg])]; exact hv
    · exact (reach_csu (by revert hj h30; clear hv; revert j; decide) v).trans hv
  · obtain ⟨d, hd⟩ := Option.ne_none_iff_exists'.mp hc
    have hdue : v.windowDue = true := by
      rw [windowDue_eq, show v.par pWindow = 900 from (defaulted_par (by decide) ha).trans rfl, hv]; exact hw
    have hn : v.csu.window ≠ none := fun hn => by rw [← hv, hn] at hw; cases hw
    show (if v.windowDue then windowExpires v else v).csu.window = none
    rw [if_pos hdue, windowExpires_ends (d := d) (by rw [hv, hp]) (by rw [hv, hd]) hn]
    obtain ⟨p, hx⟩ := endTurn_eq d .window v
    rw [hx]
  · by_cases h32 : j = 32
    · rw [h32]
      show (reviewSeal v).csu.window = none
      rw [reviewSeal_csu]; exact hv
    · rw [reach_csu (by revert hj h32; clear hv; revert j; decide)]; exact hv

theorem defaultsReached_changeover (h : s.par 30 ≠ 60) (hp : s.csu.phase = .changeover) (hc : s.csu.current ≠ none)
    (hg : s.csu.changeover.any (6000 ≤ ·) = true) (hw : s.csu.window = none) : s.defaultsReached.csu.changeover = none := by
  suffices hover : GapOver s.defaultsReached from hover.1
  refine loaded_at (P := fun v => v.csu = s.csu) (Q := GapOver) (l := [10, 25, 26, 27]) (i := 30)
    (r := [31, 32, 35, 57, 58, 59, 60, 61]) (fun j hj v _ hv => ?_) rfl (.inl (changed_of_par (by decide) h)) (fun v ha hv => ?_)
    (fun j hj v ha hv => ?_)
  · exact (reach_csu (by revert hj; clear hv; revert j; decide) v).trans hv
  · obtain ⟨d, hd⟩ := Option.ne_none_iff_exists'.mp hc
    have hdue : v.changeoverDue = true := by
      rw [changeoverDue_eq, show v.par pChangeover = 60 from (defaulted_par (by decide) ha).trans rfl, hv]; exact hg
    have hn : v.csu.changeover ≠ none := fun hn => by rw [← hv, hn] at hg; cases hg
    show GapOver (if v.changeoverDue then changeoverExpires v else v)
    rw [if_pos hdue, changeoverExpires_offers (d := d) (by rw [hv, hp]) (by rw [hv, hd]) hn]
    exact offerTurn_gap _ _ ⟨rfl, .inl (by rw [← hv] at hw; exact hw)⟩
  · by_cases h31 : j = 31
    · have hdue : v.windowDue = false := by
        rw [windowDue_eq, show v.par pWindow = 900 from (defaulted_par (by decide) ha).trans rfl]
        rcases hv.2 with hv | hv <;> rw [hv] <;> rfl
      rw [h31]
      show GapOver (if v.windowDue then windowExpires v else v)
      rw [hdue]; exact hv
    · by_cases h32 : j = 32
      · rw [h32]
        show GapOver (reviewSeal v)
        unfold GapOver
        rw [reviewSeal_csu]; exact hv
      · exact hv.of_csu (reach_csu (by revert hj h31 h32; clear hv; revert j; decide) v)

theorem defaultsReached_sealed (h : s.par 32 ≠ 30) : s.defaultsReached.csu.sealed = s.defaultsReached.csu.sealTimer.any (3000 ≤ ·) := by
  refine loaded_at (P := fun _ => True) (Q := fun v => v.csu.sealed = v.csu.sealTimer.any (3000 ≤ ·)) (l := [10, 25, 26, 27, 30, 31]) (i := 32)
    (r := [35, 57, 58, 59, 60, 61]) (fun _ _ _ _ _ => trivial) trivial (.inl (changed_of_par (by decide) h)) (fun v ha _ => ?_)
    (fun j hj v _ hv => ?_)
  · show (reviewSeal v).csu.sealed = (reviewSeal v).csu.sealTimer.any (3000 ≤ ·)
    rw [reviewSeal_csu, show v.par pSealTime = 30 from (defaulted_par (by decide) ha).trans rfl]
  · rw [reach_csu (by revert hj; clear hv; revert j; decide)]; exact hv

/-- The wind record of `v` is that of `s` judged by the table of `v`. -/
theorem reach_rejudges {i : Fin 64} (h : i.val = 25 ∨ i.val = 26 ∨ i.val = 27)
    (hv : v.msu = s.msu ∨ v.msu = { s.msu with wind := s.rejudged }) (ha : v.apu = s.apu) :
    (reach i v).msu = { s.msu with wind := s.rejudged } := by
  rw [reach_wind h, windWritten_msu]
  rcases hv with hv | hv
  · unfold State.rejudged State.par; rw [hv, ha]
  · rw [rejudged_again hv ha, hv]

theorem defaultsReached_wind (h : s.par 25 ≠ 75 ∨ s.par 26 ≠ 120 ∨ s.par 27 ≠ 200) :
    s.defaultsReached.msu.wind = s.defaulted.rejudged := by
  have before (j : Fin 64) (hj : j ∈ ([10, 25, 26, 27] : List (Fin 64))) (v : State) (ha : v.apu = s.defaulted.apu)
      (hv : v.msu = s.defaulted.msu ∨ v.msu = { s.defaulted.msu with wind := s.defaulted.rejudged }) :
      (reach j v).msu = s.defaulted.msu ∨ (reach j v).msu = { s.defaulted.msu with wind := s.defaulted.rejudged } := by
    by_cases h10 : j.val = 10
    · rw [reach_msu (by omega)]; exact hv
    · exact .inr (reach_rejudges (by revert hj h10; clear hv; revert j; decide) hv ha)
  have after (j : Fin 64) (hj : j.val = 26 ∨ j.val = 27 ∨ 27 < j.val) (v : State) (ha : v.apu = s.defaulted.apu)
      (hv : v.msu = { s.defaulted.msu with wind := s.defaulted.rejudged }) :
      (reach j v).msu = { s.defaulted.msu with wind := s.defaulted.rejudged } := by
    by_cases hr : 27 < j.val
    · rw [reach_msu (by omega)]; exact hv
    · exact reach_rejudges (by omega) (.inr hv) ha
  refine congrArg Msu.wind (show s.defaultsReached.msu = { s.defaulted.msu with wind := s.defaulted.rejudged } from ?_)
  rcases h with h | h | h
  · exact loaded_at (i := 25) (l := [10]) (r := [26, 27, 30, 31, 32, 35, 57, 58, 59, 60, 61])
      (P := fun v => v.msu = s.defaulted.msu ∨ v.msu = { s.defaulted.msu with wind := s.defaulted.rejudged })
      (Q := fun v => v.msu = { s.defaulted.msu with wind := s.defaulted.rejudged })
      (fun j hj => before j (by revert hj; revert j; decide)) (.inl rfl) (.inl (changed_of_par (by decide) h))
      (fun v ha hv => reach_rejudges (.inl rfl) hv ha) (fun j hj => after j (by revert hj; revert j; decide))
  · exact loaded_at (i := 26) (l := [10, 25]) (r := [27, 30, 31, 32, 35, 57, 58, 59, 60, 61])
      (P := fun v => v.msu = s.defaulted.msu ∨ v.msu = { s.defaulted.msu with wind := s.defaulted.rejudged })
      (Q := fun v => v.msu = { s.defaulted.msu with wind := s.defaulted.rejudged })
      (fun j hj => before j (by revert hj; revert j; decide)) (.inl rfl) (.inl (changed_of_par (by decide) h))
      (fun v ha hv => reach_rejudges (.inr (.inl rfl)) hv ha) (fun j hj => after j (by revert hj; revert j; decide))
  · exact loaded_at (i := 27) (l := [10, 25, 26]) (r := [30, 31, 32, 35, 57, 58, 59, 60, 61])
      (P := fun v => v.msu = s.defaulted.msu ∨ v.msu = { s.defaulted.msu with wind := s.defaulted.rejudged })
      (Q := fun v => v.msu = { s.defaulted.msu with wind := s.defaulted.rejudged })
      (fun j hj => before j (by revert hj; revert j; decide)) (.inl rfl) (.inl (changed_of_par (by decide) h))
      (fun v ha hv => reach_rejudges (.inr (.inr rfl)) hv ha) (fun j hj => after j (by revert hj; revert j; decide))

/-! ### PARAM-COMMIT and its end (R32, R33) -/

theorem endCommit_idle (good : Bool) (h : s.apu.commit = none) : endCommit good s = s := by unfold endCommit; rw [h]
theorem endCommit_ends (good : Bool) {m : Vector Nat 64} (h : s.apu.commit = some m) : endCommit good s =
    latch .parameter (s.onApu fun a =>
      if good then { a with commit := none, store := .image m (crc16 (tableBytes m)), storeStatus := .valid, modified := false }
      else { a with commit := none, store := .broken, storeStatus := .writeFailed }) := by
  unfold endCommit; rw [h]; rfl

/-- The marks of a class as they are judged (R198). -/
theorem evaluateWorn_exact {l : List (Fin 12)} {member : Fin 12 → Bool} (h : ∀ n, n ∈ l ↔ member n = true) (s : State)
    [Decidable (∃ n, member n = true ∧ s.wornCondition n = true ∧ s.worn n = false)] :
    evaluateWorn l s = { s with
      cl := { s.cl with latched :=
        if (∃ n, member n = true ∧ s.wornCondition n = true ∧ s.worn n = false) then s.cl.latched ||| 0x1000 else s.cl.latched }
      phu := { s.phu with
        health := Vector.ofFn fun n : Fin 12 => if member n then { s.phu.health[n] with worn := s.wornCondition n } else s.phu.health[n] } } := by
  have hfresh : (l.any fun n => s.wornCondition n && !s.worn n) = true ↔ ∃ n, member n = true ∧ s.wornCondition n = true ∧ s.worn n = false := by
    simp only [List.any_eq_true, Bool.and_eq_true, Bool.not_eq_true', h]
  have hhealth : (evaluateWorn l s).phu.health = Vector.ofFn fun n : Fin 12 =>
      if member n then { s.phu.health[n] with worn := s.wornCondition n } else s.phu.health[n] := by
    ext1 i hi
    rw [Vector.getElem_ofFn]
    refine (evaluateWorn_health l ⟨i, hi⟩ s).trans ?_
    by_cases hm : (⟨i, hi⟩ : Fin 12) ∈ l
    · exact (if_pos hm).trans (if_pos ((h _).mp hm)).symm
    · exact (if_neg hm).trans (if_neg (mt (h _).mpr hm)).symm
  rw [evaluateWorn_rest, hhealth, if_congr hfresh rfl rfl]

/-- Settles O16: PARAM-WRITE, PARAM-DEFAULTS and PARAM-COMMIT. -/
theorem parameterWritesAndCommit : Obligations.ParameterWritesAndCommit := by
  refine ⟨fun s => ⟨fun start v vs ha => ⟨fun h hn => ?_, fun h => ?_, fun h ho => ?_⟩, fun ha => ?_⟩, ?_, fun s => ⟨fun ha => ?_, fun hr m hm => ⟨?_, ?_⟩,
    fun good hn => ?_⟩⟩
  · exact exec_paramWrite_refused ha fun _ => hn
  · exact exec_paramWrite_refused ha fun hi => absurd hi (by omega)
  · refine ⟨_, (writeValues (start.toNat + 1) vs (reach ⟨start.toNat, h⟩ (s.written ⟨start.toNat, h⟩ v.toNat))).1, ?_,
      exec_paramWrite_one ha h ho, reach_apu _ _, ?_, ?_⟩
    · exact match (writeValues (start.toNat + 1) vs (reach ⟨start.toNat, h⟩ (s.written ⟨start.toNat, h⟩ v.toNat))).2 with
        | none => .done [BitVec.ofNat 8 (vs.length + 1)]
        | some i => .refused .range i
    · rw [exec_paramWrite ha]
      unfold paramWriteOp
      rw [writeValues_writes h vs ho, writeParam_eq]
      rcases writeValues (start.toNat + 1) vs (reach ⟨start.toNat, h⟩ (s.written ⟨start.toNat, h⟩ v.toNat)) with ⟨w, _ | i⟩ <;> rfl
    · rcases writeValues (start.toNat + 1) vs (reach ⟨start.toNat, h⟩ (s.written ⟨start.toNat, h⟩ v.toNat)) with ⟨w, _ | i⟩ <;> rfl
  · have hexec := exec_paramDefaults ha
    rw [paramDefaultsOp_eq] at hexec
    refine ⟨_, hexec, ?_, defaultsReached_mask s, fun n => defaultsReached_marks n s, defaultsReached_tide, defaultsReached_standby,
      defaultsReached_window, defaultsReached_changeover, defaultsReached_sealed, fun h => ?_⟩
    · show ({ s.defaultsReached.apu with modified := true } : Apu) = _
      rw [defaultsReached_apu]
      show ({ s.apu with table := defaultsKeeping s.apu.table, modified := true } : Apu) = _
      rw [defaultsKeeping_eq]
    · refine (defaultsReached_wind h).trans ?_
      unfold State.rejudged
      rw [show s.defaulted.par pAnemoFactor = 75 from (defaulted_par (by decide) rfl).trans rfl,
        show s.defaulted.par pDerateLimit = 120 from (defaulted_par (by decide) rfl).trans rfl,
        show s.defaulted.par pStopLimit = 200 from (defaulted_par (by decide) rfl).trans rfl]
      rfl
  · intro start v s ha hi ho i u
    have hrun : s.running = true := (taking_iff.1 ha.1).1
    have hexec := exec_paramWrite_one ha hi ho
    have hlt : i < 64 := hi
    change exec (.paramWrite start [v]) s = .next (answer 0x14 (reach ⟨i, hlt⟩ u, .done [1])) at hexec
    have hv : u.par ⟨i, hlt⟩ = v.toNat := written_par ⟨i, hlt⟩ v.toNat s
    have hu : u.running = true := hrun
    clear_value u i
    refine ⟨_, hexec, fun hn => reach_quiet (mt reaching_iff.mp hn) u, fun h => ?_, fun h => ?_, fun h => ?_, fun h => ?_, fun h => ?_, fun h => ?_,
      fun h => ?_, fun h => ?_⟩
    · subst h
      show copyMask u = _
      unfold copyMask
      rw [show u.par pMask = v.toNat from hv]; rfl
    · by_cases harm : i = 57 ∨ i = 59
      · refine (reach_armMarks harm u).trans (evaluateWorn_exact
          (member := fun n => if i = 57 ∨ i = 59 then decide (n.val < 8) else decide (8 ≤ n.val)) (fun n => ?_) u)
        rw [mem_armActuators, if_pos harm, decide_eq_true_iff]
      · refine (reach_boltMarks (by show i = 58 ∨ i = 60; omega) u).trans (evaluateWorn_exact
          (member := fun n => if i = 57 ∨ i = 59 then decide (n.val < 8) else decide (8 ≤ n.val)) (fun n => ?_) u)
        rw [mem_boltActuators, if_neg harm, decide_eq_true_iff]
    · intro old value new x
      rw [reach_wind h, windWritten_eq, hu, Bool.and_true]
      refine if_congr ?_ rfl rfl
      rw [Bool.and_eq_true, Bool.not_eq_true', ← Bool.not_eq_true, barring_iff, barring_iff]
      rfl
    · subst h
      intro stale
      have hstale : u.tideStaleNow = stale := by
        unfold State.tideStaleNow
        rw [show u.par pTideValidity = v.toNat from hv]; rfl
      rw [← hstale]
      rfl
    · subst h
      show reviewStandby u = _
      rw [reviewStandby_eq, happens_run (f := expireStandby) (fun _ => rfl) hu, show u.par pStandby = v.toNat from hv]
      exact if_congr (by rw [← BitVec.toNat_inj]; rfl) rfl rfl
    · subst h
      rw [happens_run (f := changeoverExpires) (fun _ => rfl) hu]
      show when u.changeoverDue changeoverExpires u = _
      rw [changeoverDue_eq, show u.par pChangeover = v.toNat from hv]
    · subst h
      rw [happens_run (f := windowExpires) (fun _ => rfl) hu]
      show when u.windowDue windowExpires u = _
      rw [windowDue_eq, show u.par pWindow = v.toNat from hv]
    · subst h
      rw [happens_run (f := sealReached) (fun _ => rfl) hu]
      show reviewSeal u = _
      rw [reviewSeal_eq, show u.par pSealTime = v.toNat from hv]
  · exact exec_paramCommit ha
  · exact exec_run rfl hr (endCommit_ends true hm)
  · exact exec_run rfl hr (endCommit_ends false hm)
  · show Host.Outcome.next (inRun (endCommit good) s) = _
    unfold inRun
    rw [endCommit_idle good hn]
    exact congrArg _ (ite_self _)

end Sys2Proof.Machine
end

section
/-! PROOFS. The vessel table (O43). -/

namespace Sys2Proof.Machine

variable {s t u : State} {j k : Fin 32} {x : Vessel} {identity : Word}

/-! ### Learning a vessel (R140, R141) -/

theorem find_first {p : Fin 32 → Bool} (hk : p k = true) (h : ∀ j, j.val < k.val → p j = false) : allSlots.find? p = some k := by
  unfold allSlots
  rw [List.find?_eq_some_iff_append]
  obtain ⟨l, r, hlr⟩ := List.append_of_mem (List.mem_finRange k)
  refine ⟨hk, l, r, hlr, fun j hj => ?_⟩
  have hlt := List.pairwise_lt_finRange 32
  rw [hlr, List.pairwise_append] at hlt
  rw [h j (hlt.2.2 j hj k List.mem_cons_self)]; rfl

theorem learnInto_eq (k : Fin 32) (identity : Word) (d : Side) (air : Option Nat) (s : State) :
    learnInto k identity d air s = { s with vt := { s.vt with
      slots := s.vt.slots.set k (some ⟨identity, d, air, s.lifetime, .sighted⟩), change := s.vt.change + 1 } } := rfl
theorem learnInto_vessel (k j : Fin 32) (identity : Word) (d : Side) (air : Option Nat) (s : State) :
    (learnInto k identity d air s).vessel j = if j = k then some ⟨identity, d, air, s.lifetime, .sighted⟩ else s.vessel j :=
  vessel_setSlot k j (some ⟨identity, d, air, s.lifetime, .sighted⟩) s

theorem learnVessel_free (identity : Word) (d : Side) (air : Option Nat) (hk : s.vessel k = none)
    (h : ∀ j : Fin 32, j.val < k.val → s.vessel j ≠ none) : learnVessel identity d air s = some (learnInto k identity d air s, k, .fresh) := by
  unfold learnVessel
  rw [find_first (k := k) (by rw [hk]; rfl) fun j hj => Option.isNone_eq_false_iff.mpr (isSome_iff_ne.mpr (h j hj))]

theorem lesserLife_rests (best : Option (Fin 32)) (h : s.replaceable j = none) : lesserLife s best j = best := by
  unfold lesserLife; rw [h]
theorem foldl_lesserLife_rests {l : List (Fin 32)} (best : Option (Fin 32)) (h : ∀ j ∈ l, s.replaceable j = none) :
    l.foldl (lesserLife s) best = best := by
  induction l generalizing best with
  | nil => rfl
  | cons j l ih => rw [List.foldl_cons, lesserLife_rests best (h j List.mem_cons_self), ih _ fun i hi => h i (List.mem_cons_of_mem j hi)]

/-- The best so far is one that a lesser life still replaces. -/
def Outlives (s : State) (n : Nat) (best : Option (Fin 32)) : Prop := ∀ b, best = some b → ∃ m, s.replaceable b = some m ∧ n < m

theorem lesserLife_outlives {n : Nat} {best : Option (Fin 32)} (hb : Outlives s n best) (h : ∀ m, s.replaceable j = some m → n < m) :
    Outlives s n (lesserLife s best j) := by
  unfold lesserLife
  split
  · exact hb
  · next m hm =>
    have hj : Outlives s n (some j) := fun b e => by cases e; exact ⟨m, hm, h m hm⟩
    split
    · exact hj
    · split
      · exact hj
      · exact hb

/-- A lesser life than the best so far takes its place. -/
theorem lesserLife_takes {n : Nat} {best : Option (Fin 32)} (hb : Outlives s n best) (hk : s.replaceable k = some n) : lesserLife s best k = some k := by
  unfold lesserLife
  rw [hk]
  dsimp only
  split
  · rfl
  · next b =>
    obtain ⟨m, hm, hlt⟩ := hb b rfl
    rw [hm]
    exact if_pos hlt
/-- A life no less leaves the best so far. -/
theorem lesserLife_keeps {n : Nat} (hk : s.replaceable k = some n) (h : ∀ m, s.replaceable j = some m → n ≤ m) :
    lesserLife s (some k) j = some k := by
  unfold lesserLife
  split
  · rfl
  · next m hm =>
    dsimp only
    rw [hk]
    exact if_neg (Nat.not_lt.mpr (h m hm))

/-- The replaceable entry of the least life, the lowest slot of them first (R141). -/
theorem leastLife_eq {n : Nat} (hk : s.replaceable k = some n) (h : ∀ j m, s.replaceable j = some m → n ≤ m ∧ (j.val < k.val → n < m)) :
    allSlots.foldl (lesserLife s) none = some k := by
  obtain ⟨l, r, hlr⟩ := List.append_of_mem (List.mem_finRange k)
  have hlt := List.pairwise_lt_finRange 32
  rw [hlr, List.pairwise_append] at hlt
  have hbefore : ∀ (l : List (Fin 32)) best, Outlives s n best → (∀ j ∈ l, j < k) → Outlives s n (l.foldl (lesserLife s) best) := by
    intro l
    induction l with
    | nil => exact fun _ hb _ => hb
    | cons j l ih =>
      exact fun best hb hl => ih _ (lesserLife_outlives hb fun m hm => (h j m hm).2 (hl j List.mem_cons_self))
        fun i hi => hl i (List.mem_cons_of_mem j hi)
  have hafter : ∀ r : List (Fin 32), r.foldl (lesserLife s) (some k) = some k := by
    intro r
    induction r with
    | nil => rfl
    | cons j r ih => rw [List.foldl_cons, lesserLife_keeps hk fun m hm => (h j m hm).1, ih]
  unfold allSlots
  rw [hlr, List.foldl_append, List.foldl_cons, lesserLife_takes (hbefore l none (fun _ e => nomatch e) fun j hj => hlt.2.2 j hj k List.mem_cons_self) hk,
    hafter]

theorem replaceable_some {n : Nat} : s.replaceable k = some n ↔ ∃ x, s.vessel k = some x ∧ (x.state = .sighted ∨ x.state = .passed) ∧ x.life = n := by
  unfold State.replaceable
  cases h : s.vessel k with
  | none => simp
  | some x =>
    by_cases hx : x.state = .sighted ∨ x.state = .passed
    · simp [hx]
    · simp [hx]

theorem noFree (h : ∀ k : Fin 32, s.vessel k ≠ none) : allSlots.find? (fun k => (s.vessel k).isNone) = none := by
  rw [List.find?_eq_none]
  intro k _ hn
  exact h k (Option.isNone_iff_eq_none.mp hn)

theorem learnVessel_replaces (identity : Word) (d : Side) (air : Option Nat) (h : ∀ k : Fin 32, s.vessel k ≠ none)
    (hk : s.vessel k = some x) (hx : x.state = .sighted ∨ x.state = .passed)
    (hl : ∀ (j : Fin 32) (y : Vessel), s.vessel j = some y → y.state = .sighted ∨ y.state = .passed →
      x.life ≤ y.life ∧ (j.val < k.val → x.life < y.life)) :
    learnVessel identity d air s = some ((learnInto k identity d air s).onVt fun t => { t with replaced := bump t.replaced }, k,
      .replaced x.identity) := by
  have hleast : allSlots.foldl (lesserLife s) none = some k :=
    leastLife_eq (replaceable_some.mpr ⟨x, hk, hx, rfl⟩) fun j m hm => by
      obtain ⟨y, hy, hs, rfl⟩ := replaceable_some.mp hm
      exact hl j y hy hs
  unfold learnVessel
  rw [noFree h, hleast]
  simp only [hk]

theorem learnVessel_full (identity : Word) (d : Side) (air : Option Nat) (h : ∀ k : Fin 32, s.vessel k ≠ none)
    (hs : ∀ (k : Fin 32) (x : Vessel), s.vessel k = some x → x.state = .waiting ∨ x.state = .called) : learnVessel identity d air s = none := by
  have hnone : allSlots.foldl (lesserLife s) none = none := foldl_lesserLife_rests none fun j _ => by
    cases hr : s.replaceable j with
    | none => rfl
    | some m =>
      obtain ⟨y, hy, hst, -⟩ := replaceable_some.mp hr
      rcases hs j y hy with e | e <;> rw [e] at hst <;> simp at hst
  unfold learnVessel
  rw [noFree h, hnone]

/-! ### VESSEL-REPORT (R140, R142) -/

theorem vesselReportOp_known {side : Byte} (air : Half) (h0 : identity ≠ 0) (h1 : side.toNat ≤ 1) (hf : s.findVessel identity = some k)
    (hk : s.vessel k = some x) : vesselReportOp identity side air s =
    (s.onVessel k fun v => v.refresh (sideOf side) (airGiven air) s.lifetime,
      .done (reportReply (s.onVessel k fun v => v.refresh (sideOf side) (airGiven air) s.lifetime) k 0 (x.ignored (sideOf side) (airGiven air)) 0)) := by
  unfold vesselReportOp
  rw [if_neg h0, if_neg (by omega)]
  simp only [hf, hk]
theorem vesselReportOp_learns {side : Byte} {air : Half} {how : Learned} (h0 : identity ≠ 0) (h1 : side.toNat ≤ 1) (hf : s.findVessel identity = none)
    (hl : learnVessel identity (sideOf side) (airGiven air) s = some (t, k, how)) : vesselReportOp identity side air s =
    (t, .done (reportReply t k how.code 0 how.oldIdentity)) := by
  unfold vesselReportOp
  rw [if_neg h0, if_neg (by omega)]
  simp only [hf, hl]
theorem vesselReportOp_full {side : Byte} {air : Half} (h0 : identity ≠ 0) (h1 : side.toNat ≤ 1) (hf : s.findVessel identity = none)
    (hl : learnVessel identity (sideOf side) (airGiven air) s = none) : vesselReportOp identity side air s = (s, .refused .tableFull 0) := by
  unfold vesselReportOp
  rw [if_neg h0, if_neg (by omega)]
  simp only [hf, hl]

/-- What a report leaves of an entry that is known (R140). -/
structure Refreshes (x : Vessel) (d : Side) (air : Half) (life : Nat) (y : Vessel) : Prop where
  identity : y.identity = x.identity
  life : y.life = life
  state : y.state = if x.state = .passed then .sighted else x.state
  side : x.state = .sighted ∨ x.state = .passed → y.side = d
  sideKept : x.state = .waiting ∨ x.state = .called → y.side = x.side
  airKept : x.state = .called ∨ air = 0 → y.air = x.air
  air : x.state ≠ .called → air ≠ 0 → y.air = some (min 999 air.toNat)

theorem airGiven_zero : airGiven 0 = none := rfl
theorem airGiven_some {air : Half} (h : air ≠ 0) : airGiven air = some (min 999 air.toNat) := if_neg h

theorem refresh_refreshes (x : Vessel) (d : Side) (air : Half) (life : Nat) : Refreshes x d air life (x.refresh d (airGiven air) life) := by
  have hair : air = 0 → (airGiven air <|> x.air) = x.air := fun h => by rw [h, airGiven_zero]; rfl
  have hgiven : air ≠ 0 → (airGiven air <|> x.air) = some (min 999 air.toNat) := fun h => by rw [airGiven_some h]; rfl
  unfold Vessel.refresh
  cases hx : x.state
  case sighted => exact ⟨rfl, rfl, by rw [hx]; rfl, fun _ => rfl, by rw [hx]; simp, fun h => hair (by rw [hx] at h; simpa using h), fun _ => hgiven⟩
  case passed => exact ⟨rfl, rfl, by rw [hx]; rfl, fun _ => rfl, by rw [hx]; simp, fun h => hair (by rw [hx] at h; simpa using h), fun _ => hgiven⟩
  case waiting => exact ⟨rfl, rfl, by rw [hx]; rfl, by rw [hx]; simp, fun _ => rfl, fun h => hair (by rw [hx] at h; simpa using h), fun _ => hgiven⟩
  case called => exact ⟨rfl, rfl, by rw [hx]; rfl, by rw [hx]; simp, fun _ => rfl, fun _ => rfl, fun h => absurd hx h⟩

/-- What a report ignored of an entry that is known (R142). -/
theorem ignored_eq (x : Vessel) (d : Side) (air : Half) [Decidable ((x.state = .waiting ∨ x.state = .called) ∧ d ≠ x.side)]
    [Decidable (x.state = .called ∧ air ≠ 0 ∧ x.air ≠ some (min 999 air.toNat))] :
    BitVec.ofNat 8 (x.ignored d (airGiven air)) = (if (x.state = .waiting ∨ x.state = .called) ∧ d ≠ x.side then 1 else 0) +
      (if x.state = .called ∧ air ≠ 0 ∧ x.air ≠ some (min 999 air.toNat) then 2 else 0) := by
  have hair : ((airGiven air).isSome && decide (airGiven air ≠ x.air)) = true ↔ air ≠ 0 ∧ x.air ≠ some (min 999 air.toNat) := by
    by_cases ha : air = 0
    · rw [ha, airGiven_zero]; simp
    · rw [airGiven_some ha, Option.isSome_some, Bool.true_and, decide_eq_true_iff, and_iff_right ha]
      exact ne_comm
  obtain ⟨i, e, a, l, st⟩ := x
  unfold Vessel.ignored
  cases st
  case sighted => rw [if_neg (by simp), if_neg (by simp)]; rfl
  case passed => rw [if_neg (by simp), if_neg (by simp)]; rfl
  case waiting =>
    dsimp only
    by_cases hd : d = e
    · rw [if_neg (by simp [hd]), if_neg (by simp), decide_eq_false (by simp [hd])]; rfl
    · rw [if_pos ⟨.inl rfl, hd⟩, if_neg (by simp), decide_eq_true hd]; rfl
  case called =>
    dsimp only at hair ⊢
    by_cases hr : air ≠ 0 ∧ a ≠ some (min 999 air.toNat)
    · rw [if_pos (show VesselState.called = .called ∧ _ from ⟨rfl, hr⟩), hair.mpr hr]
      by_cases hd : d = e
      · rw [if_neg (by simp [hd]), decide_eq_false (by simp [hd])]; rfl
      · rw [if_pos ⟨.inr rfl, hd⟩, decide_eq_true hd]; rfl
    · rw [if_neg (fun h : VesselState.called = .called ∧ _ => hr h.2), Bool.eq_false_iff.mpr (mt hair.mp hr)]
      by_cases hd : d = e
      · rw [if_neg (by simp [hd]), decide_eq_false (by simp [hd])]; rfl
      · rw [if_pos ⟨.inr rfl, hd⟩, decide_eq_true hd]; rfl

/-! ### Entries removed from the table and from their queues (R144, R149, R157) -/

/-- What the removal of the entries of `gone`, those of `out` for their age, leaves beside the slots. -/
structure RemovesFrom (gone out : List (Fin 32)) (s t : State) : Prop where
  change : t.vt.change = s.vt.change + BitVec.ofNat 32 gone.length
  replaced : t.vt.replaced = s.vt.replaced
  lapsed : t.vt.lapsed = bump^[out.length] s.vt.lapsed
  queue : ∀ q, t.queue q = (s.queue q).filter fun e => e.slot ∉ gone
  rest : { t with cl := s.cl, vt := s.vt, psc := s.psc } = s
  psc : { t.psc with queues := s.psc.queues } = s.psc
  cl : t.cl = if out = [] then s.cl else { s.cl with latched := s.cl.latched ||| 0x100 }

theorem RemovesFrom.refl (s : State) : RemovesFrom [] [] s s :=
  ⟨by simp, rfl, rfl, fun q => by simp, rfl, rfl, rfl⟩

theorem RemovesFrom.slot (k : Fin 32) (v : Option Vessel) (s : State) : RemovesFrom [] [] s (setSlot k v s) :=
  ⟨by show s.vt.change = _; simp, rfl, rfl, fun q => by show s.queue q = _; simp, rfl, rfl, rfl⟩

theorem RemovesFrom.remove (k : Fin 32) (s : State) : RemovesFrom [k] [] s (removeVessel k s) :=
  ⟨rfl, rfl, rfl, fun q => (queue_leaveQueue k s q).trans (by simp), rfl, rfl, rfl⟩

theorem RemovesFrom.lapse (k : Fin 32) (s : State) :
    RemovesFrom [k] [k] s (latch .vessel ((removeVessel k s).onVt fun t => { t with lapsed := bump t.lapsed })) :=
  ⟨rfl, rfl, rfl, fun q => (queue_leaveQueue k s q).trans (by simp), rfl, rfl, rfl⟩

theorem RemovesFrom.trans {g h l m : List (Fin 32)} (hs : RemovesFrom g l s t) (ht : RemovesFrom h m t u) :
    RemovesFrom (g ++ h) (l ++ m) s u := by
  refine ⟨?_, ht.replaced.trans hs.replaced, ?_, fun q => ?_, ?_, ?_, ?_⟩
  · rw [ht.change, hs.change, List.length_append, BitVec.ofNat_add, BitVec.add_assoc]
  · rw [ht.lapsed, hs.lapsed, List.length_append, Nat.add_comm, Function.iterate_add_apply]
  · rw [ht.queue, hs.queue, List.filter_filter]
    refine List.filter_congr fun e _ => ?_
    simp only [List.mem_append, not_or, Bool.decide_and, Bool.and_comm]
  · exact (congrArg (fun w : State => { w with cl := s.cl, vt := s.vt, psc := s.psc }) ht.rest).trans hs.rest
  · exact (congrArg (fun w : Psc => { w with queues := s.psc.queues }) ht.psc).trans hs.psc
  · rw [ht.cl, hs.cl]
    by_cases hl : l = []
    · by_cases hm : m = []
      · simp [hl, hm]
      · simp [hl, hm]
    · by_cases hm : m = []
      · simp [hl, hm]
      · simp [hl, hm, BitVec.or_assoc]

theorem vessel_leaveQueue (k j : Fin 32) (s : State) : (leaveQueue k s).vessel j = s.vessel j := rfl
theorem vessel_removeVessel (k j : Fin 32) (s : State) : (removeVessel k s).vessel j = if j = k then none else s.vessel j :=
  vessel_setSlot k j none (leaveQueue k s)

theorem removeVessels_removes (l : List (Fin 32)) (s : State) : RemovesFrom l [] s (l.foldl (fun t k => removeVessel k t) s) ∧
    ∀ j, (l.foldl (fun t k => removeVessel k t) s).vessel j = if j ∈ l then none else s.vessel j := by
  induction l generalizing s with
  | nil => exact ⟨.refl s, fun _ => rfl⟩
  | cons k l ih =>
    obtain ⟨h, hv⟩ := ih (removeVessel k s)
    refine ⟨(RemovesFrom.remove k s).trans h, fun j => (hv j).trans ?_⟩
    rw [vessel_removeVessel]
    by_cases hl : j ∈ l
    · rw [if_pos hl, if_pos (List.mem_cons_of_mem k hl)]
    · rw [if_neg hl]
      exact if_congr (by simp [hl]) rfl rfl

/-- The number of lapses counted, within 65535. -/
theorem bump_iterate {n : Nat} (m : Nat) (h : n ≤ 65535) : bump^[m] n = min 65535 (n + m) := by
  induction m generalizing n with
  | zero => show n = _; omega
  | succ m ih =>
    rw [Function.iterate_succ_apply, ih (by unfold bump; split <;> omega)]
    unfold bump
    split <;> omega

/-! ### An epoch end (R144) -/

/-- An entry that is not CALLED has come to the end of its life, in a state that passes `p`. -/
def State.outlived (s : State) (p : VesselState → Bool) (k : Fin 32) : Bool :=
  (s.vessel k).any fun v => v.state ≠ .called && v.life ≤ 1 && p v.state

/-- The slots of `l` whose entries an epoch end removes, in the states that pass `p`. -/
def State.removals (s : State) (p : VesselState → Bool) (l : List (Fin 32)) : List (Fin 32) := l.filter (s.outlived p)

/-- A vessel as an epoch end leaves it. -/
def Vessel.aged (x : Vessel) : Option Vessel :=
  if x.state = .called then some x else if 1 < x.life then some { x with life := x.life - 1 } else none

theorem outlived_some {p : VesselState → Bool} (h : s.vessel k = some x) :
    s.outlived p k = (decide (x.state ≠ .called) && decide (x.life ≤ 1) && p x.state) := by
  unfold State.outlived; rw [h]; rfl
theorem outlived_none {p : VesselState → Bool} (h : s.vessel k = none) : s.outlived p k = false := by
  unfold State.outlived; rw [h]; rfl

theorem ageSlot_vessel (s : State) (k j : Fin 32) : (ageSlot s k).vessel j = if j = k then (s.vessel k).bind Vessel.aged else s.vessel j := by
  unfold ageSlot
  by_cases hj : j = k
  · subst hj
    rw [if_pos rfl]
    cases h : s.vessel j with
    | none => exact h
    | some x =>
      dsimp only [Option.bind_some]
      unfold Vessel.aged
      split
      · exact h
      · split
        · rw [vessel_setSlot, if_pos rfl]
        · split
          · exact (vessel_removeVessel j j s).trans (if_pos rfl)
          · exact (vessel_removeVessel j j s).trans (if_pos rfl)
  · rw [if_neg hj]
    cases h : s.vessel k with
    | none => rfl
    | some x =>
      dsimp only
      split
      · rfl
      · split
        · rw [vessel_setSlot, if_neg hj]
        · split
          · exact (vessel_removeVessel k j s).trans (if_neg hj)
          · exact (vessel_removeVessel k j s).trans (if_neg hj)

theorem ageSlot_removes (s : State) (k : Fin 32) :
    RemovesFrom (s.removals (fun _ => true) [k]) (s.removals (fun st => st = .waiting) [k]) s (ageSlot s k) := by
  unfold ageSlot State.removals
  rw [List.filter_singleton, List.filter_singleton]
  cases h : s.vessel k with
  | none => rw [outlived_none h, outlived_none h]; exact .refl s
  | some x =>
    rw [outlived_some h, outlived_some h]
    dsimp only
    split
    · next hc => rw [decide_eq_false (fun hn : x.state ≠ .called => hn hc)]; exact .refl s
    · next hc =>
      rw [decide_eq_true hc]
      split
      · next hl => rw [decide_eq_false (Nat.not_le.mpr hl)]; exact .slot k _ s
      · next hl =>
        rw [decide_eq_true (Nat.not_lt.mp hl)]
        split
        · next hw => rw [decide_eq_true hw]; exact .lapse k s
        · next hw => rw [decide_eq_false hw]; exact .remove k s

theorem ageSlots_removes {l : List (Fin 32)} (hn : l.Nodup) (s : State) :
    RemovesFrom (s.removals (fun _ => true) l) (s.removals (fun st => st = .waiting) l) s (l.foldl ageSlot s) ∧
      ∀ j, (l.foldl ageSlot s).vessel j = if j ∈ l then (s.vessel j).bind Vessel.aged else s.vessel j := by
  induction l generalizing s with
  | nil => exact ⟨.refl s, fun _ => rfl⟩
  | cons k l ih =>
    obtain ⟨hk, hl⟩ := List.nodup_cons.mp hn
    obtain ⟨h, hv⟩ := ih hl (ageSlot s k)
    have hsame (p : VesselState → Bool) : (ageSlot s k).removals p l = s.removals p l := by
      refine List.filter_congr fun j hj => ?_
      unfold State.outlived
      rw [ageSlot_vessel, if_neg fun e : j = k => hk (e ▸ hj)]
    have hcons (p : VesselState → Bool) : s.removals p (k :: l) = s.removals p [k] ++ s.removals p l := by
      unfold State.removals
      rw [← List.filter_append]
      rfl
    rw [hsame, hsame] at h
    refine ⟨?_, fun j => (hv j).trans ?_⟩
    · rw [hcons, hcons]; exact (ageSlot_removes s k).trans h
    · rw [ageSlot_vessel]
      by_cases hj : j = k
      · subst hj
        rw [if_neg hk, if_pos rfl, if_pos List.mem_cons_self]
      · rw [if_neg hj]
        exact if_congr (by simp [hj]) rfl rfl

theorem mem_removals {p : VesselState → Bool} : k ∈ s.removals p allSlots ↔ s.outlived p k = true := by
  unfold State.removals allSlots
  rw [List.mem_filter]
  exact and_iff_right (List.mem_finRange k)

/-! ### VESSEL-CLEAR (R149) -/

theorem maskedSlots_eq (mask : Byte) (p : VesselState → Bool) (s : State) : s.maskedSlots mask p =
    (List.finRange 32).filter fun k => (s.vessel k).any fun v => inMask mask v.side && p v.state := by
  unfold State.maskedSlots allSlots
  refine List.filter_congr fun k _ => ?_
  cases s.vessel k <;> rfl

theorem mem_maskedSlots {mask : Byte} {p : VesselState → Bool} (h : s.vessel k = some x) :
    k ∈ s.maskedSlots mask p ↔ inMask mask x.side = true ∧ p x.state = true := by
  rw [maskedSlots_eq, List.mem_filter, and_iff_right (List.mem_finRange k), h]
  exact Bool.and_eq_true_iff
theorem not_mem_maskedSlots {mask : Byte} {p : VesselState → Bool} (h : s.vessel k = none) : k ∉ s.maskedSlots mask p := by
  rw [maskedSlots_eq, List.mem_filter, h]
  exact fun hn => nomatch hn.2

theorem vesselClearOp_eq {mask : Byte} (h0 : 1 ≤ mask.toNat) (h3 : mask.toNat ≤ 3) (s : State) : vesselClearOp mask s =
    (latchIf (decide (s.maskedSlots mask (fun st => decide (st ≠ .called)) ≠ [])) .vessel
        ((s.maskedSlots mask fun st => decide (st ≠ .called)).foldl (fun t k => removeVessel k t) s),
      .done [BitVec.ofNat 8 (s.maskedSlots mask fun st => decide (st ≠ .called)).length,
        BitVec.ofNat 8 (s.maskedSlots mask fun st => decide (st = .waiting)).length,
        BitVec.ofNat 8 (s.maskedSlots mask fun st => decide (st = .called)).length]) := if_neg (by omega)

/-- A learned vessel stands in its slot; the record counts a change (R141). -/
theorem learnInto_learns (k : Fin 32) (identity : Word) (side : Byte) (air : Half) (s : State) :
    { learnInto k identity (sideOf side) (airGiven air) s with vt := s.vt } = s ∧
      (learnInto k identity (sideOf side) (airGiven air) s).vt.change = s.vt.change + 1 ∧
      (learnInto k identity (sideOf side) (airGiven air) s).vt.replaced = s.vt.replaced ∧
      (learnInto k identity (sideOf side) (airGiven air) s).vessel k = some ⟨identity, if side = 0 then .seaward else .landward,
        if air = 0 then none else some (min 999 air.toNat), s.lifetime, .sighted⟩ ∧
      ∀ j : Fin 32, j ≠ k → (learnInto k identity (sideOf side) (airGiven air) s).vessel j = s.vessel j :=
  ⟨rfl, rfl, rfl, (learnInto_vessel ..).trans (if_pos rfl), fun _ hj => (learnInto_vessel ..).trans (if_neg hj)⟩

theorem or_vessel (x : Half) : ((x ||| 0x100) &&& 0x100) ≠ 0 := (mask_iff _ 8).mpr ⟨by decide, by simp⟩

/-- Settles O43: reports of vessels known, learned and replaced, VESSEL-CLEAR and the epoch end. -/
theorem vesselTable : Obligations.VesselTable := by
  refine ⟨fun s => ⟨fun identity side air ha h0 h1 => ⟨fun k v hf hv => ?_, fun k hf hk hl => ?_⟩, fun mask ha hm1 hm3 => ?_, fun hrun => ?_⟩,
    fun identity side air s ha h0 h1 hf hfull => ⟨fun hs => ?_, fun k v hv hst hleast => ?_⟩⟩
  · intro reported given sideIgnored airIgnored
    have hy : (s.onVessel k fun v => v.refresh (sideOf side) (airGiven air) s.lifetime).vessel k =
        some (v.refresh (sideOf side) (airGiven air) s.lifetime) := by
      rw [vessel_onVessel, if_pos rfl, hv]; rfl
    obtain ⟨r1, r2, r3, r4, r5, r6, r7⟩ := refresh_refreshes v (sideOf side) air s.lifetime
    refine ⟨_, _, (exec_vesselReport ha).trans (congrArg Host.Outcome.next (congrArg (answer 0x40) (vesselReportOp_known air h0 h1 hf hv))), ?_, ?_, ?_, ?_,
      ⟨_, hy, r1, r2, r3, r4, r5, r6, r7⟩, fun j hj => ?_⟩
    · show [0, BitVec.ofNat 8 (v.ignored (sideOf side) (airGiven air)), 0, 0, 0, 0] ++ _ = _
      rw [ignored_eq]
      rfl
    · rw [onVessel_eq]
    · rw [onVessel_eq]
    · rw [onVessel_eq]
    · rw [vessel_onVessel, if_neg hj]
  · have e := vesselReportOp_learns (side := side) h0 h1 hf (learnVessel_free identity (sideOf side) (airGiven air) hk hl)
    obtain ⟨g1, g2, g3, g4, g5⟩ := learnInto_learns k identity side air s
    exact ⟨_, _, (exec_vesselReport ha).trans (congrArg Host.Outcome.next (congrArg (answer 0x40) e)), rfl, rfl, g1, g2, g3, g4, g5⟩
  · intro masked gone
    have e := vesselClearOp_eq hm1 hm3 s
    rw [maskedSlots_eq, maskedSlots_eq, maskedSlots_eq] at e
    have hexec := (exec_vesselClear ha).trans (congrArg Host.Outcome.next (congrArg (answer 0x42) e))
    have hgone {k : Fin 32} {v : Vessel} (hv : s.vessel k = some v) : k ∈ gone ↔ inMask mask v.side = true ∧ decide (v.state ≠ .called) = true := by
      rw [← mem_maskedSlots (p := fun st => decide (st ≠ .called)) hv, maskedSlots_eq]
    have hunused {k : Fin 32} (hk : s.vessel k = none) : k ∉ gone := by
      have hn := not_mem_maskedSlots (mask := mask) (p := fun st => decide (st ≠ .called)) hk
      rw [maskedSlots_eq] at hn
      exact hn
    change exec (.vesselClear mask) s = .next (answer 0x42 (latchIf (decide (gone ≠ [])) .vessel (gone.foldl (fun t k => removeVessel k t) s),
      .done [BitVec.ofNat 8 gone.length, BitVec.ofNat 8 (masked fun st => st = .waiting).length,
        BitVec.ofNat 8 (masked fun st => st = .called).length])) at hexec
    obtain ⟨hr, hv⟩ := removeVessels_removes gone s
    generalize gone.foldl (fun t k => removeVessel k t) s = t at hr hv hexec
    clear_value gone
    have hq : ∀ q : Fin 8, (latchIf (decide (gone ≠ [])) .vessel t).queue q = (s.queue q).filter fun e => e.slot ∉ gone := fun q => by
      rw [← hr.queue, latchIf_eq]; rfl
    have hvt : (latchIf (decide (gone ≠ [])) .vessel t).vt = t.vt := by rw [latchIf_eq]
    have hvessel (k : Fin 32) : (latchIf (decide (gone ≠ [])) .vessel t).vessel k = if k ∈ gone then none else s.vessel k := by
      rw [← hv]; unfold State.vessel; rw [hvt]
    refine ⟨_, _, hexec, rfl, rfl, ?_, by rw [hvt]; exact hr.change, by rw [hvt]; exact hr.replaced, hq, ?_, ?_, fun k v hk => ⟨fun h => ?_, fun h1 h2 => ⟨?_, ?_⟩⟩,
      fun k hk => ?_, by rw [hvt]; exact hr.lapsed⟩
    · rw [latchIf_eq]
      dsimp only
      rw [hr.cl]
      by_cases hg : gone = []
      · rw [if_pos hg, if_pos rfl, decide_eq_false (not_not.mpr hg)]; rfl
      · rw [if_neg hg, if_pos rfl, decide_eq_true hg]; rfl
    · rw [latchIf_eq]; exact hr.rest
    · rw [latchIf_eq]; exact hr.psc
    · rw [hvessel, if_neg fun hn => ?_, hk]
      obtain ⟨n1, n2⟩ := (hgone hk).mp hn
      rcases h with h | h
      · exact of_decide_eq_true n2 h
      · rw [h] at n1; cases n1
    · rw [hvessel, if_pos ((hgone hk).mpr ⟨h2, decide_eq_true h1⟩)]
    · intro q e he hs
      rw [hq, List.mem_filter, decide_eq_true_iff] at he
      exact he.2 (hs ▸ (hgone hk).mpr ⟨h2, decide_eq_true h1⟩)
    · rw [hvessel, if_neg (hunused hk), hk]
  · intro removed gone lapsed
    obtain ⟨hr, hv⟩ := ageSlots_removes (List.nodup_finRange 32) s
    have hexec : exec .epochEnd s = .next (endEpoch s) := exec_run rfl hrun rfl
    have hgone {k : Fin 32} {v : Vessel} (hk : s.vessel k = some v) : k ∈ gone ↔ v.state ≠ .called ∧ v.life ≤ 1 := by
      refine (mem_removals (p := fun _ => true)).trans ?_
      rw [outlived_some hk]; simp
    have hlapsed {k : Fin 32} {v : Vessel} (hk : s.vessel k = some v) : k ∈ lapsed ↔ v.state ≠ .called ∧ v.life ≤ 1 ∧ v.state = .waiting := by
      refine (mem_removals (p := fun st => decide (st = .waiting))).trans ?_
      rw [outlived_some hk]; simp [and_assoc]
    change RemovesFrom gone lapsed s (endEpoch s) at hr
    change ∀ j, (endEpoch s).vessel j = _ at hv
    generalize endEpoch s = t at hr hv hexec
    clear_value gone lapsed
    have hvessel (k : Fin 32) : t.vessel k = (s.vessel k).bind Vessel.aged := (hv k).trans (if_pos (List.mem_finRange k))
    refine ⟨t, hexec, hr.change, fun hl => hr.lapsed.trans (bump_iterate _ hl), hr.replaced, hr.cl, hr.queue, hr.rest, hr.psc, fun k hk => ?_,
      fun k v hk => ⟨fun hc => ?_, fun hc hl => ?_, fun hc hl => ⟨?_, fun q e he hs => ?_⟩, fun hw hl => ?_⟩⟩
    · rw [hvessel, hk]; rfl
    · rw [hvessel, hk]; exact if_pos hc
    · rw [hvessel, hk]; exact (if_neg hc).trans (if_pos hl)
    · rw [hvessel, hk]; exact (if_neg hc).trans (if_neg (Nat.not_lt.mpr hl))
    · rw [hr.queue, List.mem_filter, decide_eq_true_iff] at he
      exact he.2 (hs ▸ (hgone hk).mpr ⟨hc, hl⟩)
    · rw [hr.cl, if_neg (List.ne_nil_of_mem ((hlapsed hk).mpr ⟨by rw [hw]; decide, hl, hw⟩))]
      exact or_vessel _
  · rw [exec_vesselReport ha, vesselReportOp_full h0 h1 hf (learnVessel_full identity _ _ hfull hs)]
  · have e := vesselReportOp_learns (side := side) h0 h1 hf (learnVessel_replaces identity (sideOf side) (airGiven air) hfull hv hst hleast)
    obtain ⟨g1, g2, g3, g4, g5⟩ := learnInto_learns k identity side air s
    exact ⟨_, _, (exec_vesselReport ha).trans (congrArg Host.Outcome.next (congrArg (answer 0x40) e)), rfl, rfl, g1, g2, congrArg bump g3, g4, g5⟩

end Sys2Proof.Machine
end

section
/-! PROOFS. The reading requests (O12). -/

namespace Sys2Proof.Machine

variable {s t u : State} {k : Fin 32}

/-! ### The lengths of the reply fields -/

@[simp] theorem b1_length (n : Nat) : (b1 n).length = 1 := rfl
@[simp] theorem b2_length (n : Nat) : (b2 n).length = 2 := rfl
@[simp] theorem i2_length (n : Int) : (i2 n).length = 2 := rfl
@[simp] theorem bm_length (b : Bool) : (bm b).length = 1 := rfl
@[simp] theorem b2stop_length (n : Nat) : (b2stop n).length = 2 := rfl
@[simp] theorem be16_length (v : Half) : (be16 v).length = 2 := rfl
@[simp] theorem be32_length (v : Word) : (be32 v).length = 4 := rfl
@[simp] theorem timeField_length (t : Option Word) : (timeField t).length = 4 := rfl
@[simp] theorem timerField_length (t : Option Nat) : (timerField t).length = 2 := rfl
@[simp] theorem sideByte_length (d : Option Side) : (sideByte d).length = 1 := by cases d <;> rfl
@[simp] theorem circuitByte_length (c : Option (Fin 16)) : (circuitByte c).length = 1 := by cases c <;> rfl
@[simp] theorem b2absent_length (n : Option Nat) : (b2absent n).length = 2 := by cases n <;> rfl

/-- Records of one length after one another. -/
theorem records_length {α : Type} {f : α → List Byte} {n : Nat} (h : ∀ x, (f x).length = n) (l : List α) :
    (l.flatMap f).length = l.length * n := by
  rw [List.length_flatMap, List.map_congr_left fun x _ => h x, List.map_const', List.sum_replicate_nat]

theorem Bolt.bytes_length (r : Bolt) : r.bytes.length = 10 := by simp [Bolt.bytes]
theorem Pump.bytes_length (p : Pump) : p.bytes.length = 5 := by simp [Pump.bytes]
theorem Motion.bytes_length (m : Motion) : m.bytes.length = 31 := by simp [Motion.bytes]
theorem leafFields_length (s : State) : s.leafFields.length = 37 := by simp [State.leafFields, Motion.bytes_length]
theorem leafBytes_length (l : Leaf) (s : State) : (s.leafBytes l).length = 9 := by simp [State.leafBytes]
theorem Encoder.bytes_length (e : Encoder) : e.bytes.length = 8 := by simp [Encoder.bytes]
theorem LeafAngle.bytes_length (a : LeafAngle) : a.bytes.length = 7 := by simp [LeafAngle.bytes]
theorem Wind.bytes_length (w : Wind) : w.bytes.length = 16 := by simp [Wind.bytes]
theorem Arm.bytes_length (r : Arm) : r.bytes.length = 12 := by simp [Arm.bytes]
theorem Zone.bytes_length (z : Zone) : z.bytes.length = 6 := by simp [Zone.bytes]
theorem roadFields_length (s : State) : s.roadFields.length = 27 := by simp [State.roadFields]
theorem Circuit.bytes_length (c : Circuit) : c.bytes.length = 4 := by simp [Circuit.bytes]
theorem Health.bytes_length (h : Health) : h.bytes.length = 5 := by
  unfold Health.bytes; cases h.ratio <;> rfl
theorem sideBytes_length (d : Side) (s : State) : (s.sideBytes d).length = 12 := by simp [State.sideBytes]
theorem Item.bytes_length (i : Item) : i.bytes.length = 10 := by simp [Item.bytes]

/-! ### The data of each reading request, as its operation builds them -/

def State.leafData (s : State) : List Byte := s.leafFields ++ s.leafBytes .north ++ s.leafBytes .south ++
  s.lpu.bolts.toList.flatMap Bolt.bytes ++ b1 s.lpu.seqKind.code ++ b1 s.lpu.seqStep.code ++
  s.lpu.pumps.north.bytes ++ s.lpu.pumps.south.bytes ++ bm s.lpu.standby.isSome ++ b2 (toSec (s.lpu.standby.getD 0))
theorem leafReadOp_eq (s : State) : leafReadOp s = (s, .done s.leafData) := rfl
theorem leafData_length (s : State) : s.leafData.length = 110 := by
  simp [State.leafData, leafFields_length, leafBytes_length, records_length Bolt.bytes_length, Pump.bytes_length]

def State.measureData (s : State) : List Byte := s.msu.encoders.toList.flatMap Encoder.bytes ++ s.msu.angles.north.bytes ++
  s.msu.angles.south.bytes ++ s.msu.wind.bytes
theorem measureReadOp_eq (s : State) : measureReadOp s =
    ({ s with msu := { s.msu with encoders := s.msu.encoders.map fun e => { e with frameErrors := 0, validSinceRead := true } } },
      .done s.measureData) := rfl
theorem measureData_length (s : State) : s.measureData.length = 62 := by
  simp [State.measureData, records_length Encoder.bytes_length, LeafAngle.bytes_length, Wind.bytes_length]

def State.roadData (s : State) : List Byte := s.roadFields ++ s.bzu.arms.toList.flatMap Arm.bytes ++ s.bzu.zones.toList.flatMap Zone.bytes
theorem roadReadOp_eq (s : State) : roadReadOp s =
    ({ s with bzu := { s.bzu with zones := s.bzu.zones.map fun z => { z with occupiedSinceRead := false } } }, .done s.roadData) := rfl
theorem roadData_length (s : State) : s.roadData.length = 159 := by
  simp [State.roadData, roadFields_length, records_length Arm.bytes_length, records_length Zone.bytes_length]

def State.circuitData (s : State) : List Byte := b1 s.phu.index.val ++ b2 s.phu.counter ++ circuitByte (s.phu.proving.map (·.circuit)) ++
  circuitByte s.testCircuit ++ s.phu.circuits.toList.flatMap Circuit.bytes
theorem circuitReadOp_eq (s : State) : circuitReadOp s =
    ({ s with phu := { s.phu with circuits := s.phu.circuits.map fun c => { c with failedSinceRead := c.failed } } }, .done s.circuitData) := rfl
theorem circuitData_length (s : State) : s.circuitData.length = 69 := by
  simp [State.circuitData, records_length Circuit.bytes_length]

def State.healthData (s : State) : List Byte := b1 (s.par pArmThreshold) ++ b1 (s.par pBoltThreshold) ++ b1 (s.par pArmFlag) ++
  b1 (s.par pBoltFlag) ++ s.phu.health.toList.flatMap Health.bytes
theorem healthReadOp_eq (s : State) : healthReadOp s = (s, .done s.healthData) := rfl
theorem healthData_length (s : State) : s.healthData.length = 64 := by
  simp [State.healthData, records_length Health.bytes_length]

def State.channelData (s : State) : List Byte := b1 (s.aspect .seaward).code ++ b1 (s.aspect .landward).code ++ b1 s.csu.phase.code ++
  sideByte s.csu.current ++ bm s.csu.sealed ++ s.sideBytes .seaward ++ s.sideBytes .landward ++
  timerField s.csu.window ++ timerField s.csu.changeover ++ timerField s.csu.sealTimer ++
  b1 (ceilDiv s.csu.horn 10) ++ b2 s.csu.violations ++ b2 s.csu.batchNumber ++ b1 s.csu.result.code
theorem channelReadOp_eq (s : State) : channelReadOp s = ({ s with csu := { s.csu with violations := 0 } }, .done s.channelData) := rfl
theorem channelData_length (s : State) : s.channelData.length = 41 := by
  simp [State.channelData, sideBytes_length]

/-- The data of BATCH-READ for a record `b`. -/
def State.batchData (s : State) (b : Batch) : List Byte :=
  b2 b.number ++ b1 b.state.code ++ sideByte b.leading ++ b1 b.size ++ b2 b.tf ++ b2 b.tmin ++
    b2 b.angle ++ timeField b.formedAt ++ timeField b.raisedAt ++ timeField b.firstGoAt ++
    timeField b.closedAt ++
    b1 (b.formedAt.isSome.toNat + 2 * b.raisedAt.isSome.toNat + 4 * b.firstGoAt.isSome.toNat +
      8 * b.closedAt.isSome.toNat) ++
    b1 b.remaining ++ b1 b.items.length ++ b1 b.basis ++ b1 b.extensions ++
    b2 (if b.state = .none then 0 else s.intervalRemaining) ++
    bm s.intervalWaived ++ b.items.flatMap Item.bytes
theorem batchReadOp_eq (s : State) : batchReadOp s = (s, .done (s.batchData s.psc.batch.shown)) := rfl
theorem batchData_length (b : Batch) (s : State) : (s.batchData b).length = 35 + 10 * b.items.length := by
  simp only [State.batchData, List.length_append, b1_length, b2_length, sideByte_length, timeField_length, bm_length,
    records_length Item.bytes_length]
  omega

/-- The class-0 exception as the record that BATCH-READ shows has it (R171). -/
theorem shown_waived (s : State) : s.intervalWaived =
    (decide (s.psc.batch.shown.state = .formed) && s.psc.batch.shown.items.any fun i => i.cls = 0) := by
  unfold State.intervalWaived Batch.shown
  by_cases h : s.psc.batch.state = .none
  · rw [if_pos h, h]; rfl
  · rw [if_neg h]
theorem batchData_none (h : s.psc.batch.state = .none) : s.batchData s.psc.batch.shown = List.replicate 3 0 ++ [255] ++ List.replicate 31 0 := by
  have hb : s.psc.batch.shown = Batch.reset := if_pos h
  have hw : s.intervalWaived = false := by unfold State.intervalWaived; rw [h]; rfl
  unfold State.batchData
  rw [hb, hw, if_pos (show Batch.reset.state = .none from rfl)]
  decide

/-! ### The queue entry of a vessel's record (section 1.7) -/

theorem findEntry_none (h : ∀ q : Fin 8, ∀ e ∈ s.queue q, e.slot ≠ k) : s.findEntry k = none := by
  cases hf : s.findEntry k with
  | none => rfl
  | some p =>
    obtain ⟨q, i, e⟩ := p
    obtain ⟨he, hs, -⟩ := findEntry_some hf
    exact absurd hs (h q e he)

/-- The entry found is the first of the first queue that holds one. -/
theorem findEntry_first {q : Fin 8} {i : Nat} {e : QueueEntry} (he : (s.queue q)[i]? = some e) (hs : e.slot = k)
    (hq : ∀ r : Fin 8, r.val < q.val → ∀ x ∈ s.queue r, x.slot ≠ k)
    (hi : ∀ j x, j < i → (s.queue q)[j]? = some x → x.slot ≠ k) : s.findEntry k = some (q, i, e) := by
  have hat : (s.queue q).findIdx? (fun e => decide (e.slot = k)) = some i := by
    obtain ⟨hlt, hx⟩ := List.getElem?_eq_some_iff.mp he
    refine List.findIdx?_eq_some_iff_getElem.mpr ⟨hlt, decide_eq_true (by rw [hx, hs]), fun j hj => ?_⟩
    rw [Bool.not_eq_true, decide_eq_false_iff_not]
    exact hi j _ hj (List.getElem?_eq_getElem (by omega))
  obtain ⟨l, r, hlr⟩ : ∃ l r, allQueues = l ++ q :: r := List.append_of_mem (by clear he hq hi hat; revert q; decide)
  have hlt : allQueues.Pairwise (· < ·) := by decide
  rw [hlr, List.pairwise_append] at hlt
  unfold State.findEntry
  rw [List.findSome?_eq_some_iff]
  refine ⟨l, q, r, hlr, ?_, fun x hx => ?_⟩
  · rw [hat]
    show ((s.queue q)[i]?).map _ = _
    rw [he]; rfl
  · rw [List.findIdx?_eq_none_iff.mpr fun y hy => decide_eq_false (hq x (hlt.2.2 x hx q List.mem_cons_self) y hy)]

/-- The head of a vessel's record (section 1.7). -/
def Vessel.head (x : Vessel) (k : Fin 32) : List Byte :=
  b1 k.val ++ be32 x.identity ++ b1 (sideCode x.side) ++ b2 (x.air.getD 0) ++ b1 x.life ++ b1 x.state.code

theorem vesselRecord_unqueued {x : Vessel} (hx : s.vessel k = some x) (h : s.findEntry k = none) :
    s.vesselRecord k = x.head k ++ b1 0xFF ++ b1 0xFF ++ b4 0 ++ b4 0 := by
  unfold State.vesselRecord; rw [hx, h]; rfl
theorem vesselRecord_queued {x : Vessel} {q : Fin 8} {i : Nat} {e : QueueEntry} (hx : s.vessel k = some x) (h : s.findEntry k = some (q, i, e)) :
    s.vesselRecord k = x.head k ++ b1 (q.val % 4) ++ b1 i ++ be32 e.seq ++ be32 e.time := by
  unfold State.vesselRecord; rw [hx, h]; rfl

/-! ### PARAM-READ (R28) -/

/-- One record of a row of records of one length. -/
theorem records_get {α : Type} {f : α → List Byte} {n : Nat} (h : ∀ x, (f x).length = n) {l : List α} {i : Nat} (hi : i < l.length) :
    ((l.flatMap f).drop (n * i)).take n = f l[i] := by
  induction l generalizing i with
  | nil => exact absurd hi (Nat.not_lt_zero i)
  | cons x l ih =>
    rw [List.flatMap_cons]
    cases i with
    | zero =>
      rw [Nat.mul_zero, List.drop_zero, List.take_append_of_le_length (h x).ge, List.take_of_length_le (h x).le]
      rfl
    | succ i =>
      rw [Nat.mul_succ, Nat.add_comm, ← List.drop_drop, List.drop_append_of_le_length (h x).ge, List.drop_of_length_le (h x).le, List.nil_append,
        ih (Nat.lt_of_succ_lt_succ hi)]
      rfl

/-- The values of a PARAM-READ, four bytes each. -/
def State.shownValues (s : State) (start count : Nat) : List Byte := (List.range count).flatMap fun k => b4 (s.shown (start + k))

theorem shownValues_length (start count : Nat) (s : State) : (s.shownValues start count).length = 4 * count := by
  unfold State.shownValues
  rw [records_length (n := 4) fun _ => rfl, List.length_range, Nat.mul_comm]
theorem shownValues_get {start count i : Nat} (h : i < count) (s : State) :
    ((s.shownValues start count).drop (4 * i)).take 4 = b4 (s.shown (start + i)) := by
  unfold State.shownValues
  rw [records_get (n := 4) (fun _ => rfl) (by rw [List.length_range]; exact h), List.getElem_range]
theorem shown_eq {i : Nat} (h : i < 64) (s : State) : s.shown i = if i < 62 then s.apu.table[i] else 0 := by
  unfold State.shown
  split <;> rfl

theorem paramReadOp_start {start count : Byte} (h : 63 < start.toNat) : paramReadOp start count s = (s, .refused .range 1) := if_pos h
theorem paramReadOp_count {start count : Byte} (h : start.toNat ≤ 63)
    (hc : count.toNat = 0 ∨ 16 < count.toNat ∨ 64 < start.toNat + count.toNat) : paramReadOp start count s = (s, .refused .range 2) :=
  (if_neg (Nat.not_lt.mpr h)).trans (if_pos hc)
theorem paramReadOp_shows {start count : Byte} (h0 : 1 ≤ count.toNat) (h16 : count.toNat ≤ 16) (hc : start.toNat + count.toNat ≤ 64) :
    paramReadOp start count s = (s, .done ([start, count] ++ b1 s.apu.storeStatus.code ++ bm s.apu.commit.isSome ++ bm s.apu.modified ++
      bm s.apu.frozen ++ b1 s.apu.mismatch ++ s.shownValues start.toNat count.toNat)) :=
  (if_neg (by omega)).trans (if_neg (by omega))

/-! ### QUEUE-READ and VESSEL-READ (R147, R170) -/

theorem queueReadOp_side {d c : Byte} (h : 1 < d.toNat) : queueReadOp d c s = (s, .refused .range 1) := if_pos h
theorem queueReadOp_class {d c : Byte} (h : d.toNat ≤ 1) (hc : 3 < c.toNat) : queueReadOp d c s = (s, .refused .range 2) :=
  (if_neg (Nat.not_lt.mpr h)).trans (dif_neg (by omega))

/-- The data of QUEUE-READ for the queue `q`. -/
def State.queueData (s : State) (d c : Byte) (q : Fin 8) : List Byte :=
  [d, c] ++ b1 (s.queue q).length ++ b1 s.pool ++ (allQueues.flatMap fun q => b1 (s.queue q).length) ++
    b1 s.psc.floor ++ be32 s.psc.joinSeq ++ b2 s.psc.refused ++ b2 s.psc.displaced ++
    i2 s.psc.tide.level ++ (if s.psc.tide.present then be32 s.psc.tide.time else b4 0) ++
    bm s.psc.tide.present ++ bm s.tideStaleNow ++ (s.queue q).flatMap fun e => s.vesselRecord e.slot
theorem queueReadOp_shows {d c : Byte} {q : Fin 8} (hd : d.toNat ≤ 1) (hc : c.toNat ≤ 3) (hq : q.val = 4 * d.toNat + c.toNat) :
    queueReadOp d c s = ({ s with psc := { s.psc with refused := 0, displaced := 0 } }, .done (s.queueData d c q)) := by
  have hlt : c.toNat < 4 := Nat.lt_succ_of_le hc
  have hk : queueOf (sideOf d) ⟨c.toNat, hlt⟩ = q := by
    apply Fin.ext
    unfold sideOf
    by_cases h0 : d = 0
    · have h1 : d.toNat = 0 := congrArg BitVec.toNat h0
      rw [if_pos h0]
      show c.toNat = q.val
      omega
    · have h1 : d.toNat ≠ 0 := fun hn => h0 (BitVec.eq_of_toNat_eq hn)
      rw [if_neg h0]
      show 4 + c.toNat = q.val
      omega
  rw [← hk]
  exact (if_neg (Nat.not_lt.mpr hd)).trans (dif_pos (Nat.lt_succ_of_le hc))

/-- The data of VESSEL-READ for the slots found. -/
def State.vesselData (s : State) (cursor : Byte) (found : List (Fin 32)) : List Byte :=
  [cursor] ++ b1 (scanEnd found).1 ++ bm (scanEnd found).2 ++ b1 found.length ++ b1 s.used ++ be32 s.vt.change ++
    b4 (s.tb.seconds.toNat / 16) ++ b1 (16 - s.tb.seconds.toNat % 16) ++ b2 s.vt.lapsed ++
    b2 s.vt.replaced ++ found.flatMap s.vesselRecord
theorem vesselReadOp_range {cursor : Byte} (h : 31 < cursor.toNat) : vesselReadOp cursor s = (s, .refused .range 1) := if_pos h
theorem vesselReadOp_shows {cursor : Byte} (h : cursor.toNat ≤ 31) : vesselReadOp cursor s =
    (if cursor.toNat = 0 then { s with vt := { s.vt with lapsed := 0, replaced := 0 } } else s, .done (s.vesselData cursor (s.scan cursor.toNat))) := by
  refine (if_neg (Nat.not_lt.mpr h)).trans (Prod.ext (if_congr ?_ rfl rfl) rfl)
  exact ⟨fun h => by rw [h]; rfl, fun h => BitVec.eq_of_toNat_eq h⟩

theorem flashOn_taking (h : s.taking = true) : s.flashOn = decide (s.rcs.road ≠ .opened) := flashOn_run (taking_iff.1 h).1
theorem amber_taking (h : s.taking = true) : s.amber = decide (s.rcs.road = .prewarn) := by
  unfold State.amber; rw [(taking_iff.1 h).1]; rfl
theorem brakeRelease_taking (h : s.taking = true) (l : Leaf) : s.brakeRelease l = decide ((s.lmc.motion.leaves.get l).reference ≠ 0) := by
  unfold State.brakeRelease State.driveReference; rw [if_pos (taking_iff.1 h).1]

/-- The arms' stroke fields, absent at rest (R77). -/
theorem Arm.bytes_eq (r : Arm) : r.bytes =
    b1 r.state.code ++ b1 (armCauseCode r.cause) ++ b1 r.last.code ++ b1 r.obstructions ++
      bm r.relowerPending ++ bm r.displaced ++ bm r.upLost ++ bm (decide (r.state = .lowering ∨ r.state = .raising) && r.full) ++
      b2 (if decide (r.state = .lowering ∨ r.state = .raising) then r.timeout else 0) ++
      b2 (if decide (r.state = .lowering ∨ r.state = .raising) then r.elapsed / 10 else 0) := by
  have hm : r.moving = decide (r.state = .lowering ∨ r.state = .raising) := (Bool.decide_or _ _).symm
  unfold Arm.bytes
  rw [hm]; rfl

/-- The bolts' stroke fields, absent at rest (R120). -/
theorem Bolt.bytes_eq (r : Bolt) : r.bytes =
    b1 r.state.code ++ b1 (boltCauseCode r.cause) ++ b1 r.last.code ++ bm r.full ++
      b2 (if decide (r.state = .withdrawing ∨ r.state = .driving) then r.timeout else 0xFFFF) ++
      b2 (if decide (r.state = .withdrawing ∨ r.state = .driving) then r.elapsed / 10 else 0xFFFF) ++
      b2absent (r.outputOn.map toTenths) := by
  have hm : r.moving = decide (r.state = .withdrawing ∨ r.state = .driving) := (Bool.decide_or _ _).symm
  unfold Bolt.bytes
  rw [hm]
  cases decide (r.state = .withdrawing ∨ r.state = .driving) <;> rfl

/-- STATUS leaves nothing latched, so ATTENTION is released (R15). -/
theorem attention_cleared (code : Nat) (v : Verdict) (s : State) :
    (answer code ({ s with cl := { s.cl with latched := 0 } }, v)).attention = false := by
  have h : (0 : Half) &&& s.cl.mask = 0 := BitVec.zero_and
  show (_ && decide ((0 : Half) &&& s.cl.mask ≠ 0)) = false
  rw [decide_eq_false (not_not.mpr h), Bool.and_false]

/-- Settles O12: what each reading request reports and clears. -/
theorem readsReport : Obligations.ReadsReport := by
  unfold Obligations.ReadsReport
  intro n1 n2 z2 bit side time number
  have hside : side = sideByte := by
    funext d
    rcases d with _ | _ | _ <;> rfl
  have hnumber : number = circuitByte := by
    funext c
    cases c <;> rfl
  refine ⟨fun s h => ⟨⟨_, exec_status h, rfl, ?_⟩, exec_identify h⟩, fun s start count h => ⟨fun hs => ?_, fun hs hc => ?_, fun hs h0 h16 hc => ?_⟩,
    fun s h => ?_, fun s h => ?_, fun s h => ?_, fun s h => ?_, fun s h => ?_, fun s h => ?_, fun s d c h => ⟨fun hd => ?_, fun hd hc => ?_, fun q hd hc hq => ?_⟩,
    fun s cursor h => ⟨fun hc => ?_, fun hc => ?_⟩, fun s k v hv => ?_, by decide, by decide⟩
  · exact attention_cleared _ _ s
  · rw [exec_paramRead h, paramReadOp_start hs]
  · rw [exec_paramRead h, paramReadOp_count hs hc]
  · refine ⟨_, (exec_paramRead h).trans (congrArg (fun r => Host.Outcome.next (answer 0x13 r)) ((paramReadOp_shows h0 h16 hc).trans ?_)),
      shownValues_length start.toNat count.toNat s, fun k hk hlt => (shownValues_get hk s).trans ?_⟩
    · cases s.apu.storeStatus <;> rfl
    · rw [shown_eq hlt]; rfl
  · intro m leaf bolt pump data
    have hbolt : bolt = Bolt.bytes := by
      funext r
      rw [Bolt.bytes_eq]
      simp only [bolt]
      cases r.outputOn <;> rfl
    have hleaf : leaf = s.leafBytes := by
      funext l
      unfold State.leafBytes
      rw [brakeRelease_taking h]
      rfl
    have hdata : data = s.leafData := by
      show _ ++ _ = _
      rw [hbolt, hleaf]
      unfold State.leafData State.leafFields Motion.bytes Motion.whenPresent
      cases m.present <;> simp only [List.append_assoc] <;> rfl
    rw [hdata]
    exact ⟨leafData_length s, exec_leafRead h⟩
  · intro encoder angle w data
    have hdata : data = s.measureData := by
      unfold State.measureData Wind.bytes
      simp only [data, w]
      rcases s.msu.wind.band with _ | _ | _ | _ <;> simp only [List.append_assoc] <;> rfl
    rw [hdata]
    exact ⟨measureData_length s, exec_measureRead h⟩
  · intro r arm zone data
    have harm : arm = Arm.bytes := by
      funext a
      rw [Arm.bytes_eq]
      rfl
    have hzone : zone = Zone.bytes := by
      funext z
      simp only [zone]
      unfold Zone.bytes b2stop
      cases z.counted <;> rfl
    have hdata : data = s.roadData := by
      show _ ++ _ = _
      rw [harm, hzone]
      unfold State.roadData State.roadFields
      rw [flashOn_taking h, amber_taking h]
      rfl
    rw [hdata]
    exact ⟨roadData_length s, exec_roadRead h⟩
  · intro circuit health circuits healths
    have hhealth : health = Health.bytes := by
      funext x
      simp only [health]
      unfold Health.bytes
      cases x.ratio <;> rfl
    have hcircuits : circuits = s.circuitData := by
      simp only [circuits]
      rw [hnumber]
      rfl
    have hhealths : healths = s.healthData := by
      simp only [healths]
      rw [hhealth]
      rfl
    rw [hcircuits, hhealths]
    exact ⟨circuitData_length s, healthData_length s, exec_circuitRead h, exec_healthRead h⟩
  · intro turn timer data
    have hdata : data = s.channelData := by
      simp only [data]
      rw [hside]
      rfl
    rw [hdata]
    exact ⟨channelData_length s, exec_channelRead h⟩
  · intro b item data
    have hitem : item = Item.bytes := by
      funext i
      simp only [item]
      rw [hside]
      rfl
    have hdata : data = s.batchData s.psc.batch.shown := by
      unfold State.batchData
      rw [shown_waived]
      simp only [data]
      rw [hside, hitem]
      rfl
    rw [hdata]
    exact ⟨batchData_none, batchData_length _ s, exec_batchRead h⟩
  · rw [exec_queueRead h, queueReadOp_side hd]
  · rw [exec_queueRead h, queueReadOp_class hd hc]
  · intro data
    have hdata : data = s.queueData d c q := rfl
    rw [hdata]
    exact (exec_queueRead h).trans (congrArg (fun r => Host.Outcome.next (answer 0x56 r)) (queueReadOp_shows hd hc hq))
  · rw [exec_vesselRead h, vesselReadOp_range hc]
  · intro found ends data
    have hfound : found = s.scan cursor.toNat := rfl
    have hends : ends = b1 (scanEnd found).1 ++ bm (scanEnd found).2 := by
      simp only [ends]
      unfold scanEnd
      rcases found[3]? with _ | k
      · rfl
      · by_cases hk : k.val = 31
        · simp only [if_pos hk]; rfl
        · simp only [if_neg hk]; rfl
    have hdata : data = s.vesselData cursor found := by
      simp only [data]
      rw [hends]
      unfold State.vesselData
      simp only [List.append_assoc]
      rfl
    rw [hdata, hfound]
    exact (exec_vesselRead h).trans (congrArg (fun r => Host.Outcome.next (answer 0x41 r)) (vesselReadOp_shows hc))
  · intro head
    have hhead : head = v.head k := by
      simp only [head]
      rw [hside]
      rfl
    rw [hhead]
    refine ⟨fun hn => ?_, fun q i e he hs hq hi => vesselRecord_queued hv (findEntry_first he hs hq hi)⟩
    rw [vesselRecord_unqueued hv (findEntry_none hn)]
    simp only [List.append_assoc]
    rfl

end Sys2Proof.Machine
end

section
/-! PROOFS. The circuit provings (O51). -/

namespace Sys2Proof.Machine

variable {s t u : State} {d : Side} {c : Fin 16} {p : Proving}

/-! ### Provings requested and started (R189, R190) -/

/-- The PHU with a proving of a request started. -/
def State.proves (s : State) (r : ProvingRequest) : State :=
  { s with phu := { s.phu with proving := some ⟨r.circuit, r.test, s.circuitOn r.circuit, false, 0⟩ } }

theorem submitProving_starts (r : ProvingRequest) (h : s.provingFree r.circuit = true) : submitProving r s = s.proves r := if_pos h
theorem submitProving_holds (r : ProvingRequest) (h : s.provingFree r.circuit = false) (hr : r.test = true ∨ ∀ x ∈ s.phu.held, x.test = true) :
    submitProving r s = { s with phu := { s.phu with held := s.phu.held ++ [r] } } := by
  unfold submitProving
  rw [if_neg (by rw [h]; nofun), if_neg fun hn => ?_]
  · rfl
  · obtain ⟨x, hx, hxt⟩ := List.any_eq_true.mp hn.2
    rcases hr with hr | hr
    · rw [hr] at hn; cases hn.1
    · rw [hr x hx] at hxt; cases hxt
/-- A second scan request is dropped while one is held (note 19). -/
theorem submitProving_drops (r : ProvingRequest) (hr : r.test = false) {x : ProvingRequest} (hx : x ∈ s.phu.held) (hxt : x.test = false) :
    submitProving r s = s := by
  have hfree : s.provingFree r.circuit = false := by
    unfold State.provingFree
    rw [show s.phu.held.isEmpty = false from List.isEmpty_eq_false_iff.mpr (List.ne_nil_of_mem hx), Bool.and_false, Bool.false_and]
  unfold submitProving
  rw [if_neg (by rw [hfree]; nofun), if_pos ⟨hr, List.any_eq_true.mpr ⟨x, hx, by rw [hxt]; rfl⟩⟩]

/-- The PHU as the scan requests: the counter reloaded and the index advanced (R189). -/
def State.scanned (s : State) : State := { s with phu := { s.phu with counter := s.par pProvingDivisor, index := s.phu.index + 1 } }

theorem scanRequest_eq (s : State) : scanRequest s = submitProving ⟨s.phu.index, false⟩ s.scanned := rfl
theorem scanned_free (c : Fin 16) (s : State) : s.scanned.provingFree c = s.provingFree c := rfl

/-- A request leaves of the PHU but the proving and the held ones all as it is. -/
theorem submitProving_kept (r : ProvingRequest) (s : State) : ∃ p h, submitProving r s = { s with phu := { s.phu with proving := p, held := h } } := by
  unfold submitProving
  split
  · exact ⟨_, _, rfl⟩
  · split
    · exact ⟨s.phu.proving, s.phu.held, rfl⟩
    · exact ⟨s.phu.proving, _, rfl⟩

theorem heldDue_iff {r : ProvingRequest} {rest : List ProvingRequest} (h : s.phu.held = r :: rest) :
    s.heldDue = true ↔ s.phu.proving = none ∧ s.flashHold r.circuit = false := by
  unfold State.heldDue
  rw [h, Bool.and_eq_true, Option.isNone_iff_eq_none, Bool.not_eq_true']
theorem startHeld_starts {r : ProvingRequest} {rest : List ProvingRequest} (h : s.phu.held = r :: rest) (hp : s.phu.proving = none)
    (hf : s.flashHold r.circuit = false) : startHeld s = { s with phu := { s.phu with
      held := rest, proving := some ⟨r.circuit, r.test, s.circuitOn r.circuit, false, 0⟩ } } := by
  unfold startHeld
  rw [h]
  exact if_pos ((heldDue_iff h).mpr ⟨hp, hf⟩)
theorem startHeld_waits (h : s.heldDue = false) : startHeld s = s := by
  unfold startHeld
  cases hl : s.phu.held with
  | nil => rfl
  | cons r rest => exact if_neg (by rw [h]; nofun)
theorem heldDue_none (h : s.phu.held = [] ∨ s.phu.proving ≠ none) : s.heldDue = false := by
  unfold State.heldDue
  cases hl : s.phu.held with
  | nil => rfl
  | cons r rest =>
    obtain ⟨p, hp⟩ := Option.ne_none_iff_exists'.mp (h.resolve_left (by rw [hl]; nofun))
    rw [hp]; rfl
theorem startHeld_due (s : State) : when s.heldDue startHeld s = startHeld s := by
  cases h : s.heldDue
  · exact (startHeld_waits h).symm
  · rfl

theorem provingOver_eq (s : State) : s.provingOver = s.phu.proving.any (2 ≤ ·.elapsed) := by
  unfold State.provingOver
  cases s.phu.proving <;> rfl

theorem after_running (c : Instr) (hc : resets c = false) (h : s.running = true) : (s.after c).running = true := happens_running hc h true

/-- What is due of the provings in a tick, by the rows (R189, R190; notes 1 and 4). -/
theorem provingDue_eq (h : s.running = true) : provingDue s =
    (let ended : State := ({ s with phu := { s.phu with readings := s.phu.readings + 1 } } : State).after
        (.provingEnd (Config.provingReading s.phu.readings))
     let s := if s.phu.proving.any fun p => 2 ≤ p.elapsed then ended else s
     (if s.phu.counter = 1 then s.after .provingRequest
       else { s with phu := { s.phu with counter := s.phu.counter - 1 } }).after .provingStart) := by
  dsimp only
  have hended : ({ s with phu := { s.phu with readings := s.phu.readings + 1 } } : State).after (.provingEnd (Config.provingReading s.phu.readings)) =
      endDueProving s := after_run (s := { s with phu := { s.phu with readings := s.phu.readings + 1 } }) (fun _ => rfl) h
  have hrun : (endDueProving s).running = true := by
    rw [← hended]
    exact after_running (s := { s with phu := { s.phu with readings := s.phu.readings + 1 } }) _ rfl h
  have hv (v : State) (hv : v.running = true) : when (if v.phu.counter = 1 then scanRequest v
        else v.onPhu fun p => { p with counter := p.counter - 1 }).heldDue startHeld
        (if v.phu.counter = 1 then scanRequest v else v.onPhu fun p => { p with counter := p.counter - 1 }) =
      (if v.phu.counter = 1 then v.after .provingRequest
        else { v with phu := { v.phu with counter := v.phu.counter - 1 } }).after .provingStart := by
    rw [startHeld_due]
    by_cases hc : v.phu.counter = 1
    · rw [if_pos hc, if_pos hc, after_run (f := startHeld) (fun _ => rfl) (after_running .provingRequest rfl hv),
        after_run (f := scanRequest) (fun _ => rfl) hv]
    · rw [if_neg hc, if_neg hc]
      exact (after_run (f := startHeld) (fun _ => rfl) (s := { v with phu := { v.phu with counter := v.phu.counter - 1 } }) hv).symm
  rw [hended, ← provingOver_eq]
  unfold provingDue
  dsimp only
  cases s.provingOver
  · exact hv s h
  · exact hv (endDueProving s) hrun

/-! ### The result of a proving (R191, R192, R193) -/

/-- The lower limit of a driven circuit's current class, and the upper one (R188). -/
theorem limits_low (c : Fin 16) (s : State) : (s.limits c).1 = if c.val < 6 then s.par 51 else if c.val < 14 then s.par 53 else s.par 55 := by
  unfold State.limits
  split
  · rfl
  · split <;> rfl
theorem limits_high (c : Fin 16) (s : State) : (s.limits c).2 = if c.val < 6 then s.par 52 else if c.val < 14 then s.par 54 else s.par 56 := by
  unfold State.limits
  split
  · rfl
  · split <;> rfl

theorem provingResult_void {p : Proving} (h : p.voided = true) (n : Nat) : provingResult s p n = .testVoid := if_pos h
theorem provingResult_counts {p : Proving} (h : p.voided = false) (n : Nat) : provingResult s p n =
    if p.wasOn then (if n < (s.limits p.circuit).1 then .opened else if (s.limits p.circuit).2 < n then .overload else .normal)
    else if n < 2 then .opened else if 50 < n then .short else .normal := if_neg (by rw [h]; nofun)
theorem provingResult_counted {p : Proving} (h : p.voided = false) (n : Nat) :
    ¬(provingResult s p n = .testVoid ∨ provingResult s p n = .none) := by
  rw [provingResult_counts h]
  split
  · split
    · simp
    · split <;> simp
  · split
    · simp
    · split <;> simp

theorem Circuit.take_void (r : Circuit) (m : ProvingMethod) : r.take m .testVoid = { r with lastResult := .testVoid, lastMethod := m } := rfl
theorem Circuit.take_counts (r : Circuit) (m : ProvingMethod) {x : ProvingResult} (h : ¬(x = .testVoid ∨ x = .none)) : r.take m x = { r with
    lastResult := x, lastMethod := m
    failed := statusAfter r.failed r.counted (decide (x ≠ .normal))
    counted := if decide (x ≠ .normal) then .fault else .normal
    failedSinceRead := r.failedSinceRead || (statusAfter r.failed r.counted (decide (x ≠ .normal)) && !r.failed) } := if_neg h

/-- Two counted faults in a row declare a circuit FAILED, two NORMAL recovered (R192). -/
theorem statusAfter_fault (b : Bool) (k : Counted) : statusAfter b k true = (b || decide (k = .fault)) := by cases b <;> cases k <;> rfl
theorem statusAfter_normal (b : Bool) (k : Counted) : statusAfter b k false = (b && !decide (k = .normal)) := by cases b <;> cases k <;> rfl

theorem Circuit.take_record (r : Circuit) (m : ProvingMethod) (x : ProvingResult) : (r.take m x).lastMethod = m ∧ (r.take m x).lastResult = x ∧
    (r.take m x).failedSinceRead = (r.failedSinceRead || ((r.take m x).failed && !r.failed)) := by
  by_cases h : x = .testVoid ∨ x = .none
  · have e : r.take m x = { r with lastResult := x, lastMethod := m } := if_pos h
    rw [e]
    refine ⟨rfl, rfl, ?_⟩
    show r.failedSinceRead = (r.failedSinceRead || (r.failed && !r.failed))
    rw [Bool.and_not_self, Bool.or_false]
  · rw [Circuit.take_counts r m h]
    exact ⟨rfl, rfl, rfl⟩
theorem Circuit.take_fault (r : Circuit) (m : ProvingMethod) {x : ProvingResult} (h : ¬(x = .testVoid ∨ x = .none)) (hx : x ≠ .normal) :
    (r.take m x).counted = .fault ∧ (r.take m x).failed = (r.failed || decide (r.counted = .fault)) := by
  rw [Circuit.take_counts r m h, decide_eq_true hx]
  exact ⟨rfl, statusAfter_fault _ _⟩
theorem Circuit.take_normal (r : Circuit) (m : ProvingMethod) :
    (r.take m .normal).counted = .normal ∧ (r.take m .normal).failed = (r.failed && !decide (r.counted = .normal)) :=
  ⟨rfl, statusAfter_normal _ _⟩

/-! ### No proving in progress stays none (R191) -/

/-- With no proving in progress there is none after. -/
def ProvingRests (s t : State) : Prop := s.phu.proving = none → t.phu.proving = none

theorem ProvingRests.trans (h : ProvingRests s t) (k : ProvingRests t u) : ProvingRests s u := fun hs => k (h hs)
theorem ProvingRests.of_phu (h : t.phu = s.phu) : ProvingRests s t := fun hs => by rw [h]; exact hs
theorem driveCsu_rests (f : Csu → Csu) (s : State) : ProvingRests s (s.driveCsu f) := fun h => by
  unfold State.driveCsu voidSwitched
  rw [show (s.onCsu f).phu.proving = none from h]
  exact h
theorem latch_rests (c : Condition) (s : State) : ProvingRests s (latch c s) := id
theorem latchIf_rests (b : Bool) (c : Condition) (s : State) : ProvingRests s (latchIf b c s) := by
  rw [latchIf_eq]; exact id

theorem endTurn_rests (d : Side) (e : EndCause) (s : State) : ProvingRests s (endTurn d e s) :=
  (driveCsu_rests _ (endGo d e s)).trans (driveCsu_rests _
    (restartSeal ((setAspect d .stop (endGo d e s)).onCsu fun c => { c with phase := .changeover, changeover := some 0 })))

theorem signalsClosing_rests (s : State) : ProvingRests s (signalsClosing s) := by
  have h (v : State) (b : Bool) : ProvingRests v (latchIf b .batch (endPhase s.csu.result (showStop
      (v.onCsu fun c => { c with window := none, changeover := none })))) :=
    (driveCsu_rests _ (v.onCsu fun c => { c with window := none, changeover := none })).trans
      (latchIf_rests b .batch (endPhase s.csu.result (showStop (v.onCsu fun c => { c with window := none, changeover := none }))))
  unfold signalsClosing
  dsimp only
  split
  · next d _ _ => exact (driveCsu_rests _ (endGo d .closed s)).trans (h (restartSeal (soundHorn 50 (endGo d .closed s))) _)
  · exact h s _

theorem setBatchState_rests (b : BatchState) (s : State) : ProvingRests s (setBatchState b s) := by
  obtain ⟨x, hx⟩ := setBatchState_eq b s
  exact .of_phu (by rw [hx])
theorem closeBatch_rests (s : State) : ProvingRests s (closeBatch s) := setBatchState_rests .closed s

theorem turnsOver_rest (s : State) : ProvingRests s (turnsOver s) := by
  have h : ProvingRests s (signalsClosing (setBatchState .closing (returnItems s))) :=
    (ProvingRests.of_phu ((returnItems_reach s).phu_eq (by decide))).trans ((setBatchState_rests _ _).trans (signalsClosing_rests _))
  unfold turnsOver enterClosing
  generalize signalsClosing _ = v at h ⊢
  dsimp only
  split
  · split
    · exact h.trans (closeBatch_rests v)
    · exact h
  · exact id

theorem withdrawGo_rests (d : Side) (s : State) : ProvingRests s (withdrawGo d s) :=
  ((driveCsu_rests _ (endGo d .withdrawn s)).trans (driveCsu_rests _ (setAspect d .stop (endGo d .withdrawn s)))).trans
    (turnsOver_rest (latch .batch (endPhase .goWithdrawn (restartSeal (soundHorn 50 (setAspect d .stop (endGo d .withdrawn s)))))))

/-! ### A declaration is told to the block that acts on the circuit (R177, R179, R192) -/

theorem signalsCircuitFailed_idle (h : s.csu.phase ≠ .turn ∨ s.csu.current = none) : signalsCircuitFailed c s = s := by
  unfold signalsCircuitFailed
  split
  · next h1 h2 =>
    rcases h with h | h
    · exact absurd h1 h
    · rw [h] at h2; cases h2
  · rfl

/-- Circuit `c` is one of side `d`'s greens, and both are FAILED. -/
def State.greensLost (s : State) (c : Fin 16) (d : Side) : Prop :=
  (lampBase d + 2 ≤ c.val ∧ c.val ≤ lampBase d + 3) ∧ s.greensFailed d = true
/-- Circuit `c` is one of side `d`'s reds, and both are FAILED. -/
def State.redsLost (s : State) (c : Fin 16) (d : Side) : Prop :=
  (lampBase d ≤ c.val ∧ c.val ≤ lampBase d + 1) ∧ s.redsFailed d = true

theorem signalsCircuitFailed_greens (hp : s.csu.phase = .turn) (hc : s.csu.current = some d) (h : s.greensLost c d) :
    signalsCircuitFailed c s = endTurn d .greens s := by
  unfold signalsCircuitFailed
  rw [hp, hc]
  exact if_pos (by rw [decide_eq_true h.1.1, decide_eq_true h.1.2, h.2]; rfl)
theorem signalsCircuitFailed_neither (hp : s.csu.phase = .turn) (hc : s.csu.current = some d) (h : ¬s.greensLost c d) (hr : ¬s.redsLost c d.other) :
    signalsCircuitFailed c s = s := by
  unfold signalsCircuitFailed
  rw [hp, hc]
  exact (if_neg (by simpa [State.greensLost] using h)).trans (if_neg (by simpa [State.redsLost] using hr))
theorem signalsCircuitFailed_reds (hp : s.csu.phase = .turn) (hc : s.csu.current = some d) (h : s.redsLost c d.other) :
    signalsCircuitFailed c s = withdrawGo d s := by
  have hg : ¬s.greensLost c d := fun hn => by
    obtain ⟨⟨h1, h2⟩, -⟩ := h
    obtain ⟨⟨h3, h4⟩, -⟩ := hn
    cases d <;> simp only [Side.other, lampBase] at h1 h2 h3 h4 <;> omega
  unfold signalsCircuitFailed
  rw [hp, hc]
  exact (if_neg (by simpa [State.greensLost] using hg)).trans (if_pos (by rw [decide_eq_true h.1.1, decide_eq_true h.1.2, h.2]; rfl))

theorem withdrawGo_leaves (hp : s.csu.phase = .turn) (hc : s.csu.current = some d) : LeavesRaised s (withdrawGo d s) := by
  have e : leavesLeftRaised s = withdrawGo d s := by unfold leavesLeftRaised; rw [hp, hc]
  rw [← e]
  exact leavesLeftRaised_leaves s

theorem tellDeclared_signals {b : Bool} (hc : c.val ≠ 14) (h : 6 ≤ c.val ∧ b = true) (s : State) : tellDeclared c b s = signalsCircuitFailed c s :=
  (if_neg hc).trans (if_pos h)
theorem tellDeclared_untold {b : Bool} (h : c.val < 6 ∨ c.val = 15 ∨ (b = false ∧ c.val ≠ 14)) (s : State) : tellDeclared c b s = s := by
  unfold tellDeclared
  rw [if_neg (by rcases h with h | h | ⟨-, h⟩ <;> omega)]
  split
  · next hn =>
    have h15 : c.val = 15 := by
      rcases h with h | h | ⟨h, -⟩
      · omega
      · exact h
      · rw [h] at hn; cases hn.2
    unfold signalsCircuitFailed
    split
    · next d _ _ =>
      have hg : ¬s.greensLost c d := fun hn => by
        obtain ⟨⟨h1, h2⟩, -⟩ := hn
        cases d <;> simp only [lampBase] at h1 h2 <;> omega
      have hr : ¬s.redsLost c d.other := fun hn => by
        obtain ⟨⟨h1, h2⟩, -⟩ := hn
        cases d <;> simp only [Side.other, lampBase] at h1 h2 <;> omega
      exact (if_neg (by simpa [State.greensLost] using hg)).trans (if_neg (by simpa [State.redsLost] using hr))
    · rfl
  · rfl
/-- The wind as a declaration of circuit 14 leaves it, before it is judged (R131). -/
def Wind.declared (w : Wind) (failed : Bool) : Wind :=
  if failed then { w with window := [], discard := true, failed := true } else { w with failed := false }
theorem tellDeclared_wind (hc : c.val = 14) (b : Bool) (s : State) : tellDeclared c b s = judgeWind (s.msu.wind.declared b) s := by
  refine (if_pos hc).trans ?_
  cases b <;> rfl

/-- What every declaration keeps of the PHU and of the latched conditions. -/
theorem tellDeclared_kept (c : Fin 16) (b : Bool) (s : State) : { (tellDeclared c b s).phu with proving := s.phu.proving } = s.phu ∧
    ProvingRests s (tellDeclared c b s) ∧ ∀ i, s.cl.latched.getLsbD i = true → (tellDeclared c b s).cl.latched.getLsbD i = true := by
  refine ⟨?_, ?_, fun i => (tellDeclared_reach c b s).latched_stays (by decide)⟩
  · by_cases h14 : c.val = 14
    · rw [tellDeclared_wind h14, (judgeWind_reach _ s).phu_eq (by decide)]
    · unfold tellDeclared
      rw [if_neg h14]
      split
      · unfold signalsCircuitFailed
        split
        · next d _ _ =>
          dsimp only
          split
          · rw [(endTurn_only d .greens s).rest]
          · split
            · rw [(withdrawGo_only d s).rest]
            · rfl
        · rfl
      · rfl
  · by_cases h14 : c.val = 14
    · rw [tellDeclared_wind h14]
      exact .of_phu ((judgeWind_reach _ s).phu_eq (by decide))
    · unfold tellDeclared
      rw [if_neg h14]
      split
      · unfold signalsCircuitFailed
        split
        · next d _ _ =>
          dsimp only
          split
          · exact endTurn_rests d .greens s
          · split
            · exact withdrawGo_rests d s
            · exact id
        · exact id
      · exact id

/-! ### The end of a proving (R191, R192) -/

/-- The circuit's record as the proving `p` with reading `n` leaves it. -/
def State.provedCircuit (s : State) (p : Proving) (n : Nat) : Circuit := s.phu.circuits[p.circuit].take p.method (provingResult s p n)

/-- The PHU as the proving `p` ends, nothing told. -/
def State.proved (s : State) (p : Proving) (r : Circuit) : State :=
  { s with phu := { s.phu with proving := none, circuits := s.phu.circuits.set p.circuit r } }

theorem endProving_idle (n : Nat) (h : s.phu.proving = none) : endProving n s = s := by unfold endProving; rw [h]
theorem endProving_eq (n : Nat) (h : s.phu.proving = some p) : endProving n s =
    if (s.provedCircuit p n).failed = s.phu.circuits[p.circuit].failed then s.proved p (s.provedCircuit p n)
    else tellDeclared p.circuit (s.provedCircuit p n).failed (latch .circuit (s.proved p (s.provedCircuit p n))) := by
  unfold endProving; rw [h]; rfl

/-- What the end of a proving leaves of the PHU. -/
structure ProvingEnds (p : Proving) (r : Circuit) (s t : State) : Prop where
  proving : t.phu.proving = none
  circuits : t.phu.circuits = s.phu.circuits.set p.circuit r
  unit : { t.phu with proving := s.phu.proving, circuits := s.phu.circuits } = s.phu
  quiet : r.failed = s.phu.circuits[p.circuit].failed → t = s.proved p r
  told : r.failed ≠ s.phu.circuits[p.circuit].failed → t = tellDeclared p.circuit r.failed (latch .circuit (s.proved p r))
  latched : r.failed ≠ s.phu.circuits[p.circuit].failed → t.cl.latched.getLsbD 11 = true

theorem endProving_ends (n : Nat) (h : s.phu.proving = some p) : ProvingEnds p (s.provedCircuit p n) s (endProving n s) := by
  rw [endProving_eq n h]
  generalize s.provedCircuit p n = r
  by_cases hr : r.failed = s.phu.circuits[p.circuit].failed
  · rw [if_pos hr]
    exact ⟨rfl, rfl, rfl, fun _ => rfl, fun hn => absurd hr hn, fun hn => absurd hr hn⟩
  · rw [if_neg hr]
    obtain ⟨h1, h2, h3⟩ := tellDeclared_kept p.circuit r.failed (latch .circuit (s.proved p r))
    obtain ⟨t, ht⟩ : ∃ t, t = tellDeclared p.circuit r.failed (latch .circuit (s.proved p r)) := ⟨_, rfl⟩
    rw [← ht] at h1 h2 h3 ⊢
    have hbit : (latch .circuit (s.proved p r)).cl.latched.getLsbD 11 = true := by
      show (s.cl.latched ||| Condition.circuit.bit).getLsbD 11 = true
      rw [BitVec.getLsbD_or, show Condition.circuit.bit.getLsbD 11 = true from rfl, Bool.or_true]
    refine ⟨h2 rfl, ?_, ?_, fun hn => absurd hn hr, fun _ => ht, fun _ => h3 11 hbit⟩
    · exact congrArg Phu.circuits h1
    · exact congrArg (fun x : Phu => { x with proving := s.phu.proving, circuits := s.phu.circuits }) h1

theorem ProvingEnds.self {r : Circuit} (h : ProvingEnds p r s t) : t.phu.circuits[p.circuit] = r := by
  rw [h.circuits]; simp
theorem ProvingEnds.others {r : Circuit} (h : ProvingEnds p r s t) (c : Fin 16) (hc : c ≠ p.circuit) : t.phu.circuits[c] = s.phu.circuits[c] := by
  rw [h.circuits]; simp [Fin.val_inj, Ne.symm hc]

theorem greensLost_iff : s.greensLost c d ↔ (c.val = lampBase d + 2 ∨ c.val = lampBase d + 3) ∧
    s.phu.circuits[Fin.ofNat 16 (lampBase d + 2)].failed = true ∧ s.phu.circuits[Fin.ofNat 16 (lampBase d + 3)].failed = true := by
  have hf : s.greensFailed d = true ↔ s.phu.circuits[Fin.ofNat 16 (lampBase d + 2)].failed = true ∧
      s.phu.circuits[Fin.ofNat 16 (lampBase d + 3)].failed = true := by cases d <;> exact Bool.and_eq_true_iff
  unfold State.greensLost
  rw [hf]
  exact and_congr_left fun _ => by omega
theorem redsLost_iff : s.redsLost c d ↔ (c.val = lampBase d ∨ c.val = lampBase d + 1) ∧
    s.phu.circuits[Fin.ofNat 16 (lampBase d)].failed = true ∧ s.phu.circuits[Fin.ofNat 16 (lampBase d + 1)].failed = true := by
  have hf : s.redsFailed d = true ↔ s.phu.circuits[Fin.ofNat 16 (lampBase d)].failed = true ∧
      s.phu.circuits[Fin.ofNat 16 (lampBase d + 1)].failed = true := by cases d <;> exact Bool.and_eq_true_iff
  unfold State.redsLost
  rw [hf]
  exact and_congr_left fun _ => by omega

/-- Two latched conditions read as one mask. -/
theorem mask_batchCircuit {x : Half} (h9 : (x &&& 0x200) ≠ 0) (h11 : x.getLsbD 11 = true) : x &&& 0xA00 = 0xA00 := by
  have hbits : ∀ i < 16, (0xA00 : Half).getLsbD i = true → i = 9 ∨ i = 11 := by decide
  refine BitVec.eq_of_getLsbD_eq fun i hi => ?_
  rw [BitVec.getLsbD_and]
  cases hb : (0xA00 : Half).getLsbD i with
  | false => exact Bool.and_false _
  | true =>
    rcases hbits i hi hb with rfl | rfl
    · rw [((mask_iff x 9).mp h9).2]; rfl
    · rw [h11]; rfl

/-- What a scan request leaves (R189, R190; note 19). -/
structure Scans (s t : State) : Prop where
  counter : t.phu.counter = s.par pProvingDivisor
  index : t.phu.index = s.phu.index + 1
  circuits : t.phu.circuits = s.phu.circuits
  rest : { t with phu := s.phu } = s
  starts : s.provingFree s.phu.index = true → t.phu.proving = some ⟨s.phu.index, false, s.circuitOn s.phu.index, false, 0⟩
  holds : s.provingFree s.phu.index = false → (∀ h ∈ s.phu.held, h.test = true) →
    t.phu.held = s.phu.held ++ [⟨s.phu.index, false⟩] ∧ t.phu.proving = s.phu.proving
  drops : (∃ h ∈ s.phu.held, h.test = false) → t.phu.held = s.phu.held ∧ t.phu.proving = s.phu.proving

theorem scanRequest_scans (s : State) : Scans s (scanRequest s) := by
  obtain ⟨p, l, hk⟩ := submitProving_kept ⟨s.phu.index, false⟩ s.scanned
  have hfree := scanned_free s.phu.index s
  refine ⟨by rw [scanRequest_eq, hk]; rfl, by rw [scanRequest_eq, hk]; rfl, by rw [scanRequest_eq, hk]; rfl, by rw [scanRequest_eq, hk]; rfl,
    fun hf => ?_, fun hf hl => ?_, fun ⟨x, hx, hxt⟩ => ?_⟩
  · rw [scanRequest_eq, submitProving_starts (s := s.scanned) ⟨s.phu.index, false⟩ (hfree.trans hf)]; rfl
  · rw [scanRequest_eq, submitProving_holds (s := s.scanned) ⟨s.phu.index, false⟩ (hfree.trans hf) (.inr hl)]
    exact ⟨rfl, rfl⟩
  · rw [scanRequest_eq, submitProving_drops (s := s.scanned) ⟨s.phu.index, false⟩ rfl hx hxt]
    exact ⟨rfl, rfl⟩

/-- CIRCUIT-TEST of a circuit in range (R194). -/
theorem circuitTestOp_eq {b : Byte} (hb : b.toNat = c.val) (s : State) : circuitTestOp b s =
    if s.testCircuit.isSome then (s, .refused .state 0)
    else (submitProving ⟨c, true⟩ s, .accepted [b, if s.provingFree c then 1 else 2]) := by
  have hlt : b.toNat < 16 := hb ▸ c.isLt
  have hc : (⟨b.toNat, hlt⟩ : Fin 16) = c := Fin.ext hb
  have hbyte : b1 b.toNat = [b] := congrArg (fun x => [x]) (BitVec.ofNat_toNat 8 b)
  unfold circuitTestOp
  rw [dif_pos hlt]
  dsimp only
  rw [hc, hbyte]
  cases s.provingFree c <;> rfl

/-- The greens of the side in its turn lost: what the end of its turn leaves (R177, R192). -/
theorem greensLost_ends (hg : s.greensLost c d) (hp : s.csu.phase = .turn) (hc : s.csu.current = some d)
    (h : t = signalsCircuitFailed c s) (hlat : t.cl.latched.getLsbD 11 = true) :
    t.psc = s.psc ∧ t.csu.phase = .changeover ∧ t.csu.changeover = some 0 ∧
      t.csu.window = none ∧ t.csu.sealTimer = some 0 ∧ t.csu.sealed = false ∧ t.aspect d = .stop ∧
      (t.csu.sides.get d).status = .done ∧ (t.csu.sides.get d).cause = some .greens ∧
      (t.csu.sides.get d).goEnd = some s.tb.seconds ∧ (t.cl.latched &&& 0xA00) = 0xA00 := by
  obtain ⟨x, hx⟩ := endTurn_eq d .greens s
  rw [signalsCircuitFailed_greens hp hc hg, hx] at h
  have hmask : (t.cl.latched &&& 0x200) ≠ 0 := by
    rw [h]
    exact (mask_iff _ 9).mpr ⟨by decide, by simp⟩
  have hside : t.csu.sides.get d = { s.csu.sides.get d with status := .done, cause := some .greens, goEnd := some s.tb.seconds } := by
    rw [h]; exact perSide_get_self _ d _
  refine ⟨by rw [h], by rw [h], by rw [h], by rw [h], by rw [h], by rw [h], ?_, by rw [hside], by rw [hside], by rw [hside], mask_batchCircuit hmask hlat⟩
  unfold State.aspect
  rw [h]
  exact (perSide_other_self _ d _).trans (perSide_get_self _ d _)

/-- The reds against a GO lost: what the withdrawal leaves (R179, R192). -/
theorem redsLost_withdraws (hr : s.redsLost c d.other) (hp : s.csu.phase = .turn) (hc : s.csu.current = some d)
    (h : t = signalsCircuitFailed c s) (hlat : t.cl.latched.getLsbD 11 = true) :
    t.csu.phase = .ended ∧ t.csu.current = none ∧ t.csu.result = .goWithdrawn ∧
      t.csu.window = none ∧ t.csu.horn = 500 ∧ t.csu.sealTimer = some 0 ∧ t.csu.sealed = false ∧
      t.aspect d = .stop ∧ (t.csu.sides.get d).status = .done ∧
      (t.csu.sides.get d).cause = some .withdrawn ∧ (t.csu.sides.get d).goEnd = some s.tb.seconds ∧
      (t.cl.latched &&& 0xA00) = 0xA00 ∧
      t.psc.batch.state = (if s.psc.batch.state = .running then .closing else s.psc.batch.state) := by
  rw [signalsCircuitFailed_reds hp hc hr] at h
  obtain ⟨h1, h2, h3, h4, h5, h6, h7, h8, h9, h10, h11, h12⟩ := (withdrawGo_leaves hp hc).turn d hp hc
  rw [← h] at h1 h2 h3 h4 h5 h6 h7 h8 h9 h10 h11 h12
  have hside : t.csu.sides.get d = { s.csu.sides.get d with status := .done, cause := some .withdrawn, goEnd := some s.tb.seconds } := by
    rw [h5]; exact perSide_get_self _ d _
  refine ⟨h1, h2, h3, h6, h7, h8, h9, h4, by rw [hside], by rw [hside], by rw [hside], mask_batchCircuit h10 hlat, ?_⟩
  split
  · next hb => exact (h11 hb).1
  · next hb => rw [(h12 hb).1]

/-- The anemometer's circuit declared: the wind is judged, and the LMC told (R131, R132). -/
theorem windDeclared_judges (hc : c.val = 14) (b : Bool)
    (h : t = tellDeclared c b s) : JudgesWind (s.msu.wind.declared b) s t ∧ t.csu = s.csu ∧ t.psc = s.psc := by
  rw [tellDeclared_wind hc] at h
  have hr := judgeWind_reach (s.msu.wind.declared b) s
  rw [h]
  exact ⟨judgeWind_judges _ s, hr.csu_eq (by decide), hr.psc_eq (by decide)⟩

theorem declared_failed (w : Wind) (wd ws : Nat) : (w.declared true).judge wd ws =
    { w with window := [], discard := true, failed := true, known := false, band := none, pct := 40 } := rfl

/-- What the LMC is told of the wind, without the latched conditions and the PHU. -/
theorem reportWind_told (l : Link) (p : Phu) (m : Msu) (s : State) :
    (reportWind { s with cl := l, phu := p, msu := m }).lmc = (reportWind { s with msu := m }).lmc := by
  rw [reportWind_lmc, reportWind_lmc]; rfl

/-- Settles O51: requests, starts, results and declarations of the provings, and CIRCUIT-TEST. -/
theorem provingsAndTests : Obligations.ProvingsAndTests := by
  refine fun s => ⟨fun hrun => ?_, rfl, fun hrun => provingDue_eq hrun, fun hrun r rest hl hp hf => exec_run rfl hrun (startHeld_starts hl hp hf),
    fun hrun h => exec_run rfl hrun (startHeld_waits (heldDue_none h)), fun current hrun hp => exec_run rfl hrun (endProving_idle _ hp),
    fun current p hrun hp => ?_, fun b c ha hb => ⟨fun ht => ?_, fun ht hf => ?_, fun ht hf => ?_⟩⟩
  · obtain ⟨h1, h2, h3, h4, h5, h6, h7⟩ := scanRequest_scans s
    exact ⟨scanRequest s, exec_run rfl hrun rfl, h1, h2, h3, h4, h5, h6, h7⟩
  · intro c low high
    have hlow : (s.limits p.circuit).1 = low := limits_low p.circuit s
    have hhigh : (s.limits p.circuit).2 = high := limits_high p.circuit s
    have hends := endProving_ends current.toNat hp
    have hexec : exec (.provingEnd current) s = .next (endProving current.toNat s) := exec_run rfl hrun rfl
    obtain ⟨r, hr⟩ : ∃ r, r = s.provedCircuit p current.toNat := ⟨_, rfl⟩
    rw [← hr] at hends
    generalize endProving current.toNat s = t at hends hexec
    have hself := hends.self
    obtain ⟨k1, k2, k3⟩ := Circuit.take_record s.phu.circuits[p.circuit] p.method (provingResult s p current.toNat)
    change (s.provedCircuit p current.toNat).lastMethod = _ at k1
    change (s.provedCircuit p current.toNat).lastResult = _ at k2
    change (s.provedCircuit p current.toNat).failedSinceRead = (_ || ((s.provedCircuit p current.toNat).failed && _)) at k3
    rw [← hr] at k1 k2 k3
    refine ⟨t, hexec, hends.proving, by rw [hself, k1]; rfl, by rw [hself, k3], fun hv => ?_, fun hv => ?_, fun hv hn => ?_, fun hv hn => ?_,
      fun hn => ?_, hends.unit, ?_, hends.others⟩
    · have e : r = { s.phu.circuits[p.circuit] with lastResult := .testVoid, lastMethod := p.method } := by
        rw [hr]
        unfold State.provedCircuit
        rw [provingResult_void hv, Circuit.take_void]
      refine ⟨by rw [hself, e], by rw [hself, e], by rw [hself, e], ?_⟩
      rw [hends.quiet (by rw [e])]; rfl
    · rw [hself, k2, provingResult_counts hv, hlow, hhigh]
    · rw [hself, k2] at hn
      rw [hself, hr]
      exact Circuit.take_fault _ _ (provingResult_counted hv _) hn
    · rw [hself, k2] at hn
      rw [hself, hr]
      unfold State.provedCircuit
      rw [hn]
      exact Circuit.take_normal _ _
    · rw [hself] at hn
      exact (mask_iff _ 11).mpr ⟨by decide, hends.latched hn⟩
    · intro quiet told now was broken base greens reds
      have hnow : now = r.failed := congrArg Circuit.failed hself
      have hquiet : quiet = s.proved p r := by
        show ({ s with phu := { s.phu with proving := none, circuits := t.phu.circuits } } : State) = _
        rw [hends.circuits]; rfl
      have htold : told = latch .circuit (s.proved p r) := by rw [← hquiet]; rfl
      have hsame : told.csu = s.csu ∧ told.psc = s.psc ∧ told.tb = s.tb ∧ told.msu = s.msu ∧ told.lmc = s.lmc ∧ told.apu = s.apu :=
        ⟨rfl, rfl, rfl, rfl, rfl, rfl⟩
      have hreport (m : Msu) : (reportWind { told with msu := m }).lmc = (reportWind { s with msu := m }).lmc :=
        reportWind_told told.cl told.phu m s
      have hcircuits : t.phu.circuits = told.phu.circuits := by rw [htold]; exact hends.circuits
      have hgreens (d : Side) : greens d ↔ told.greensLost p.circuit d := by
        rw [greensLost_iff, ← hcircuits]; cases d <;> rfl
      have hreds (d : Side) : reds d ↔ told.redsLost p.circuit d := by
        rw [redsLost_iff, ← hcircuits]; cases d <;> rfl
      have htell (hn : now ≠ was) : t = tellDeclared p.circuit now told := by
        rw [htold, hnow]; exact hends.told (by rw [hnow] at hn; exact hn)
      have hlat (hn : now ≠ was) : t.cl.latched.getLsbD 11 = true := hends.latched (by rw [hnow] at hn; exact hn)
      have hstays (hn : now = was) : t = quiet := by rw [hquiet]; exact hends.quiet (by rw [hnow] at hn; exact hn)
      have hsignals (hn : now ≠ was) (hb : now = true) (h6 : 6 ≤ c) (h14 : c < 14) : t = signalsCircuitFailed p.circuit told :=
        (htell hn).trans (tellDeclared_signals (Nat.ne_of_lt h14) ⟨h6, hb⟩ told)
      clear_value told quiet now was
      obtain ⟨hcsu, hpsc, htb, hmsu, hlmc, hapu⟩ := hsame
      refine ⟨hstays, fun hn hc => (htell hn).trans (tellDeclared_untold hc told), fun hn hb h6 h14 =>
        ⟨fun hi => (hsignals hn hb h6 h14).trans (signalsCircuitFailed_idle (by rw [hcsu]; exact hi)), fun d hph hcur => ?_⟩, fun hn hc => ?_⟩
      · rw [← hcsu] at hph hcur
        rw [← hpsc, ← htb]
        exact ⟨fun hg hr => (hsignals hn hb h6 h14).trans (signalsCircuitFailed_neither hph hcur (mt (hgreens d).mpr hg) (mt (hreds _).mpr hr)),
          fun hg => greensLost_ends ((hgreens d).mp hg) hph hcur (hsignals hn hb h6 h14) (hlat hn),
          fun hr => redsLost_withdraws ((hreds _).mp hr) hph hcur (hsignals hn hb h6 h14) (hlat hn)⟩
      · intro old barred bars
        obtain ⟨hj, jcsu, jpsc⟩ := windDeclared_judges hc now (htell hn)
        have hw : t.msu.wind = (told.msu.wind.declared now).judge (told.par pDerateLimit) (told.par pStopLimit) := by rw [hj.msu]
        have htrun : told.running = true := by unfold State.running; rw [htb]; exact hrun
        have hbars : bars ↔ t.msu.wind.barring = true := (barring_iff _).symm
        have hbarred : barred ↔ told.msu.wind.barring = true := by rw [hmsu]; exact (barring_iff _).symm
        refine ⟨?_, fun hch => hj.latched (by rw [← hw, hmsu]; exact hch), fun hq => ?_, fun h1 h2 => ?_, jcsu.trans hcsu, jpsc.trans hpsc⟩
        · rw [hw]
          unfold State.par
          rw [hmsu, hapu]
          cases now <;> rfl
        · refine (hj.untold ?_).trans hlmc
          rw [← hw]
          rcases hq with hq | hq
          · rw [hbarred.mp hq, Bool.not_true, Bool.and_false, Bool.false_and]
          · rw [Bool.eq_false_iff.mpr (mt hbars.mpr hq), Bool.false_and, Bool.false_and]
        · refine (hj.told ?_).trans (hreport t.msu)
          rw [← hw, hbars.mp h2, Bool.eq_false_iff.mpr (mt hbarred.mpr h1), htrun]; rfl
  · rw [exec_circuitTest ha, circuitTestOp_eq hb, if_pos (isSome_iff_ne.mpr ht)]
  · rw [exec_circuitTest ha, circuitTestOp_eq hb, ht, hf, submitProving_starts ⟨c, true⟩ hf]; rfl
  · rw [exec_circuitTest ha, circuitTestOp_eq hb, ht, hf, submitProving_holds ⟨c, true⟩ hf (.inl rfl)]; rfl

end Sys2Proof.Machine
end

section
/-! PROOFS. JOIN: the vessel's place in its queue and in the call list, the vessel learned or displaced for it, and what the LMC makes of an extension (O44). -/

namespace Sys2Proof.Machine

variable {s t u : State} {k j : Fin 32} {d : Side} {c : Fin 4} {air : Option Nat} {identity : Word}

/-! ### The LMC takes an extension (R119) -/

/-- The leaf states and the motion record in which an extension moves the target (R119). -/
def State.extensible (s : State) : Prop := (s.lmc.leaf = .unlocking ∨ s.lmc.leaf = .raising ∨ s.lmc.leaf = .halted) ∧
  s.lmc.motion.present = true ∧ s.lmc.motion.source = .batch ∧ s.lmc.motion.direction = .raise

theorem reportExtension_ignored (angle : Nat) (h : ¬s.extensible) : reportExtension angle s = s := if_neg h
theorem reportExtension_taken (angle : Nat) (h : s.extensible) : reportExtension angle s = s.onMotion fun m =>
    { m with
      target := min angle m.tf
      leaves := ⟨m.leaves.north.extend { m with target := min angle m.tf } (s.lost .north) (s.angle .north),
        m.leaves.south.extend { m with target := min angle m.tf } (s.lost .south) (s.angle .south)⟩ } := if_pos h

/-- Nothing but the LMC takes an extension. -/
theorem reportExtension_eq (angle : Nat) (s : State) : reportExtension angle s = { s with lmc := (reportExtension angle s).lmc } := by
  unfold reportExtension; split <;> rfl
/-- What the LMC makes of an extension follows from its own record and the angles. -/
theorem reportExtension_congr (angle : Nat) (hl : t.lmc = s.lmc) (hm : t.msu = s.msu) :
    (reportExtension angle t).lmc = (reportExtension angle s).lmc := by
  have he : t.extensible ↔ s.extensible := by unfold State.extensible; rw [hl]
  by_cases h : s.extensible
  · rw [reportExtension_taken angle h, reportExtension_taken angle (he.mpr h)]
    simp only [State.onMotion, State.onLmc, State.lost, State.angle, hl, hm]
  · rw [reportExtension_ignored angle h, reportExtension_ignored angle (mt he.mp h), hl]

/-- A leaf of an extended motion, from the LOST test of R127 on. -/
theorem extend_moves {x : LeafDrive} {m : Motion} {lost : Bool} {θ : Int}
    (h : x.arrived = true ∧ lost = false ∧ m.w < ((m.target : Int) - θ).natAbs ∧ θ < (m.target : Int)) :
    x.extend m lost θ = { x with arrived := false, vPrev := 0 } :=
  if_pos ⟨h.2.1, h.1, h.2.2⟩
theorem extend_stays {x : LeafDrive} {m : Motion} {lost : Bool} {θ : Int}
    (h : ¬(x.arrived = true ∧ lost = false ∧ m.w < ((m.target : Int) - θ).natAbs ∧ θ < (m.target : Int))) :
    x.extend m lost θ = x :=
  if_neg fun ⟨h1, h2, h3⟩ => h ⟨h2, h1, h3⟩

/-- Each leaf of a motion whose extension is taken. -/
theorem extension_leaf (angle : Nat) (h : s.extensible) (l : Leaf) : (reportExtension angle s).lmc.motion.leaves.get l =
    (s.lmc.motion.leaves.get l).extend { s.lmc.motion with target := min angle s.lmc.motion.tf } (s.lost l) (s.angle l) := by
  rw [reportExtension_taken angle h]; cases l <;> rfl

theorem lost_false_iff (l : Leaf) : s.lost l = false ↔ (s.msu.angles.get l).source ≠ .lost := decide_eq_false_iff_not

/-! ### A vessel takes its place in its queue (R155) -/

/-- A vessel's record as it joins. -/
def Vessel.joins (v : Vessel) (d : Side) (air : Option Nat) (life : Nat) : Vessel :=
  { v with state := .waiting, life := life, side := d, air := air <|> v.air }

/-- The entry of a joining vessel. -/
def State.joinEntry (s : State) (k : Fin 32) : QueueEntry := ⟨k, nextJoin s.psc.joinSeq, s.tb.seconds, false⟩

theorem appendJoin_eq (k : Fin 32) (d : Side) (c : Fin 4) (air : Option Nat) (s : State) : appendJoin k d c air s = { s with
    vt := { s.vt with slots := (appendJoin k d c air s).vt.slots }
    psc := { s.psc with
      joinSeq := nextJoin s.psc.joinSeq
      queues := s.psc.queues.set (queueOf d c) (s.queue (queueOf d c) ++ [s.joinEntry k]) } } := by
  unfold appendJoin
  exact onVessel_eq k _ _

theorem vessel_appendJoin (k j : Fin 32) (d : Side) (c : Fin 4) (air : Option Nat) (s : State) :
    (appendJoin k d c air s).vessel j = if j = k then (s.vessel j).map (·.joins d air s.lifetime) else s.vessel j :=
  vessel_onVessel k j _ _

theorem entries_appendJoin (k : Fin 32) (d : Side) (c : Fin 4) (air : Option Nat) (s : State) (q : Fin 8) :
    (appendJoin k d c air s).queue q = if q = queueOf d c then s.queue q ++ [s.joinEntry k] else s.queue q := by
  rw [appendJoin_eq]
  by_cases h : q = queueOf d c
  · subst h; simp [State.queue]
  · simp [State.queue, Fin.val_inj, h, Ne.symm h]

theorem contribution_appendJoin (k : Fin 32) (d : Side) (c : Fin 4) (air a : Option Nat) (tf : Nat) (s : State) :
    (appendJoin k d c air s).contribution tf a = s.contribution tf a := by
  rw [appendJoin_eq]
  generalize (appendJoin k d c air s).vt.slots = v
  rfl

/-! ### The place of a new item (R165) -/

/-- An item of class 0 of a side. -/
def Item.first (d : Side) (i : Item) : Bool := decide (i.side = d) && decide (i.cls = 0)

theorem first_iff {i : Item} : i.first d = true ↔ i.side = d ∧ i.cls = 0 := by
  unfold Item.first; rw [Bool.and_eq_true, decide_eq_true_iff, decide_eq_true_iff]

/-- What the last entry of a filtered, numbered list says: its place, and that none behind it passes. -/
theorem lastPassing {p : Item → Bool} {l : List Item} {x : Item × Nat}
    (h : (l.zipIdx.filter fun y => p y.1).getLast? = some x) : l[x.2]? = some x.1 ∧ p x.1 = true ∧ ∀ i ∈ l.drop (x.2 + 1), p i = false := by
  obtain ⟨m, hm⟩ := List.getLast?_eq_some_iff.mp h
  have hx : x ∈ l.zipIdx.filter fun y => p y.1 := by rw [hm]; simp
  obtain ⟨hmem, hp⟩ := List.mem_filter.mp hx
  refine ⟨List.mem_zipIdx_iff_getElem?.mp hmem, hp, fun i hi => ?_⟩
  obtain ⟨n, hn⟩ := List.mem_iff_getElem?.mp hi
  rw [List.getElem?_drop] at hn
  by_contra hpi
  have hlater : (i, x.2 + 1 + n) ∈ l.zipIdx.filter fun y => p y.1 :=
    List.mem_filter.mpr ⟨List.mem_zipIdx_iff_getElem?.mpr hn, by simpa using hpi⟩
  have hord : (l.zipIdx.filter fun y => p y.1).Pairwise fun a b => a.2 < b.2 :=
    List.Pairwise.filter _ (by
      have := List.pairwise_lt_range' (s := 0) (n := l.length)
      rw [← List.zipIdx_map_snd 0 l, List.pairwise_map] at this
      exact this)
  rw [hm] at hord hlater
  rcases List.mem_append.mp hlater with hin | hin
  · have := (List.pairwise_append.mp hord).2.2 _ hin x (by simp)
    simp at this; omega
  · rw [List.mem_singleton] at hin
    have := congrArg Prod.snd hin
    simp at this; omega

/-- The places of R165: behind the side's last class-0 item; else at the head of its group; else, with no item of its
side, at the head for the leading side and at the end for the other. -/
theorem itemPlace_after {lead : Option Side} {l : List Item} (h : ∃ i ∈ l, i.side = d ∧ i.cls = 0) :
    (∃ i, (l.take (itemPlace lead d l)).getLast? = some i ∧ i.side = d ∧ i.cls = 0) ∧
      ∀ i ∈ l.drop (itemPlace lead d l), ¬(i.side = d ∧ i.cls = 0) := by
  obtain ⟨i, hi, hfirst⟩ := h
  obtain ⟨n, hn⟩ := List.mem_iff_getElem?.mp hi
  have hin : (i, n) ∈ l.zipIdx.filter fun y => y.1.first d :=
    List.mem_filter.mpr ⟨List.mem_zipIdx_iff_getElem?.mpr hn, first_iff.mpr hfirst⟩
  cases hx : (l.zipIdx.filter fun y => y.1.first d).getLast? with
  | none => rw [List.getLast?_eq_none_iff.mp hx] at hin; simp at hin
  | some x =>
    obtain ⟨hget, hp, hafter⟩ := lastPassing hx
    have hplace : itemPlace lead d l = x.2 + 1 := by
      unfold itemPlace
      change (l.zipIdx.filter fun p => decide (p.1.side = d) && decide (p.1.cls = 0)).getLast? = some x at hx
      simp only [hx]
    rw [hplace]
    refine ⟨⟨x.1, ?_, first_iff.mp hp⟩, fun i hi hf => ?_⟩
    · obtain ⟨hlt, -⟩ := List.getElem?_eq_some_iff.mp hget
      rw [List.getLast?_take, if_neg (by omega), Nat.add_sub_cancel, hget]; rfl
    · have := hafter i hi
      rw [first_iff.mpr hf] at this; cases this

theorem itemPlace_none {lead : Option Side} {l : List Item} (h : ∀ i ∈ l, ¬(i.side = d ∧ i.cls = 0)) :
    itemPlace lead d l = (l.findIdx? fun i => decide (i.side = d)).getD (if lead = some d then 0 else l.length) := by
  have hnone : (l.zipIdx.filter fun y => y.1.first d) = [] := by
    refine List.filter_eq_nil_iff.mpr fun x hx hp => ?_
    exact h x.1 (List.mem_iff_getElem?.mpr ⟨x.2, List.mem_zipIdx_iff_getElem?.mp hx⟩) (first_iff.mp hp)
  unfold itemPlace
  change (l.zipIdx.filter fun p => decide (p.1.side = d) && decide (p.1.cls = 0)) = [] at hnone
  simp only [hnone, List.getLast?_nil]
  cases l.findIdx? (fun i => decide (i.side = d)) <;> rfl

theorem itemPlace_head {lead : Option Side} {l : List Item} (h : ∀ i ∈ l, ¬(i.side = d ∧ i.cls = 0)) (hs : ∃ i ∈ l, i.side = d) :
    (∀ i ∈ l.take (itemPlace lead d l), i.side ≠ d) ∧ ∃ i, (l.drop (itemPlace lead d l)).head? = some i ∧ i.side = d := by
  cases hx : l.findIdx? (fun i => decide (i.side = d)) with
  | none =>
    obtain ⟨i, hi, hd⟩ := hs
    exact absurd (List.findIdx?_eq_none_iff.mp hx i hi) (by simp [hd])
  | some n =>
    obtain ⟨hlt, hp, hbefore⟩ := List.findIdx?_eq_some_iff_getElem.mp hx
    rw [itemPlace_none h, hx, Option.getD_some]
    refine ⟨fun i hi hd => ?_, l[n], ?_, of_decide_eq_true hp⟩
    · obtain ⟨m, hm, rfl⟩ := List.mem_take_iff_getElem.mp hi
      exact hbefore m (by omega) (decide_eq_true hd)
    · rw [List.head?_drop, List.getElem?_eq_getElem hlt]

theorem itemPlace_alone {lead : Option Side} {l : List Item} (h : ∀ i ∈ l, i.side ≠ d) :
    if lead = some d then l.take (itemPlace lead d l) = [] else l.drop (itemPlace lead d l) = [] := by
  have hx : l.findIdx? (fun i => decide (i.side = d)) = none :=
    List.findIdx?_eq_none_iff.mpr fun i hi => decide_eq_false (h i hi)
  rw [itemPlace_none fun i hi hf => h i hi hf.1, hx]
  by_cases hl : lead = some d
  · simp [hl]
  · simp [hl]

/-! ### The batch is extended (R165) -/

/-- The air draught of slot `k`. -/
def State.airAt (s : State) (k : Fin 32) : Option Nat := (s.vessel k).bind (·.air)

/-- The item of a vessel by which the batch is extended. -/
def State.newItem (s : State) (k : Fin 32) (d : Side) : Item :=
  ⟨k, s.identityAt k, d, 0, s.contribution s.psc.batch.tf (s.airAt k), .called⟩

/-- The batch with a new item. -/
def State.batchWith (s : State) (i : Item) : Batch := { s.psc.batch with
  items := insertAt (itemPlace s.psc.batch.leading i.side s.psc.batch.items) i s.psc.batch.items
  angle := max s.psc.batch.angle i.contribution, tideWasStale := s.tideStaleNow, tableWasInvalid := !s.clearanceValid
  extensions := s.psc.batch.extensions + 1, remaining := s.psc.batch.remaining + 1 }

/-- The batch extended, before the LMC and the CSU take it. -/
def extensionTaken (k : Fin 32) (d : Side) (s : State) : State :=
  latch .batch ((latchIf (!s.clearanceValid) .parameter (setVesselState k .called (markCalled k true s))).onBatch
    fun _ => s.batchWith (s.newItem k d))

theorem extensionTaken_eq (k : Fin 32) (d : Side) (s : State) : extensionTaken k d s = { s with
    cl := { s.cl with latched := (if !s.clearanceValid then s.cl.latched ||| Condition.parameter.bit else s.cl.latched) ||| Condition.batch.bit }
    vt := { s.vt with slots := (setVesselState k .called (markCalled k true s)).vt.slots }
    psc := { s.psc with queues := (markCalled k true s).psc.queues, batch := s.batchWith (s.newItem k d) } } := by
  unfold extensionTaken
  rw [latchIf_eq, setVesselState_eq]
  rfl

theorem extendBatch_eq (k : Fin 32) (d : Side) (s : State) : extendBatch k d s =
    reviewItems (if s.psc.batch.angle < (s.newItem k d).contribution
      then reportExtension (s.batchWith (s.newItem k d)).angle (extensionTaken k d s) else extensionTaken k d s) := by
  have hb : (setVesselState k .called (markCalled k true s)).psc.batch = s.psc.batch := by rw [setVesselState_psc]; rfl
  have hair : (match s.vessel k with | some v => v.air | none => none) = s.airAt k := by
    unfold State.airAt; cases s.vessel k <;> rfl
  have hw : extensionTaken k d s = latch .batch ((latchIf (!s.clearanceValid) .parameter
      (setVesselState k .called (markCalled k true s))).onBatch fun b => { b with
        items := insertAt (itemPlace b.leading d b.items) (s.newItem k d) b.items
        angle := (s.batchWith (s.newItem k d)).angle, tideWasStale := s.tideStaleNow, tableWasInvalid := !s.clearanceValid
        extensions := b.extensions + 1, remaining := b.remaining + 1 }) := by
    unfold extensionTaken
    rw [latchIf_eq]
    unfold State.onBatch State.onPsc State.batchWith
    dsimp only
    rw [hb]
    rfl
  rw [hw]
  unfold extendBatch State.newItem
  rw [← hair]
  rfl

/-- What an extension of the batch leaves (R165, R119, R175). -/
structure ExtendsBatch (k : Fin 32) (d : Side) (s t : State) : Prop where
  vessel : ∀ j, t.vessel j = if j = k then (s.vessel j).map (fun v => { v with state := .called }) else s.vessel j
  psc : t.psc = { s.psc with queues := (markCalled k true s).psc.queues, batch := s.batchWith (s.newItem k d) }
  lmc : t.lmc = if s.psc.batch.angle < (s.newItem k d).contribution
    then (reportExtension (s.batchWith (s.newItem k d)).angle s).lmc else s.lmc
  latched : ∀ i, s.cl.latched.getLsbD i = true → t.cl.latched.getLsbD i = true
  batchLatched : (t.cl.latched &&& 0x200) ≠ 0
  tableLatched : s.clearanceValid = false → (t.cl.latched &&& 0x4000) ≠ 0
  aspect : s.csu.phase = .idle → s.psc.batch.state = .formed → t.aspect d = .standby

theorem extendBatch_extends (k : Fin 32) (d : Side) (s : State) : ExtendsBatch k d s (extendBatch k d s) := by
  obtain ⟨w, hw⟩ : ∃ w, w = extensionTaken k d s := ⟨_, rfl⟩
  obtain ⟨y, hy⟩ : ∃ y, y = if s.psc.batch.angle < (s.newItem k d).contribution
    then reportExtension (s.batchWith (s.newItem k d)).angle w else w := ⟨_, rfl⟩
  have hweq := extensionTaken_eq k d s
  rw [← hw] at hweq
  have hwvt (j : Fin 32) : w.vessel j = (setVesselState k .called (markCalled k true s)).vessel j := by rw [hweq]; rfl
  have hyw : y = { w with lmc := y.lmc } := by
    rw [hy]; split
    · exact reportExtension_eq _ w
    · rfl
  have hlmc : y.lmc = if s.psc.batch.angle < (s.newItem k d).contribution
      then (reportExtension (s.batchWith (s.newItem k d)).angle s).lmc else s.lmc := by
    have hwl : w.lmc = s.lmc := by rw [hweq]
    have hwm : w.msu = s.msu := by rw [hweq]
    rw [hy]; split
    · exact reportExtension_congr _ hwl hwm
    · exact hwl
  have hpsc : y.psc = { s.psc with queues := (markCalled k true s).psc.queues, batch := s.batchWith (s.newItem k d) } := by
    rw [hyw, hweq]
  have hcl : y.cl.latched = (if !s.clearanceValid then s.cl.latched ||| Condition.parameter.bit else s.cl.latched) |||
      Condition.batch.bit := by rw [hyw, hweq]
  have hvt : y.vt = w.vt := by rw [hyw]
  have hcsu : y.csu = s.csu := by rw [hyw, hweq]
  have e := extendBatch_eq k d s
  rw [← hw, ← hy] at e
  have honly := reviewItems_only y
  have hkeeps (i : Nat) (hi : s.cl.latched.getLsbD i = true) : y.cl.latched.getLsbD i = true := by
    rw [hcl]; split <;> simp [hi]
  refine ⟨fun j => ?_, ?_, ?_, fun i hi => ?_, ?_, fun hc => ?_, fun hp hf => ?_⟩ <;> rw [e]
  · refine Eq.trans ?_ ((hwvt j).trans (vessel_setVesselState k j .called _))
    unfold State.vessel; rw [reviewItems_vt, hvt]
  · rw [reviewItems_psc, hpsc]
  · rw [honly.lmc, hlmc]
  · exact honly.latched i (hkeeps i hi)
  · refine honly.mask (i := 9) ((mask_iff _ 9).mpr ⟨by decide, ?_⟩)
    rw [hcl]; simp [Condition.bit, Condition.number]
  · refine honly.mask (i := 14) ((mask_iff _ 14).mpr ⟨by decide, ?_⟩)
    rw [hcl, hc]; simp [Condition.bit, Condition.number]
  · have hleft : y.calledLeft d = true := by
      unfold State.calledLeft
      rw [hpsc]
      exact List.any_eq_true.mpr ⟨s.newItem k d, by simp [State.batchWith, insertAt], by simp [State.newItem]⟩
    unfold State.aspect
    rw [reviewItems_csu, itemsReviewed_idle (by rw [hcsu]; exact hp) (by rw [hpsc]; exact hf)]
    cases d <;> exact if_pos hleft

/-! ### A join that passes the tests (R155, R165) -/

/-- The state after a join that passes the tests of R153 and R154. -/
def joined (k : Fin 32) (d : Side) (c : Fin 4) (air : Option Nat) (s : State) : State :=
  if s.canExtend c then extendBatch k d (appendJoin k d c air s) else appendJoin k d c air s

/-- The reply after how the vessel was learned and whom it displaced. -/
def joinTail (k : Fin 32) (d : Side) (c : Fin 4) (air : Option Nat) (s : State) : List Byte :=
  bm (s.canExtend c) ++ (joined k d c air s).vesselRecord k

theorem psc_appendJoin (k : Fin 32) (d : Side) (c : Fin 4) (air : Option Nat) (s : State) : (appendJoin k d c air s).psc =
    { s.psc with joinSeq := nextJoin s.psc.joinSeq, queues := (appendJoin k d c air s).psc.queues } := by
  rw [appendJoin_eq]

theorem canExtend_appendJoin (k : Fin 32) (d : Side) (c x : Fin 4) (air : Option Nat) (s : State) :
    (appendJoin k d c air s).canExtend x = s.canExtend x := by
  unfold State.canExtend; rw [psc_appendJoin]

theorem completeJoin_eq (k : Fin 32) (d : Side) (c : Fin 4) (air : Option Nat) (how : Learned) (old : Word) (s : State) :
    completeJoin k d c air how old s =
      (joined k d c air s, .done (b1 how.code ++ be32 how.oldIdentity ++ be32 old ++ joinTail k d c air s)) := by
  unfold completeJoin joinTail joined
  simp only [canExtend_appendJoin, List.append_assoc]

theorem joined_extends (h : s.canExtend c = true) : ExtendsBatch k d (appendJoin k d c air s) (joined k d c air s) := by
  unfold joined; rw [if_pos h]; exact extendBatch_extends k d _
theorem joined_waits (h : s.canExtend c = false) : joined k d c air s = appendJoin k d c air s :=
  if_neg (by rw [h]; nofun)

/-- The mark of an entry as an extension leaves it. -/
def QueueEntry.marked (k : Fin 32) (extends0 : Bool) (e : QueueEntry) : QueueEntry :=
  if extends0 = true ∧ e.slot = k then { e with called := true } else e

theorem marked_slot (b : Bool) (e : QueueEntry) : (e.marked k b).slot = e.slot := by
  unfold QueueEntry.marked; split <;> rfl
theorem map_marked_of_absent {b : Bool} {l : List QueueEntry} (h : ∀ e ∈ l, e.slot ≠ k) : l.map (·.marked k b) = l :=
  (List.map_congr_left fun e he => if_neg fun hk => h e he hk.2).trans (List.map_id l)

/-- What every join leaves (R155). -/
structure JoinsQueue (k : Fin 32) (d : Side) (c : Fin 4) (air : Option Nat) (s t : State) : Prop where
  vessel : ∀ j, t.vessel j = if j = k then
    (s.vessel j).map (fun v => { v.joins d air s.lifetime with state := if s.canExtend c then .called else .waiting }) else s.vessel j
  queue : ∀ q, t.queue q = (if q = queueOf d c then s.queue q ++ [s.joinEntry k] else s.queue q).map (·.marked k (s.canExtend c))
  joinSeq : t.psc.joinSeq = nextJoin s.psc.joinSeq
  displaced : t.psc.displaced = s.psc.displaced
  latched : ∀ i, s.cl.latched.getLsbD i = true → t.cl.latched.getLsbD i = true

theorem joined_joins (k : Fin 32) (d : Side) (c : Fin 4) (air : Option Nat) (s : State) : JoinsQueue k d c air s (joined k d c air s) := by
  have hcl : (appendJoin k d c air s).cl = s.cl := by rw [appendJoin_eq]
  cases hx : s.canExtend c with
  | false =>
    rw [joined_waits hx]
    refine ⟨fun j => ?_, fun q => ?_, by rw [psc_appendJoin], by rw [psc_appendJoin], fun i hi => by rw [hcl]; exact hi⟩
    · rw [vessel_appendJoin, hx]; rfl
    · rw [entries_appendJoin, hx]
      exact ((List.map_congr_left fun e _ => if_neg fun hk => nomatch hk.1).trans (List.map_id _)).symm
  | true =>
    have h := joined_extends (k := k) (d := d) (air := air) hx
    refine ⟨fun j => ?_, fun q => ?_, ?_, ?_, fun i hi => h.latched i (by rw [hcl]; exact hi)⟩
    · rw [h.vessel, vessel_appendJoin, hx]
      by_cases hj : j = k
      · rw [if_pos hj, if_pos hj, if_pos hj, Option.map_map]; rfl
      · rw [if_neg hj, if_neg hj, if_neg hj]
    · rw [← entries_appendJoin, hx]
      have : (joined k d c air s).queue q = (markCalled k true (appendJoin k d c air s)).queue q := by
        unfold State.queue; rw [h.psc]
      rw [this, queue_markCalled]
      exact List.map_congr_left fun e _ => by unfold QueueEntry.marked; simp
    · rw [h.psc, psc_appendJoin]
    · rw [h.psc, psc_appendJoin]

/-- The item by which a join extends the batch. -/
theorem newItem_appendJoin {v : Vessel} (hv : s.vessel k = some v) (d : Side) (c : Fin 4) (air : Option Nat) :
    (appendJoin k d c air s).newItem k d =
      ⟨k, v.identity, d, 0, s.contribution s.psc.batch.tf (air <|> v.air), .called⟩ := by
  have h : (appendJoin k d c air s).vessel k = some (v.joins d air s.lifetime) := by rw [vessel_appendJoin, if_pos rfl, hv]; rfl
  unfold State.newItem State.identityAt State.airAt
  rw [contribution_appendJoin, h, psc_appendJoin]
  rfl
theorem batchWith_appendJoin (k : Fin 32) (d : Side) (c : Fin 4) (air : Option Nat) (i : Item) (s : State) :
    (appendJoin k d c air s).batchWith i = s.batchWith i := by
  rw [appendJoin_eq]
  generalize (appendJoin k d c air s).vt.slots = v
  rfl

theorem clearanceValid_appendJoin (k : Fin 32) (d : Side) (c : Fin 4) (air : Option Nat) (s : State) :
    (appendJoin k d c air s).clearanceValid = s.clearanceValid := by
  rw [appendJoin_eq]; rfl

/-- The air draught as a join reports it. -/
theorem air_given (a : Half) (old : Option Nat) : (airGiven a <|> old) = if a = 0 then old else some (min 999 a.toNat) := by
  by_cases h : a = 0
  · rw [h, airGiven_zero, if_pos rfl]; rfl
  · rw [airGiven_some h, if_neg h]; rfl

/-! ### JOIN of a vessel of the table (R153) -/

section
variable {side cls : Byte} {a : Half}

theorem joinOp_known (h0 : identity ≠ 0) (h1 : side.toNat ≤ 1) (hc : cls.toNat = c.val) (hf : s.findVessel identity = some k) :
    joinOp identity side cls a s = queueJoin k (sideOf side) c (airGiven a) .known s := by
  have hlt : cls.toNat < 4 := hc ▸ c.isLt
  unfold joinOp
  rw [if_neg h0, if_neg (by omega), dif_pos hlt, hf, show (⟨cls.toNat, hlt⟩ : Fin 4) = c from Fin.ext hc]
theorem joinOp_learns {how : Learned} (h0 : identity ≠ 0) (h1 : side.toNat ≤ 1) (hc : cls.toNat = c.val) (hf : s.findVessel identity = none)
    (hl : learnVessel identity (sideOf side) (airGiven a) s = some (t, k, how)) :
    joinOp identity side cls a s = queueJoin k (sideOf side) c (airGiven a) how t := by
  have hlt : cls.toNat < 4 := hc ▸ c.isLt
  unfold joinOp
  rw [if_neg h0, if_neg (by omega), dif_pos hlt, hf]
  simp only [hl, show (⟨cls.toNat, hlt⟩ : Fin 4) = c from Fin.ext hc]
theorem joinOp_full (h0 : identity ≠ 0) (h1 : side.toNat ≤ 1) (hc : cls.toNat = c.val) (hf : s.findVessel identity = none)
    (hl : learnVessel identity (sideOf side) (airGiven a) s = none) : joinOp identity side cls a s = (s, .refused .tableFull 0) := by
  unfold joinOp
  rw [if_neg h0, if_neg (by omega), dif_pos (hc ▸ c.isLt), hf]
  simp only [hl]

end

/-- A vessel that neither waits nor is called joins a queue and a pool with room (R155). -/
theorem queueJoin_room {v : Vessel} (hv : s.vessel k = some v) (hs : v.state = .sighted ∨ v.state = .passed)
    (hq : (s.queue (queueOf d c)).length < 8) (hp : s.pool < 24) (air : Option Nat) (how : Learned) :
    queueJoin k d c air how s = completeJoin k d c air how 0 s := by
  rw [queueJoin_free (fun x hx => by rw [hv] at hx; cases hx; rcases hs with e | e <;> simp [e]), if_neg (by omega), if_neg (by omega)]
theorem queueJoin_queueFull {v : Vessel} (hv : s.vessel k = some v) (hs : v.state = .sighted ∨ v.state = .passed)
    (hq : 8 ≤ (s.queue (queueOf d c)).length) (air : Option Nat) (how : Learned) :
    queueJoin k d c air how s = (s.onPsc fun p => { p with refused := bump p.refused }, .refused .queueFull 0) := by
  rw [queueJoin_free (fun x hx => by rw [hv] at hx; cases hx; rcases hs with e | e <;> simp [e]), if_pos hq]

/-! ### What a join with room leaves (R155, R165) -/

theorem joinTail_eq (k : Fin 32) (d : Side) (c : Fin 4) (air : Option Nat) (s : State) : joinTail k d c air s =
    (if c = 0 ∧ s.psc.batch.state = .formed ∧ s.psc.batch.items.length < s.psc.batch.size then 1 else 0) ::
      (joined k d c air s).vesselRecord k := by
  unfold joinTail; rw [bm_iff canExtend_iff]; rfl

/-- No entry moves in a queue the vessel does not join. -/
theorem JoinsQueue.slots (h : JoinsQueue k d c air s t) {r : Fin 8} (hr : r ≠ queueOf d c) :
    (t.queue r).map (·.slot) = (s.queue r).map (·.slot) := by
  rw [h.queue, if_neg hr, List.map_map]
  exact List.map_congr_left fun e _ => marked_slot _ e

theorem JoinsQueue.other (h : JoinsQueue k d c air s t) {r : Fin 8} (hr : r ≠ queueOf d c) (hk : ∀ e ∈ s.queue r, e.slot ≠ k) :
    t.queue r = s.queue r := by
  rw [h.queue, if_neg hr, map_marked_of_absent hk]

theorem JoinsQueue.own (h : JoinsQueue k d c air s t) (hk : ∀ e ∈ s.queue (queueOf d c), e.slot ≠ k) :
    t.queue (queueOf d c) = s.queue (queueOf d c) ++ [⟨k, nextJoin s.psc.joinSeq, s.tb.seconds, s.canExtend c⟩] := by
  rw [h.queue, if_pos rfl, List.map_append, map_marked_of_absent hk]
  cases s.canExtend c <;> simp [QueueEntry.marked, State.joinEntry]

theorem JoinsQueue.joiner {v : Vessel} (h : JoinsQueue k d c air s t) (hv : s.vessel k = some v) : t.vessel k =
    some { v.joins d air s.lifetime with state := if s.canExtend c then .called else .waiting } := by
  rw [h.vessel, if_pos rfl, hv]; rfl

/-- The extended batch, its new item in its place. -/
theorem joined_batch {v : Vessel} (hx : s.canExtend c = true) (hv : s.vessel k = some v) :
    (joined k d c air s).psc.batch = s.batchWith ⟨k, v.identity, d, 0, s.contribution s.psc.batch.tf (air <|> v.air), .called⟩ := by
  rw [(joined_extends hx).psc, newItem_appendJoin hv, batchWith_appendJoin]

theorem joined_lmc {v : Vessel} (hx : s.canExtend c = true) (hv : s.vessel k = some v) : (joined k d c air s).lmc =
    if s.psc.batch.angle < (joined k d c air s).psc.batch.angle
      then (reportExtension (joined k d c air s).psc.batch.angle s).lmc else s.lmc := by
  have hlmc : (appendJoin k d c air s).lmc = s.lmc := by rw [appendJoin_eq]
  have hmsu : (appendJoin k d c air s).msu = s.msu := by rw [appendJoin_eq]
  have hpsc : (appendJoin k d c air s).psc.batch = s.psc.batch := by rw [psc_appendJoin]
  have e := (joined_extends (k := k) (d := d) (air := air) hx).lmc
  rw [reportExtension_congr _ hlmc hmsu, hlmc, batchWith_appendJoin, hpsc, newItem_appendJoin hv] at e
  rw [e, joined_batch hx hv]
  exact if_congr (by show _ ↔ _ < max _ _; omega) rfl rfl

/-- The places of a new item, the items before and behind it told apart. -/
theorem newItem_place (lead : Option Side) (d : Side) (l : List Item) : ∃ pre post, l = pre ++ post ∧
    (∀ i, insertAt (itemPlace lead d l) i l = pre ++ i :: post) ∧
    ((∃ i ∈ l, i.side = d ∧ i.cls = 0) →
      (∃ i, pre.getLast? = some i ∧ i.side = d ∧ i.cls = 0) ∧ (∀ i ∈ post, ¬(i.side = d ∧ i.cls = 0))) ∧
    ((∀ i ∈ l, ¬(i.side = d ∧ i.cls = 0)) → (∃ i ∈ l, i.side = d) →
      (∀ i ∈ pre, i.side ≠ d) ∧ (∃ i, post.head? = some i ∧ i.side = d)) ∧
    ((∀ i ∈ l, i.side ≠ d) → if lead = some d then pre = [] else post = []) :=
  ⟨l.take (itemPlace lead d l), l.drop (itemPlace lead d l), (List.take_append_drop _ l).symm, fun _ => rfl,
    itemPlace_after, itemPlace_head, itemPlace_alone⟩

/-! ### JOIN of a vessel learned first (R141, R153) -/

/-- A learned vessel stands SIGHTED in its slot, and nothing but the vessel table changes (R141). -/
theorem learnVessel_some {how : Learned} (h : learnVessel identity d air s = some (t, k, how)) :
    t = { s with vt := t.vt } ∧ t.vessel k = some ⟨identity, d, air, s.lifetime, .sighted⟩ ∧
      ∀ j, j ≠ k → t.vessel j = s.vessel j := by
  have hself : (learnInto k identity d air s).vessel k = some ⟨identity, d, air, s.lifetime, .sighted⟩ := by rw [learnInto_vessel, if_pos rfl]
  have hother (j) (hj : j ≠ k) : (learnInto k identity d air s).vessel j = s.vessel j := by rw [learnInto_vessel, if_neg hj]
  unfold learnVessel at h
  split at h
  · cases h; exact ⟨rfl, hself, hother⟩
  · split at h
    · cases h; exact ⟨rfl, hself, hother⟩
    · cases h

theorem findVessel_none_iff : s.findVessel identity = none ↔ ∀ j v, s.vessel j = some v → v.identity ≠ identity := by
  unfold State.findVessel
  rw [List.find?_eq_none]
  refine ⟨fun h j v hv hid => ?_, fun h j _ => ?_⟩
  · have := h j (List.mem_finRange j)
    rw [hv] at this
    exact this (decide_eq_true hid)
  · cases hv : s.vessel j with
    | none => nofun
    | some v => exact fun hd => h j v hv (of_decide_eq_true hd)

/-- A learned vessel is the one that is found. -/
theorem findVessel_learned {how : Learned} (h : learnVessel identity d air s = some (t, k, how)) (hf : s.findVessel identity = none) :
    t.findVessel identity = some k := by
  obtain ⟨-, hself, hother⟩ := learnVessel_some h
  unfold State.findVessel
  refine find_first (by rw [hself]; exact decide_eq_true rfl) fun j hj => ?_
  rw [hother j (by rintro rfl; omega)]
  cases hv : s.vessel j with
  | none => rfl
  | some v => exact decide_eq_false (findVessel_none_iff.mp hf j v hv)

/-- How the vessel was found is told in the reply alone (R155). -/
theorem queueJoin_learned {how : Learned} {tail : List Byte}
    (h : queueJoin k d c air .known t = (u, .done ([0, 0, 0, 0, 0] ++ tail))) :
    queueJoin k d c air how t = (u, .done ([BitVec.ofNat 8 how.code] ++ be32 how.oldIdentity ++ tail)) := by
  have told {old : Word} {x : State} (h : completeJoin k d c air .known old x = (u, .done ([0, 0, 0, 0, 0] ++ tail))) :
      completeJoin k d c air how old x = (u, .done ([BitVec.ofNat 8 how.code] ++ be32 how.oldIdentity ++ tail)) := by
    rw [completeJoin_eq] at h ⊢
    obtain ⟨hu, hd⟩ := Prod.mk.inj h
    have htail : be32 old ++ joinTail k d c air x = tail :=
      List.append_cancel_left (as := [0, 0, 0, 0, 0]) (Verdict.done.inj hd)
    rw [hu, ← htail, b1, List.append_assoc _ (be32 old)]
  by_cases hw : ∃ v, t.vessel k = some v ∧ (v.state = .waiting ∨ v.state = .called)
  · obtain ⟨v, hv, hw⟩ := hw
    rw [queueJoin_waiting hv hw] at h; cases h
  have hfree : ∀ v, t.vessel k = some v → ¬(v.state = .waiting ∨ v.state = .called) := fun v hv hs => hw ⟨v, hv, hs⟩
  rw [queueJoin_free hfree] at h ⊢
  split at h
  · cases h
  · next hq =>
    rw [if_neg hq]
    split at h
    · next hp =>
      rw [if_pos hp]
      cases hd : displace d c t with
      | none => rw [hd] at h; cases h
      | some y => rw [hd] at h; exact told h
    · next hp => rw [if_neg hp]; exact told h

/-! ### The victim of R154 -/

/-- The queues of a side. -/
def sideQueues (x : Side) : List (Fin 8) := match x with | .seaward => [0, 1, 2, 3] | .landward => [4, 5, 6, 7]

theorem mem_sideQueues {x : Side} {r : Fin 8} : r ∈ sideQueues x ↔ ∃ c, r = queueOf x c := by
  cases x <;> decide +revert

theorem uncalledOn_eq (x : Side) (s : State) :
    s.uncalledOn x = ((sideQueues x).map fun r => ((s.queue r).filter fun e => !e.called).length).sum := by
  cases x <;> rfl

theorem uncalled_nil {q : Fin 8} (h : ∀ e ∈ s.queue q, e.called = true) : s.uncalled q = [] :=
  List.filter_eq_nil_iff.mpr fun e he => by rw [h e he]; nofun

/-- With every entry of the side called there is no victim. -/
theorem victim_none (h : ∀ r ∈ sideQueues (s.victimSide d), ∀ e ∈ s.queue r, e.called = true) : s.victim d = none := by
  unfold State.victim
  refine List.findSome?_eq_none_iff.mpr fun c _ => ?_
  rw [uncalled_nil (h _ (mem_sideQueues.mpr ⟨c, rfl⟩))]
  rfl

/-- The victim is the first uncalled entry of the highest class that has one (R154). -/
theorem victim_some {x : Fin 4} {e : QueueEntry} (he : (s.uncalled (queueOf (s.victimSide d) x)).head? = some e)
    (h : ∀ y : Fin 4, x < y → s.uncalled (queueOf (s.victimSide d) y) = []) : s.victim d = some (x, e) := by
  have htake : ((s.uncalled (queueOf (s.victimSide d) x)).head?.map fun e => (x, e)) = some (x, e) := by rw [he]; rfl
  unfold State.victim
  rw [List.findSome?_eq_some_iff]
  match x with
  | 3 => exact ⟨[], 3, _, rfl, htake, by simp⟩
  | 2 => exact ⟨[3], 2, _, rfl, htake, by simpa using h 3 (by decide)⟩
  | 1 => exact ⟨[3, 2], 1, _, rfl, htake, by simpa using ⟨h 3 (by decide), h 2 (by decide)⟩⟩
  | 0 => exact ⟨[3, 2, 1], 0, _, rfl, htake, by simpa using ⟨h 3 (by decide), h 2 (by decide), h 1 (by decide)⟩⟩

/-- An uncalled entry with only called ones before it is the first uncalled one. -/
theorem uncalled_head {q : Fin 8} {i : Nat} {e : QueueEntry} (hi : (s.queue q)[i]? = some e) (hc : e.called = false)
    (h : ∀ j y, j < i → (s.queue q)[j]? = some y → y.called = true) : (s.uncalled q).head? = some e := by
  obtain ⟨hlt, hget⟩ := List.getElem?_eq_some_iff.mp hi
  unfold State.uncalled
  rw [List.head?_filter, List.find?_eq_some_iff_getElem]
  refine ⟨by rw [hc]; rfl, i, hlt, hget, fun j hj => ?_⟩
  rw [h j _ hj (List.getElem?_eq_getElem (by omega))]; rfl

/-! ### A displacement (R154) -/

/-- The state with the victim back in the table and out of its queue. -/
def displacedBy (e : QueueEntry) (w : Vessel) (s : State) : State := { s with
  vt := { s.vt with slots := s.vt.slots.set e.slot (some { w with state := .sighted }) }
  psc := { s.psc with
    queues := s.psc.queues.map fun l => l.filter fun y => decide (y.slot ≠ e.slot)
    displaced := bump s.psc.displaced }
  cl := { s.cl with latched := s.cl.latched ||| 0x100 } }

theorem displace_none (h : s.victim d = none) : displace d c s = none := by unfold displace; rw [h]
theorem displace_lower {x : Fin 4} {e : QueueEntry} (h : s.victim d = some (x, e)) (hx : x ≤ c) : displace d c s = none := by
  unfold displace; rw [h]; exact if_neg (not_lt.mpr hx)
theorem displace_some {x : Fin 4} {e : QueueEntry} {w : Vessel} (h : s.victim d = some (x, e)) (hx : c < x) (hw : s.vessel e.slot = some w) :
    displace d c s = some (displacedBy e w s, w.identity) := by
  have hset : setVesselState e.slot .sighted (leaveQueue e.slot s) = setSlot e.slot (some { w with state := .sighted }) (leaveQueue e.slot s) := by
    have hl : (leaveQueue e.slot s).vessel e.slot = some w := hw
    unfold setVesselState State.onVessel
    rw [hl]
  have hid : s.identityAt e.slot = w.identity := by unfold State.identityAt; rw [hw]
  unfold displace
  rw [h]
  refine (if_pos hx).trans ?_
  rw [hset, hid]
  rfl

theorem displacedBy_vessel (e : QueueEntry) (w : Vessel) (j : Fin 32) : (displacedBy e w s).vessel j =
    if j = e.slot then some { w with state := .sighted } else s.vessel j := vessel_setSlot e.slot j _ s
theorem displacedBy_queue (e : QueueEntry) (w : Vessel) (q : Fin 8) : (displacedBy e w s).queue q =
    (s.queue q).filter fun y => decide (y.slot ≠ e.slot) := queue_leaveQueue e.slot s q

/-- The identities stay, so the same vessels are found. -/
theorem findVessel_displacedBy {e : QueueEntry} {w : Vessel} (hw : s.vessel e.slot = some w) :
    (displacedBy e w s).findVessel identity = s.findVessel identity := by
  unfold State.findVessel
  congr 1
  funext j
  rw [displacedBy_vessel]
  by_cases hj : j = e.slot
  · rw [if_pos hj, hj, hw]
  · rw [if_neg hj]

theorem queueJoin_displaces {v : Vessel} {old : Word} (hv : s.vessel k = some v) (hs : v.state = .sighted ∨ v.state = .passed)
    (hq : (s.queue (queueOf d c)).length < 8) (hp : 24 ≤ s.pool) (air : Option Nat) (hd : displace d c s = some (t, old)) :
    queueJoin k d c air .known s = completeJoin k d c air .known old t := by
  rw [queueJoin_free (fun x hx => by rw [hv] at hx; cases hx; rcases hs with e | e <;> simp [e]), if_neg (by omega), if_pos hp, hd]
theorem queueJoin_poolFull {v : Vessel} (hv : s.vessel k = some v) (hs : v.state = .sighted ∨ v.state = .passed)
    (hq : (s.queue (queueOf d c)).length < 8) (hp : 24 ≤ s.pool) (air : Option Nat) (hd : displace d c s = none) :
    queueJoin k d c air .known s = (s, .refused .poolFull 0) := by
  rw [queueJoin_free (fun x hx => by rw [hv] at hx; cases hx; rcases hs with e | e <;> simp [e]), if_neg (by omega), if_pos hp, hd]

/-- A join brings no entry of another slot into a queue. -/
theorem JoinsQueue.absent {m : Fin 32} (h : JoinsQueue k d c air s t) (hm : m ≠ k) (hs : ∀ q : Fin 8, ∀ y ∈ s.queue q, y.slot ≠ m) :
    ∀ q : Fin 8, ∀ y ∈ t.queue q, y.slot ≠ m := by
  intro q y hy
  rw [h.queue] at hy
  obtain ⟨z, hz, rfl⟩ := List.mem_map.mp hy
  rw [marked_slot]
  split at hz
  · rcases List.mem_append.mp hz with hz | hz
    · exact hs q z hz
    · rw [List.mem_singleton.mp hz]; exact hm.symm
  · exact hs q z hz

theorem queueClass_queueOf (d : Side) (c : Fin 4) : queueClass (queueOf d c) = c := by
  cases d <;> decide +revert

/-- The victim where its queue, its place and the called entries before and above it are given (R154). -/
theorem victim_of_first {r : Fin 8} {i : Nat} {e : QueueEntry} (hr : r ∈ sideQueues (s.victimSide d)) (hi : (s.queue r)[i]? = some e)
    (hc : e.called = false) (hbefore : ∀ j y, j < i → (s.queue r)[j]? = some y → y.called = true)
    (habove : ∀ z ∈ sideQueues (s.victimSide d), r.val < z.val → ∀ y ∈ s.queue z, y.called = true) :
    s.victim d = some (queueClass r, e) := by
  obtain ⟨x, rfl⟩ := mem_sideQueues.mp hr
  rw [queueClass_queueOf]
  refine victim_some (uncalled_head hi hc hbefore) fun y hy => uncalled_nil (habove _ (mem_sideQueues.mpr ⟨y, rfl⟩) ?_)
  unfold queueOf
  split
  · exact hy
  · exact Nat.add_lt_add_left hy 4

/-- Settles O44: JOIN's refusals, the place it gives, the extension it makes, and the vessel learned or displaced for it. -/
theorem joinOutcomes : Obligations.JoinOutcomes := by
  refine ⟨fun identity side cls air c k v s ha h0 h1 hc hf hv => ?_, fun identity side cls air c s ha h0 h1 hc => ?_, fun angle s => ?_⟩
  · intro d q seq
    refine ⟨fun hw => ?_, fun hs hq => ?_, fun hs hq hp => ?_⟩
    · rw [exec_join ha, joinOp_known h0 h1 hc hf, queueJoin_waiting hv hw]
    · rw [exec_join ha, joinOp_known h0 h1 hc hf, queueJoin_queueFull (d := sideOf side) hv hs hq]; rfl
    intro b extended
    have hx : s.canExtend c = true ↔ extended := canExtend_iff
    have hj : JoinsQueue k d c (airGiven air) s _ := joined_joins k d c (airGiven air) s
    have hexec : exec (.join identity side cls air) s = .next (answer 0x50 _) := (exec_join ha).trans <| congrArg Host.Outcome.next <|
      congrArg (answer 0x50) <| (joinOp_known h0 h1 hc hf).trans <| (queueJoin_room hv hs hq hp _ _).trans (completeJoin_eq ..)
    refine ⟨joined k d c (airGiven air) s, _, hexec, ?_, hj.joinSeq, fun r hr => hj.slots hr, fun j hj' => ?_, _, hj.joiner hv, rfl, rfl, rfl,
      air_given air v.air, fun hext => ?_, ?_⟩
    · rw [joinTail_eq]; rfl
    · rw [hj.vessel, if_neg hj']
    · have hxt := hx.mpr hext
      have hxs := joined_extends (k := k) (d := d) (air := airGiven air) hxt
      obtain ⟨pre, post, hl, hins, hafter, hhead, halone⟩ := newItem_place b.leading d b.items
      refine ⟨_, pre, post, rfl, hl, ?_, hafter, hhead, halone, fun habs => ⟨?_, fun r hr => hj.other hr (habs r)⟩, hxs.batchLatched,
        fun hcl => hxs.tableLatched ((clearanceValid_appendJoin ..).trans hcl), fun hidle => hxs.aspect ?_ ?_⟩
      · rw [joined_batch hxt hv, ← hins]; rfl
      · refine (hj.own (habs _)).trans ?_; rw [hxt]; rfl
      · rw [appendJoin_eq]; exact hidle
      · rw [psc_appendJoin]; exact hext.2.1
    · by_cases hext : extended
      · have hxt := hx.mpr hext
        rw [if_pos hext]
        refine ⟨if_pos hxt, ?_, ?_, ?_, joined_lmc hxt hv⟩ <;> rw [joined_batch hxt hv]
        · rfl
        · simp [State.batchWith, insertAt]; omega
        · exact le_max_left _ _
      · have hxt : s.canExtend c = false := Bool.eq_false_iff.mpr (mt hx.mp hext)
        rw [if_neg hext]
        have hq (r : Fin 8) := entries_appendJoin k d c (airGiven air) s r
        rw [joined_waits hxt]
        refine ⟨if_neg (by rw [hxt]; nofun), (hq q).trans (if_pos rfl), ?_, ?_, ?_, ?_, fun r hr => (hq r).trans (if_neg hr)⟩ <;> rw [appendJoin_eq]
  · intro d given
    refine ⟨fun hf hl => ?_, fun t k how hf hl => ⟨?_, ?_, ?_, fun u tail => queueJoin_learned⟩, fun k v hf hv hs hq hp => ?_⟩
    · rw [exec_join ha, joinOp_full h0 h1 hc hf hl]
    · rw [exec_join ha, joinOp_learns h0 h1 hc hf hl]; rfl
    · rw [exec_vesselReport ha, vesselReportOp_learns h0 h1 hf hl]; rfl
    · have ht := (learnVessel_some hl).1
      have hta : t.allows (operateRequest 0x50) := by rw [ht]; exact ha
      rw [exec_join hta, joinOp_known h0 h1 hc (findVessel_learned hl hf)]; rfl
    intro on free x
    have hon : on = sideQueues := rfl
    have hx : x = s.victimSide d := by
      show (if free d.other ≤ free d then d else d.other) = _
      unfold State.victimSide
      rw [show free = s.uncalledOn from funext fun y => (uncalledOn_eq y s).symm]
    rw [hon, hx]
    have hfull (hd : displace d c s = none) : exec (.join identity side cls air) s = .next (answer 0x50 (s, .refused .poolFull 0)) := by
      rw [exec_join ha, joinOp_known h0 h1 hc hf, queueJoin_poolFull (d := sideOf side) hv hs hq hp _ hd]
    refine ⟨fun hall => hfull (displace_none (victim_none hall)), fun r i e hr hi hcalled hbefore habove => ⟨fun hle => ?_, fun w hlt hk hw => ?_⟩⟩
    · exact hfull (displace_lower (victim_of_first hr hi hcalled hbefore habove) hle)
    intro freed
    have hd : displace d c s = some (freed, w.identity) := displace_some (victim_of_first hr hi hcalled hbefore habove) hlt hw
    have hvf : freed.vessel k = some v := by rw [← hv]; exact (displacedBy_vessel e w k).trans (if_neg (Ne.symm hk))
    have hff : freed.findVessel identity = some k := (findVessel_displacedBy hw).trans hf
    obtain ⟨hpool, hlen⟩ := displace_pool hd
    have hj := joined_joins k d c (airGiven air) freed
    refine ⟨joined k d c (airGiven air) freed, joinTail k d c (airGiven air) freed, ?_, fun h24 => ?_, hj.displaced, ?_, ?_, ?_⟩
    · rw [exec_join ha, joinOp_known h0 h1 hc hf, queueJoin_displaces (d := sideOf side) hv hs hq hp _ hd, completeJoin_eq]; rfl
    · rw [exec_join (s := freed) ha, joinOp_known h0 h1 hc hff,
        queueJoin_room (d := sideOf side) hvf hs ((hlen _).trans_lt hq) (h24 ▸ hpool), completeJoin_eq]; rfl
    · refine (mask_iff _ 8).mpr ⟨by decide, hj.latched 8 ?_⟩
      exact ((mask_iff _ 8).mp (or_vessel s.cl.latched)).2
    · rw [hj.vessel, if_neg hk]; exact (displacedBy_vessel e w e.slot).trans (if_pos rfl)
    · refine hj.absent hk fun q y hy => ?_
      rw [show freed = displacedBy e w s from rfl, displacedBy_queue] at hy
      exact of_decide_eq_true (List.mem_filter.mp hy).2
  · refine ⟨reportExtension_ignored angle, fun h => ⟨?_, ?_, fun l => ⟨fun ⟨h1, h2, h3⟩ => ?_, fun hn => ?_⟩⟩⟩
    · rw [reportExtension_taken angle h]; rfl
    · rw [reportExtension_taken angle h]; rfl
    · exact (extension_leaf angle h l).trans (extend_moves ⟨h1, (lost_false_iff l).mpr h2, h3⟩)
    · exact (extension_leaf angle h l).trans (extend_stays fun ⟨h1, h2, h3⟩ => hn ⟨h1, (lost_false_iff l).mp h2, h3⟩)

end Sys2Proof.Machine
end
